-- ==== Sys2Proof/Word.lean ====
section
/-! DEFINITION. The word types of the IZ1048 (R8, R9, R41): what the manual treats as bits. -/

namespace Sys2Proof

/-- A byte of memory. -/
abbrev Byte := BitVec 8

/-- A 64-bit register or general register. -/
abbrev Word := BitVec 64

/-- A vector register (R41). -/
abbrev Vec := BitVec 512

end Sys2Proof
end

