-- ==== Sys2Proof/Machine/Bits.lean ====
section
/-! DEFINITION. Bit fields, byte orders and sign conventions (R8, R9) shared by every block. -/

namespace Sys2Proof.Machine

/-- Bits hi..lo of a number. -/
def bits (x hi lo : Nat) : Nat := (x >>> lo) % 2 ^ (hi - lo + 1)

/-- One bit of a number. -/
def bit (x i : Nat) : Bool := (x >>> i) % 2 == 1

/-- 1 for true, 0 for false. -/
def b2n (b : Bool) : Nat := if b then 1 else 0

/-- The n low bytes of a number, least significant first (R9). -/
def leBytes : Nat → Nat → List Byte
  | 0, _ => []
  | n + 1, x => BitVec.ofNat 8 x :: leBytes n (x / 256)

/-- The number whose bytes, least significant first, are given (R9). -/
def leNat : List Byte → Nat
  | [] => 0
  | b :: t => b.toNat + 256 * leNat t

/-- The number whose bytes, most significant first, are given (network order, R9). -/
def beNat (l : List Byte) : Nat := leNat l.reverse

/-- The n low bytes of a number, most significant first. -/
def beBytes (n x : Nat) : List Byte := (leBytes n x).reverse

/-- A w-bit number read as two's complement. -/
def toInt (w x : Nat) : Int := if x % 2 ^ w < 2 ^ (w - 1) then (x % 2 ^ w : Nat) else (x % 2 ^ w : Nat) - (2 ^ w : Nat)

/-- An integer as a w-bit two's complement number. -/
def ofInt (w : Nat) (x : Int) : Nat := (x % (2 ^ w : Nat)).toNat

/-- An integer kept inside a range. -/
def clampI (lo hi x : Int) : Int := if x < lo then lo else if hi < x then hi else x

/-- A number kept inside a range. -/
def clampN (lo hi x : Nat) : Nat := if x < lo then lo else if hi < x then hi else x

/-- Bytes off .. off + len − 1 of a list. -/
def slice (l : List Byte) (off len : Nat) : List Byte := (l.drop off).take len

/-- Little-endian number at an offset of a byte list. -/
def leAt (l : List Byte) (off len : Nat) : Nat := leNat (slice l off len)

/-- Big-endian number at an offset of a byte list. -/
def beAt (l : List Byte) (off len : Nat) : Nat := beNat (slice l off len)

/-- Set or clear bit i of a number. -/
def setBit (x i : Nat) (v : Bool) : Nat := if v then x ||| (1 <<< i) else if bit x i then x - 2 ^ i else x

/-- Insert a number in a list used as a set. -/
def insertN (a : Nat) (l : List Nat) : List Nat := if l.contains a then l else l ++ [a]

/-- Apply a state change for 0, 1, …, n − 1 in turn. -/
def forN {α : Type} (n : Nat) (f : Nat → α → α) (s : α) : α := (List.range n).foldl (fun t i => f i t) s

/-- Apply a state change under a condition. -/
def whenB {α : Type} (c : Bool) (f : α → α) (s : α) : α := if c then f s else s

end Sys2Proof.Machine
end

