-- ==== Sys2Proof/Syntax.lean ====
section
/-! DEFINITION. The commands of the IZ1048: one constructor per row of the opcode table, with the row's operands.
A Melfy instruction is a command that names its hardware context and its instruction fields (R46); a register write,
a bus or network event, a pin event and an instant of the timeline are commands of their own. -/

namespace Sys2Proof

/-- A hardware context: 0–63 are 4 × core + context (the MSTR numbering of FLT_CAP_MSTR); 64 is the context of Rook's
pair of cores, which run it in lockstep (R72; assumption 70). -/
abbrev Hart := Fin 65

/-- Form R (R46): destination, sources, W, and fn[10:9], which must be zero. -/
structure RForm where
  d : Fin 32
  a : Fin 32
  b : Fin 32
  w : Bool := false
  z : BitVec 2 := 0
  deriving DecidableEq, Repr

/-- Form I: destination (or the stored register), base, immediate. -/
structure IForm where
  d : Fin 32
  a : Fin 32
  imm : BitVec 16
  deriving DecidableEq, Repr

/-- Form H: [20:18] must be zero. -/
structure HForm where
  d : Fin 32
  z : BitVec 3 := 0
  h : Fin 4
  imm : BitVec 16
  deriving DecidableEq, Repr

/-- Form S: [12:6] must be zero. -/
structure SForm where
  d : Fin 32
  a : Fin 32
  kind : Fin 4
  w : Bool := false
  z : BitVec 7 := 0
  sh : Fin 64
  deriving DecidableEq, Repr

/-- Form B. -/
structure BForm where
  a : Fin 32
  b : Fin 32
  off : BitVec 16
  deriving DecidableEq, Repr

/-- Form P: [22:16] must be zero. -/
structure PForm where
  p : Fin 8
  z : BitVec 7 := 0
  off : BitVec 16
  deriving DecidableEq, Repr

/-- Form J. -/
structure JForm where
  off : BitVec 26
  deriving DecidableEq, Repr

/-- Form R of the atomics: width, ACQ, REL, and fn[10:7], which must be zero. -/
structure AForm where
  d : Fin 32
  a : Fin 32
  b : Fin 32
  wide : Bool := true
  acq : Bool := false
  rel : Bool := false
  z : BitVec 4 := 0
  deriving DecidableEq, Repr

/-- Form R of the system functions. -/
structure XForm where
  d : Fin 32
  a : Fin 32
  b : Fin 32
  deriving DecidableEq, Repr

/-- Form Q: [7:0] must be zero. -/
structure QForm where
  pd : Fin 8
  pa : Fin 8
  pb : Fin 8
  g : Fin 32
  z : BitVec 8 := 0
  deriving DecidableEq, Repr

/-- Form V. -/
structure VForm where
  vd : Fin 16
  va : Fin 16
  vb : Fin 16
  pg : Fin 8
  esz : Fin 4
  ga : Fin 32
  deriving DecidableEq, Repr

/-- Form VM: [3:0] must be zero; `bx` is the field [16:12], gb or vx by mode. -/
structure VmForm where
  vt : Fin 16
  ga : Fin 32
  bx : Fin 32
  pg : Fin 8
  esz : Fin 4
  mode : Fin 4
  z : BitVec 4 := 0
  deriving DecidableEq, Repr

/-- The blocks (Table: Block mnemonics; SYS, PWR and RST share one window and one fault set). -/
inductive Blk where
  | sys | mel | mmu | qm | crc | ddr | nvm | src | cmp | cor | te (n : Fin 256) | ep (p : Fin 32) | ril | diag
  | rail (k : Fin 24) | thm | fan | rook | chn | ptp | sat | upd | dmx | can
  deriving DecidableEq, Repr

/-- The initiator that waits on a crossing: a context, a DMA channel, a queue operation by its command slot, or a
real-time initiator by its UNIT; `walk` where it waits in a table walk, `write` where a channel waits in a write. `te` is
a tile engine that hands a slot over to its port (R223). -/
inductive Waiter where
  | none
  | hart (h : Hart)
  | dma (n : Fin 64) (walk write : Bool)
  | slot (k : Fin 64) (walk : Bool)
  | rt (unit : Fin 10) (walk : Bool)
  | te (i : Fin 64)
  deriving DecidableEq, Repr

/-- A run of samples of an input channel that ends now (R310): the level it ends at, and the samples, newest first. -/
structure FilterRun where
  high : Bool
  samples : List Bool
  deriving DecidableEq, Repr

/-- A run of samples of a hand's NO and NC contacts that ends now (R314), newest first. -/
structure HandRun where
  hand : Fin 2
  samples : List (Bool × Bool)
  deriving DecidableEq, Repr

/-- A run of CART_DET_N that ends now (R318): its level, and its length in samples. -/
structure CartRun where
  present : Bool
  samples : BitVec 32
  deriving DecidableEq, Repr

/-- A crossing between islands whose handshake phase times out (R19): the block that asks, the block it asks into,
the address of the crossing, and the initiator that waits on it, if one does. -/
structure Crossing where
  blk : Blk
  into : Blk
  addr : BitVec 40
  waiter : Waiter
  deriving DecidableEq, Repr

/-- A write of QM_SLOTs_OP: slot, LEN, ASID, QUEUE and the reserved bits, which must be zero (R108). -/
structure QmOp where
  slot : Fin 64
  len : BitVec 16
  asid : BitVec 16
  queue : Fin 1024
  rsv : BitVec 18 := 0
  deriving DecidableEq, Repr

/-- A received ST 2110 packet of a context (R132, R136): RTP sequence number, timestamp and marker; for ST 2110-20 one
line segment with its samples in wire order; for ST 2110-22 the codestream bytes. -/
structure RxPkt where
  seq : BitVec 16
  ts : BitVec 32
  marker : Bool
  line : Nat := 0
  offset : Nat := 0
  samples : List Nat := []
  bytes : List Byte := []
  deriving DecidableEq, Repr

/-- A checkpoint slot of a cartridge store (R175, R185): sequence, GT and CLEAN of its header, and the doses by
subpixel index (those not listed are zero), with the CRC-32C of the 18 MiB. -/
structure CkptSlot where
  seq : Nat
  gt : Nat
  clean : Bool
  dose : List (Nat × Nat) := []
  crc : Nat := 0
  deriving DecidableEq, Repr

/-- What a cartridge brings (R171, R172, R175): its two identity copies, the bytes of its calibration area (those not
listed are zero), what its worn bytes read whatever is programmed, its checkpoint slots with a header, the slots that cannot
be programmed, and the answers its authenticator gives to READ_CERT and SIGN, one pair for each ATTACH in turn (none: it does
not answer, and neither does it once they are used up). -/
structure Cartridge where
  idA : List (BitVec 8) := []
  idB : List (BitVec 8) := []
  cal : List (Nat × BitVec 8) := []
  worn : List (Nat × BitVec 8) := []
  slots : List (Nat × CkptSlot) := []
  badSlots : List Nat := []
  answers : List (Option (List (BitVec 8)) × Option (List (BitVec 8))) := []
  deriving DecidableEq, Repr

/-- A received return packet (Table: RET header and status word): its position, whether its CRC is right, header and
status fields, and the 192 sense codes by column. -/
structure Ret where
  pos : Fin 8
  crcOk : Bool := true
  slot : Fin 64
  refresh : Fin 512
  row : Fin 64 := 0
  driven : Bool := true
  sensed : Bool := false
  codes : List (Fin 4) := []
  temp : BitVec 13 := 0
  crcErr : BitVec 8 := 0
  rowFault : Bool := false
  sinkFault : Bool := false
  supplyLow : Bool := false
  pllUnlock : Bool := false
  overTemp : Bool := false
  rillBad : Bool := false
  deriving DecidableEq, Repr

/-- How Rook's INIT ends (R338, R339): whether the self-test passed, and whether the copies of the parameter block and of
the lock record can be read. -/
structure RookInit where
  selfTest : Bool := true
  blockOk : Bool := true
  lockOk : Bool := true
  deriving DecidableEq, Repr

/-- What the processing of a PTP message by IEEE 1588 comes to (R350): a best master on a chain port, no master, this
domain as master, a measured meanPathDelay in ns, or nothing. -/
inductive PtpRes where
  | master (port : Fin 2)
  | noMaster
  | become
  | delay (ns : Int)
  | nothing
  deriving DecidableEq, Repr

/-- A DIGEST_WALK body (Table: Berranlink types). -/
structure Walk where
  ref : List Byte
  epoch : BitVec 32
  mismatch : BitVec 16
  addrs : List (BitVec 16)
  overflow : Bool
  deriving DecidableEq, Repr

/-- A CAN frame received (Table: CAN items). -/
structure CanFrame where
  id : BitVec 29
  ide : Bool
  rtr : Bool
  fdf : Bool
  brs : Bool
  esi : Bool
  dlc : BitVec 4
  data : List Byte
  deriving DecidableEq, Repr

/-- The commands, one per row of the opcode table, in its order. -/
inductive Instr where
  /-- REGISTER_WRITE (R15): A write to a register that has no row of its own takes effect under its access code, or is refused while the owner is active or locked. -/
  | registerWrite (mstr : BitVec 8) (addr : BitVec 40) (bits : Nat) (value : BitVec 64)
  /-- HS_TIMEOUT (R19): A handshake phase not completed within 4,096 cycles raises HS_TIMEOUT; a waiting initiator gets cause 0x11, and a real-time island substitutes. -/
  | hsTimeout (x : Crossing)
  /-- FRAME_START (R28): At FRAME_START(N) the stores swap, commits apply, falling rail setpoints apply, scheduled actions run and refresh 0 begins. -/
  | frameStart (n : BitVec 48)
  /-- LIST_TAKE (R146): At FRAME_START(N)+8 µs Confluence takes the list for N+1, selects buffers, decides culling and starts layer fetch. -/
  | listTake (n : BitVec 48)
  /-- LAYER_FETCH_BURST (R142): A real-time channel's 64-byte fetch burst is granted by DRAM arbitration at its Weir level and fills the layer FIFO. -/
  | layerFetchBurst (k : Fin 8) (va : BitVec 48) (len : Nat)
  /-- CORRECTION_LINE (R177): Correction computes each subpixel of a composed line and writes it to the back frame store. -/
  | correctionLine (y : Fin 1024)
  /-- CORRECTION_DEADLINE (R28): At FRAME_START(N+1)−400 µs undelivered lines are filled and the demand forecast closes. -/
  | correctionDeadline (n : BitVec 48)
  /-- WRITEBACK_PUBLISH (R163): Once the last writeback line is written, the buffer is published and identifier 247 raised. -/
  | writebackPublish (n : BitVec 48)
  /-- RAIL_RAISE (R282): At FRAME_START(N+1)−RAIL_LEAD rising setpoints and phase counts for N+1 are applied. -/
  | railRaise (n : BitVec 48)
  /-- COMMIT_WINDOW_CLOSE (R32): At the window close every member validates its staged state, and the commit is armed or refused whole. -/
  | commitWindowClose
  /-- GO (R36): A GO submits a commit with TARGET, GROUP and ASAP, or is refused as busy or with EMPTY_GROUP. -/
  | go (target : BitVec 48) (group : BitVec 10) (asap : Bool)
  /-- CANCEL (R36): CANCEL withdraws a pending commit that is not yet armed and keeps its staged values. -/
  | cancel
  /-- ADD (R48): Integer add of ga and gb into gd. -/
  | add (h : Hart) (f : RForm)
  /-- SUB (R48): Integer subtract of gb from ga into gd. -/
  | sub (h : Hart) (f : RForm)
  /-- AND (R48): Bitwise AND into gd. -/
  | and (h : Hart) (f : RForm)
  /-- OR (R48): Bitwise OR into gd. -/
  | or (h : Hart) (f : RForm)
  /-- XOR (R48): Bitwise XOR into gd. -/
  | xor (h : Hart) (f : RForm)
  /-- SLL (R48): Shift left logical by gb. -/
  | sll (h : Hart) (f : RForm)
  /-- SRL (R48): Shift right logical by gb. -/
  | srl (h : Hart) (f : RForm)
  /-- SRA (R48): Shift right arithmetic by gb. -/
  | sra (h : Hart) (f : RForm)
  /-- SLT (R48): Set gd to 1 if ga is less than gb, signed. -/
  | slt (h : Hart) (f : RForm)
  /-- SLTU (R48): Set gd to 1 if ga is less than gb, unsigned. -/
  | sltu (h : Hart) (f : RForm)
  /-- MUL (R48): Low 64 bits of the product. -/
  | mul (h : Hart) (f : RForm)
  /-- MULH (R48): High 64 bits of the signed product. -/
  | mulh (h : Hart) (f : RForm)
  /-- MULHU (R48): High 64 bits of the unsigned product. -/
  | mulhu (h : Hart) (f : RForm)
  /-- DIV (R48): Signed quotient rounded toward zero, without trapping. -/
  | div (h : Hart) (f : RForm)
  /-- DIVU (R48): Unsigned quotient, all ones on division by zero. -/
  | divu (h : Hart) (f : RForm)
  /-- REM (R48): Signed remainder with the sign of ga. -/
  | rem (h : Hart) (f : RForm)
  /-- REMU (R48): Unsigned remainder. -/
  | remu (h : Hart) (f : RForm)
  /-- MIN (R48): Signed minimum. -/
  | min (h : Hart) (f : RForm)
  /-- MAX (R48): Signed maximum. -/
  | max (h : Hart) (f : RForm)
  /-- MINU (R48): Unsigned minimum. -/
  | minu (h : Hart) (f : RForm)
  /-- MAXU (R48): Unsigned maximum. -/
  | maxu (h : Hart) (f : RForm)
  /-- CLZ (R48): Count leading zeros of ga. -/
  | clz (h : Hart) (f : RForm)
  /-- CTZ (R48): Count trailing zeros of ga. -/
  | ctz (h : Hart) (f : RForm)
  /-- POPC (R48): Count set bits of ga. -/
  | popc (h : Hart) (f : RForm)
  /-- ROR (R48): Rotate ga right by gb. -/
  | ror (h : Hart) (f : RForm)
  /-- ADDI (R46): Add sign-extended immediate. -/
  | addi (h : Hart) (f : IForm)
  /-- ANDI (R46): AND with zero-extended immediate. -/
  | andi (h : Hart) (f : IForm)
  /-- ORI (R46): OR with zero-extended immediate. -/
  | ori (h : Hart) (f : IForm)
  /-- XORI (R46): XOR with zero-extended immediate. -/
  | xori (h : Hart) (f : IForm)
  /-- SLTI (R46): Signed compare with immediate. -/
  | slti (h : Hart) (f : IForm)
  /-- SLTIU (R46): Unsigned compare with immediate. -/
  | sltiu (h : Hart) (f : IForm)
  /-- LUI (R46): Load the shifted immediate into gd. -/
  | lui (h : Hart) (f : IForm)
  /-- INSH (R46): Insert a 16-bit immediate into halfword h of gd. -/
  | insh (h : Hart) (f : HForm)
  /-- AUIPC (R46): Add the shifted immediate to pc into gd. -/
  | auipc (h : Hart) (f : IForm)
  /-- SHI (R46): Shift or rotate by an immediate amount per kind. -/
  | shi (h : Hart) (f : SForm)
  /-- LB (R49): Load a sign-extended byte. -/
  | lb (h : Hart) (f : IForm)
  /-- LBU (R49): Load a zero-extended byte. -/
  | lbu (h : Hart) (f : IForm)
  /-- LH (R49): Load a sign-extended halfword. -/
  | lh (h : Hart) (f : IForm)
  /-- LHU (R49): Load a zero-extended halfword. -/
  | lhu (h : Hart) (f : IForm)
  /-- LW (R49): Load a sign-extended word. -/
  | lw (h : Hart) (f : IForm)
  /-- LWU (R49): Load a zero-extended word. -/
  | lwu (h : Hart) (f : IForm)
  /-- LD (R49): Load a doubleword. -/
  | ld (h : Hart) (f : IForm)
  /-- SB (R49): Store a byte. -/
  | sb (h : Hart) (f : IForm)
  /-- SH (R49): Store a halfword. -/
  | sh (h : Hart) (f : IForm)
  /-- SW (R49): Store a word. -/
  | sw (h : Hart) (f : IForm)
  /-- SD (R49): Store a doubleword. -/
  | sd (h : Hart) (f : IForm)
  /-- BEQ (R46): Branch if equal. -/
  | beq (h : Hart) (f : BForm)
  /-- BNE (R46): Branch if not equal. -/
  | bne (h : Hart) (f : BForm)
  /-- BLT (R46): Branch if less, signed. -/
  | blt (h : Hart) (f : BForm)
  /-- BGE (R46): Branch if greater or equal, signed. -/
  | bge (h : Hart) (f : BForm)
  /-- BLTU (R46): Branch if less, unsigned. -/
  | bltu (h : Hart) (f : BForm)
  /-- BGEU (R46): Branch if greater or equal, unsigned. -/
  | bgeu (h : Hart) (f : BForm)
  /-- J (R46): Jump by off26 words. -/
  | j (h : Hart) (f : JForm)
  /-- JL (R46): Jump and write the link to g31. -/
  | jl (h : Hart) (f : JForm)
  /-- JLR (R46): Jump to a register target and write the link to gd. -/
  | jlr (h : Hart) (f : IForm)
  /-- BPA (R46): Branch if any bit of the predicate is set. -/
  | bpa (h : Hart) (f : PForm)
  /-- BPZ (R46): Branch if no bit of the predicate is set. -/
  | bpz (h : Hart) (f : PForm)
  /-- ATOMIC_SWAP (R51): Indivisibly swap memory with gb and return the old value. -/
  | atomicSwap (h : Hart) (f : AForm)
  /-- ATOMIC_ADD (R51): Indivisibly add gb to memory. -/
  | atomicAdd (h : Hart) (f : AForm)
  /-- ATOMIC_AND (R51): Indivisibly AND gb into memory. -/
  | atomicAnd (h : Hart) (f : AForm)
  /-- ATOMIC_OR (R51): Indivisibly OR gb into memory. -/
  | atomicOr (h : Hart) (f : AForm)
  /-- ATOMIC_XOR (R51): Indivisibly XOR gb into memory. -/
  | atomicXor (h : Hart) (f : AForm)
  /-- ATOMIC_MIN (R51): Indivisible signed minimum. -/
  | atomicMin (h : Hart) (f : AForm)
  /-- ATOMIC_MAX (R51): Indivisible signed maximum. -/
  | atomicMax (h : Hart) (f : AForm)
  /-- ATOMIC_MINU (R51): Indivisible unsigned minimum. -/
  | atomicMinu (h : Hart) (f : AForm)
  /-- ATOMIC_MAXU (R51): Indivisible unsigned maximum. -/
  | atomicMaxu (h : Hart) (f : AForm)
  /-- ATOMIC_CAS (R51): Indivisible compare-and-swap. -/
  | atomicCas (h : Hart) (f : AForm)
  /-- SYSCALL (R60): Raises cause 0x20. -/
  | syscall (h : Hart) (f : XForm)
  /-- BREAK (R60): Raises cause 0x21. -/
  | breakI (h : Hart) (f : XForm)
  /-- ERET (R62): Returns through the bank of the current level, restoring PL and IE. -/
  | eret (h : Hart) (f : XForm)
  /-- WFI (R69): The context enters WAITING. -/
  | wfi (h : Hart) (f : XForm)
  /-- YIELD (R46): Traps with cause 0x31 at task level, otherwise gives up issue slots for 64 cycles. -/
  | yield (h : Hart) (f : XForm)
  /-- CRD (R44): Read a control register. -/
  | crd (h : Hart) (f : XForm)
  /-- CWR (R44): Write a control register. -/
  | cwr (h : Hart) (f : XForm)
  /-- CSWP (R44): Swap a control register. -/
  | cswp (h : Hart) (f : XForm)
  /-- CSET (R44): Set bits of a control register. -/
  | cset (h : Hart) (f : XForm)
  /-- CCLR (R44): Clear bits of a control register. -/
  | cclr (h : Hart) (f : XForm)
  /-- CTXSTART (R66): Start a STOPPED or PARKED context, resuming or delivering its parked fault. -/
  | ctxstart (h : Hart) (f : XForm)
  /-- CTXSTOP (R53): Stop a context of the same core. -/
  | ctxstop (h : Hart) (f : XForm)
  /-- CTXCRD (R53): Read a control register of a stopped or parked context. -/
  | ctxcrd (h : Hart) (f : XForm)
  /-- CTXCWR (R53): Write a control register of a stopped or parked context, limiting PL. -/
  | ctxcwr (h : Hart) (f : XForm)
  /-- CTXGRD (R53): Read a general register of a stopped or parked context. -/
  | ctxgrd (h : Hart) (f : XForm)
  /-- CTXGWR (R53): Write a general register of a stopped or parked context. -/
  | ctxgwr (h : Hart) (f : XForm)
  /-- FENCE (R52): Order this context's memory accesses for other observers. -/
  | fence (h : Hart) (f : XForm)
  /-- FENCE_I (R52): Make earlier stores visible to this context's fetch. -/
  | fenceI (h : Hart) (f : XForm)
  /-- DCLEAN (R52): Write back the D-cache line holding g[ga]. -/
  | dclean (h : Hart) (f : XForm)
  /-- DINV (R46): Invalidate a D-cache line without write-back. -/
  | dinv (h : Hart) (f : XForm)
  /-- IINV (R52): Invalidate an I-cache line. -/
  | iinv (h : Hart) (f : XForm)
  /-- TLBINV (R83): Invalidate selected translations everywhere and retire once no initiator can use them. -/
  | tlbinv (h : Hart) (f : XForm)
  /-- PAND (R56): Predicate AND. -/
  | pand (h : Hart) (f : QForm)
  /-- POR (R56): Predicate OR. -/
  | por (h : Hart) (f : QForm)
  /-- PXOR (R56): Predicate XOR. -/
  | pxor (h : Hart) (f : QForm)
  /-- PANDN (R56): Predicate AND NOT. -/
  | pandn (h : Hart) (f : QForm)
  /-- PNOT (R56): Predicate NOT. -/
  | pnot (h : Hart) (f : QForm)
  /-- PFROMG (R56): Load a predicate from a general register. -/
  | pfromg (h : Hart) (f : QForm)
  /-- PTOG (R56): Copy a predicate to a general register. -/
  | ptog (h : Hart) (f : QForm)
  /-- PFIRST (R56): Keep only the lowest set bit of a predicate. -/
  | pfirst (h : Hart) (f : QForm)
  /-- PSETN (R56): Set the low min(g,64) predicate bits. -/
  | psetn (h : Hart) (f : QForm)
  /-- VADD (R56): Vector add of active elements. -/
  | vadd (h : Hart) (f : VForm)
  /-- VSUB (R56): Vector subtract. -/
  | vsub (h : Hart) (f : VForm)
  /-- VMUL (R56): Vector multiply, low half. -/
  | vmul (h : Hart) (f : VForm)
  /-- VMULHU (R56): Vector multiply, high half unsigned. -/
  | vmulhu (h : Hart) (f : VForm)
  /-- VAND (R56): Vector AND. -/
  | vand (h : Hart) (f : VForm)
  /-- VOR (R56): Vector OR. -/
  | vor (h : Hart) (f : VForm)
  /-- VXOR (R56): Vector XOR. -/
  | vxor (h : Hart) (f : VForm)
  /-- VSLL (R56): Vector shift left. -/
  | vsll (h : Hart) (f : VForm)
  /-- VSRL (R56): Vector shift right logical. -/
  | vsrl (h : Hart) (f : VForm)
  /-- VSRA (R56): Vector shift right arithmetic. -/
  | vsra (h : Hart) (f : VForm)
  /-- VMINU (R56): Vector unsigned minimum. -/
  | vminu (h : Hart) (f : VForm)
  /-- VMAXU (R56): Vector unsigned maximum. -/
  | vmaxu (h : Hart) (f : VForm)
  /-- VMIN (R56): Vector signed minimum. -/
  | vmin (h : Hart) (f : VForm)
  /-- VMAX (R56): Vector signed maximum. -/
  | vmax (h : Hart) (f : VForm)
  /-- VSEL (R56): Select elements by predicate over all elements. -/
  | vsel (h : Hart) (f : VForm)
  /-- VCMPEQ (R56): Compare equal into a predicate. -/
  | vcmpeq (h : Hart) (f : VForm)
  /-- VCMPLTU (R56): Compare less unsigned into a predicate. -/
  | vcmpltu (h : Hart) (f : VForm)
  /-- VCMPLT (R56): Compare less signed into a predicate. -/
  | vcmplt (h : Hart) (f : VForm)
  /-- VSPLAT (R56): Broadcast g[ga] to every active element. -/
  | vsplat (h : Hart) (f : VForm)
  /-- VEXTR (R56): Extract one element into g[ga]. -/
  | vextr (h : Hart) (f : VForm)
  /-- VREDADD (R56): Sum active elements into g[ga]. -/
  | vredadd (h : Hart) (f : VForm)
  /-- VREDMAXU (R56): Unsigned maximum of active elements into g[ga]. -/
  | vredmaxu (h : Hart) (f : VForm)
  /-- VMOV (R56): Copy elements. -/
  | vmov (h : Hart) (f : VForm)
  /-- VIDX (R56): Write element indices. -/
  | vidx (h : Hart) (f : VForm)
  /-- VADDS (R56): Add a scalar to each element. -/
  | vadds (h : Hart) (f : VForm)
  /-- VMULS (R56): Multiply each element by a scalar. -/
  | vmuls (h : Hart) (f : VForm)
  /-- PCNT (R56): Count set predicate bits into g[ga]. -/
  | pcnt (h : Hart) (f : VForm)
  /-- VLD (R57): Vector load in unit, strided or indexed mode, element by element, faulting partially under R63. -/
  | vld (h : Hart) (f : VmForm)
  /-- VST (R57): Vector store in unit, strided or indexed mode, element by element. -/
  | vst (h : Hart) (f : VmForm)
  /-- PADDS (R58): Saturating pixel add. -/
  | padds (h : Hart) (f : VForm)
  /-- PSUBS (R58): Saturating pixel subtract. -/
  | psubs (h : Hart) (f : VForm)
  /-- PMULQ (R58): Pixel multiply by Q0.16. -/
  | pmulq (h : Hart) (f : VForm)
  /-- PMULG (R58): Pixel multiply by Q2.14 with saturation. -/
  | pmulg (h : Hart) (f : VForm)
  /-- PLERP (R58): Pixel linear interpolation with weight from vd. -/
  | plerp (h : Hart) (f : VForm)
  /-- PLUT (R59): Pixel table lookup with interpolation, reading memory element by element. -/
  | plut (h : Hart) (f : VForm)
  /-- PMAT (R58): One matrix row with offset over three source registers. -/
  | pmat (h : Hart) (f : VForm)
  /-- PPACK (R58): Build ON8·I4 words. -/
  | ppack (h : Hart) (f : VForm)
  /-- PUNPKON (R58): Extract ON from ON8·I4 words. -/
  | punpkon (h : Hart) (f : VForm)
  /-- PUNPKI (R58): Extract the current step from ON8·I4 words. -/
  | punpki (h : Hart) (f : VForm)
  /-- INTERRUPT_TAKE (R68): A context with IE set takes the highest-priority pending identifier at an instruction boundary and marks it in service. -/
  | interruptTake (h : Hart)
  /-- NMI_DELIVERY (R70): An NMI reaction enters the monitor bank of the routed context regardless of IE. -/
  | nmiDelivery
  /-- WFI_WAKE (R69): A WAITING context leaves WAITING when an interrupt routed to it becomes pending. -/
  | wfiWake (h : Hart)
  /-- PREEMPTION_TIMER_EXPIRY (R67): When .tcnt reaches 0 it reloads and cause 0x30 becomes pending. -/
  | preemptionTimerExpiry (h : Hart)
  /-- PREEMPTION_TRAP (R67): A pending timer trap is taken at the next instruction boundary at task level. -/
  | preemptionTrap (h : Hart)
  /-- EOI (R68): A write to MEL_EOI releases an identifier from service and applies any deferred route. -/
  | eoi (id : BitVec 10)
  /-- SOFTWARE_INTERRUPT (R70): A write to MEL_SWI raises identifiers 33+c until EOI. -/
  | softwareInterrupt (raise : BitVec 16)
  /-- DMA_START (R94): START loads the head descriptor and the channel runs. -/
  | dmaStart (n : Fin 64)
  /-- DMA_RESUME (R94): RESUME re-translates and continues a parked or paused channel at POS. -/
  | dmaResume (n : Fin 64)
  /-- DMA_PAUSE (R94): PAUSE stops the channel at the next 64-byte destination boundary. -/
  | dmaPause (n : Fin 64)
  /-- DMA_ABORT (R94): ABORT ends the current descriptor, writing STATUS 0x41 if possible, and the channel becomes IDLE. -/
  | dmaAbort (n : Fin 64)
  /-- DMA_TRANSFER_BURST (R93): A general channel moves one 64-byte burst when arbitration grants it. -/
  | dmaTransferBurst (n : Fin 64)
  /-- DESCRIPTOR_COMPLETE (R93): After all data writes, the channel writes STATUS, raises its interrupt and loads NEXT unless LAST. -/
  | descriptorComplete (n : Fin 64)
  /-- PUSH (R107): PUSH judges quota and pool, copies an item from memory into cells and links it whole. -/
  | push (op : QmOp)
  /-- POP (R108): POP copies the head item to memory and removes it. -/
  | pop (op : QmOp)
  /-- PUSH_IDLE (R108): Links an idle one-cell item. -/
  | pushIdle (op : QmOp)
  /-- FLUSH (R110): Frees every linked item, drops the mark and frees a parked pop's item. -/
  | flush (op : QmOp)
  /-- MARK (R111): Sets the rewind mark at the head. -/
  | mark (op : QmOp)
  /-- REWIND (R111): Moves the head back to the mark, or returns MARK_LOST or NO_MARK. -/
  | rewind (op : QmOp)
  /-- UNMARK (R111): Drops the mark and frees retained cells. -/
  | unmark (op : QmOp)
  /-- QUEUE_RESET (R114): RESET makes the queue RESETTING and scans all cells to free those it owns. -/
  | queueReset (op : QmOp)
  /-- QUEUE_RESET_SCAN_END (R114): After 2,048 cycles the queue is empty and OK and its parked operations end ABORTED. -/
  | queueResetScanEnd (q : Fin 1024)
  /-- QUEUE_CMD_COMPLETE (R108): A queue command finishes its memory copy and posts its result to the slot. -/
  | queueCmdComplete (slot : Fin 64)
  /-- PARK_RESUME (R116): RESUME continues a parked queue operation at the first cell not completed. -/
  | parkResume (k : Fin 16)
  /-- PARK_ABORT (R116): ABORT ends a parked queue operation with ABORTED. -/
  | parkAbort (k : Fin 16)
  /-- CRC_ALG_WRITE (R117): A write of ALG selects the algorithm and loads Init. -/
  | crcAlgWrite (c : Fin 4) (st : Fin 4) (alg : BitVec 3)
  /-- CRC_DIN (R117): A DIN write feeds 1, 2 or 4 bytes to a CRC set. -/
  | crcDin (c : Fin 4) (st : Fin 4) (n : Fin 3) (word : BitVec 32)
  /-- TIMER_EXPIRY (R118): A cluster timer at its compare value pushes an expiry item and re-arms or disarms. -/
  | timerExpiry (t : Fin 16)
  /-- MBX_CLAIM (R119): A read of MBX_CLAIM claims a free mailbox for the reading core. -/
  | mbxClaim (c : Fin 16) (reader : Fin 16)
  /-- MBX_SEND (R119): SEND by the claimant marks the mailbox full and raises 33+c, or raises MBX_DENIED. -/
  | mbxSend (c : Fin 16) (sender : Fin 16)
  /-- MBX_ACK (R119): ACK by core c clears FULL and the claim. -/
  | mbxAck (c : Fin 16) (receiver : Fin 16)
  /-- REGISTER (R124): REGISTER copies and checks a surface descriptor and walks its pages, making the handle LIVE. -/
  | register (h : Fin 1024)
  /-- PUBLISH (R125): PUBLISH marks a buffer complete with its media time. -/
  | publish (h : Fin 1024) (b : Fin 4)
  /-- ACQUIRE (R126): ACQUIRE withdraws a buffer's publication for writing. -/
  | acquire (h : Fin 1024) (b : Fin 4)
  /-- RELEASE (R128): RELEASE makes a LIVE handle RELEASING. -/
  | release (h : Fin 1024)
  /-- HANDLE_CMD_COMPLETE (R123): A handle command ends DONE and raises identifier 246. -/
  | handleCmdComplete
  /-- HANDLE_FREED (R128): A RELEASING handle becomes FREE once no buffer is held and no armed commit names it. -/
  | handleFreed (h : Fin 1024)
  /-- RX_PACKET (R136): A received ST 2110 packet is written into its frame's buffer. -/
  | rxPacket (r : Fin 4) (p : RxPkt)
  /-- PREVIEW_FRAME_SENT (R138): The preview stream finishes sending a frame and raises identifier 217. -/
  | previewFrameSent (n : BitVec 48)
  /-- CART_PRESENCE (R170): CART_DET_N low for 100 ms makes the cartridge PRESENT and raises 262. -/
  | cartPresence (c : Cartridge)
  /-- CART_REMOVAL (R174): CART_DET_N high for 1 ms makes STATE ABSENT, darkens correction and turns rails OFF. -/
  | cartRemoval
  /-- ATTACH (R171): ATTACH reads identity, authenticates, loads calibration and dose and makes the cartridge READY. -/
  | attach
  /-- AUTH_TIMEOUT (R172): An authenticator transaction unanswered within 500 ms gives NO_RESPONSE. -/
  | authTimeout
  /-- PREPARE (R182): PREPARE computes the wear-gain plane for an image, optionally rebasing ETA_REF. -/
  | prepare (rebase : Bool)
  /-- EXPORT (R180): EXPORT copies identity and calibration area to a buffer and checks CRC. -/
  | exportCal
  /-- CAL_WRITE (R179): CAL_WRITE writes an image into the calibration area in four ordered steps. -/
  | calWrite (overwrite : Bool)
  /-- CHECKPOINT (R185): CHECKPOINT writes the dose plane into the next slot and its header last. -/
  | checkpoint
  /-- SHUTDOWN_CKPT (R185): SHUTDOWN_CKPT spills all accumulators, writes a CLEAN checkpoint and stops dose accounting. -/
  | shutdownCkpt
  /-- CART_CMD_COMPLETE (R189): A cartridge-manager command ends with its result and raises identifier 261. -/
  | cartCmdComplete
  /-- CKPT_DUE (R185): A periodic checkpoint falls due CKPT_MIN minutes after its reference instant. -/
  | ckptDue
  /-- CKPT_DEFERRED_START (R186): A checkpoint that fell due during another command starts when that command ends. -/
  | ckptDeferredStart
  /-- REFRESH_START (R202): At each refresh start engines latch ceilings, reset counters, count RC and run the scan program from ENTRY. -/
  | refreshStart (k : Fin 320)
  /-- LINE (R205): LINE waits for the next slot, picks its row, encodes ON8·I4 words and hands them to the port. -/
  | line (n : Fin 256)
  /-- LOOP (R205): Decrement a counter and branch if non-zero. -/
  | scanLoop (n : Fin 256)
  /-- SETC (R205): Set a scan counter. -/
  | setc (n : Fin 256)
  /-- JMP (R205): Jump within the scan program. -/
  | jmp (n : Fin 256)
  /-- BRREF (R205): Branch on the refresh count. -/
  | brref (n : Fin 256)
  /-- END (R205): End the refresh; remaining slots are dark. -/
  | scanEnd (n : Fin 256)
  /-- TE_BROADCAST_WRITE (R220): A write to TE0 offset 0x8000+a is performed in every engine. -/
  | teBroadcastWrite (mstr : BitVec 8) (a : BitVec 16) (bits : Nat) (value : BitVec 64)
  /-- SLOT_START (R230): At each slot start the port sends SLOT, PARAM in slot 0, and one ROW or DARK packet per position. -/
  | slotStart (p : Fin 32) (idx : Fin 64)
  /-- RET_RECEIVED (R237): A received RET delivers sense words to DIAG and status to THM, or counts RET_CRC. -/
  | retReceived (p : Fin 32) (r : Ret)
  /-- BRINGUP (R238): BRINGUP runs ASSIGN, TRAIN and CAP at code 0, then steps up to the target rate. -/
  | bringup (p : Fin 32)
  /-- RETRAIN (R238): RETRAIN runs ASSIGN and TRAIN at the target, or raises NO_CAP. -/
  | retrain (p : Fin 32)
  /-- DOWN (R243): DOWN takes a port DOWN from any state. -/
  | down (p : Fin 32)
  /-- LOOP_NES (R244): Starts a near-end serial loopback of a forward lane. -/
  | loopNes (p : Fin 32) (lane : Fin 2)
  /-- LOOP_NEP (R244): Starts a near-end PCS loopback of a forward lane. -/
  | loopNep (p : Fin 32) (lane : Fin 2)
  /-- LOOP_FAR (R244): Starts a far-end loopback at a ring position by sending LOOP. -/
  | loopFar (p : Fin 32) (pos : Fin 8)
  /-- LOOP_END (R244): Ends a loopback, returning the port to DOWN or RUN. -/
  | loopEnd (p : Fin 32)
  /-- TRAIN_START (R239): TRAIN begins 100 µs after RIL reports the latch. -/
  | trainStart (p : Fin 32)
  /-- TRAIN_SUCCESS (R240): 16 consecutive READY return blocks end TRAIN and the port moves to CAP, the next step or RUN. -/
  | trainSuccess (p : Fin 32)
  /-- TRAIN_TIMEOUT (R240): A TRAIN unsuccessful after 2,000 µs is repeated, falls back or enters FAULT. -/
  | trainTimeout (p : Fin 32)
  /-- CAP_ANSWER (R241): A CAP answer is stored; after all eight, CAP_RATE and CAP_VALID are set. -/
  | capAnswer (p : Fin 32) (pos : Fin 8) (cap : BitVec 64)
  /-- CAP_TIMEOUT (R241): A position silent for 100 µs is asked again, or the port faults with CAP_MISSING. -/
  | capTimeout (p : Fin 32)
  /-- ERR_WINDOW_CLOSE (R242): At each 1 ms window a sum above ERR_MAX makes the port fall back and raise ERR_LIMIT. -/
  | errWindowClose (p : Fin 32)
  /-- RETURN_LOCK_LOSS (R242): Return block lock lost for 64 block times makes the port fall back. -/
  | returnLockLoss (p : Fin 32)
  /-- RIL_SEND (R248): RIL_SEND starts one Rill frame on each named port. -/
  | rilSend (ports : BitVec 32)
  /-- RILL_LATCH_REPORT (R248): 1,596 µs after a frame starts, RIL sets DONE and raises 581. -/
  | rillLatchReport (p : Fin 32)
  /-- DIAG_SWEEP (R258): Every 256 frames DIAG sweeps the map, stamping verified subpixels and ageing GOOD ones. -/
  | diagSweep
  /-- SWEEP_COMPLETE (R258): A sweep ends and identifier 280 is raised. -/
  | sweepComplete
  /-- INIT (R271): INIT sets every subpixel UNVERIFIED, empties tables and writes the map. -/
  | diagInit
  /-- MASK (R255): MASK sets FW_MASK and moves GOOD or UNVERIFIED to MASKED_OFF. -/
  | diagMask (tile : Fin 256) (prim : Fin 4) (yl xl : Fin 64)
  /-- UNMASK (R255): UNMASK clears FW_MASK and moves MASKED_OFF to UNVERIFIED. -/
  | diagUnmask (tile : Fin 256) (prim : Fin 4) (yl xl : Fin 64)
  /-- CLEAR (R255): CLEAR returns an OPEN, SHORT or STUCK_ON subpixel to UNVERIFIED or MASKED_OFF. -/
  | diagClear (tile : Fin 256) (prim : Fin 4) (yl xl : Fin 64)
  /-- DIAG_CMD_COMPLETE (R271): A DIAG command ends with its result and raises 277. -/
  | diagCmdComplete
  /-- RAIL_RESTART (R274): RESTART clears NEED_RESTART and puts a faulted rail OFF. -/
  | railRestart (k : Fin 24)
  /-- RAIL_START (R274): When the START condition holds, the rail ramps to V_IDLE. -/
  | railStart (k : Fin 24)
  /-- RAIL_HOLD_ENTRY (R274): VSENSE within UV_MARGIN of V_IDLE takes the rail to HOLD. -/
  | railHoldEntry (k : Fin 24) (vsense : BitVec 16)
  /-- START_FAIL (R286): START not reaching HOLD within 2 ms faults the rail. -/
  | startFail (k : Fin 24)
  /-- RAIL_TRACK_ENTRY (R275): SW_CLOSED for 2 µs with the group healthy takes the rail to TRACK. -/
  | railTrackEntry (k : Fin 24)
  /-- RAIL_TRACK_EXIT (R276): SW_CLOSED lost for 2 µs returns the rail to HOLD. -/
  | railTrackExit (k : Fin 24)
  /-- RAIL_SLEW_OFF (R278): A rail slewing to V_MIN after EN 0 or power step 2 reaches it and goes OFF. -/
  | railSlewOff (k : Fin 24)
  /-- OV (R286): Over-voltage for 2 samples drives phases low and faults the rail. -/
  | ov (k : Fin 24) (vsense : BitVec 16)
  /-- UV (R286): Under-voltage for 16 samples faults the rail. -/
  | uv (k : Fin 24) (vsense : BitVec 16)
  /-- OC (R286): Every active phase at IPH_LIM for 64 cycles faults the rail. -/
  | oc (k : Fin 24)
  /-- SENSE_FAIL (R286): VSEN outside its range faults the rail. -/
  | senseFail (k : Fin 24) (vsense : BitVec 16)
  /-- PHASE_FAIL (R279): A phase low for 64 cycles is failed and excluded. -/
  | phaseFail (k : Fin 24) (ix : Fin 4)
  /-- PHASE_CURRENT_LIMIT (R279): A phase reaching IPH_LIM ends its on-time for that cycle. -/
  | phaseCurrentLimit (k : Fin 24) (ix : Fin 4)
  /-- THM_SAMPLE (R289): At each sample instant THM samples sensors and updates conditions, derating, throttle and ceilings. -/
  | thmSample (es : List (BitVec 32)) (die : List (BitVec 16))
  /-- THROTTLE_HOLD_END (R298): The throttle freeze ends THROTTLE_HOLD seconds after the governor was lost. -/
  | throttleHoldEnd
  /-- FAN_TACH_WINDOW (R303): Each 1 s tach window updates RPM and detects or clears a stall. -/
  | fanTachWindow (c : Fin 8) (pulses : BitVec 16)
  /-- FAN_SPINUP_END (R301): A channel started from 0 leaves its 1 s full-duty spin-up. -/
  | fanSpinupEnd (c : Fin 8)
  /-- FAN_MODE_WRITE (R303): A write of MODE changes the channel's mode and clears a stall when set to OFF or HEATER. -/
  | fanModeWrite (c : Fin 8) (mode : Fin 4)
  /-- ROOK_POWER_ON (R304): Rook's supply monitor resets Rook and starts INIT. -/
  | rookPowerOn
  /-- ROOK_INIT_COMPLETE (R308): Self-test and parameter load pass and Rook enters RUN, or HALT on failure. -/
  | rookInitComplete (t : RookInit)
  /-- INPUT_FILTER_CHANGE (R310): A channel's filtered state changes after FILT samples, starting or ending demand. -/
  | inputFilterChange (ch : Fin 6) (run : FilterRun)
  /-- TPO_PULSE (R311): A test pulse of TPO_A or TPO_B checks the contact channels fed from it. -/
  | tpoPulse (src : Fin 2) (high : BitVec 10)
  /-- DISCREPANCY (R312): Channels differing for DISC record an INPUT_FAULT. -/
  | discrepancy (ix : Fin 4)
  /-- HAND_ACTUATED (R314): A hand actuated for FILT may satisfy two-hand synchronism. -/
  | handActuated (h : HandRun)
  /-- HAND_RELEASED (R314): A hand released for 1 ms ends satisfaction. -/
  | handReleased (h : HandRun)
  /-- PAIR_FAULT (R314): NO equal to NC for 25 ms is an INPUT_FAULT. -/
  | pairFault (h : HandRun)
  /-- SACK_RELEASE (R309): SACK_N rising acts as panel restart, service acknowledge or SACK_STUCK by hold time. -/
  | sackRelease (heldUs : BitVec 32)
  /-- SACK_REARM (R309): SACK_N high for 1 s after being stuck is heard again. -/
  | sackRearm
  /-- GROUP_CLOSE (R315): When the permit begins Rook turns SWg_LS on. -/
  | groupClose (g : Fin 8)
  /-- GROUP_CLOSE_HS_ON (R315): 10 µs after SWg_LS, Rook turns SWg_HS on. -/
  | groupCloseHsOn (g : Fin 8)
  /-- GROUP_SAFETY_OPEN (R315): A safety cause turns both gates off together within 100 µs. -/
  | groupSafetyOpen (g : Fin 8)
  /-- GROUP_ORDERLY_OPEN (R315): FW or RAIL alone turns SWg_HS off first. -/
  | groupOrderlyOpen (g : Fin 8)
  /-- GROUP_ORDERLY_LS_OFF (R315): 10 µs after SWg_HS off, SWg_LS turns off. -/
  | groupOrderlyLsOff (g : Fin 8)
  /-- SWITCH_FAULT (R316): A readback disagreeing with its gate on 2 samples is a SWITCH_FAULT single fault. -/
  | switchFault (g : Fin 8) (hs : Bool)
  /-- RAIL_OK_CHANGE (R317): RAIL_OK falling sets the RAIL cause and opens the group in order. -/
  | railOkChange (g : Fin 8)
  /-- RAIL_CAUSE_CLEAR (R307): RAIL_OK high for 1 ms clears the RAIL cause. -/
  | railCauseClear (g : Fin 8)
  /-- ROOK_CART_DETECT (R318): CART_DET_N high for 1 ms sets CART; low for 100 ms ends its condition. -/
  | rookCartDetect (run : CartRun)
  /-- SWITCH_TEST (R320): In the first test window after a switch falls due, Rook pulses its gate off. -/
  | switchTest (g : Fin 8)
  /-- SWITCH_TEST_END (R320): TP_NS later the gate turns on and the readback decides pass or fail. -/
  | switchTestEnd (g : Fin 8) (rb : Bool)
  /-- TEST_FORCED (R322): An overdue switch forces a zero-ceiling refresh in which Rook tests it. -/
  | testForced (g : Fin 8)
  /-- TAP_PACKET (R323): Rook measures each tapped ROW packet against zone site limits and sums. -/
  | tapPacket (p : Fin 32) (pos : Fin 8)
  /-- ZONE_BIN_CLOSE (R325): At each 1 ms bin close Rook checks window sums and the tap check. -/
  | zoneBinClose
  /-- TAP_LOST (R326): A missed tap packet counts as full scale; 64 consecutive misses set TAP. -/
  | tapLost (p : Fin 32) (pos : Fin 8)
  /-- STUCK_LINE_ASSERT (R328): DIAG's stuck-on line sets STUCK in the group, or every group with ZONE_COUPLED. -/
  | stuckLineAssert (k : Fin 8)
  /-- STUCK_LINE_DEASSERT (R328): DIAG withdrawing the line lets STUCK clear at a later restart. -/
  | stuckLineDeassert (k : Fin 8)
  /-- STUCK_OVF_LINE (R329): The overflow line sets STUCK in every group when a KEEP_OUT zone is enabled. -/
  | stuckOvfLine
  /-- ENDGAME_EXPIRY (R333): The Endgame countdown expires and the covered groups open into LOCKOUT with EXPIRED. -/
  | endgameExpiry
  /-- HALT (R336): A lockstep, clock, supply, SRAM or self-test failure turns every gate off in HALT. -/
  | halt
  /-- REQ (R307): REQ sets the mailbox request mask that clears or sets the FW cause. -/
  | req (groups : BitVec 8) (seq : BitVec 16)
  /-- ROOK_RESTART (R308): A mailbox RESTART clears ended MANUAL_ANY causes in named groups, or NOT_PERMITTED. -/
  | rookRestart (groups : BitVec 8) (seq : BitVec 16)
  /-- PARAM_LOAD (R338): PARAM_LOAD adopts a valid parameter block while every gate is off. -/
  | paramLoad (seq : BitVec 16)
  /-- PARAM_READ (R340): PARAM_READ writes the block in force and its digest to the buffer. -/
  | paramRead (seq : BitVec 16)
  /-- LOCK (R339): LOCK records the integrator key hash and PARAM_DIGEST. -/
  | lock (seq : BitVec 16)
  /-- NONCE (R339): NONCE writes a single-use nonce for unlocking. -/
  | nonce (seq : BitVec 16)
  /-- UNLOCK (R339): UNLOCK verifies a signature over the nonce and digest and unlocks, or BAD_SIG. -/
  | unlock (seq : BitVec 16)
  /-- LOG_READ (R340): LOG_READ writes Rook's 256 most recent events. -/
  | logRead (seq : BitVec 16)
  /-- ROOK_CMD_COMPLETE (R340): A mailbox command ends with its result and raises 621. -/
  | rookCmdComplete
  /-- MODULE_INSERT (R344): An inserted module's identity sets the port rate, or MOD_UNREAD. -/
  | moduleInsert (c : Fin 2) (rateMBd : Option (BitVec 16))
  /-- CHAIN_FRAME_RX (R345): A frame received on a chain port is forwarded and/or delivered to HOST. -/
  | chainFrameRx (c : Fin 2) (frame : List Byte) (fcsOk cut room : Bool)
  /-- HOST_TX (R373): CHN takes a transmit item from TX when its egress queues have room and sends it. -/
  | hostTx
  /-- PTP_SYNC_SAMPLE (R352): Each Sync yields an offset sample that steers the domain clock or is held. -/
  | ptpSyncSample (d : Fin 2) (t1 corr : Int)
  /-- PTP_MESSAGE (R350): Another PTP message is processed by the domain's protocol and selection. -/
  | ptpMessage (d : Fin 2) (res : PtpRes)
  /-- HOLDOVER_ENTRY (R353): Announce timeout or four missed Syncs puts a LOCKED domain in HOLDOVER. -/
  | holdoverEntry (d : Fin 2)
  /-- CASTLE (R357): CASTLE makes the other domain active without a step, or CASTLE_REFUSED. -/
  | castle
  /-- CASTLE_STEP (R357): CASTLE_STEP castles to a LOCKED other domain and steps GT. -/
  | castleStep
  /-- TIME_STEP (R358): A decided step is applied at FRAME_START(N)+100 µs and FRAME_EPOCH re-based. -/
  | timeStep
  /-- TL_EN_WRITE (R444): Setting TL_EN starts frames from the first boundary at least 100 µs later. -/
  | tlEnWrite (en : Bool)
  /-- FRAME_EPOCH_WRITE (R444): A write of FRAME_EPOCH moves every reckoned instant, reaching past ones at once. -/
  | frameEpochWrite (epoch : BitVec 64)
  /-- AON_RATIO_CALIBRATE (R412): Every 32,768 AON ticks while LOCKED, PTP calibrates PWR_AON_RATIO. -/
  | aonRatioCalibrate
  /-- ARM (R362): ARM judges an entry's lateness and makes it ARMED or PAST. -/
  | arm (e : Fin 64)
  /-- DISARM (R362): DISARM returns an entry to EMPTY, or is refused with ENTRY_LOCKED. -/
  | disarm (e : Fin 64)
  /-- SAT_COMMIT_SUBMIT (R364): An ARMED COMMIT entry is submitted at FRAME_START(F−2)+16 µs or when the slot frees. -/
  | satCommitSubmit (e : Fin 64)
  /-- ASSIGN (R369): A received ASSIGN sets the chain address and passes NEXT+1 on. -/
  | chainAssign (c : Fin 2) (next : BitVec 16)
  /-- STATUS_SEND (R372): Every STATUS_MS CHN sends a STATUS frame. -/
  | statusSend
  /-- DIGEST_WALK (R371): A DIGEST_WALK is compared with SHOW_DIGEST, extended and passed on or returned. -/
  | digestWalk (c : Fin 2) (down : Bool) (w : Walk)
  /-- DIGEST_RESULT (R371): A DIGEST_RESULT from downstream is sent upstream unchanged. -/
  | digestResult (c : Fin 2) (frame : List Byte)
  /-- WAKE (R372): A WAKE frame or magic packet covering this fixture is a wake request. -/
  | wake (c : Fin 2) (range : Option (BitVec 16 × BitVec 16))
  /-- DMX_PACKET (R375): A complete NULL start-code packet replaces DMX_SLOTS; alternate codes are pushed. -/
  | dmxPacket (code : BitVec 8) (slots : List Byte)
  /-- DMX_LOSS (R375): No NULL packet within LOSS_MS raises DMX_LOSS. -/
  | dmxLoss
  /-- RDM_REQUEST (R376): An RDM request is answered for discovery or pushed to the queue with 749. -/
  | rdmRequest (packet : List Byte)
  /-- RDM_SEND (R377): SEND arms the response held in DMX_RESP. -/
  | rdmSend (len : BitVec 9)
  /-- RDM_RESPONSE_SENT (R377): The response's last byte is sent and RESP_BUSY clears. -/
  | rdmResponseSent
  /-- RDM_LATE (R376): No response within 1.8 ms counts RDM_LATE. -/
  | rdmLate
  /-- CAN_FRAME_RX (R379): A received frame matching a filter is pushed to RXQ, or discarded. -/
  | canFrameRx (n : Fin 2) (f : CanFrame)
  /-- CAN_TX_ITEM (R379): The port takes the next transmit item and sends it until it succeeds, or discards it. -/
  | canTxItem (n : Fin 2)
  /-- CAN_TX_DONE (R379): A frame is sent successfully and TXD counts. -/
  | canTxDone (n : Fin 2)
  /-- BUS_OFF (R379): TEC above 255 puts the port in bus-off. -/
  | busOff (n : Fin 2)
  /-- CAN_RESTART (R379): RESTART in bus-off begins recovery. -/
  | canRestart (n : Fin 2)
  /-- BUS_OFF_RECOVERY_END (R379): After 128 × 11 recessive bits the port is error-active with counters zero. -/
  | busOffRecoveryEnd (n : Fin 2)
  /-- OFFER (R395): A received OFFER header is checked and arbitrated, and ANSWER sent. -/
  | offer (c : Fin 2) (session : BitVec 32) (header : List Byte)
  /-- ANSWER (R398): An ANSWER from downstream starts or refuses forwarding. -/
  | answer (c : Fin 2) (session : BitVec 32) (code : BitVec 8) (next : BitVec 16)
  /-- DATA (R387): A DATA slice is reassembled; a complete block is checked, stored and forwarded. -/
  | data (c : Fin 2) (session : BitVec 32) (index : BitVec 16) (off : BitVec 32) (bytes : List Byte)
  /-- BLOCK_RESULT (R398): A BLOCK_RESULT frees a forwarding window slot. -/
  | blockResult (c : Fin 2) (session : BitVec 32) (index : BitVec 16) (code : BitVec 8)
  /-- DONE (R398): DONE ends the source's block stream. -/
  | done (c : Fin 2) (session : BitVec 32)
  /-- FINAL (R398): A FINAL from downstream ends a forward session. -/
  | final (c : Fin 2) (session : BitVec 32) (code : BitVec 8)
  /-- ABORT_FRAME (R399): An ABORT ends the session and is passed downstream. -/
  | abortFrame (c : Fin 2) (session : BitVec 32) (code : BitVec 8)
  /-- IMAGE_COMPLETE (R390): With every block accepted, the digest makes the bank STAGED or EMPTY. -/
  | imageComplete
  /-- SESSION_TIMEOUT (R398): A session silent for 2 s is aborted with TIMEOUT. -/
  | sessionTimeout (fwd : Option (Fin 2))
  /-- LOCAL_OFFER (R400): Firmware offers a header for a LOCAL session. -/
  | localOffer
  /-- LOCAL_BLOCK (R400): Firmware feeds one block to a LOCAL session. -/
  | localBlock
  /-- LOCAL_DONE (R400): Firmware ends a LOCAL session's blocks. -/
  | localDone
  /-- ABANDON (R402): ABANDON aborts the session and forward session with SUPERSEDED. -/
  | abandon
  /-- CONFIRM (R394): CONFIRM makes a TRIAL bank GOOD and raises EPOCH_FLOOR. -/
  | confirm
  /-- ROLLBACK (R394): ROLLBACK marks the running bank FAILED, switches boot bank and warm-resets. -/
  | rollback
  /-- ACTIVATE (R392): ACTIVATE makes a STAGED bank TRIAL and the boot bank and requests a warm reset. -/
  | activate (bank : Fin 2)
  /-- ERASE (R402): ERASE empties a bank that is not running. -/
  | erase (bank : Fin 2)
  /-- HASH (R402): HASH computes SHA-384 of a memory buffer. -/
  | hash
  /-- UPD_CMD_COMPLETE (R402): An UPD command ends with its result and raises 741. -/
  | updCmdComplete
  /-- TRIAL_EXPIRED (R394): No CONFIRM within TRIAL_S raises TRIAL_EXPIRED and rolls back. -/
  | trialExpired
  /-- UPD_CTRL_WRITE (R401): A change of TRIAL_BOOTS or TRIAL_S is written to both MRAM record copies. -/
  | updCtrlWrite (v : BitVec 32)
  /-- ROM_BOOT (R396): The boot ROM selects, checks and loads the boot bank, or rolls back or enters recovery. -/
  | romBoot (svcHeld : Bool)
  /-- POWER_REQUEST_S1 (R406): A request for S1 runs power sequence steps 1–6. -/
  | powerRequestS1
  /-- POWER_REQUEST_S2 (R406): A request for S2 runs steps 1–11 and switches domains off. -/
  | powerRequestS2
  /-- POWER_REQUEST_A (R409): A request for A from S1 is a wake event. -/
  | powerRequestA
  /-- POWER_REQUEST_OFF (R415): A request for OFF runs the orderly shutdown. -/
  | powerRequestOff
  /-- POWER_STEP_AGREE (R406): A step agrees and stops, and its delay begins. -/
  | powerStepAgree
  /-- POWER_STEP_DELAY_END (R406): After a step's delay PWR asks the next step. -/
  | powerStepDelayEnd
  /-- POWER_STEP_TIMEOUT (R406): A step not agreeing in 1 ms refuses and the sequence unwinds. -/
  | powerStepTimeout
  /-- DOMAIN_SWITCH (R406): Each 120 µs the next domain is clamped and switched off or on. -/
  | domainSwitch
  /-- WAKE_EVENT (R411): An enabled wake source starts leaving S1 or S2. -/
  | wakeEvent (src : Fin 8)
  /-- PFAIL (R415): PFAIL_N low for 10 µs starts the unrefusable OFF sequence. -/
  | pfail
  /-- SUPPLY_EN_RISE (R431): 2 ms after standby supplies are in range, SUPPLY_EN rises. -/
  | supplyEnRise
  /-- SUPPLY_RETRY (R431): Supplies not in range within 50 ms drop SUPPLY_EN for 500 ms and retry. -/
  | supplyRetry
  /-- POWER_ON_RESET_END (R431): Supplies in range for 2 ms and PLLs locked end the power-on reset. -/
  | powerOnResetEnd
  /-- SYSTEM_RESET (R418): RESET_N low for 1 µs holds the device in system reset. -/
  | systemReset
  /-- RST_PIN_STUCK (R416): RESET_N low for 10 s leaves reset and is ignored until re-armed. -/
  | rstPinStuck
  /-- RESET_PIN_REARM (R416): A stuck reset pin high for 100 ms is heard again. -/
  | resetPinRearm
  /-- WARM_RESET (R418): An SVC_N press of 50 ms–2 s gives a warm reset at release. -/
  | warmReset
  /-- SVC_PIN_STUCK (R416): SVC_N low for 30 s is ignored until re-armed. -/
  | svcPinStuck
  /-- SVC_PIN_REARM (R416): A stuck SVC_N high for 100 ms is heard again. -/
  | svcPinRearm
  /-- RST_CMD_SYSTEM (R418): RST_CMD SYSTEM with the key gives a system reset. -/
  | rstCmdSystem (key : BitVec 12)
  /-- RST_CMD_WARM (R418): RST_CMD WARM with the key gives a warm reset. -/
  | rstCmdWarm (key : BitVec 12)
  /-- BLOCK_RESET_END (R422): After 16 µs (DDR 2,000 µs) the block leaves reset and reloads its in-force state. -/
  | blockResetEnd (b : Blk)
  /-- RESET_SHADOW_END (R423): 64 µs after a block reset ends, shadowed detectors react again. -/
  | resetShadowEnd (b : Blk)
  /-- FLT_FORCE (R421): A write to FLT_FORCE makes forced events that take reactions only. -/
  | fltForce (b : Blk) (bits : BitVec 32)
  /-- FLT_CAP_CLR (R419): A write to FLT_CAP_CLR zeroes the capture and clears VALID. -/
  | fltCapClr (b : Blk)
  /-- SCRUB_READ (R437): The patrol scrub reads and corrects a DRAM word at the lowest rank. -/
  | scrubRead (word : BitVec 32) (err : Fin 3)
  /-- DDR_TRAINING_END (R437): DRAM training ends READY, or FAILED with DDR_TRAIN. -/
  | ddrTrainingEnd (ok : Bool)
  /-- SYSTEM_RESET_END (R416): RESET_N rising after a system reset ends the reset, and context 0 of core 0 starts in the boot ROM. -/
  | systemResetEnd
  /-- LINK_CHANGE (R380): A chain port's link comes up or goes down, updating LINK and raising identifier 631 or 632. -/
  | linkChange (c : Fin 2) (up : Bool)
  /-- MODULE_REMOVAL (R344): An SFP28 module is withdrawn, clearing MOD and raising identifier 633. -/
  | moduleRemoval (c : Fin 2)
  /-- PLL_UNLOCK (R424): A PLL loses lock and SYS raises PLL_UNLOCK. -/
  | pllUnlock
  /-- XTAL_FAIL (R424): A crystal oscillator stops or fails and SYS raises XTAL_FAIL. -/
  | xtalFail
  /-- DDR_THERM (R437): An LPDDR5 device's mode register 4 reports a changed refresh rate, changing the refresh rate and raising or ending DDR_THERM. -/
  | ddrTherm (ch : Fin 2) (code : BitVec 8) (above : Bool)
  /-- CAN_BUS_ERROR (R379): An error detected on the CAN bus changes TEC or REC and LEC, and may move the port between error-active and error-passive with identifier 753+n. -/
  | canBusError (n : Fin 2) (transmit : Bool) (inc : Fin 9) (lec : Fin 7)
  /-- READBACK_CHANGE (R316): A switch readback input changes level, updating SW_CLOSED and ROOK_STAT.CLOSED and raising identifier 623. -/
  | readbackChange (g : Fin 8) (hs : Bool) (level : Bool)
  /-- RETURN_BLOCK_LOCK (R244): The return lane regains block lock, returning a port to RUN after a far-end loopback ends. -/
  | returnBlockLock (p : Fin 32)
  /-- CHECKPOINT_WRITTEN (R185): A periodic checkpoint finishes writing its slot header, raising identifier 263 and restarting the checkpoint period. -/
  | checkpointWritten
  /-- BLOCK_WRITE_DONE (R389): The flash program of an accepted block ends and its read-back CRC is compared, giving WRITE_FAIL on mismatch. -/
  | blockWriteDone (index : BitVec 16) (res : Fin 3)
  deriving DecidableEq, Repr

end Sys2Proof
end

