-- ==== Sys2Proof/Decode.lean ====
section
/-! DEFINITION. The decoder of instruction words (R46, R47). No row of the opcode table gives bits; the one word the manual
spells is that of a Melfy instruction, whose layouts and codes are its tables of forms, opcodes and functions. -/

namespace Sys2Proof

open Machine (bits bit)

/-- A five-bit register field whose lowest bit is `lo`. -/
def reg5 (w lo : Nat) : Fin 32 := Fin.ofNat 32 (bits w (lo + 4) lo)

/-- A four-bit register field. -/
def reg4 (w lo : Nat) : Fin 16 := Fin.ofNat 16 (bits w (lo + 3) lo)

/-- A three-bit register field. -/
def reg3 (w lo : Nat) : Fin 8 := Fin.ofNat 8 (bits w (lo + 2) lo)

/-- The fields of each form (Table: Instruction forms). -/
def formR (w : Nat) : RForm := ⟨reg5 w 21, reg5 w 16, reg5 w 11, bit w 8, BitVec.ofNat 2 (bits w 10 9)⟩
def formI (w : Nat) : IForm := ⟨reg5 w 21, reg5 w 16, BitVec.ofNat 16 w⟩
def formH (w : Nat) : HForm := ⟨reg5 w 21, BitVec.ofNat 3 (bits w 20 18), Fin.ofNat 4 (bits w 17 16), BitVec.ofNat 16 w⟩
def formS (w : Nat) : SForm :=
  ⟨reg5 w 21, reg5 w 16, Fin.ofNat 4 (bits w 15 14), bit w 13, BitVec.ofNat 7 (bits w 12 6), Fin.ofNat 64 (bits w 5 0)⟩
def formB (w : Nat) : BForm := ⟨reg5 w 21, reg5 w 16, BitVec.ofNat 16 w⟩
def formP (w : Nat) : PForm := ⟨reg3 w 23, BitVec.ofNat 7 (bits w 22 16), BitVec.ofNat 16 w⟩
def formJ (w : Nat) : JForm := ⟨BitVec.ofNat 26 w⟩
def formA (w : Nat) : AForm := ⟨reg5 w 21, reg5 w 16, reg5 w 11, bit w 4, bit w 5, bit w 6, BitVec.ofNat 4 (bits w 10 7)⟩
def formX (w : Nat) : XForm := ⟨reg5 w 21, reg5 w 16, reg5 w 11⟩
def formQ (w : Nat) : QForm := ⟨reg3 w 23, reg3 w 20, reg3 w 17, reg5 w 12, BitVec.ofNat 8 w⟩
def formV (w : Nat) : VForm := ⟨reg4 w 22, reg4 w 18, reg4 w 14, reg3 w 11, Fin.ofNat 4 (bits w 10 9), reg5 w 0⟩
def formVm (w : Nat) : VmForm :=
  ⟨reg4 w 22, reg5 w 17, reg5 w 12, reg3 w 9, Fin.ofNat 4 (bits w 8 7), Fin.ofNat 4 (bits w 6 5), BitVec.ofNat 4 w⟩

/-- Opcode 0x01: the integer functions, by fn[7:0]. -/
def decodeInt (h : Hart) (f : RForm) : Nat → Option Instr
  | 0x00 => some (.add h f) | 0x01 => some (.sub h f) | 0x02 => some (.and h f) | 0x03 => some (.or h f)
  | 0x04 => some (.xor h f) | 0x05 => some (.sll h f) | 0x06 => some (.srl h f) | 0x07 => some (.sra h f)
  | 0x08 => some (.slt h f) | 0x09 => some (.sltu h f) | 0x0A => some (.mul h f) | 0x0B => some (.mulh h f)
  | 0x0C => some (.mulhu h f) | 0x0D => some (.div h f) | 0x0E => some (.divu h f) | 0x0F => some (.rem h f)
  | 0x10 => some (.remu h f) | 0x11 => some (.min h f) | 0x12 => some (.max h f) | 0x13 => some (.minu h f)
  | 0x14 => some (.maxu h f) | 0x15 => some (.clz h f) | 0x16 => some (.ctz h f) | 0x17 => some (.popc h f)
  | 0x18 => some (.ror h f) | _ => none

/-- Opcode 0x30: the atomic functions, by fn[3:0]. -/
def decodeAtomic (h : Hart) (f : AForm) : Nat → Option Instr
  | 0 => some (.atomicSwap h f) | 1 => some (.atomicAdd h f) | 2 => some (.atomicAnd h f) | 3 => some (.atomicOr h f)
  | 4 => some (.atomicXor h f) | 5 => some (.atomicMin h f) | 6 => some (.atomicMax h f) | 7 => some (.atomicMinu h f)
  | 8 => some (.atomicMaxu h f) | 9 => some (.atomicCas h f) | _ => none

/-- Opcode 0x38: the system functions, by fn[10:0]. -/
def decodeSystem (h : Hart) (f : XForm) : Nat → Option Instr
  | 0x00 => some (.syscall h f) | 0x01 => some (.breakI h f) | 0x02 => some (.eret h f) | 0x03 => some (.wfi h f)
  | 0x04 => some (.yield h f) | 0x08 => some (.crd h f) | 0x09 => some (.cwr h f) | 0x0A => some (.cswp h f)
  | 0x0B => some (.cset h f) | 0x0C => some (.cclr h f) | 0x10 => some (.ctxstart h f) | 0x11 => some (.ctxstop h f)
  | 0x12 => some (.ctxcrd h f) | 0x13 => some (.ctxcwr h f) | 0x14 => some (.ctxgrd h f) | 0x15 => some (.ctxgwr h f)
  | 0x18 => some (.fence h f) | 0x19 => some (.fenceI h f) | 0x1A => some (.dclean h f) | 0x1B => some (.dinv h f)
  | 0x1C => some (.iinv h f) | 0x1D => some (.tlbinv h f) | _ => none

/-- Opcode 0x39: the predicate functions, by fn[3:0]. -/
def decodePred (h : Hart) (f : QForm) : Nat → Option Instr
  | 0 => some (.pand h f) | 1 => some (.por h f) | 2 => some (.pxor h f) | 3 => some (.pandn h f) | 4 => some (.pnot h f)
  | 5 => some (.pfromg h f) | 6 => some (.ptog h f) | 7 => some (.pfirst h f) | 8 => some (.psetn h f) | _ => none

/-- Opcode 0x3B: vector group B, by fn[3:0]. -/
def decodeVecB (h : Hart) (f : VForm) : Nat → Option Instr
  | 0 => some (.vcmpeq h f) | 1 => some (.vcmpltu h f) | 2 => some (.vcmplt h f) | 3 => some (.vsplat h f)
  | 4 => some (.vextr h f) | 5 => some (.vredadd h f) | 6 => some (.vredmaxu h f) | 7 => some (.vmov h f)
  | 8 => some (.vidx h f) | 9 => some (.vadds h f) | 10 => some (.vmuls h f) | 11 => some (.pcnt h f) | _ => none

/-- Opcode 0x3C: vector group A, by fn[3:0]. -/
def decodeVecA (h : Hart) (f : VForm) : Nat → Option Instr
  | 0 => some (.vadd h f) | 1 => some (.vsub h f) | 2 => some (.vmul h f) | 3 => some (.vmulhu h f) | 4 => some (.vand h f)
  | 5 => some (.vor h f) | 6 => some (.vxor h f) | 7 => some (.vsll h f) | 8 => some (.vsrl h f) | 9 => some (.vsra h f)
  | 10 => some (.vminu h f) | 11 => some (.vmaxu h f) | 12 => some (.vmin h f) | 13 => some (.vmax h f)
  | 14 => some (.vsel h f) | _ => none

/-- Opcode 0x3E: the pixel functions, by fn[3:0]. -/
def decodePixel (h : Hart) (f : VForm) : Nat → Option Instr
  | 0 => some (.padds h f) | 1 => some (.psubs h f) | 2 => some (.pmulq h f) | 3 => some (.pmulg h f) | 4 => some (.plerp h f)
  | 5 => some (.plut h f) | 6 => some (.pmat h f) | 7 => some (.ppack h f) | 8 => some (.punpkon h f)
  | 9 => some (.punpki h f) | _ => none

/-- The instruction that a word spells in a context (R46, Table: Major opcodes): nothing where its opcode or function is not
listed, as for the word of zeros (R47). -/
def decodeMelfy (h : Hart) (w : Nat) : Option Instr :=
  match bits w 31 26 with
  | 0x01 => decodeInt h (formR w) (bits w 7 0)
  | 0x02 => some (.addi h (formI w)) | 0x03 => some (.andi h (formI w)) | 0x04 => some (.ori h (formI w))
  | 0x05 => some (.xori h (formI w)) | 0x06 => some (.slti h (formI w)) | 0x07 => some (.sltiu h (formI w))
  | 0x08 => some (.lui h (formI w)) | 0x09 => some (.insh h (formH w)) | 0x0A => some (.auipc h (formI w))
  | 0x0B => some (.shi h (formS w))
  | 0x10 => some (.lb h (formI w)) | 0x11 => some (.lbu h (formI w)) | 0x12 => some (.lh h (formI w))
  | 0x13 => some (.lhu h (formI w)) | 0x14 => some (.lw h (formI w)) | 0x15 => some (.lwu h (formI w))
  | 0x16 => some (.ld h (formI w))
  | 0x18 => some (.sb h (formI w)) | 0x19 => some (.sh h (formI w)) | 0x1A => some (.sw h (formI w))
  | 0x1B => some (.sd h (formI w))
  | 0x20 => some (.beq h (formB w)) | 0x21 => some (.bne h (formB w)) | 0x22 => some (.blt h (formB w))
  | 0x23 => some (.bge h (formB w)) | 0x24 => some (.bltu h (formB w)) | 0x25 => some (.bgeu h (formB w))
  | 0x26 => some (.j h (formJ w)) | 0x27 => some (.jl h (formJ w)) | 0x28 => some (.jlr h (formI w))
  | 0x29 => some (.bpa h (formP w)) | 0x2A => some (.bpz h (formP w))
  | 0x30 => decodeAtomic h (formA w) (bits w 3 0)
  | 0x38 => decodeSystem h (formX w) (bits w 10 0)
  | 0x39 => decodePred h (formQ w) (bits w 11 8)
  | 0x3B => decodeVecB h (formV w) (bits w 8 5)
  | 0x3C => decodeVecA h (formV w) (bits w 8 5)
  | 0x3D => some (if bit w 4 then .vst h (formVm w) else .vld h (formVm w))
  | 0x3E => decodePixel h (formV w) (bits w 8 5)
  | _ => none

/-- The command that a word spells: a 32-bit word is an instruction of context 0 of core 0, which runs after reset (R45);
no row of the table gives bits of its own. -/
def decodeTableWord (nbits w : Nat) : Option Instr := if nbits = 32 then decodeMelfy 0 w else none

end Sys2Proof
end

