-- ==== Sys2Proof/Machine/Crc.lean ====
section
/-! DEFINITION. Cyclic redundancy checks (Table: CRC algorithms), used by the check-value units and by every record and
frame of the manual that carries a CRC. -/

namespace Sys2Proof.Machine

/-- The parameters of one row of Table: CRC algorithms. -/
structure CrcAlg where
  width : Nat
  poly : Nat
  init : Nat
  refl : Bool
  xorOut : Nat
  deriving DecidableEq, Repr

/-- Table: CRC algorithms. -/
def crcAlg : Nat → CrcAlg
  | 1 => ⟨16, 0x1021, 0xFFFF, false, 0⟩
  | 2 => ⟨32, 0x04C11DB7, 0xFFFFFFFF, true, 0xFFFFFFFF⟩
  | 3 => ⟨32, 0x1EDC6F41, 0xFFFFFFFF, true, 0xFFFFFFFF⟩
  | 4 => ⟨64, 0x42F0E1EBA9EA3693, 0, false, 0⟩
  | _ => ⟨8, 0x07, 0, false, 0⟩

/-- The w low bits of a number in reverse order. -/
def revBits : Nat → Nat → Nat
  | 0, _ => 0
  | w + 1, x => (x % 2) * 2 ^ w + revBits w (x / 2)

/-- n shifts of a non-reflected register. -/
def crcShift (a : CrcAlg) : Nat → Nat → Nat
  | 0, r => r
  | n + 1, r =>
    let r' := (2 * r) % 2 ^ a.width
    crcShift a n (if bit r (a.width - 1) then r' ^^^ a.poly else r')

/-- The register after one byte. -/
def crcByte (a : CrcAlg) (r : Nat) (b : Byte) : Nat :=
  let x := if a.refl then revBits 8 b.toNat else b.toNat
  crcShift a 8 (r ^^^ (x <<< (a.width - 8)))

/-- The check value a register shows: after reflection and final XOR. -/
def crcOut (a : CrcAlg) (r : Nat) : Nat := (if a.refl then revBits a.width r else r) ^^^ a.xorOut

/-- The check value of a byte string. -/
def crcOf (a : CrcAlg) (l : List Byte) : Nat := crcOut a (l.foldl (crcByte a) a.init)

/-- CRC-32C. -/
def crc32c (l : List Byte) : Nat := crcOf (crcAlg 3) l

/-- CRC-16/IBM-3740. -/
def crc16 (l : List Byte) : Nat := crcOf (crcAlg 1) l

/-- CRC-8/SMBUS. -/
def crc8 (l : List Byte) : Nat := crcOf (crcAlg 0) l

/-- CRC-32/ISO-HDLC. -/
def crc32 (l : List Byte) : Nat := crcOf (crcAlg 2) l

end Sys2Proof.Machine
end

