-- ==== Sys2Proof/Config.lean ====
section
/-! DEFINITION. What the manual leaves open: free values (opaque, no body, so that no proof can know one) and the
functions of published standards the manual names without giving them. -/

namespace Sys2Proof

/-- The free values: `freeWord k` is the k-th one drawn (State.free counts them). Notes/assumptions 3. -/
opaque Config.freeWord : Nat → BitVec 64

/-- SHA-384 of FIPS 180-4, named by the manual and not given by it (assumption 4). -/
opaque Config.sha384 : List Byte → BitVec 384

/-- ECDSA P-384 verification: public key, digest, signature (assumption 4). -/
opaque Config.p384Verify : List Byte → BitVec 384 → List Byte → Bool

/-- AES-256-GCM opening: the clear text of a ciphertext followed by its tag, under a key and a nonce and with its
associated data; nothing where the tag does not match (assumption 4). -/
opaque Config.gcmOpen : List Byte → List Byte → List Byte → List Byte → Option (List Byte)

/-- AES-256-GCM sealing: the ciphertext of a plain text under a key and nonce, and the tag of a ciphertext with its
associated data (assumption 4). -/
opaque Config.gcmEnc : List Byte → List Byte → List Byte → List Byte
opaque Config.gcmTag : List Byte → List Byte → List Byte → List Byte → List Byte

/-- The flash device's JESD216 parameters (R381): size in KiB, log₂ of the erase unit and of the program page
(assumption 25). -/
opaque Config.flashKib : BitVec 24
opaque Config.flashErase : BitVec 8
opaque Config.flashPage : BitVec 8

/-- JPEG XS (ISO/IEC 21122): whether a codestream has the accepted profile, and its decoded pixels, three samples
each, row by row; nothing for a stream that does not decode (assumption 4). -/
opaque Config.jxsProfileOk : List Byte → Bool
opaque Config.jxsDecode : List Byte → Option (List Nat)

/-- The 10-bit samples of one line of the preview stream, by SAMP and the line's pixels: the manual states no conversion; and
those of a line whose read faulted, by the free counter (R138; assumption 81). -/
opaque Config.previewLine : Bool → List (Nat × Nat × Nat) → List Nat
opaque Config.previewLost : Nat → List Nat

/-- Of two media times equally near to the GT of a packet, whether the earlier is taken (R135; assumption 81). -/
opaque Config.mediaTie : Nat → Nat → Bool

/-- What manufacturing wrote in OTP, whose layout the manual does not give (R172, R383; assumption 4): the two cartridge
root hashes, the four image root key hashes with their revoke bits, the fleet keys, the device code, and DDR_CFG of the DRAM record. -/
opaque Config.otpCartRoot : Nat → BitVec 384
opaque Config.otpImageRoot : Nat → BitVec 384
opaque Config.otpRevoked : Nat → Bool
opaque Config.otpFleetKey : Nat → List Byte
opaque Config.otpDevice : BitVec 32
opaque Config.otpDdr : BitVec 64

/-- Values of Rook's ROM block that the manual does not give (R338), and the codes of logged events (R340), which it does
not list either (assumption 20). -/
opaque Config.romParam : Nat → BitVec 16
opaque Config.rookCode : Nat → BitVec 8

/-- Whether an interpolated value between two integers is rounded up: the manual states the filters, not their
rounding (R151; assumption 14). The arguments are the free counter and the place of the sample. -/
opaque Config.roundUp : Nat → Nat → Bool

/-- What the forward lanes of a port carry where the manual does not say (assumption 79): the position whose parameter sets
PARAM carries, the TILE field of a broadcast, READY of a forward TRAIN block, the seven characters after K28.5 by type, body
and index, and in a loopback the data of PRBS31 and the fields of SLOT by block. -/
opaque Config.paramPos : Nat → Fin 8
opaque Config.paramTile : Nat → BitVec 8
opaque Config.fwdReady : Nat → Nat → Bool
opaque Config.ctrlChar : BitVec 8 → BitVec 56 → Nat → Byte
opaque Config.prbs31 : Nat → Nat → BitVec 64
opaque Config.loopSlot : Nat → Nat → BitVec 56

/-- How far ROOK_OSC runs from true time in each nanosecond (R305; assumption 54). -/
opaque Config.oscRate : Nat → Nat

/-- The fixture's MAC and IPv4 addresses, which no register of the manual holds (assumption 24). -/
opaque Config.fixtureMac : BitVec 48
opaque Config.fixtureIp : BitVec 32

end Sys2Proof
end

