-- ==== Sys2Proof/Machine/Regs.lean ====
section
/-! DEFINITION. The register tables of the manual as data: one row per register (R12), with its block offset as a
physical address (Table: Register windows), its width, the strides of its indexes, and its fields with access code and
reset value. Field names are the manual's. -/

namespace Sys2Proof.Machine

/-- Access codes (Table: Register access codes, R12). -/
inductive Acc where
  | rw | ro | w1c | wo | st | wl
  deriving DecidableEq, Repr

/-- What a field's chapter makes of a value out of its range when it is written. -/
inductive Norm where
  /-- Stored as written. -/
  | keep
  /-- Values below the first are stored as the first, values above the second as the second. -/
  | clamp (lo hi : Nat)
  /-- Values outside the range are stored as the third. -/
  | outside (lo hi v : Nat)
  deriving DecidableEq, Repr

/-- One field of a register: its bits, access code, reset value and storing rule. -/
structure FieldDesc where
  name : String
  hi : Nat
  lo : Nat
  acc : Acc
  reset : Nat
  norm : Norm := .keep
  deriving DecidableEq, Repr

/-- One register, or one indexed family of registers: address of index zero, width, (stride, count) per index. -/
structure RegDesc where
  name : String
  addr : Nat
  width : Nat
  dims : List (Nat × Nat)
  fields : List FieldDesc
  deriving DecidableEq, Repr

/-- A field by place: the address of its register, its bits and its reset value. -/
structure Fld where
  addr : Nat
  hi : Nat
  lo : Nat
  reset : Nat
  deriving DecidableEq, Repr

/-- Registers of SYS. -/
def regsSys : List RegDesc := [
  ⟨"SYS_COMMIT_TGT", 0x20000100, 64, [], [⟨"TARGET", 47, 0, .rw, 0, .keep⟩]⟩,
  ⟨"SYS_COMMIT_CTRL", 0x20000108, 32, [], [⟨"GO", 31, 31, .wo, 0, .keep⟩, ⟨"CANCEL", 30, 30, .wo, 0, .keep⟩, ⟨"ASAP", 29, 29, .rw, 0, .keep⟩, ⟨"GROUP", 9, 0, .rw, 0, .keep⟩]⟩,
  ⟨"SYS_COMMIT_LEAD", 0x20000110, 32, [], [⟨"LEAD_US", 10, 0, .rw, 0xfa, .clamp 50 2000⟩]⟩,
  ⟨"SYS_COMMIT_STAT", 0x20000118, 64, [], [⟨"PENDING", 63, 63, .ro, 0, .keep⟩, ⟨"ARMED", 62, 62, .ro, 0, .keep⟩, ⟨"COMMIT_LATE", 61, 61, .w1c, 0, .keep⟩, ⟨"REFUSED", 60, 60, .w1c, 0, .keep⟩, ⟨"REFUSE_MEMBER", 59, 56, .ro, 0, .keep⟩, ⟨"TARGET_EFF", 47, 0, .ro, 0, .keep⟩]⟩,
  ⟨"SYS_COMMIT_CODE", 0x20000120, 32, [], [⟨"CODE", 15, 0, .ro, 0, .keep⟩]⟩,
  ⟨"SYS_ID", 0x20000000, 32, [], [⟨"PART", 31, 16, .ro, 0x1048, .keep⟩, ⟨"STEP", 7, 0, .ro, 0xa1, .keep⟩]⟩,
  ⟨"SYS_RST_CAUSE", 0x20000008, 64, [], [⟨"CHIP_ID", 47, 38, .ro, 0, .keep⟩, ⟨"CHIP_SRC", 37, 33, .ro, 0, .keep⟩, ⟨"S2_WAKE", 10, 10, .w1c, 0, .keep⟩, ⟨"RECOVERY", 9, 9, .w1c, 0, .keep⟩, ⟨"SVC_STUCK", 8, 8, .w1c, 0, .keep⟩, ⟨"RST_STUCK", 7, 7, .w1c, 0, .keep⟩, ⟨"WARM_UPD", 6, 6, .w1c, 0, .keep⟩, ⟨"WARM_CMD", 5, 5, .w1c, 0, .keep⟩, ⟨"WARM_PIN", 4, 4, .w1c, 0, .keep⟩, ⟨"SYS_CMD", 3, 3, .w1c, 0, .keep⟩, ⟨"CHIP", 2, 2, .w1c, 0, .keep⟩, ⟨"PIN", 1, 1, .w1c, 0, .keep⟩, ⟨"POWER_ON", 0, 0, .w1c, 1, .keep⟩]⟩]

/-- Registers of MEL. -/
def regsMel : List RegDesc := [
  ⟨"MEL_IRQ_ROUTEi", 0x20011000, 32, [(0x4, 1024)], [⟨"EN", 31, 31, .rw, 0, .keep⟩, ⟨"PRIO", 30, 28, .rw, 0, .keep⟩, ⟨"CORE", 5, 2, .rw, 0, .keep⟩, ⟨"CTX", 1, 0, .rw, 0, .keep⟩]⟩,
  ⟨"MEL_EOI", 0x20010010, 32, [], [⟨"ID", 9, 0, .wo, 0, .keep⟩]⟩,
  ⟨"MEL_SWI", 0x20010018, 32, [], [⟨"RAISE", 15, 0, .wo, 0, .keep⟩]⟩,
  ⟨"MEL_PARKED", 0x20010020, 64, [], [⟨"PARKED", 63, 0, .ro, 0, .keep⟩]⟩,
  ⟨"MEL_TMRt_CMP", 0x20014000, 64, [(0x40, 16)], [⟨"CMP", 63, 0, .rw, 0, .keep⟩]⟩,
  ⟨"MEL_TMRt_PER", 0x20014008, 32, [(0x40, 16)], [⟨"PER", 31, 0, .rw, 0, .keep⟩]⟩,
  ⟨"MEL_TMRt_CTRL", 0x20014010, 32, [(0x40, 16)], [⟨"EN", 31, 31, .rw, 0, .keep⟩, ⟨"MISSED", 25, 10, .w1c, 0, .keep⟩, ⟨"QUEUE", 9, 0, .rw, 0, .keep⟩]⟩,
  ⟨"MEL_MBXc_CTRL", 0x20016040, 32, [(0x80, 16)], [⟨"SEND", 31, 31, .wo, 0, .keep⟩, ⟨"ACK", 30, 30, .wo, 0, .keep⟩, ⟨"FULL", 29, 29, .ro, 0, .keep⟩, ⟨"CLAIMED", 28, 28, .ro, 0, .keep⟩, ⟨"OWNER", 3, 0, .ro, 0, .keep⟩]⟩,
  ⟨"MEL_MBXc_DATAi", 0x20016000, 64, [(0x80, 16), (0x8, 8)], [⟨"DATA", 63, 0, .rw, 0, .keep⟩]⟩,
  ⟨"MEL_MBXc_CLAIM", 0x20016048, 32, [(0x80, 16)], [⟨"CLAIM", 0, 0, .ro, 0, .keep⟩]⟩]

/-- Registers of MMU. -/
def regsMmu : List RegDesc := [
  ⟨"MMU_CTRL", 0x20020000, 32, [], [⟨"LOCK", 31, 31, .wl, 0, .keep⟩, ⟨"PHYS_OK", 0, 0, .wl, 1, .keep⟩]⟩,
  ⟨"MMU_ASID_BASE", 0x20020008, 64, [], [⟨"BASE", 39, 19, .rw, 0, .keep⟩]⟩,
  ⟨"MMU_RT_ASID", 0x20020010, 32, [], [⟨"ASID", 15, 0, .rw, 0, .keep⟩]⟩,
  ⟨"MMU_FLTQ", 0x20020018, 32, [], [⟨"EN", 31, 31, .rw, 0, .keep⟩, ⟨"QUEUE", 9, 0, .rw, 0, .keep⟩]⟩,
  ⟨"MMU_RT_FRECi", 0x20020020, 64, [(0x8, 4)], [⟨"W", 63, 0, .ro, 0, .keep⟩]⟩]

/-- Registers of DMA. -/
def regsDma : List RegDesc := [
  ⟨"DMA_CHn_CTRL", 0x20024000, 32, [(0x100, 64)], [⟨"START", 31, 31, .wo, 0, .keep⟩, ⟨"RESUME", 30, 30, .wo, 0, .keep⟩, ⟨"ABORT", 29, 29, .wo, 0, .keep⟩, ⟨"PAUSE", 28, 28, .wo, 0, .keep⟩, ⟨"PRIO", 17, 16, .rw, 0, .keep⟩, ⟨"ASID", 15, 0, .rw, 0, .keep⟩]⟩,
  ⟨"DMA_CHn_STAT", 0x20024008, 32, [(0x100, 64)], [⟨"STATE", 31, 29, .ro, 0, .keep⟩, ⟨"EVT", 28, 28, .w1c, 0, .keep⟩, ⟨"RESULT", 23, 16, .ro, 0, .keep⟩, ⟨"COUNT", 15, 0, .ro, 0, .keep⟩]⟩,
  ⟨"DMA_CHn_DESC", 0x20024010, 64, [(0x100, 64)], [⟨"ADDR", 63, 0, .rw, 0, .keep⟩]⟩,
  ⟨"DMA_CHn_POS", 0x20024018, 64, [(0x100, 64)], [⟨"ROW", 63, 32, .ro, 0, .keep⟩, ⟨"BYTE", 31, 0, .ro, 0, .keep⟩]⟩,
  ⟨"DMA_CHn_FRECi", 0x20024020, 64, [(0x100, 64), (0x8, 4)], [⟨"W", 63, 0, .ro, 0, .keep⟩]⟩]

/-- Registers of QM. -/
def regsQm : List RegDesc := [
  ⟨"QM_SLOTs_ADDR", 0x20031000, 64, [(0x20, 64)], [⟨"ADDR", 47, 0, .rw, 0, .keep⟩]⟩,
  ⟨"QM_SLOTs_OP", 0x20031008, 64, [(0x20, 64)], [⟨"OP", 63, 60, .wo, 0, .keep⟩, ⟨"LEN", 47, 32, .wo, 0, .keep⟩, ⟨"ASID", 31, 16, .wo, 0, .keep⟩, ⟨"QUEUE", 9, 0, .wo, 0, .keep⟩]⟩,
  ⟨"QM_SLOTs_RES", 0x20031010, 64, [(0x20, 64)], [⟨"STATE", 63, 62, .ro, 0, .keep⟩, ⟨"PARK", 59, 56, .ro, 0, .keep⟩, ⟨"RESULT", 47, 40, .ro, 0, .keep⟩, ⟨"LEN", 31, 16, .ro, 0, .keep⟩, ⟨"ITEMS", 15, 0, .ro, 0, .keep⟩]⟩,
  ⟨"QM_Qq_CFG", 0x20038000, 32, [(0x10, 1024)], [⟨"EN", 31, 31, .rw, 0, .keep⟩, ⟨"NOTIFY_EN", 30, 30, .rw, 0, .keep⟩, ⟨"NOTIFY_GRP", 29, 27, .rw, 0, .keep⟩, ⟨"QUOTA", 14, 0, .rw, 0x40, .clamp 1 16384⟩]⟩,
  ⟨"QM_Qq_STAT", 0x20038008, 64, [(0x10, 1024)], [⟨"STATE", 63, 62, .ro, 0, .keep⟩, ⟨"MARK", 61, 61, .ro, 0, .keep⟩, ⟨"MARK_LOST", 60, 60, .w1c, 0, .keep⟩, ⟨"CELLS", 45, 31, .ro, 0, .keep⟩, ⟨"ITEMS", 14, 0, .ro, 0, .keep⟩]⟩,
  ⟨"QM_POOL", 0x20030000, 32, [], [⟨"LOW", 31, 17, .rw, 0x4000, .keep⟩, ⟨"FREE", 14, 0, .ro, 0x4000, .keep⟩]⟩,
  ⟨"QM_PARKk_CTRL", 0x20032000, 32, [(0x40, 16)], [⟨"RESUME", 31, 31, .wo, 0, .keep⟩, ⟨"ABORT", 30, 30, .wo, 0, .keep⟩, ⟨"PARKED", 29, 29, .ro, 0, .keep⟩, ⟨"SLOT", 5, 0, .ro, 0, .keep⟩]⟩,
  ⟨"QM_PARKk_FRECi", 0x20032008, 64, [(0x40, 16), (0x8, 4)], [⟨"W", 63, 0, .ro, 0, .keep⟩]⟩]

/-- Registers of CRC. -/
def regsCrc : List RegDesc := [
  ⟨"CRC_CLc_Ss_CFG", 0x20040000, 32, [(0x100, 4), (0x40, 4)], [⟨"ALG", 2, 0, .rw, 0, .outside 0 4 0⟩]⟩,
  ⟨"CRC_CLc_Ss_DIN8", 0x20040008, 32, [(0x100, 4), (0x40, 4)], [⟨"DIN", 31, 0, .wo, 0, .keep⟩]⟩,
  ⟨"CRC_CLc_Ss_DIN16", 0x20040010, 32, [(0x100, 4), (0x40, 4)], [⟨"DIN", 31, 0, .wo, 0, .keep⟩]⟩,
  ⟨"CRC_CLc_Ss_DIN32", 0x20040018, 32, [(0x100, 4), (0x40, 4)], [⟨"DIN", 31, 0, .wo, 0, .keep⟩]⟩,
  ⟨"CRC_CLc_Ss_RES", 0x20040020, 64, [(0x100, 4), (0x40, 4)], [⟨"RES", 63, 0, .ro, 0, .keep⟩]⟩]

/-- Registers of CMP. -/
def regsCmp : List RegDesc := [
  ⟨"CMP_SURF_BASE", 0x20100800, 64, [], [⟨"BASE", 39, 16, .rw, 0, .keep⟩]⟩,
  ⟨"CMP_HCMD", 0x20100808, 64, [], [⟨"OP", 63, 60, .wo, 0, .keep⟩, ⟨"BUF", 11, 10, .wo, 0, .keep⟩, ⟨"HANDLE", 9, 0, .wo, 0, .keep⟩]⟩,
  ⟨"CMP_HTIME", 0x20100810, 64, [], [⟨"T", 63, 0, .rw, 0, .keep⟩]⟩,
  ⟨"CMP_HRES", 0x20100818, 32, [], [⟨"STATE", 31, 30, .ro, 0, .keep⟩, ⟨"RESULT", 23, 16, .ro, 0, .keep⟩, ⟨"HANDLE", 9, 0, .ro, 0, .keep⟩]⟩,
  ⟨"CMP_HSTATh", 0x20104000, 64, [(0x8, 1024)], [⟨"STATE", 63, 62, .ro, 0, .keep⟩, ⟨"BOUND", 61, 61, .ro, 0, .keep⟩, ⟨"HELD", 55, 52, .ro, 0, .keep⟩, ⟨"LATEST", 51, 50, .ro, 0, .keep⟩, ⟨"TAKES", 47, 40, .ro, 0, .keep⟩, ⟨"PUBL", 39, 32, .ro, 0, .keep⟩, ⟨"COUNT", 31, 0, .ro, 0, .keep⟩]⟩,
  ⟨"CMP_LFk_WEIR", 0x20100400, 32, [(0x20, 8)], [⟨"WEIR", 23, 20, .st, 8, .clamp 1 15⟩, ⟨"WEIR_CRIT", 19, 16, .st, 2, .keep⟩, ⟨"CRIT_COUNT", 15, 0, .w1c, 0, .keep⟩]⟩,
  ⟨"CMP_LFk_STAT", 0x20100408, 32, [(0x20, 8)], [⟨"LEVEL", 31, 30, .ro, 0, .keep⟩, ⟨"FILL", 29, 14, .ro, 0, .keep⟩, ⟨"BUF", 13, 12, .ro, 0, .keep⟩, ⟨"HANDLE", 9, 0, .ro, 0, .keep⟩]⟩,
  ⟨"CMP_CTRL", 0x20100000, 32, [], [⟨"EN", 31, 31, .st, 0, .keep⟩, ⟨"WARP_EN", 30, 30, .st, 0, .keep⟩, ⟨"LIST_SRC", 29, 29, .st, 0, .keep⟩, ⟨"HOLD_MAX", 23, 20, .st, 2, .keep⟩, ⟨"LIST_QUEUE", 9, 0, .st, 0, .keep⟩]⟩,
  ⟨"CMP_LIST_ADDR", 0x20100008, 64, [], [⟨"VA", 47, 0, .st, 0, .keep⟩]⟩,
  ⟨"CMP_MESH_ADDR", 0x20100010, 64, [], [⟨"VA", 47, 0, .st, 0, .keep⟩]⟩,
  ⟨"CMP_XFER_ADDR", 0x20100018, 64, [], [⟨"VA", 47, 0, .st, 0, .keep⟩]⟩,
  ⟨"CMP_MATm_ROWr", 0x20101000, 64, [(0x20, 16), (0x8, 3)], [⟨"POST", 63, 48, .st, 0, .keep⟩, ⟨"C2", 47, 32, .st, 0, .keep⟩, ⟨"C1", 31, 16, .st, 0, .keep⟩, ⟨"C0", 15, 0, .st, 0, .keep⟩]⟩,
  ⟨"CMP_MATm_PRE", 0x20101018, 64, [(0x20, 16)], [⟨"PRE2", 47, 32, .st, 0, .keep⟩, ⟨"PRE1", 31, 16, .st, 0, .keep⟩, ⟨"PRE0", 15, 0, .st, 0, .keep⟩]⟩,
  ⟨"CMP_ZONEz_RECT", 0x20102000, 64, [(0x10, 16)], [⟨"EN", 63, 63, .st, 0, .keep⟩, ⟨"KEEP_OUT", 62, 62, .st, 0, .keep⟩, ⟨"Y1", 57, 48, .st, 0, .keep⟩, ⟨"X1", 41, 32, .st, 0, .keep⟩, ⟨"Y0", 25, 16, .st, 0, .keep⟩, ⟨"X0", 9, 0, .st, 0, .keep⟩]⟩,
  ⟨"CMP_ZONEz_CLAMP", 0x20102008, 64, [(0x10, 16)], [⟨"BLUE", 47, 32, .st, 0, .keep⟩, ⟨"GREEN", 31, 16, .st, 0, .keep⟩, ⟨"RED", 15, 0, .st, 0, .keep⟩]⟩,
  ⟨"CMP_WB_CFG", 0x20100020, 32, [], [⟨"EN", 31, 31, .st, 0, .keep⟩, ⟨"QUARTER", 30, 30, .st, 0, .keep⟩, ⟨"MAT_EN", 29, 29, .st, 0, .keep⟩, ⟨"XFER_EN", 28, 28, .st, 0, .keep⟩, ⟨"MAT", 27, 24, .st, 0, .keep⟩, ⟨"XFER", 23, 21, .st, 0, .keep⟩, ⟨"HANDLE", 9, 0, .st, 0, .keep⟩]⟩,
  ⟨"CMP_LYk_COND", 0x20100410, 32, [(0x20, 8)], [⟨"COND", 31, 29, .ro, 0, .keep⟩, ⟨"HOLDS", 28, 25, .ro, 0, .keep⟩, ⟨"FAULT_LINE", 9, 0, .ro, 0, .keep⟩]⟩,
  ⟨"CMP_LIST_STAT", 0x20100028, 64, [], [⟨"TAG", 63, 48, .ro, 0, .keep⟩, ⟨"REPEATS", 47, 32, .ro, 0, .keep⟩, ⟨"WB_DROPS", 31, 16, .ro, 0, .keep⟩, ⟨"NLAYERS", 15, 12, .ro, 0, .keep⟩, ⟨"BLANK", 7, 0, .ro, 0, .keep⟩]⟩]

/-- Registers of SRC. -/
def regsSrc : List RegDesc := [
  ⟨"SRC_RXr_CFG", 0x20080100, 32, [(0x40, 4)], [⟨"EN", 31, 31, .st, 0, .keep⟩, ⟨"KIND", 30, 30, .st, 0, .keep⟩, ⟨"SAMP", 29, 28, .st, 0, .keep⟩, ⟨"DEPTH", 27, 27, .st, 0, .keep⟩, ⟨"KEEP_INC", 26, 26, .st, 0, .keep⟩, ⟨"HANDLE", 9, 0, .st, 0, .keep⟩]⟩,
  ⟨"SRC_RXr_FLOW", 0x20080108, 64, [(0x40, 4)], [⟨"DST_IP", 63, 32, .st, 0, .keep⟩, ⟨"UDP_PORT", 31, 16, .st, 0, .keep⟩, ⟨"VLAN", 11, 0, .st, 0, .keep⟩]⟩,
  ⟨"SRC_RXr_STAT", 0x20080110, 64, [(0x40, 4)], [⟨"NOBUF", 63, 48, .ro, 0, .keep⟩, ⟨"INCOMPLETE", 47, 32, .ro, 0, .keep⟩, ⟨"ERROR", 31, 16, .ro, 0, .keep⟩, ⟨"PUBLISHED", 15, 0, .ro, 0, .keep⟩]⟩,
  ⟨"SRC_RXr_LAST", 0x20080118, 64, [(0x40, 4)], [⟨"T", 63, 0, .ro, 0, .keep⟩]⟩,
  ⟨"SRC_TX_CFG", 0x20080300, 32, [], [⟨"EN", 31, 31, .st, 0, .keep⟩, ⟨"SAMP", 30, 30, .st, 0, .keep⟩, ⟨"DIV", 29, 27, .st, 0, .keep⟩, ⟨"HANDLE", 9, 0, .st, 0, .keep⟩]⟩,
  ⟨"SRC_TX_FLOW", 0x20080308, 64, [], [⟨"DST_IP", 63, 32, .st, 0, .keep⟩, ⟨"UDP_PORT", 31, 16, .st, 0, .keep⟩, ⟨"VLAN", 11, 0, .st, 0, .keep⟩]⟩]

/-- Registers of COR. -/
def regsCor : List RegDesc := [
  ⟨"COR_CTRL", 0x20200000, 32, [], [⟨"EN", 31, 31, .st, 0, .keep⟩, ⟨"WEAR_EN", 30, 30, .st, 1, .keep⟩, ⟨"CKPT_MIN", 21, 16, .rw, 0xa, .clamp 1 60⟩, ⟨"WEAR_GAIN_MAX", 15, 0, .st, 0x5000, .clamp 0x4000 0xFFFF⟩]⟩,
  ⟨"COR_CAL_VA", 0x20200008, 64, [], [⟨"VA", 63, 0, .st, 0, .keep⟩]⟩,
  ⟨"COR_WGAIN_VA", 0x20200010, 64, [], [⟨"VA", 63, 0, .st, 0, .keep⟩]⟩,
  ⟨"COR_DOSE_VA", 0x20200018, 64, [], [⟨"VA", 63, 0, .rw, 0, .keep⟩]⟩,
  ⟨"COR_CADDR", 0x20200040, 64, [], [⟨"VA", 63, 0, .rw, 0, .keep⟩]⟩,
  ⟨"COR_CADDR2", 0x20200048, 64, [], [⟨"VA", 63, 0, .rw, 0, .keep⟩]⟩,
  ⟨"COR_CART_CALGT", 0x20200030, 64, [], [⟨"GT", 63, 0, .ro, 0, .keep⟩]⟩,
  ⟨"COR_UNDERRUN", 0x20200058, 32, [], [⟨"N", 31, 0, .ro, 0, .keep⟩]⟩,
  ⟨"COR_CMD", 0x20200050, 32, [], [⟨"OP", 31, 28, .wo, 0, .keep⟩, ⟨"OVERWRITE", 27, 27, .wo, 0, .keep⟩, ⟨"REBASE", 26, 26, .wo, 0, .keep⟩, ⟨"STATE", 25, 24, .ro, 0, .keep⟩, ⟨"RESULT", 23, 16, .ro, 0, .keep⟩]⟩,
  ⟨"COR_CART_STAT", 0x20200020, 64, [], [⟨"INFORCE_ID", 63, 32, .ro, 0, .keep⟩, ⟨"STATE", 31, 29, .ro, 0, .keep⟩, ⟨"AUTH", 28, 27, .ro, 0, .keep⟩, ⟨"CAL_VALID", 26, 26, .ro, 0, .keep⟩, ⟨"UNCLEAN", 15, 0, .ro, 0, .keep⟩]⟩,
  ⟨"COR_CART_CAL", 0x20200028, 64, [], [⟨"CAL_SET_ID", 63, 32, .ro, 0, .keep⟩, ⟨"CAL_COUNT", 31, 0, .ro, 0, .keep⟩]⟩,
  ⟨"COR_LIFE_SUM", 0x20200060, 64, [], [⟨"HOURS_MIN", 63, 32, .ro, 0, .keep⟩, ⟨"VALID", 31, 31, .ro, 0, .keep⟩, ⟨"NL80_TOTAL", 21, 0, .ro, 0, .keep⟩]⟩,
  ⟨"COR_LIFE_ADDR", 0x20200068, 32, [], [⟨"LOCK", 31, 31, .wl, 0, .keep⟩, ⟨"OFFSET", 21, 15, .wl, 8, .clamp 8 127⟩]⟩]

/-- Registers of TE. -/
def regsTe : List RegDesc := [
  ⟨"TE_CTRL", 0x21000000, 32, [(0x10000, 256)], [⟨"EN", 31, 31, .st, 0, .keep⟩, ⟨"ENTRY", 6, 0, .st, 0, .keep⟩]⟩,
  ⟨"TE_STAT", 0x21000008, 64, [(0x10000, 256)], [⟨"BUF", 63, 63, .ro, 0, .keep⟩, ⟨"EN_F", 62, 62, .ro, 0, .keep⟩, ⟨"CEIL", 61, 61, .ro, 0, .keep⟩, ⟨"CE_COUNT", 47, 32, .ro, 0, .keep⟩, ⟨"SLOT_MISS", 31, 16, .ro, 0, .keep⟩, ⟨"ROW_REPEAT", 15, 8, .ro, 0, .keep⟩, ⟨"OVERRUN", 7, 0, .ro, 0, .keep⟩]⟩,
  ⟨"TE_ORDERr", 0x21000100, 64, [(0x10000, 256), (0x8, 8)], [⟨"ROW0", 5, 0, .st, 0, .keep⟩, ⟨"ROW1", 13, 8, .st, 0, .keep⟩, ⟨"ROW2", 21, 16, .st, 0, .keep⟩, ⟨"ROW3", 29, 24, .st, 0, .keep⟩, ⟨"ROW4", 37, 32, .st, 0, .keep⟩, ⟨"ROW5", 45, 40, .st, 0, .keep⟩, ⟨"ROW6", 53, 48, .st, 0, .keep⟩, ⟨"ROW7", 61, 56, .st, 0, .keep⟩]⟩,
  ⟨"TE_SCRAM", 0x21000140, 32, [(0x10000, 256)], [⟨"ROT", 13, 8, .st, 0, .keep⟩, ⟨"XMASK", 5, 0, .st, 0, .keep⟩]⟩,
  ⟨"TE_PSETm", 0x21000180, 64, [(0x10000, 256), (0x8, 4)], [⟨"VPC_B", 55, 48, .st, 0, .keep⟩, ⟨"VPC_G", 47, 40, .st, 0, .keep⟩, ⟨"VPC_R", 39, 32, .st, 0, .keep⟩, ⟨"PRE4", 15, 8, .st, 0, .keep⟩, ⟨"GAP4", 7, 0, .st, 0x20, .clamp 8 128⟩]⟩,
  ⟨"TE_PROGw", 0x21000400, 32, [(0x10000, 256), (0x4, 128)], [⟨"INSN", 31, 0, .st, 0, .keep⟩]⟩,
  ⟨"TE_SCAN_CFG", 0x21007000, 32, [], [⟨"REFRESH", 1, 0, .st, 1, .clamp 0 2⟩]⟩,
  ⟨"TE_SCAN_STAT", 0x21007008, 64, [], [⟨"M", 63, 54, .ro, 0, .keep⟩, ⟨"LD", 53, 46, .ro, 0, .keep⟩, ⟨"REFRESH_F", 45, 44, .ro, 1, .keep⟩, ⟨"BLANKED", 43, 43, .ro, 0, .keep⟩, ⟨"SLOT_CYC", 28, 16, .ro, 0, .keep⟩, ⟨"REFUSE_TE", 14, 7, .ro, 0, .keep⟩, ⟨"RC", 6, 0, .ro, 0, .keep⟩]⟩,
  ⟨"TE_CEILg", 0x21007040, 32, [(0x8, 8)], [⟨"THM", 31, 31, .ro, 0, .keep⟩, ⟨"ROOK", 30, 30, .ro, 0, .keep⟩, ⟨"CEIL", 15, 0, .ro, 0xffff, .keep⟩]⟩]

/-- Registers of EP. -/
def regsEp : List RegDesc := [
  ⟨"EP_PCMD", 0x22000000, 32, [(0x1000, 32)], [⟨"OP", 31, 28, .wo, 0, .keep⟩, ⟨"LANE", 27, 27, .wo, 0, .keep⟩, ⟨"POS", 26, 24, .wo, 0, .keep⟩]⟩,
  ⟨"EP_PSTAT", 0x22000008, 64, [(0x1000, 32)], [⟨"STATE", 63, 60, .ro, 0, .keep⟩, ⟨"RATE", 59, 58, .ro, 0, .keep⟩, ⟨"CAP_RATE", 57, 56, .ro, 0, .keep⟩, ⟨"CAP_VALID", 55, 55, .ro, 0, .keep⟩, ⟨"FALLBACK", 54, 54, .ro, 0, .keep⟩, ⟨"FAULT_POS", 53, 51, .ro, 0, .keep⟩, ⟨"FAULT_CODE", 50, 48, .ro, 0, .keep⟩, ⟨"SLOT_CYC", 47, 35, .ro, 0, .keep⟩]⟩,
  ⟨"EP_ERRCNT", 0x22000010, 64, [(0x1000, 32)], [⟨"FWD_CRC", 63, 48, .ro, 0, .keep⟩, ⟨"RET_CRC", 47, 32, .ro, 0, .keep⟩, ⟨"RET_LOST", 31, 16, .ro, 0, .keep⟩, ⟨"FALLBACKS", 15, 0, .ro, 0, .keep⟩]⟩,
  ⟨"EP_PRBS", 0x22000018, 64, [(0x1000, 32)], [⟨"WORDS", 63, 32, .ro, 0, .keep⟩, ⟨"ERRORS", 31, 0, .ro, 0, .keep⟩]⟩,
  ⟨"EP_LIMIT", 0x22000020, 32, [(0x1000, 32)], [⟨"ERR_MAX", 7, 0, .rw, 0x20, .clamp 1 255⟩]⟩,
  ⟨"EP_EQ", 0x22000028, 32, [(0x1000, 32)], [⟨"TX_DEEMPH", 15, 12, .rw, 4, .keep⟩, ⟨"RX_CTLE", 11, 8, .rw, 4, .keep⟩, ⟨"BP_TXEQ", 7, 4, .rw, 4, .keep⟩, ⟨"BP_RXEQ", 3, 0, .rw, 4, .keep⟩]⟩,
  ⟨"EP_CAPr", 0x22000040, 64, [(0x1000, 32), (0x8, 8)], [⟨"CAP", 63, 0, .ro, 0, .keep⟩]⟩,
  ⟨"EP_RATE", 0x22000800, 32, [], [⟨"RATE", 1, 0, .st, 2, .keep⟩]⟩,
  ⟨"EP_REFCLK", 0x22000808, 32, [], [⟨"OUT_EN", 31, 31, .rw, 1, .keep⟩, ⟨"SPREAD_EN", 30, 30, .rw, 0, .keep⟩, ⟨"SPREAD", 5, 0, .rw, 0, .clamp 0 50⟩]⟩]

/-- Registers of RIL. -/
def regsRil : List RegDesc := [
  ⟨"RIL_SEND", 0x22020000, 32, [], [⟨"PORTS", 31, 0, .wo, 0, .keep⟩]⟩,
  ⟨"RIL_STAT", 0x22020008, 64, [], [⟨"DONE", 63, 32, .w1c, 0, .keep⟩, ⟨"BUSY", 31, 0, .ro, 0, .keep⟩]⟩,
  ⟨"RIL_TRIMn", 0x22020100, 64, [(0x8, 256)], [⟨"IREF_B", 35, 24, .rw, 0x800, .keep⟩, ⟨"IREF_G", 23, 12, .rw, 0x800, .keep⟩, ⟨"IREF_R", 11, 0, .rw, 0x800, .keep⟩]⟩]

/-- Registers of DIAG. -/
def regsDiag : List RegDesc := [
  ⟨"DIAG_CTRL", 0x20300000, 32, [], [⟨"EN", 31, 31, .st, 0, .keep⟩, ⟨"DARK_AUDIT", 30, 30, .st, 0, .keep⟩, ⟨"AUDIT_LOG2", 19, 16, .st, 6, .clamp 4 10⟩, ⟨"AGE_MAX", 11, 0, .st, 0x100, .clamp 16 4095⟩]⟩,
  ⟨"DIAG_THR", 0x20300008, 32, [], [⟨"LOCK", 31, 31, .wl, 0, .keep⟩, ⟨"OPEN_CONFIRM", 15, 12, .wl, 3, .clamp 1 15⟩, ⟨"SHORT_CONFIRM", 11, 8, .wl, 3, .clamp 1 15⟩, ⟨"STUCK_CONFIRM", 1, 0, .wl, 2, .clamp 1 3⟩]⟩,
  ⟨"DIAG_MAP_VA", 0x20300010, 64, [], [⟨"VA", 63, 0, .rw, 0, .keep⟩]⟩,
  ⟨"DIAG_MASK_VA", 0x20300018, 64, [], [⟨"VA", 63, 0, .rw, 0, .keep⟩]⟩,
  ⟨"DIAG_EVQ", 0x20300020, 32, [], [⟨"EN", 31, 31, .rw, 0, .keep⟩, ⟨"QUEUE", 9, 0, .rw, 0, .keep⟩]⟩,
  ⟨"DIAG_CMD", 0x20300028, 64, [], [⟨"OP", 63, 60, .wo, 0, .keep⟩, ⟨"STATE", 59, 58, .ro, 0, .keep⟩, ⟨"RESULT", 55, 48, .ro, 0, .keep⟩, ⟨"TILE", 21, 14, .wo, 0, .keep⟩, ⟨"PRIM", 13, 12, .wo, 0, .keep⟩, ⟨"YL", 11, 6, .wo, 0, .keep⟩, ⟨"XL", 5, 0, .wo, 0, .keep⟩]⟩,
  ⟨"DIAG_CNTs", 0x20300030, 32, [(0x8, 6)], [⟨"COUNT", 21, 0, .ro, 0, .keep⟩]⟩,
  ⟨"DIAG_STAT", 0x20300060, 64, [], [⟨"SENSE_BAD", 63, 48, .ro, 0, .keep⟩, ⟨"EVQ_LOST", 47, 32, .ro, 0, .keep⟩, ⟨"DEBT_DROP", 31, 16, .ro, 0, .keep⟩, ⟨"OVF", 15, 15, .ro, 0, .keep⟩, ⟨"EVID_DROP", 14, 8, .ro, 0, .keep⟩, ⟨"GROUPS", 7, 0, .ro, 0, .keep⟩]⟩,
  ⟨"DIAG_STKi", 0x20301000, 32, [(0x4, 256)], [⟨"VALID", 31, 31, .ro, 0, .keep⟩, ⟨"KO", 30, 30, .ro, 0, .keep⟩, ⟨"TILE", 21, 14, .ro, 0, .keep⟩, ⟨"PRIM", 13, 12, .ro, 0, .keep⟩, ⟨"YL", 11, 6, .ro, 0, .keep⟩, ⟨"XL", 5, 0, .ro, 0, .keep⟩]⟩]

/-- Registers of RAIL. -/
def regsRail : List RegDesc := [
  ⟨"RAIL_CTRL", 0x23000000, 32, [(0x1000, 24)], [⟨"EN", 31, 31, .st, 0, .keep⟩, ⟨"LOCK", 30, 30, .wl, 0, .keep⟩, ⟨"RESTART", 29, 29, .wo, 0, .keep⟩, ⟨"PH_INST", 3, 0, .st, 0, .keep⟩]⟩,
  ⟨"RAIL_VLIM", 0x23000008, 64, [(0x1000, 24)], [⟨"V_IDLE", 47, 32, .st, 0x7d0, .keep⟩, ⟨"V_MAX", 31, 16, .st, 0xfa0, .keep⟩, ⟨"V_MIN", 15, 0, .st, 0x7d0, .keep⟩]⟩,
  ⟨"RAIL_MODEL", 0x23000010, 64, [(0x1000, 24)], [⟨"IU", 63, 48, .st, 0, .keep⟩, ⟨"TC", 47, 32, .st, 0, .keep⟩, ⟨"RD", 31, 24, .st, 0, .keep⟩, ⟨"KS", 23, 16, .st, 0, .keep⟩, ⟨"V0", 15, 0, .st, 0, .keep⟩]⟩,
  ⟨"RAIL_SLEW", 0x23000018, 32, [(0x1000, 24)], [⟨"SLEW_UP", 15, 8, .st, 0xa, .clamp 1 255⟩, ⟨"SLEW_DN", 7, 0, .st, 5, .clamp 1 255⟩]⟩,
  ⟨"RAIL_LOOP", 0x23000020, 64, [(0x1000, 24)], [⟨"KD", 63, 48, .st, 0x400, .keep⟩, ⟨"KI", 47, 32, .st, 0x40, .keep⟩, ⟨"KP", 31, 16, .st, 0x800, .keep⟩, ⟨"FSW", 10, 0, .st, 0x320, .clamp 400 2000⟩]⟩,
  ⟨"RAIL_PROT", 0x23000028, 32, [(0x1000, 24)], [⟨"OV_MARGIN", 31, 24, .wl, 0x14, .clamp 1 255⟩, ⟨"UV_MARGIN", 23, 16, .wl, 0xf, .clamp 1 255⟩, ⟨"IPH_LIM", 15, 8, .wl, 0x3c, .clamp 1 255⟩, ⟨"SHED", 7, 0, .wl, 0x19, .clamp 1 255⟩]⟩,
  ⟨"RAIL_STAT", 0x23000030, 64, [(0x1000, 24)], [⟨"STATE", 63, 61, .ro, 0, .keep⟩, ⟨"PH_ACTIVE", 60, 57, .ro, 0, .keep⟩, ⟨"NEED_RESTART", 56, 56, .ro, 0, .keep⟩, ⟨"VSENSE", 47, 32, .ro, 0, .keep⟩, ⟨"VTARGET", 31, 16, .ro, 0, .keep⟩, ⟨"IOUT", 15, 0, .ro, 0, .keep⟩]⟩,
  ⟨"RAIL_FCST", 0x23000038, 64, [(0x1000, 24)], [⟨"FRAME", 63, 48, .ro, 0, .keep⟩, ⟨"IPK", 47, 32, .ro, 0, .keep⟩, ⟨"SMAX", 31, 27, .ro, 0, .keep⟩, ⟨"NPH", 26, 24, .ro, 0, .keep⟩, ⟨"TMIN", 15, 0, .ro, 0, .keep⟩]⟩,
  ⟨"RAIL_CNT", 0x23000040, 64, [(0x1000, 24)], [⟨"FC_LATE", 63, 48, .ro, 0, .keep⟩, ⟨"ILIM", 47, 16, .ro, 0, .keep⟩]⟩,
  ⟨"RAIL_PHi", 0x23000080, 32, [(0x1000, 24), (0x8, 4)], [⟨"FAILED", 31, 31, .ro, 0, .keep⟩, ⟨"ACTIVE", 30, 30, .ro, 0, .keep⟩, ⟨"IPH", 15, 0, .ro, 0, .keep⟩]⟩,
  ⟨"RAIL_LEAD", 0x23000800, 32, [], [⟨"LEAD_US", 8, 0, .st, 0xc8, .clamp 20 380⟩]⟩]

/-- Registers of THM. -/
def regsThm : List RegDesc := [
  ⟨"THM_CTRL", 0x23100000, 32, [], [⟨"EN", 31, 31, .st, 0, .keep⟩, ⟨"LOCK", 30, 30, .wl, 0, .keep⟩, ⟨"HYST", 23, 16, .st, 0x20, .clamp 16 255⟩, ⟨"MARGIN", 15, 8, .st, 0x80, .keep⟩, ⟨"HOLD_S", 7, 0, .st, 0x3c, .clamp 1 255⟩]⟩,
  ⟨"THM_DERATE", 0x23100008, 64, [], [⟨"FLOOR", 47, 32, .st, 0x8000, .keep⟩, ⟨"SLOPE", 31, 16, .st, 0x51f, .keep⟩, ⟨"KNEE", 15, 0, .st, 0x410, .keep⟩]⟩,
  ⟨"THM_THROT", 0x23100010, 64, [], [⟨"RELAX", 63, 48, .st, 0xccd, .clamp 1 0xFFFF⟩, ⟨"TMIN", 47, 32, .st, 0x2000, .keep⟩, ⟨"TGAIN", 31, 16, .st, 0xccd, .keep⟩, ⟨"TILE_TLIM", 15, 0, .st, 0x550, .keep⟩]⟩,
  ⟨"THM_COLD", 0x23100018, 32, [], [⟨"COLD_CEIL", 31, 16, .st, 0x4000, .keep⟩, ⟨"COLD_LIM", 15, 0, .st, 0xff60, .keep⟩]⟩,
  ⟨"THM_DIE", 0x23100020, 32, [], [⟨"DIE_CRIT", 31, 16, .wl, 0x7d0, .keep⟩, ⟨"DIE_WARN", 15, 0, .wl, 0x6e0, .keep⟩]⟩,
  ⟨"THM_STAT", 0x23100040, 64, [], [⟨"THROTTLE", 63, 48, .ro, 0xffff, .keep⟩, ⟨"FAST", 47, 47, .ro, 0, .keep⟩, ⟨"FROZEN", 46, 46, .ro, 0, .keep⟩, ⟨"COLD", 45, 38, .ro, 0, .keep⟩, ⟨"OVT", 37, 30, .ro, 0, .keep⟩, ⟨"GOVERNOR", 24, 16, .ro, 0, .keep⟩, ⟨"HOLD_LEFT", 15, 8, .ro, 0, .keep⟩, ⟨"LOST", 7, 0, .ro, 0, .keep⟩]⟩,
  ⟨"THM_ESi_CFG", 0x23100100, 64, [(0x8, 16)], [⟨"EN", 63, 63, .wl, 0, .keep⟩, ⟨"THROT", 62, 62, .wl, 0, .keep⟩, ⟨"GROUPS", 55, 48, .wl, 0, .keep⟩, ⟨"CEIL_VAL", 47, 32, .wl, 0xffff, .keep⟩, ⟨"CEIL_LIM", 31, 16, .wl, 0x7fff, .keep⟩, ⟨"TLIM", 15, 0, .wl, 0x7fff, .keep⟩]⟩,
  ⟨"THM_TILEn", 0x23101000, 64, [(0x8, 256)], [⟨"SRC", 63, 62, .ro, 3, .keep⟩, ⟨"DERATE", 47, 32, .ro, 0xffff, .keep⟩, ⟨"T", 15, 0, .ro, 0x190, .keep⟩]⟩,
  ⟨"THM_ESi_VAL", 0x23100200, 64, [(0x8, 16)], [⟨"SRC", 63, 62, .ro, 3, .keep⟩, ⟨"T", 15, 0, .ro, 0x190, .keep⟩]⟩,
  ⟨"THM_DIEVALj", 0x23100300, 64, [(0x8, 12)], [⟨"SRC", 63, 62, .ro, 3, .keep⟩, ⟨"T", 15, 0, .ro, 0x190, .keep⟩]⟩]

/-- Registers of FAN. -/
def regsFan : List RegDesc := [
  ⟨"FAN_CHc_CFG", 0x23110000, 32, [(0x20, 8)], [⟨"MODE", 31, 30, .rw, 0, .keep⟩, ⟨"SRC", 29, 21, .rw, 0x1ff, .keep⟩, ⟨"DUTY_MAX", 20, 14, .rw, 0x64, .keep⟩, ⟨"DUTY_MIN", 13, 7, .rw, 0x1e, .keep⟩, ⟨"STALL_RPM", 6, 0, .rw, 0x14, .keep⟩]⟩,
  ⟨"FAN_CHc_CURVE", 0x23110008, 64, [(0x20, 8)], [⟨"GROUPS", 63, 56, .rw, 0, .keep⟩, ⟨"HEAT_DUTY", 55, 48, .rw, 0, .keep⟩, ⟨"T_HI", 31, 16, .rw, 0x3c0, .keep⟩, ⟨"T_LO", 15, 0, .rw, 0x1e0, .keep⟩]⟩,
  ⟨"FAN_CHc_STAT", 0x23110010, 32, [(0x20, 8)], [⟨"RPM", 31, 16, .ro, 0, .keep⟩, ⟨"DUTY", 15, 8, .ro, 0, .keep⟩, ⟨"STALL", 7, 7, .ro, 0, .keep⟩]⟩]

/-- Registers of ROOK. -/
def regsRook : List RegDesc := [
  ⟨"ROOK_CMD", 0x24000000, 64, [], [⟨"OP", 63, 60, .wo, 0, .keep⟩, ⟨"SEQ", 47, 32, .wo, 0, .keep⟩, ⟨"GROUPS", 7, 0, .wo, 0, .keep⟩]⟩,
  ⟨"ROOK_ADDR", 0x24000008, 64, [], [⟨"ADDR", 39, 6, .rw, 0, .keep⟩]⟩,
  ⟨"ROOK_RES", 0x24000010, 64, [], [⟨"STATE", 63, 62, .ro, 0, .keep⟩, ⟨"RESULT", 55, 48, .ro, 0, .keep⟩, ⟨"SEQ", 47, 32, .ro, 0, .keep⟩]⟩,
  ⟨"ROOK_STAT", 0x24000018, 64, [], [⟨"STATE", 63, 61, .ro, 0, .keep⟩, ⟨"LOCKED", 60, 60, .ro, 0, .keep⟩, ⟨"DEFAULT", 59, 59, .ro, 0, .keep⟩, ⟨"ZONESET", 58, 56, .ro, 0, .keep⟩, ⟨"CLOSED", 55, 48, .ro, 0, .keep⟩, ⟨"CAPPED", 47, 40, .ro, 0, .keep⟩, ⟨"HELD", 39, 32, .ro, 0, .keep⟩, ⟨"EG_LEFT", 31, 16, .ro, 0, .keep⟩]⟩,
  ⟨"ROOK_IN", 0x24000020, 32, [], [⟨"DEMAND", 31, 28, .ro, 0, .keep⟩, ⟨"FAULT", 27, 24, .ro, 0, .keep⟩, ⟨"TH_SAT", 23, 23, .ro, 0, .keep⟩]⟩,
  ⟨"ROOK_CAUSEg", 0x24000040, 32, [(0x8, 8)], [⟨"CAUSE", 11, 0, .ro, 0x401, .keep⟩]⟩,
  ⟨"ROOK_DIGESTi", 0x24000080, 64, [(0x8, 6)], [⟨"D", 63, 0, .ro, 0, .keep⟩]⟩]

/-- Registers of CHN. -/
def regsChn : List RegDesc := [
  ⟨"CHN_PORTc_CFG", 0x25000000, 32, [(0x100, 2)], [⟨"EN", 31, 31, .rw, 0, .keep⟩, ⟨"RATE", 30, 29, .rw, 2, .clamp 0 2⟩, ⟨"FEC", 28, 28, .rw, 1, .keep⟩, ⟨"LINK", 27, 26, .ro, 0, .keep⟩, ⟨"MOD", 25, 25, .ro, 0, .keep⟩]⟩,
  ⟨"CHN_ADDR", 0x25000800, 32, [], [⟨"VALID", 31, 31, .ro, 0, .keep⟩, ⟨"UPSTREAM", 30, 30, .ro, 0, .keep⟩, ⟨"ADDR", 9, 0, .ro, 0, .keep⟩]⟩,
  ⟨"CHN_DIGESTi", 0x25000810, 64, [(0x8, 2)], [⟨"BYTES", 63, 0, .rw, 0, .keep⟩]⟩,
  ⟨"CHN_WALK", 0x25000820, 64, [], [⟨"EPOCH", 63, 32, .ro, 0, .keep⟩, ⟨"MATCH", 31, 31, .ro, 0, .keep⟩, ⟨"WALKDUP", 15, 0, .ro, 0, .keep⟩]⟩,
  ⟨"CHN_STATUS", 0x25000828, 32, [], [⟨"PERIOD", 15, 0, .rw, 0x3e8, .keep⟩]⟩,
  ⟨"CHN_STATUS_FW", 0x25000830, 64, [], [⟨"FW", 63, 0, .rw, 0, .keep⟩]⟩,
  ⟨"CHN_VIDi", 0x25000900, 32, [(0x8, 16)], [⟨"EN", 31, 31, .rw, 0, .keep⟩, ⟨"VID", 11, 0, .rw, 0, .keep⟩]⟩,
  ⟨"CHN_MCi", 0x25000a00, 64, [(0x8, 64)], [⟨"EN", 63, 63, .rw, 0, .keep⟩, ⟨"MAC", 47, 0, .rw, 0, .keep⟩]⟩,
  ⟨"CHN_SACNu", 0x25000b00, 32, [(0x8, 64)], [⟨"EN", 31, 31, .rw, 0, .keep⟩, ⟨"UNIVERSE", 15, 0, .rw, 0, .keep⟩]⟩,
  ⟨"CHN_QUEUES", 0x25000838, 64, [], [⟨"SACN_EN", 63, 63, .rw, 0, .keep⟩, ⟨"HOST_EN", 62, 62, .rw, 0, .keep⟩, ⟨"TX_EN", 61, 61, .rw, 0, .keep⟩, ⟨"TX", 41, 32, .rw, 0, .keep⟩, ⟨"HOST", 25, 16, .rw, 0, .keep⟩, ⟨"SACN", 9, 0, .rw, 0, .keep⟩]⟩]

/-- Registers of PTP. -/
def regsPtp : List RegDesc := [
  ⟨"PTP_GT_LO", 0x25100000, 32, [], [⟨"LO", 31, 0, .ro, 0, .keep⟩]⟩,
  ⟨"PTP_GT_HI", 0x25100004, 32, [], [⟨"HI", 31, 0, .ro, 0, .keep⟩]⟩,
  ⟨"PTP_FRAME_EPOCH", 0x25100018, 64, [], [⟨"EPOCH", 63, 0, .rw, 0, .keep⟩]⟩,
  ⟨"PTP_FRAME_PERIOD", 0x25100020, 64, [], [⟨"PERIOD", 47, 0, .st, 0x7f28155555, .keep⟩]⟩,
  ⟨"PTP_FRAME_NUM", 0x25100028, 64, [], [⟨"N", 47, 0, .ro, 0, .keep⟩]⟩,
  ⟨"PTP_REBASEi", 0x25100300, 64, [(0x8, 3)], [⟨"V", 63, 0, .ro, 0, .keep⟩]⟩,
  ⟨"PTP_CTRL", 0x25100010, 32, [], [⟨"TL_EN", 31, 31, .rw, 0, .keep⟩, ⟨"CASTLE", 30, 30, .wo, 0, .keep⟩, ⟨"CASTLE_STEP", 29, 29, .wo, 0, .keep⟩, ⟨"CASTLE_AUTO", 28, 28, .rw, 1, .keep⟩, ⟨"ACTIVE", 27, 27, .ro, 0, .keep⟩, ⟨"GT_STATE", 26, 25, .ro, 0, .keep⟩, ⟨"STEP_THR", 16, 0, .rw, 0x3e8, .clamp 10 0x1FFFF⟩]⟩,
  ⟨"PTP_DOMd_CFG", 0x25100100, 32, [(0x40, 2)], [⟨"EN", 31, 31, .rw, 0, .keep⟩, ⟨"PROFILE", 30, 30, .rw, 0, .keep⟩, ⟨"P2P", 29, 29, .rw, 0, .keep⟩, ⟨"UDP", 28, 28, .rw, 0, .keep⟩, ⟨"TWO_STEP", 27, 27, .rw, 0, .keep⟩, ⟨"MASTER_EN", 26, 26, .rw, 0, .keep⟩, ⟨"PRIORITY1", 23, 16, .rw, 0xff, .keep⟩, ⟨"PRIORITY2", 15, 8, .rw, 0xff, .keep⟩, ⟨"DOMAIN", 7, 0, .rw, 0, .keep⟩]⟩,
  ⟨"PTP_DOMd_SERVO", 0x25100108, 32, [(0x40, 2)], [⟨"KP", 31, 16, .rw, 0x8000, .keep⟩, ⟨"KI", 15, 0, .rw, 0x400, .keep⟩]⟩,
  ⟨"PTP_DOMd_STAT", 0x25100110, 64, [(0x40, 2)], [⟨"STATE", 63, 61, .ro, 0, .keep⟩, ⟨"HELD", 60, 57, .ro, 0, .keep⟩, ⟨"PORT", 56, 56, .ro, 0, .keep⟩, ⟨"DIFF", 55, 32, .ro, 0, .keep⟩, ⟨"OFFSET", 31, 0, .ro, 0, .keep⟩]⟩,
  ⟨"PTP_ASYMc", 0x25100200, 64, [(0x8, 2)], [⟨"EGR", 63, 32, .rw, 0, .keep⟩, ⟨"ING", 31, 0, .rw, 0, .keep⟩]⟩]

/-- Registers of SAT. -/
def regsSat : List RegDesc := [
  ⟨"SAT_CTRL", 0x25110000, 32, [], [⟨"EN", 31, 31, .rw, 0, .keep⟩]⟩,
  ⟨"SAT_Ee_TIME", 0x25110100, 64, [(0x20, 64)], [⟨"TIME", 63, 0, .rw, 0, .keep⟩]⟩,
  ⟨"SAT_Ee_ARG", 0x25110108, 64, [(0x20, 64)], [⟨"ARG", 63, 0, .rw, 0, .keep⟩]⟩,
  ⟨"SAT_Ee_CTRL", 0x25110110, 32, [(0x20, 64)], [⟨"CMD", 31, 28, .wo, 0, .keep⟩, ⟨"STATE", 27, 25, .ro, 0, .keep⟩, ⟨"LATE", 24, 24, .ro, 0, .keep⟩, ⟨"MISSED", 23, 23, .ro, 0, .keep⟩, ⟨"KIND", 22, 20, .rw, 0, .keep⟩, ⟨"DEF", 19, 19, .rw, 1, .keep⟩, ⟨"TOL", 15, 8, .rw, 0, .keep⟩, ⟨"LAMBDA", 7, 0, .ro, 0, .keep⟩]⟩]

/-- Registers of DMX. -/
def regsDmx : List RegDesc := [
  ⟨"DMX_CFG", 0x27000000, 32, [], [⟨"EN", 31, 31, .rw, 0, .keep⟩, ⟨"MUTED", 30, 30, .rw, 0, .keep⟩, ⟨"LOSS_MS", 29, 16, .rw, 0x4e2, .clamp 1 0x3FFF⟩, ⟨"QUEUE", 9, 0, .rw, 0, .keep⟩]⟩,
  ⟨"DMX_UID", 0x27000008, 64, [], [⟨"UID", 47, 0, .rw, 0, .keep⟩]⟩,
  ⟨"DMX_SLOTSi", 0x27000100, 64, [(0x8, 64)], [⟨"SLOTS", 63, 0, .ro, 0, .keep⟩]⟩,
  ⟨"DMX_RESPi", 0x27000400, 64, [(0x8, 64)], [⟨"BYTES", 63, 0, .rw, 0, .keep⟩]⟩,
  ⟨"DMX_STAT", 0x27000010, 64, [], [⟨"LOSS", 63, 63, .ro, 0, .keep⟩, ⟨"RESP_BUSY", 62, 62, .ro, 0, .keep⟩, ⟨"SLOTS", 57, 48, .ro, 0, .keep⟩, ⟨"RDM_LATE", 47, 40, .ro, 0, .keep⟩, ⟨"RDM_BAD", 39, 32, .ro, 0, .keep⟩, ⟨"PACKETS", 31, 0, .ro, 0, .keep⟩]⟩,
  ⟨"DMX_RESP_LEN", 0x27000020, 32, [], [⟨"SEND", 31, 31, .wo, 0, .keep⟩, ⟨"LEN", 8, 0, .rw, 0, .keep⟩]⟩]

/-- Registers of CAN. -/
def regsCan : List RegDesc := [
  ⟨"CAN_CLK", 0x27011000, 32, [], [⟨"KHZ", 16, 0, .ro, 0, .keep⟩]⟩,
  ⟨"CAN_PORTn_CTRL", 0x27010000, 32, [(0x800, 2)], [⟨"EN", 31, 31, .rw, 0, .keep⟩, ⟨"RESTART", 30, 30, .wo, 0, .keep⟩, ⟨"FD", 29, 29, .rw, 1, .keep⟩, ⟨"LISTEN", 28, 28, .rw, 0, .keep⟩, ⟨"LOOP", 27, 27, .rw, 0, .keep⟩]⟩,
  ⟨"CAN_PORTn_NBT", 0x27010008, 32, [(0x800, 2)], [⟨"SJW", 31, 25, .rw, 3, .keep⟩, ⟨"TSEG2", 24, 18, .rw, 0xf, .keep⟩, ⟨"TSEG1", 17, 10, .rw, 0x3e, .keep⟩, ⟨"BRP", 9, 0, .rw, 0, .keep⟩]⟩,
  ⟨"CAN_PORTn_DBT", 0x27010010, 32, [(0x800, 2)], [⟨"TDC", 31, 31, .rw, 1, .keep⟩, ⟨"TDCO", 30, 24, .rw, 8, .keep⟩, ⟨"DSJW", 23, 20, .rw, 1, .keep⟩, ⟨"DTSEG2", 19, 16, .rw, 3, .keep⟩, ⟨"DTSEG1", 15, 11, .rw, 0xa, .keep⟩, ⟨"DBRP", 4, 0, .rw, 0, .keep⟩]⟩,
  ⟨"CAN_PORTn_QUEUES", 0x27010018, 32, [(0x800, 2)], [⟨"TXQ", 25, 16, .rw, 0, .keep⟩, ⟨"RXQ", 9, 0, .rw, 0, .keep⟩]⟩,
  ⟨"CAN_PORTn_STAT", 0x27010020, 64, [(0x800, 2)], [⟨"STATE", 63, 62, .ro, 3, .keep⟩, ⟨"RECOVERING", 61, 61, .ro, 0, .keep⟩, ⟨"TEC", 55, 48, .ro, 0, .keep⟩, ⟨"REC", 47, 40, .ro, 0, .keep⟩, ⟨"LEC", 34, 32, .ro, 0, .keep⟩, ⟨"TXD", 31, 16, .ro, 0, .keep⟩, ⟨"RXD", 15, 0, .ro, 0, .keep⟩]⟩,
  ⟨"CAN_PORTn_CNT", 0x27010028, 64, [(0x800, 2)], [⟨"TX_BAD", 63, 48, .ro, 0, .keep⟩, ⟨"RX_LOST", 31, 16, .ro, 0, .keep⟩, ⟨"BUS_OFFS", 15, 0, .ro, 0, .keep⟩]⟩,
  ⟨"CAN_PORTn_FLTf_ID", 0x27010100, 32, [(0x800, 2), (0x10, 32)], [⟨"EN", 31, 31, .rw, 0, .keep⟩, ⟨"IDE", 30, 30, .rw, 0, .keep⟩, ⟨"ID", 28, 0, .rw, 0, .keep⟩]⟩,
  ⟨"CAN_PORTn_FLTf_MASK", 0x27010108, 32, [(0x800, 2), (0x10, 32)], [⟨"MASK", 28, 0, .rw, 0, .keep⟩]⟩]

/-- Registers of NVM. -/
def regsNvm : List RegDesc := [
  ⟨"NVM_FL_INFO", 0x20060000, 64, [], [⟨"SIZE_KIB", 47, 24, .ro, 0, .keep⟩, ⟨"ERASE_LOG2", 23, 16, .ro, 0, .keep⟩, ⟨"PAGE_LOG2", 15, 8, .ro, 0, .keep⟩]⟩,
  ⟨"NVM_FL_STAT", 0x20060008, 64, [], [⟨"BUSY", 63, 63, .ro, 0, .keep⟩, ⟨"SUSPENDED", 62, 62, .ro, 0, .keep⟩, ⟨"ERRORS", 47, 32, .ro, 0, .keep⟩, ⟨"ERASES", 31, 0, .ro, 0, .keep⟩]⟩,
  ⟨"NVM_MRAM_STAT", 0x20060010, 64, [], [⟨"CE_COUNT", 63, 32, .ro, 0, .keep⟩, ⟨"UE_COUNT", 31, 16, .ro, 0, .keep⟩, ⟨"OTP_CE", 15, 0, .ro, 0, .keep⟩]⟩]

/-- Registers of UPD. -/
def regsUpd : List RegDesc := [
  ⟨"UPD_CTRL", 0x26000000, 32, [], [⟨"EN", 31, 31, .rw, 0, .keep⟩, ⟨"FORWARD", 30, 30, .rw, 1, .keep⟩, ⟨"TRIAL_BOOTS", 19, 16, .rw, 3, .clamp 1 15⟩, ⟨"TRIAL_S", 15, 0, .rw, 0x12c, .clamp 1 0xFFFF⟩]⟩,
  ⟨"UPD_CMD", 0x26000008, 32, [], [⟨"OP", 31, 28, .wo, 0, .keep⟩, ⟨"STATE", 27, 26, .ro, 0, .keep⟩, ⟨"BANK", 24, 24, .wo, 0, .keep⟩, ⟨"RESULT", 23, 16, .ro, 0, .keep⟩]⟩,
  ⟨"UPD_ADDR", 0x26000010, 64, [], [⟨"ADDR", 39, 0, .rw, 0, .keep⟩]⟩,
  ⟨"UPD_LEN", 0x26000018, 32, [], [⟨"LEN", 31, 0, .rw, 0, .keep⟩]⟩,
  ⟨"UPD_HASHi", 0x26000080, 64, [(0x8, 6)], [⟨"H", 63, 0, .ro, 0, .keep⟩]⟩,
  ⟨"UPD_SESS", 0x26000020, 64, [], [⟨"SRC", 63, 62, .ro, 0, .keep⟩, ⟨"FWD", 61, 60, .ro, 0, .keep⟩, ⟨"LAST_CODE", 55, 48, .ro, 0, .keep⟩, ⟨"NEXT", 47, 32, .ro, 0, .keep⟩, ⟨"NBLOCKS", 31, 16, .ro, 0, .keep⟩, ⟨"CRC_RETRY", 15, 0, .ro, 0, .keep⟩]⟩,
  ⟨"UPD_BANKb", 0x26000040, 64, [(0x10, 2)], [⟨"STATE", 63, 61, .ro, 0, .keep⟩, ⟨"BOOT", 60, 60, .ro, 0, .keep⟩, ⟨"BOOTS", 59, 56, .ro, 0, .keep⟩, ⟨"SERIAL", 31, 0, .ro, 0, .keep⟩]⟩,
  ⟨"UPD_BANKb_EPOCH", 0x26000048, 32, [(0x10, 2)], [⟨"EPOCH", 31, 0, .ro, 0, .keep⟩]⟩,
  ⟨"UPD_FLOOR", 0x26000060, 32, [], [⟨"FLOOR", 31, 0, .ro, 0, .keep⟩]⟩]

/-- Registers of PWR. -/
def regsPwr : List RegDesc := [
  ⟨"PWR_CTRL", 0x20000200, 32, [], [⟨"OP", 31, 28, .wo, 0, .keep⟩]⟩,
  ⟨"PWR_STAT", 0x20000208, 64, [], [⟨"STATE", 63, 61, .ro, 0, .keep⟩, ⟨"RESULT", 60, 58, .ro, 0, .keep⟩, ⟨"STEP", 57, 54, .ro, 0, .keep⟩, ⟨"REASON", 47, 40, .ro, 0, .keep⟩, ⟨"WAKE", 7, 0, .w1c, 0, .keep⟩]⟩,
  ⟨"PWR_WAKE_EN", 0x20000210, 32, [], [⟨"S2", 15, 8, .rw, 0x38, .keep⟩, ⟨"S1", 7, 0, .rw, 0xfd, .keep⟩]⟩,
  ⟨"PWR_AON_CNT", 0x20000220, 64, [], [⟨"CNT", 63, 0, .ro, 0, .keep⟩]⟩,
  ⟨"PWR_RTC_ALARM", 0x20000228, 64, [], [⟨"ALARM", 63, 0, .rw, 0xffffffffffffffff, .keep⟩]⟩,
  ⟨"PWR_AON_RATIO", 0x20000230, 64, [], [⟨"RATIO", 63, 0, .ro, 0x773594000000, .keep⟩]⟩]

/-- Registers of RST. -/
def regsRst : List RegDesc := [
  ⟨"RST_CMD", 0x20000300, 32, [], [⟨"OP", 31, 28, .wo, 0, .keep⟩, ⟨"KEY", 27, 16, .wo, 0, .keep⟩]⟩]

/-- Registers of DDR. -/
def regsDdr : List RegDesc := [
  ⟨"DDR_CFG", 0x20050000, 64, [], [⟨"LOCK", 63, 63, .wl, 0, .keep⟩, ⟨"RATE", 47, 40, .wl, 0x40, .outside 32 64 32⟩, ⟨"RANKS", 29, 29, .wl, 0, .keep⟩, ⟨"SIZE", 23, 16, .wl, 0, .keep⟩]⟩,
  ⟨"DDR_MAP", 0x20050008, 64, [], [⟨"USABLE", 39, 21, .ro, 0, .keep⟩]⟩,
  ⟨"DDR_SCRUB", 0x20050010, 32, [], [⟨"EN", 31, 31, .rw, 1, .keep⟩, ⟨"PERIOD_H", 15, 0, .rw, 0x18, .clamp 1 0xFFFF⟩]⟩,
  ⟨"DDR_ECC", 0x20050018, 64, [], [⟨"CE", 63, 32, .ro, 0, .keep⟩, ⟨"UE", 31, 16, .ro, 0, .keep⟩]⟩,
  ⟨"DDR_CE_ADDR", 0x20050020, 64, [], [⟨"ADDR", 39, 0, .ro, 0, .keep⟩]⟩,
  ⟨"DDR_STAT", 0x20050028, 64, [], [⟨"STATE", 63, 61, .ro, 0, .keep⟩, ⟨"TEMP1", 47, 40, .ro, 0, .keep⟩, ⟨"TEMP0", 39, 32, .ro, 0, .keep⟩, ⟨"TRAININGS", 15, 0, .ro, 0, .keep⟩]⟩]

/-- Every register of the register space but the common fault set (R17). -/
def regTable : List RegDesc :=
  regsSys ++ regsMel ++ regsMmu ++ regsDma ++ regsQm ++ regsCrc ++ regsCmp ++ regsSrc ++ regsCor ++ regsTe ++ regsEp ++ regsRil ++ regsDiag ++ regsRail ++ regsThm ++ regsFan ++ regsRook ++ regsChn ++ regsPtp ++ regsSat ++ regsDmx ++ regsCan ++ regsNvm ++ regsUpd ++ regsPwr ++ regsRst ++ regsDdr

end Sys2Proof.Machine
end

