-- ==== Sys2Proof/Machine/Fields.lean ====
section
/-! DEFINITION. Every field the model reads by name, generated from the same register tables: `F.<register><FIELD>`. -/

namespace Sys2Proof.Machine

/-- SYS_COMMIT_TGT.TARGET -/
def F.sysCommitTgtTARGET : Fld := ⟨0x20000100, 47, 0, 0⟩
/-- SYS_COMMIT_CTRL.ASAP -/
def F.sysCommitCtrlASAP : Fld := ⟨0x20000108, 29, 29, 0⟩
/-- SYS_COMMIT_CTRL.GROUP -/
def F.sysCommitCtrlGROUP : Fld := ⟨0x20000108, 9, 0, 0⟩
/-- SYS_COMMIT_LEAD.LEAD_US -/
def F.sysCommitLeadLEADUS : Fld := ⟨0x20000110, 10, 0, 0xfa⟩
/-- SYS_COMMIT_STAT.PENDING -/
def F.sysCommitStatPENDING : Fld := ⟨0x20000118, 63, 63, 0⟩
/-- SYS_COMMIT_STAT.ARMED -/
def F.sysCommitStatARMED : Fld := ⟨0x20000118, 62, 62, 0⟩
/-- SYS_COMMIT_STAT.COMMIT_LATE -/
def F.sysCommitStatCOMMITLATE : Fld := ⟨0x20000118, 61, 61, 0⟩
/-- SYS_COMMIT_STAT.REFUSED -/
def F.sysCommitStatREFUSED : Fld := ⟨0x20000118, 60, 60, 0⟩
/-- SYS_COMMIT_STAT.REFUSE_MEMBER -/
def F.sysCommitStatREFUSEMEMBER : Fld := ⟨0x20000118, 59, 56, 0⟩
/-- SYS_COMMIT_STAT.TARGET_EFF -/
def F.sysCommitStatTARGETEFF : Fld := ⟨0x20000118, 47, 0, 0⟩
/-- SYS_COMMIT_CODE.CODE -/
def F.sysCommitCodeCODE : Fld := ⟨0x20000120, 15, 0, 0⟩
/-- MEL_IRQ_ROUTEi.EN -/
def F.melIrqRouteEN : Fld := ⟨0x20011000, 31, 31, 0⟩
/-- MEL_IRQ_ROUTEi.PRIO -/
def F.melIrqRoutePRIO : Fld := ⟨0x20011000, 30, 28, 0⟩
/-- MEL_IRQ_ROUTEi.CORE -/
def F.melIrqRouteCORE : Fld := ⟨0x20011000, 5, 2, 0⟩
/-- MEL_IRQ_ROUTEi.CTX -/
def F.melIrqRouteCTX : Fld := ⟨0x20011000, 1, 0, 0⟩
/-- MEL_PARKED.PARKED -/
def F.melParkedPARKED : Fld := ⟨0x20010020, 63, 0, 0⟩
/-- MMU_CTRL.LOCK -/
def F.mmuCtrlLOCK : Fld := ⟨0x20020000, 31, 31, 0⟩
/-- MMU_CTRL.PHYS_OK -/
def F.mmuCtrlPHYSOK : Fld := ⟨0x20020000, 0, 0, 1⟩
/-- MMU_ASID_BASE.BASE -/
def F.mmuAsidBaseBASE : Fld := ⟨0x20020008, 39, 19, 0⟩
/-- MMU_RT_ASID.ASID -/
def F.mmuRtAsidASID : Fld := ⟨0x20020010, 15, 0, 0⟩
/-- MMU_FLTQ.EN -/
def F.mmuFltqEN : Fld := ⟨0x20020018, 31, 31, 0⟩
/-- MMU_FLTQ.QUEUE -/
def F.mmuFltqQUEUE : Fld := ⟨0x20020018, 9, 0, 0⟩
/-- DMA_CHn_CTRL.PRIO -/
def F.dmaChCtrlPRIO : Fld := ⟨0x20024000, 17, 16, 0⟩
/-- DMA_CHn_CTRL.ASID -/
def F.dmaChCtrlASID : Fld := ⟨0x20024000, 15, 0, 0⟩
/-- DMA_CHn_STAT.STATE -/
def F.dmaChStatSTATE : Fld := ⟨0x20024008, 31, 29, 0⟩
/-- DMA_CHn_STAT.EVT -/
def F.dmaChStatEVT : Fld := ⟨0x20024008, 28, 28, 0⟩
/-- DMA_CHn_STAT.RESULT -/
def F.dmaChStatRESULT : Fld := ⟨0x20024008, 23, 16, 0⟩
/-- DMA_CHn_STAT.COUNT -/
def F.dmaChStatCOUNT : Fld := ⟨0x20024008, 15, 0, 0⟩
/-- DMA_CHn_DESC.ADDR -/
def F.dmaChDescADDR : Fld := ⟨0x20024010, 63, 0, 0⟩
/-- DMA_CHn_POS.ROW -/
def F.dmaChPosROW : Fld := ⟨0x20024018, 63, 32, 0⟩
/-- DMA_CHn_POS.BYTE -/
def F.dmaChPosBYTE : Fld := ⟨0x20024018, 31, 0, 0⟩
/-- DMA_CHn_FRECi.W -/
def F.dmaChFrecW : Fld := ⟨0x20024020, 63, 0, 0⟩
/-- MMU_RT_FRECi.W -/
def F.mmuRtFrecW : Fld := ⟨0x20020020, 63, 0, 0⟩
/-- QM_SLOTs_ADDR.ADDR -/
def F.qmSlotAddrADDR : Fld := ⟨0x20031000, 47, 0, 0⟩
/-- QM_SLOTs_RES.STATE -/
def F.qmSlotResSTATE : Fld := ⟨0x20031010, 63, 62, 0⟩
/-- QM_SLOTs_RES.PARK -/
def F.qmSlotResPARK : Fld := ⟨0x20031010, 59, 56, 0⟩
/-- QM_SLOTs_RES.RESULT -/
def F.qmSlotResRESULT : Fld := ⟨0x20031010, 47, 40, 0⟩
/-- QM_SLOTs_RES.LEN -/
def F.qmSlotResLEN : Fld := ⟨0x20031010, 31, 16, 0⟩
/-- QM_SLOTs_RES.ITEMS -/
def F.qmSlotResITEMS : Fld := ⟨0x20031010, 15, 0, 0⟩
/-- QM_Qq_CFG.EN -/
def F.qmQCfgEN : Fld := ⟨0x20038000, 31, 31, 0⟩
/-- QM_Qq_CFG.NOTIFY_EN -/
def F.qmQCfgNOTIFYEN : Fld := ⟨0x20038000, 30, 30, 0⟩
/-- QM_Qq_CFG.NOTIFY_GRP -/
def F.qmQCfgNOTIFYGRP : Fld := ⟨0x20038000, 29, 27, 0⟩
/-- QM_Qq_CFG.QUOTA -/
def F.qmQCfgQUOTA : Fld := ⟨0x20038000, 14, 0, 0x40⟩
/-- QM_Qq_STAT.STATE -/
def F.qmQStatSTATE : Fld := ⟨0x20038008, 63, 62, 0⟩
/-- QM_Qq_STAT.MARK -/
def F.qmQStatMARK : Fld := ⟨0x20038008, 61, 61, 0⟩
/-- QM_Qq_STAT.MARK_LOST -/
def F.qmQStatMARKLOST : Fld := ⟨0x20038008, 60, 60, 0⟩
/-- QM_Qq_STAT.CELLS -/
def F.qmQStatCELLS : Fld := ⟨0x20038008, 45, 31, 0⟩
/-- QM_Qq_STAT.ITEMS -/
def F.qmQStatITEMS : Fld := ⟨0x20038008, 14, 0, 0⟩
/-- QM_POOL.LOW -/
def F.qmPoolLOW : Fld := ⟨0x20030000, 31, 17, 0x4000⟩
/-- QM_POOL.FREE -/
def F.qmPoolFREE : Fld := ⟨0x20030000, 14, 0, 0x4000⟩
/-- QM_PARKk_CTRL.PARKED -/
def F.qmParkCtrlPARKED : Fld := ⟨0x20032000, 29, 29, 0⟩
/-- QM_PARKk_CTRL.SLOT -/
def F.qmParkCtrlSLOT : Fld := ⟨0x20032000, 5, 0, 0⟩
/-- QM_PARKk_FRECi.W -/
def F.qmParkFrecW : Fld := ⟨0x20032008, 63, 0, 0⟩
/-- CRC_CLc_Ss_CFG.ALG -/
def F.crcClSCfgALG : Fld := ⟨0x20040000, 2, 0, 0⟩
/-- CRC_CLc_Ss_RES.RES -/
def F.crcClSResRES : Fld := ⟨0x20040020, 63, 0, 0⟩
/-- MEL_TMRt_CMP.CMP -/
def F.melTmrCmpCMP : Fld := ⟨0x20014000, 63, 0, 0⟩
/-- MEL_TMRt_PER.PER -/
def F.melTmrPerPER : Fld := ⟨0x20014008, 31, 0, 0⟩
/-- MEL_TMRt_CTRL.EN -/
def F.melTmrCtrlEN : Fld := ⟨0x20014010, 31, 31, 0⟩
/-- MEL_TMRt_CTRL.MISSED -/
def F.melTmrCtrlMISSED : Fld := ⟨0x20014010, 25, 10, 0⟩
/-- MEL_TMRt_CTRL.QUEUE -/
def F.melTmrCtrlQUEUE : Fld := ⟨0x20014010, 9, 0, 0⟩
/-- MEL_MBXc_CTRL.FULL -/
def F.melMbxCtrlFULL : Fld := ⟨0x20016040, 29, 29, 0⟩
/-- MEL_MBXc_CTRL.CLAIMED -/
def F.melMbxCtrlCLAIMED : Fld := ⟨0x20016040, 28, 28, 0⟩
/-- MEL_MBXc_CTRL.OWNER -/
def F.melMbxCtrlOWNER : Fld := ⟨0x20016040, 3, 0, 0⟩
/-- MEL_MBXc_DATAi.DATA -/
def F.melMbxDataDATA : Fld := ⟨0x20016000, 63, 0, 0⟩
/-- MEL_MBXc_CLAIM.CLAIM -/
def F.melMbxClaimCLAIM : Fld := ⟨0x20016048, 0, 0, 0⟩
/-- CMP_SURF_BASE.BASE -/
def F.cmpSurfBaseBASE : Fld := ⟨0x20100800, 39, 16, 0⟩
/-- CMP_HTIME.T -/
def F.cmpHtimeT : Fld := ⟨0x20100810, 63, 0, 0⟩
/-- CMP_HRES.STATE -/
def F.cmpHresSTATE : Fld := ⟨0x20100818, 31, 30, 0⟩
/-- CMP_HRES.RESULT -/
def F.cmpHresRESULT : Fld := ⟨0x20100818, 23, 16, 0⟩
/-- CMP_HRES.HANDLE -/
def F.cmpHresHANDLE : Fld := ⟨0x20100818, 9, 0, 0⟩
/-- CMP_HSTATh.STATE -/
def F.cmpHstatSTATE : Fld := ⟨0x20104000, 63, 62, 0⟩
/-- CMP_HSTATh.BOUND -/
def F.cmpHstatBOUND : Fld := ⟨0x20104000, 61, 61, 0⟩
/-- CMP_HSTATh.HELD -/
def F.cmpHstatHELD : Fld := ⟨0x20104000, 55, 52, 0⟩
/-- CMP_HSTATh.LATEST -/
def F.cmpHstatLATEST : Fld := ⟨0x20104000, 51, 50, 0⟩
/-- CMP_HSTATh.TAKES -/
def F.cmpHstatTAKES : Fld := ⟨0x20104000, 47, 40, 0⟩
/-- CMP_HSTATh.PUBL -/
def F.cmpHstatPUBL : Fld := ⟨0x20104000, 39, 32, 0⟩
/-- CMP_HSTATh.COUNT -/
def F.cmpHstatCOUNT : Fld := ⟨0x20104000, 31, 0, 0⟩
/-- SRC_RXr_CFG.EN -/
def F.srcRxCfgEN : Fld := ⟨0x20080100, 31, 31, 0⟩
/-- SRC_RXr_CFG.KIND -/
def F.srcRxCfgKIND : Fld := ⟨0x20080100, 30, 30, 0⟩
/-- SRC_RXr_CFG.SAMP -/
def F.srcRxCfgSAMP : Fld := ⟨0x20080100, 29, 28, 0⟩
/-- SRC_RXr_CFG.DEPTH -/
def F.srcRxCfgDEPTH : Fld := ⟨0x20080100, 27, 27, 0⟩
/-- SRC_RXr_CFG.KEEP_INC -/
def F.srcRxCfgKEEPINC : Fld := ⟨0x20080100, 26, 26, 0⟩
/-- SRC_RXr_CFG.HANDLE -/
def F.srcRxCfgHANDLE : Fld := ⟨0x20080100, 9, 0, 0⟩
/-- SRC_RXr_FLOW.DST_IP -/
def F.srcRxFlowDSTIP : Fld := ⟨0x20080108, 63, 32, 0⟩
/-- SRC_RXr_FLOW.UDP_PORT -/
def F.srcRxFlowUDPPORT : Fld := ⟨0x20080108, 31, 16, 0⟩
/-- SRC_RXr_FLOW.VLAN -/
def F.srcRxFlowVLAN : Fld := ⟨0x20080108, 11, 0, 0⟩
/-- SRC_RXr_STAT.NOBUF -/
def F.srcRxStatNOBUF : Fld := ⟨0x20080110, 63, 48, 0⟩
/-- SRC_RXr_STAT.INCOMPLETE -/
def F.srcRxStatINCOMPLETE : Fld := ⟨0x20080110, 47, 32, 0⟩
/-- SRC_RXr_STAT.ERROR -/
def F.srcRxStatERROR : Fld := ⟨0x20080110, 31, 16, 0⟩
/-- SRC_RXr_STAT.PUBLISHED -/
def F.srcRxStatPUBLISHED : Fld := ⟨0x20080110, 15, 0, 0⟩
/-- SRC_RXr_LAST.T -/
def F.srcRxLastT : Fld := ⟨0x20080118, 63, 0, 0⟩
/-- SRC_TX_CFG.EN -/
def F.srcTxCfgEN : Fld := ⟨0x20080300, 31, 31, 0⟩
/-- SRC_TX_CFG.SAMP -/
def F.srcTxCfgSAMP : Fld := ⟨0x20080300, 30, 30, 0⟩
/-- SRC_TX_CFG.DIV -/
def F.srcTxCfgDIV : Fld := ⟨0x20080300, 29, 27, 0⟩
/-- SRC_TX_CFG.HANDLE -/
def F.srcTxCfgHANDLE : Fld := ⟨0x20080300, 9, 0, 0⟩
/-- SRC_TX_FLOW.DST_IP -/
def F.srcTxFlowDSTIP : Fld := ⟨0x20080308, 63, 32, 0⟩
/-- SRC_TX_FLOW.UDP_PORT -/
def F.srcTxFlowUDPPORT : Fld := ⟨0x20080308, 31, 16, 0⟩
/-- SRC_TX_FLOW.VLAN -/
def F.srcTxFlowVLAN : Fld := ⟨0x20080308, 11, 0, 0⟩
/-- CMP_LFk_WEIR.WEIR -/
def F.cmpLfWeirWEIR : Fld := ⟨0x20100400, 23, 20, 8⟩
/-- CMP_LFk_WEIR.WEIR_CRIT -/
def F.cmpLfWeirWEIRCRIT : Fld := ⟨0x20100400, 19, 16, 2⟩
/-- CMP_LFk_WEIR.CRIT_COUNT -/
def F.cmpLfWeirCRITCOUNT : Fld := ⟨0x20100400, 15, 0, 0⟩
/-- CMP_LFk_STAT.LEVEL -/
def F.cmpLfStatLEVEL : Fld := ⟨0x20100408, 31, 30, 0⟩
/-- CMP_LFk_STAT.FILL -/
def F.cmpLfStatFILL : Fld := ⟨0x20100408, 29, 14, 0⟩
/-- CMP_LFk_STAT.BUF -/
def F.cmpLfStatBUF : Fld := ⟨0x20100408, 13, 12, 0⟩
/-- CMP_LFk_STAT.HANDLE -/
def F.cmpLfStatHANDLE : Fld := ⟨0x20100408, 9, 0, 0⟩
/-- CMP_CTRL.EN -/
def F.cmpCtrlEN : Fld := ⟨0x20100000, 31, 31, 0⟩
/-- CMP_CTRL.WARP_EN -/
def F.cmpCtrlWARPEN : Fld := ⟨0x20100000, 30, 30, 0⟩
/-- CMP_CTRL.LIST_SRC -/
def F.cmpCtrlLISTSRC : Fld := ⟨0x20100000, 29, 29, 0⟩
/-- CMP_CTRL.HOLD_MAX -/
def F.cmpCtrlHOLDMAX : Fld := ⟨0x20100000, 23, 20, 2⟩
/-- CMP_CTRL.LIST_QUEUE -/
def F.cmpCtrlLISTQUEUE : Fld := ⟨0x20100000, 9, 0, 0⟩
/-- CMP_LIST_ADDR.VA -/
def F.cmpListAddrVA : Fld := ⟨0x20100008, 47, 0, 0⟩
/-- CMP_MESH_ADDR.VA -/
def F.cmpMeshAddrVA : Fld := ⟨0x20100010, 47, 0, 0⟩
/-- CMP_XFER_ADDR.VA -/
def F.cmpXferAddrVA : Fld := ⟨0x20100018, 47, 0, 0⟩
/-- CMP_MATm_ROWr.POST -/
def F.cmpMatRowPOST : Fld := ⟨0x20101000, 63, 48, 0⟩
/-- CMP_MATm_ROWr.C2 -/
def F.cmpMatRowC2 : Fld := ⟨0x20101000, 47, 32, 0⟩
/-- CMP_MATm_ROWr.C1 -/
def F.cmpMatRowC1 : Fld := ⟨0x20101000, 31, 16, 0⟩
/-- CMP_MATm_ROWr.C0 -/
def F.cmpMatRowC0 : Fld := ⟨0x20101000, 15, 0, 0⟩
/-- CMP_MATm_PRE.PRE2 -/
def F.cmpMatPrePRE2 : Fld := ⟨0x20101018, 47, 32, 0⟩
/-- CMP_MATm_PRE.PRE1 -/
def F.cmpMatPrePRE1 : Fld := ⟨0x20101018, 31, 16, 0⟩
/-- CMP_MATm_PRE.PRE0 -/
def F.cmpMatPrePRE0 : Fld := ⟨0x20101018, 15, 0, 0⟩
/-- CMP_ZONEz_RECT.EN -/
def F.cmpZoneRectEN : Fld := ⟨0x20102000, 63, 63, 0⟩
/-- CMP_ZONEz_RECT.KEEP_OUT -/
def F.cmpZoneRectKEEPOUT : Fld := ⟨0x20102000, 62, 62, 0⟩
/-- CMP_ZONEz_RECT.Y1 -/
def F.cmpZoneRectY1 : Fld := ⟨0x20102000, 57, 48, 0⟩
/-- CMP_ZONEz_RECT.X1 -/
def F.cmpZoneRectX1 : Fld := ⟨0x20102000, 41, 32, 0⟩
/-- CMP_ZONEz_RECT.Y0 -/
def F.cmpZoneRectY0 : Fld := ⟨0x20102000, 25, 16, 0⟩
/-- CMP_ZONEz_RECT.X0 -/
def F.cmpZoneRectX0 : Fld := ⟨0x20102000, 9, 0, 0⟩
/-- CMP_ZONEz_CLAMP.BLUE -/
def F.cmpZoneClampBLUE : Fld := ⟨0x20102008, 47, 32, 0⟩
/-- CMP_ZONEz_CLAMP.GREEN -/
def F.cmpZoneClampGREEN : Fld := ⟨0x20102008, 31, 16, 0⟩
/-- CMP_ZONEz_CLAMP.RED -/
def F.cmpZoneClampRED : Fld := ⟨0x20102008, 15, 0, 0⟩
/-- CMP_WB_CFG.EN -/
def F.cmpWbCfgEN : Fld := ⟨0x20100020, 31, 31, 0⟩
/-- CMP_WB_CFG.QUARTER -/
def F.cmpWbCfgQUARTER : Fld := ⟨0x20100020, 30, 30, 0⟩
/-- CMP_WB_CFG.MAT_EN -/
def F.cmpWbCfgMATEN : Fld := ⟨0x20100020, 29, 29, 0⟩
/-- CMP_WB_CFG.XFER_EN -/
def F.cmpWbCfgXFEREN : Fld := ⟨0x20100020, 28, 28, 0⟩
/-- CMP_WB_CFG.MAT -/
def F.cmpWbCfgMAT : Fld := ⟨0x20100020, 27, 24, 0⟩
/-- CMP_WB_CFG.XFER -/
def F.cmpWbCfgXFER : Fld := ⟨0x20100020, 23, 21, 0⟩
/-- CMP_WB_CFG.HANDLE -/
def F.cmpWbCfgHANDLE : Fld := ⟨0x20100020, 9, 0, 0⟩
/-- CMP_LYk_COND.COND -/
def F.cmpLyCondCOND : Fld := ⟨0x20100410, 31, 29, 0⟩
/-- CMP_LYk_COND.HOLDS -/
def F.cmpLyCondHOLDS : Fld := ⟨0x20100410, 28, 25, 0⟩
/-- CMP_LYk_COND.FAULT_LINE -/
def F.cmpLyCondFAULTLINE : Fld := ⟨0x20100410, 9, 0, 0⟩
/-- CMP_LIST_STAT.TAG -/
def F.cmpListStatTAG : Fld := ⟨0x20100028, 63, 48, 0⟩
/-- CMP_LIST_STAT.REPEATS -/
def F.cmpListStatREPEATS : Fld := ⟨0x20100028, 47, 32, 0⟩
/-- CMP_LIST_STAT.WB_DROPS -/
def F.cmpListStatWBDROPS : Fld := ⟨0x20100028, 31, 16, 0⟩
/-- CMP_LIST_STAT.NLAYERS -/
def F.cmpListStatNLAYERS : Fld := ⟨0x20100028, 15, 12, 0⟩
/-- CMP_LIST_STAT.BLANK -/
def F.cmpListStatBLANK : Fld := ⟨0x20100028, 7, 0, 0⟩
/-- COR_CTRL.EN -/
def F.corCtrlEN : Fld := ⟨0x20200000, 31, 31, 0⟩
/-- COR_CTRL.WEAR_EN -/
def F.corCtrlWEAREN : Fld := ⟨0x20200000, 30, 30, 1⟩
/-- COR_CTRL.CKPT_MIN -/
def F.corCtrlCKPTMIN : Fld := ⟨0x20200000, 21, 16, 0xa⟩
/-- COR_CTRL.WEAR_GAIN_MAX -/
def F.corCtrlWEARGAINMAX : Fld := ⟨0x20200000, 15, 0, 0x5000⟩
/-- COR_CAL_VA.VA -/
def F.corCalVaVA : Fld := ⟨0x20200008, 63, 0, 0⟩
/-- COR_WGAIN_VA.VA -/
def F.corWgainVaVA : Fld := ⟨0x20200010, 63, 0, 0⟩
/-- COR_DOSE_VA.VA -/
def F.corDoseVaVA : Fld := ⟨0x20200018, 63, 0, 0⟩
/-- COR_CADDR.VA -/
def F.corCaddrVA : Fld := ⟨0x20200040, 63, 0, 0⟩
/-- COR_CADDR2.VA -/
def F.corCaddr2VA : Fld := ⟨0x20200048, 63, 0, 0⟩
/-- COR_CART_CALGT.GT -/
def F.corCartCalgtGT : Fld := ⟨0x20200030, 63, 0, 0⟩
/-- COR_UNDERRUN.N -/
def F.corUnderrunN : Fld := ⟨0x20200058, 31, 0, 0⟩
/-- COR_CMD.STATE -/
def F.corCmdSTATE : Fld := ⟨0x20200050, 25, 24, 0⟩
/-- COR_CMD.RESULT -/
def F.corCmdRESULT : Fld := ⟨0x20200050, 23, 16, 0⟩
/-- COR_CART_STAT.INFORCE_ID -/
def F.corCartStatINFORCEID : Fld := ⟨0x20200020, 63, 32, 0⟩
/-- COR_CART_STAT.STATE -/
def F.corCartStatSTATE : Fld := ⟨0x20200020, 31, 29, 0⟩
/-- COR_CART_STAT.AUTH -/
def F.corCartStatAUTH : Fld := ⟨0x20200020, 28, 27, 0⟩
/-- COR_CART_STAT.CAL_VALID -/
def F.corCartStatCALVALID : Fld := ⟨0x20200020, 26, 26, 0⟩
/-- COR_CART_STAT.UNCLEAN -/
def F.corCartStatUNCLEAN : Fld := ⟨0x20200020, 15, 0, 0⟩
/-- COR_CART_CAL.CAL_SET_ID -/
def F.corCartCalCALSETID : Fld := ⟨0x20200028, 63, 32, 0⟩
/-- COR_CART_CAL.CAL_COUNT -/
def F.corCartCalCALCOUNT : Fld := ⟨0x20200028, 31, 0, 0⟩
/-- COR_LIFE_SUM.HOURS_MIN -/
def F.corLifeSumHOURSMIN : Fld := ⟨0x20200060, 63, 32, 0⟩
/-- COR_LIFE_SUM.VALID -/
def F.corLifeSumVALID : Fld := ⟨0x20200060, 31, 31, 0⟩
/-- COR_LIFE_SUM.NL80_TOTAL -/
def F.corLifeSumNL80TOTAL : Fld := ⟨0x20200060, 21, 0, 0⟩
/-- COR_LIFE_ADDR.LOCK -/
def F.corLifeAddrLOCK : Fld := ⟨0x20200068, 31, 31, 0⟩
/-- COR_LIFE_ADDR.OFFSET -/
def F.corLifeAddrOFFSET : Fld := ⟨0x20200068, 21, 15, 8⟩
/-- TE_CTRL.EN -/
def F.teCtrlEN : Fld := ⟨0x21000000, 31, 31, 0⟩
/-- TE_CTRL.ENTRY -/
def F.teCtrlENTRY : Fld := ⟨0x21000000, 6, 0, 0⟩
/-- TE_STAT.BUF -/
def F.teStatBUF : Fld := ⟨0x21000008, 63, 63, 0⟩
/-- TE_STAT.EN_F -/
def F.teStatENF : Fld := ⟨0x21000008, 62, 62, 0⟩
/-- TE_STAT.CEIL -/
def F.teStatCEIL : Fld := ⟨0x21000008, 61, 61, 0⟩
/-- TE_STAT.CE_COUNT -/
def F.teStatCECOUNT : Fld := ⟨0x21000008, 47, 32, 0⟩
/-- TE_STAT.SLOT_MISS -/
def F.teStatSLOTMISS : Fld := ⟨0x21000008, 31, 16, 0⟩
/-- TE_STAT.ROW_REPEAT -/
def F.teStatROWREPEAT : Fld := ⟨0x21000008, 15, 8, 0⟩
/-- TE_STAT.OVERRUN -/
def F.teStatOVERRUN : Fld := ⟨0x21000008, 7, 0, 0⟩
/-- TE_ORDERr.ROW0 -/
def F.teOrderROW0 : Fld := ⟨0x21000100, 5, 0, 0⟩
/-- TE_ORDERr.ROW1 -/
def F.teOrderROW1 : Fld := ⟨0x21000100, 13, 8, 0⟩
/-- TE_ORDERr.ROW2 -/
def F.teOrderROW2 : Fld := ⟨0x21000100, 21, 16, 0⟩
/-- TE_ORDERr.ROW3 -/
def F.teOrderROW3 : Fld := ⟨0x21000100, 29, 24, 0⟩
/-- TE_ORDERr.ROW4 -/
def F.teOrderROW4 : Fld := ⟨0x21000100, 37, 32, 0⟩
/-- TE_ORDERr.ROW5 -/
def F.teOrderROW5 : Fld := ⟨0x21000100, 45, 40, 0⟩
/-- TE_ORDERr.ROW6 -/
def F.teOrderROW6 : Fld := ⟨0x21000100, 53, 48, 0⟩
/-- TE_ORDERr.ROW7 -/
def F.teOrderROW7 : Fld := ⟨0x21000100, 61, 56, 0⟩
/-- TE_SCRAM.ROT -/
def F.teScramROT : Fld := ⟨0x21000140, 13, 8, 0⟩
/-- TE_SCRAM.XMASK -/
def F.teScramXMASK : Fld := ⟨0x21000140, 5, 0, 0⟩
/-- TE_PSETm.VPC_B -/
def F.tePsetVPCB : Fld := ⟨0x21000180, 55, 48, 0⟩
/-- TE_PSETm.VPC_G -/
def F.tePsetVPCG : Fld := ⟨0x21000180, 47, 40, 0⟩
/-- TE_PSETm.VPC_R -/
def F.tePsetVPCR : Fld := ⟨0x21000180, 39, 32, 0⟩
/-- TE_PSETm.PRE4 -/
def F.tePsetPRE4 : Fld := ⟨0x21000180, 15, 8, 0⟩
/-- TE_PSETm.GAP4 -/
def F.tePsetGAP4 : Fld := ⟨0x21000180, 7, 0, 0x20⟩
/-- TE_PROGw.INSN -/
def F.teProgINSN : Fld := ⟨0x21000400, 31, 0, 0⟩
/-- TE_SCAN_CFG.REFRESH -/
def F.teScanCfgREFRESH : Fld := ⟨0x21007000, 1, 0, 1⟩
/-- TE_SCAN_STAT.M -/
def F.teScanStatM : Fld := ⟨0x21007008, 63, 54, 0⟩
/-- TE_SCAN_STAT.LD -/
def F.teScanStatLD : Fld := ⟨0x21007008, 53, 46, 0⟩
/-- TE_SCAN_STAT.REFRESH_F -/
def F.teScanStatREFRESHF : Fld := ⟨0x21007008, 45, 44, 1⟩
/-- TE_SCAN_STAT.BLANKED -/
def F.teScanStatBLANKED : Fld := ⟨0x21007008, 43, 43, 0⟩
/-- TE_SCAN_STAT.SLOT_CYC -/
def F.teScanStatSLOTCYC : Fld := ⟨0x21007008, 28, 16, 0⟩
/-- TE_SCAN_STAT.REFUSE_TE -/
def F.teScanStatREFUSETE : Fld := ⟨0x21007008, 14, 7, 0⟩
/-- TE_SCAN_STAT.RC -/
def F.teScanStatRC : Fld := ⟨0x21007008, 6, 0, 0⟩
/-- TE_CEILg.THM -/
def F.teCeilTHM : Fld := ⟨0x21007040, 31, 31, 0⟩
/-- TE_CEILg.ROOK -/
def F.teCeilROOK : Fld := ⟨0x21007040, 30, 30, 0⟩
/-- TE_CEILg.CEIL -/
def F.teCeilCEIL : Fld := ⟨0x21007040, 15, 0, 0xffff⟩
/-- EP_PSTAT.STATE -/
def F.epPstatSTATE : Fld := ⟨0x22000008, 63, 60, 0⟩
/-- EP_PSTAT.RATE -/
def F.epPstatRATE : Fld := ⟨0x22000008, 59, 58, 0⟩
/-- EP_PSTAT.CAP_RATE -/
def F.epPstatCAPRATE : Fld := ⟨0x22000008, 57, 56, 0⟩
/-- EP_PSTAT.CAP_VALID -/
def F.epPstatCAPVALID : Fld := ⟨0x22000008, 55, 55, 0⟩
/-- EP_PSTAT.FALLBACK -/
def F.epPstatFALLBACK : Fld := ⟨0x22000008, 54, 54, 0⟩
/-- EP_PSTAT.FAULT_POS -/
def F.epPstatFAULTPOS : Fld := ⟨0x22000008, 53, 51, 0⟩
/-- EP_PSTAT.FAULT_CODE -/
def F.epPstatFAULTCODE : Fld := ⟨0x22000008, 50, 48, 0⟩
/-- EP_PSTAT.SLOT_CYC -/
def F.epPstatSLOTCYC : Fld := ⟨0x22000008, 47, 35, 0⟩
/-- EP_ERRCNT.FWD_CRC -/
def F.epErrcntFWDCRC : Fld := ⟨0x22000010, 63, 48, 0⟩
/-- EP_ERRCNT.RET_CRC -/
def F.epErrcntRETCRC : Fld := ⟨0x22000010, 47, 32, 0⟩
/-- EP_ERRCNT.RET_LOST -/
def F.epErrcntRETLOST : Fld := ⟨0x22000010, 31, 16, 0⟩
/-- EP_ERRCNT.FALLBACKS -/
def F.epErrcntFALLBACKS : Fld := ⟨0x22000010, 15, 0, 0⟩
/-- EP_PRBS.WORDS -/
def F.epPrbsWORDS : Fld := ⟨0x22000018, 63, 32, 0⟩
/-- EP_PRBS.ERRORS -/
def F.epPrbsERRORS : Fld := ⟨0x22000018, 31, 0, 0⟩
/-- EP_LIMIT.ERR_MAX -/
def F.epLimitERRMAX : Fld := ⟨0x22000020, 7, 0, 0x20⟩
/-- EP_EQ.TX_DEEMPH -/
def F.epEqTXDEEMPH : Fld := ⟨0x22000028, 15, 12, 4⟩
/-- EP_EQ.RX_CTLE -/
def F.epEqRXCTLE : Fld := ⟨0x22000028, 11, 8, 4⟩
/-- EP_EQ.BP_TXEQ -/
def F.epEqBPTXEQ : Fld := ⟨0x22000028, 7, 4, 4⟩
/-- EP_EQ.BP_RXEQ -/
def F.epEqBPRXEQ : Fld := ⟨0x22000028, 3, 0, 4⟩
/-- EP_CAPr.CAP -/
def F.epCapCAP : Fld := ⟨0x22000040, 63, 0, 0⟩
/-- EP_RATE.RATE -/
def F.epRateRATE : Fld := ⟨0x22000800, 1, 0, 2⟩
/-- EP_REFCLK.OUT_EN -/
def F.epRefclkOUTEN : Fld := ⟨0x22000808, 31, 31, 1⟩
/-- EP_REFCLK.SPREAD_EN -/
def F.epRefclkSPREADEN : Fld := ⟨0x22000808, 30, 30, 0⟩
/-- EP_REFCLK.SPREAD -/
def F.epRefclkSPREAD : Fld := ⟨0x22000808, 5, 0, 0⟩
/-- RIL_STAT.DONE -/
def F.rilStatDONE : Fld := ⟨0x22020008, 63, 32, 0⟩
/-- RIL_STAT.BUSY -/
def F.rilStatBUSY : Fld := ⟨0x22020008, 31, 0, 0⟩
/-- RIL_TRIMn.IREF_B -/
def F.rilTrimIREFB : Fld := ⟨0x22020100, 35, 24, 0x800⟩
/-- RIL_TRIMn.IREF_G -/
def F.rilTrimIREFG : Fld := ⟨0x22020100, 23, 12, 0x800⟩
/-- RIL_TRIMn.IREF_R -/
def F.rilTrimIREFR : Fld := ⟨0x22020100, 11, 0, 0x800⟩
/-- DIAG_CTRL.EN -/
def F.diagCtrlEN : Fld := ⟨0x20300000, 31, 31, 0⟩
/-- DIAG_CTRL.DARK_AUDIT -/
def F.diagCtrlDARKAUDIT : Fld := ⟨0x20300000, 30, 30, 0⟩
/-- DIAG_CTRL.AUDIT_LOG2 -/
def F.diagCtrlAUDITLOG2 : Fld := ⟨0x20300000, 19, 16, 6⟩
/-- DIAG_CTRL.AGE_MAX -/
def F.diagCtrlAGEMAX : Fld := ⟨0x20300000, 11, 0, 0x100⟩
/-- DIAG_THR.LOCK -/
def F.diagThrLOCK : Fld := ⟨0x20300008, 31, 31, 0⟩
/-- DIAG_THR.OPEN_CONFIRM -/
def F.diagThrOPENCONFIRM : Fld := ⟨0x20300008, 15, 12, 3⟩
/-- DIAG_THR.SHORT_CONFIRM -/
def F.diagThrSHORTCONFIRM : Fld := ⟨0x20300008, 11, 8, 3⟩
/-- DIAG_THR.STUCK_CONFIRM -/
def F.diagThrSTUCKCONFIRM : Fld := ⟨0x20300008, 1, 0, 2⟩
/-- DIAG_MAP_VA.VA -/
def F.diagMapVaVA : Fld := ⟨0x20300010, 63, 0, 0⟩
/-- DIAG_MASK_VA.VA -/
def F.diagMaskVaVA : Fld := ⟨0x20300018, 63, 0, 0⟩
/-- DIAG_EVQ.EN -/
def F.diagEvqEN : Fld := ⟨0x20300020, 31, 31, 0⟩
/-- DIAG_EVQ.QUEUE -/
def F.diagEvqQUEUE : Fld := ⟨0x20300020, 9, 0, 0⟩
/-- DIAG_CMD.STATE -/
def F.diagCmdSTATE : Fld := ⟨0x20300028, 59, 58, 0⟩
/-- DIAG_CMD.RESULT -/
def F.diagCmdRESULT : Fld := ⟨0x20300028, 55, 48, 0⟩
/-- DIAG_CNTs.COUNT -/
def F.diagCntCOUNT : Fld := ⟨0x20300030, 21, 0, 0⟩
/-- DIAG_STAT.SENSE_BAD -/
def F.diagStatSENSEBAD : Fld := ⟨0x20300060, 63, 48, 0⟩
/-- DIAG_STAT.EVQ_LOST -/
def F.diagStatEVQLOST : Fld := ⟨0x20300060, 47, 32, 0⟩
/-- DIAG_STAT.DEBT_DROP -/
def F.diagStatDEBTDROP : Fld := ⟨0x20300060, 31, 16, 0⟩
/-- DIAG_STAT.OVF -/
def F.diagStatOVF : Fld := ⟨0x20300060, 15, 15, 0⟩
/-- DIAG_STAT.EVID_DROP -/
def F.diagStatEVIDDROP : Fld := ⟨0x20300060, 14, 8, 0⟩
/-- DIAG_STAT.GROUPS -/
def F.diagStatGROUPS : Fld := ⟨0x20300060, 7, 0, 0⟩
/-- DIAG_STKi.VALID -/
def F.diagStkVALID : Fld := ⟨0x20301000, 31, 31, 0⟩
/-- DIAG_STKi.KO -/
def F.diagStkKO : Fld := ⟨0x20301000, 30, 30, 0⟩
/-- DIAG_STKi.TILE -/
def F.diagStkTILE : Fld := ⟨0x20301000, 21, 14, 0⟩
/-- DIAG_STKi.PRIM -/
def F.diagStkPRIM : Fld := ⟨0x20301000, 13, 12, 0⟩
/-- DIAG_STKi.YL -/
def F.diagStkYL : Fld := ⟨0x20301000, 11, 6, 0⟩
/-- DIAG_STKi.XL -/
def F.diagStkXL : Fld := ⟨0x20301000, 5, 0, 0⟩
/-- RAIL_CTRL.EN -/
def F.railCtrlEN : Fld := ⟨0x23000000, 31, 31, 0⟩
/-- RAIL_CTRL.LOCK -/
def F.railCtrlLOCK : Fld := ⟨0x23000000, 30, 30, 0⟩
/-- RAIL_CTRL.PH_INST -/
def F.railCtrlPHINST : Fld := ⟨0x23000000, 3, 0, 0⟩
/-- RAIL_VLIM.V_IDLE -/
def F.railVlimVIDLE : Fld := ⟨0x23000008, 47, 32, 0x7d0⟩
/-- RAIL_VLIM.V_MAX -/
def F.railVlimVMAX : Fld := ⟨0x23000008, 31, 16, 0xfa0⟩
/-- RAIL_VLIM.V_MIN -/
def F.railVlimVMIN : Fld := ⟨0x23000008, 15, 0, 0x7d0⟩
/-- RAIL_MODEL.IU -/
def F.railModelIU : Fld := ⟨0x23000010, 63, 48, 0⟩
/-- RAIL_MODEL.TC -/
def F.railModelTC : Fld := ⟨0x23000010, 47, 32, 0⟩
/-- RAIL_MODEL.RD -/
def F.railModelRD : Fld := ⟨0x23000010, 31, 24, 0⟩
/-- RAIL_MODEL.KS -/
def F.railModelKS : Fld := ⟨0x23000010, 23, 16, 0⟩
/-- RAIL_MODEL.V0 -/
def F.railModelV0 : Fld := ⟨0x23000010, 15, 0, 0⟩
/-- RAIL_SLEW.SLEW_UP -/
def F.railSlewSLEWUP : Fld := ⟨0x23000018, 15, 8, 0xa⟩
/-- RAIL_SLEW.SLEW_DN -/
def F.railSlewSLEWDN : Fld := ⟨0x23000018, 7, 0, 5⟩
/-- RAIL_LOOP.KD -/
def F.railLoopKD : Fld := ⟨0x23000020, 63, 48, 0x400⟩
/-- RAIL_LOOP.KI -/
def F.railLoopKI : Fld := ⟨0x23000020, 47, 32, 0x40⟩
/-- RAIL_LOOP.KP -/
def F.railLoopKP : Fld := ⟨0x23000020, 31, 16, 0x800⟩
/-- RAIL_LOOP.FSW -/
def F.railLoopFSW : Fld := ⟨0x23000020, 10, 0, 0x320⟩
/-- RAIL_PROT.OV_MARGIN -/
def F.railProtOVMARGIN : Fld := ⟨0x23000028, 31, 24, 0x14⟩
/-- RAIL_PROT.UV_MARGIN -/
def F.railProtUVMARGIN : Fld := ⟨0x23000028, 23, 16, 0xf⟩
/-- RAIL_PROT.IPH_LIM -/
def F.railProtIPHLIM : Fld := ⟨0x23000028, 15, 8, 0x3c⟩
/-- RAIL_PROT.SHED -/
def F.railProtSHED : Fld := ⟨0x23000028, 7, 0, 0x19⟩
/-- RAIL_STAT.STATE -/
def F.railStatSTATE : Fld := ⟨0x23000030, 63, 61, 0⟩
/-- RAIL_STAT.PH_ACTIVE -/
def F.railStatPHACTIVE : Fld := ⟨0x23000030, 60, 57, 0⟩
/-- RAIL_STAT.NEED_RESTART -/
def F.railStatNEEDRESTART : Fld := ⟨0x23000030, 56, 56, 0⟩
/-- RAIL_STAT.VSENSE -/
def F.railStatVSENSE : Fld := ⟨0x23000030, 47, 32, 0⟩
/-- RAIL_STAT.VTARGET -/
def F.railStatVTARGET : Fld := ⟨0x23000030, 31, 16, 0⟩
/-- RAIL_STAT.IOUT -/
def F.railStatIOUT : Fld := ⟨0x23000030, 15, 0, 0⟩
/-- RAIL_FCST.FRAME -/
def F.railFcstFRAME : Fld := ⟨0x23000038, 63, 48, 0⟩
/-- RAIL_FCST.IPK -/
def F.railFcstIPK : Fld := ⟨0x23000038, 47, 32, 0⟩
/-- RAIL_FCST.SMAX -/
def F.railFcstSMAX : Fld := ⟨0x23000038, 31, 27, 0⟩
/-- RAIL_FCST.NPH -/
def F.railFcstNPH : Fld := ⟨0x23000038, 26, 24, 0⟩
/-- RAIL_FCST.TMIN -/
def F.railFcstTMIN : Fld := ⟨0x23000038, 15, 0, 0⟩
/-- RAIL_CNT.FC_LATE -/
def F.railCntFCLATE : Fld := ⟨0x23000040, 63, 48, 0⟩
/-- RAIL_CNT.ILIM -/
def F.railCntILIM : Fld := ⟨0x23000040, 47, 16, 0⟩
/-- RAIL_PHi.FAILED -/
def F.railPhFAILED : Fld := ⟨0x23000080, 31, 31, 0⟩
/-- RAIL_PHi.ACTIVE -/
def F.railPhACTIVE : Fld := ⟨0x23000080, 30, 30, 0⟩
/-- RAIL_PHi.IPH -/
def F.railPhIPH : Fld := ⟨0x23000080, 15, 0, 0⟩
/-- RAIL_LEAD.LEAD_US -/
def F.railLeadLEADUS : Fld := ⟨0x23000800, 8, 0, 0xc8⟩
/-- THM_CTRL.EN -/
def F.thmCtrlEN : Fld := ⟨0x23100000, 31, 31, 0⟩
/-- THM_CTRL.LOCK -/
def F.thmCtrlLOCK : Fld := ⟨0x23100000, 30, 30, 0⟩
/-- THM_CTRL.HYST -/
def F.thmCtrlHYST : Fld := ⟨0x23100000, 23, 16, 0x20⟩
/-- THM_CTRL.MARGIN -/
def F.thmCtrlMARGIN : Fld := ⟨0x23100000, 15, 8, 0x80⟩
/-- THM_CTRL.HOLD_S -/
def F.thmCtrlHOLDS : Fld := ⟨0x23100000, 7, 0, 0x3c⟩
/-- THM_DERATE.FLOOR -/
def F.thmDerateFLOOR : Fld := ⟨0x23100008, 47, 32, 0x8000⟩
/-- THM_DERATE.SLOPE -/
def F.thmDerateSLOPE : Fld := ⟨0x23100008, 31, 16, 0x51f⟩
/-- THM_DERATE.KNEE -/
def F.thmDerateKNEE : Fld := ⟨0x23100008, 15, 0, 0x410⟩
/-- THM_THROT.RELAX -/
def F.thmThrotRELAX : Fld := ⟨0x23100010, 63, 48, 0xccd⟩
/-- THM_THROT.TMIN -/
def F.thmThrotTMIN : Fld := ⟨0x23100010, 47, 32, 0x2000⟩
/-- THM_THROT.TGAIN -/
def F.thmThrotTGAIN : Fld := ⟨0x23100010, 31, 16, 0xccd⟩
/-- THM_THROT.TILE_TLIM -/
def F.thmThrotTILETLIM : Fld := ⟨0x23100010, 15, 0, 0x550⟩
/-- THM_COLD.COLD_CEIL -/
def F.thmColdCOLDCEIL : Fld := ⟨0x23100018, 31, 16, 0x4000⟩
/-- THM_COLD.COLD_LIM -/
def F.thmColdCOLDLIM : Fld := ⟨0x23100018, 15, 0, 0xff60⟩
/-- THM_DIE.DIE_CRIT -/
def F.thmDieDIECRIT : Fld := ⟨0x23100020, 31, 16, 0x7d0⟩
/-- THM_DIE.DIE_WARN -/
def F.thmDieDIEWARN : Fld := ⟨0x23100020, 15, 0, 0x6e0⟩
/-- THM_STAT.THROTTLE -/
def F.thmStatTHROTTLE : Fld := ⟨0x23100040, 63, 48, 0xffff⟩
/-- THM_STAT.FAST -/
def F.thmStatFAST : Fld := ⟨0x23100040, 47, 47, 0⟩
/-- THM_STAT.FROZEN -/
def F.thmStatFROZEN : Fld := ⟨0x23100040, 46, 46, 0⟩
/-- THM_STAT.COLD -/
def F.thmStatCOLD : Fld := ⟨0x23100040, 45, 38, 0⟩
/-- THM_STAT.OVT -/
def F.thmStatOVT : Fld := ⟨0x23100040, 37, 30, 0⟩
/-- THM_STAT.GOVERNOR -/
def F.thmStatGOVERNOR : Fld := ⟨0x23100040, 24, 16, 0⟩
/-- THM_STAT.HOLD_LEFT -/
def F.thmStatHOLDLEFT : Fld := ⟨0x23100040, 15, 8, 0⟩
/-- THM_STAT.LOST -/
def F.thmStatLOST : Fld := ⟨0x23100040, 7, 0, 0⟩
/-- THM_ESi_CFG.EN -/
def F.thmEsCfgEN : Fld := ⟨0x23100100, 63, 63, 0⟩
/-- THM_ESi_CFG.THROT -/
def F.thmEsCfgTHROT : Fld := ⟨0x23100100, 62, 62, 0⟩
/-- THM_ESi_CFG.GROUPS -/
def F.thmEsCfgGROUPS : Fld := ⟨0x23100100, 55, 48, 0⟩
/-- THM_ESi_CFG.CEIL_VAL -/
def F.thmEsCfgCEILVAL : Fld := ⟨0x23100100, 47, 32, 0xffff⟩
/-- THM_ESi_CFG.CEIL_LIM -/
def F.thmEsCfgCEILLIM : Fld := ⟨0x23100100, 31, 16, 0x7fff⟩
/-- THM_ESi_CFG.TLIM -/
def F.thmEsCfgTLIM : Fld := ⟨0x23100100, 15, 0, 0x7fff⟩
/-- THM_TILEn.SRC -/
def F.thmTileSRC : Fld := ⟨0x23101000, 63, 62, 3⟩
/-- THM_TILEn.DERATE -/
def F.thmTileDERATE : Fld := ⟨0x23101000, 47, 32, 0xffff⟩
/-- THM_TILEn.T -/
def F.thmTileT : Fld := ⟨0x23101000, 15, 0, 0x190⟩
/-- THM_ESi_VAL.SRC -/
def F.thmEsValSRC : Fld := ⟨0x23100200, 63, 62, 3⟩
/-- THM_ESi_VAL.T -/
def F.thmEsValT : Fld := ⟨0x23100200, 15, 0, 0x190⟩
/-- THM_DIEVALj.SRC -/
def F.thmDievalSRC : Fld := ⟨0x23100300, 63, 62, 3⟩
/-- THM_DIEVALj.T -/
def F.thmDievalT : Fld := ⟨0x23100300, 15, 0, 0x190⟩
/-- FAN_CHc_CFG.MODE -/
def F.fanChCfgMODE : Fld := ⟨0x23110000, 31, 30, 0⟩
/-- FAN_CHc_CFG.SRC -/
def F.fanChCfgSRC : Fld := ⟨0x23110000, 29, 21, 0x1ff⟩
/-- FAN_CHc_CFG.DUTY_MAX -/
def F.fanChCfgDUTYMAX : Fld := ⟨0x23110000, 20, 14, 0x64⟩
/-- FAN_CHc_CFG.DUTY_MIN -/
def F.fanChCfgDUTYMIN : Fld := ⟨0x23110000, 13, 7, 0x1e⟩
/-- FAN_CHc_CFG.STALL_RPM -/
def F.fanChCfgSTALLRPM : Fld := ⟨0x23110000, 6, 0, 0x14⟩
/-- FAN_CHc_CURVE.GROUPS -/
def F.fanChCurveGROUPS : Fld := ⟨0x23110008, 63, 56, 0⟩
/-- FAN_CHc_CURVE.HEAT_DUTY -/
def F.fanChCurveHEATDUTY : Fld := ⟨0x23110008, 55, 48, 0⟩
/-- FAN_CHc_CURVE.T_HI -/
def F.fanChCurveTHI : Fld := ⟨0x23110008, 31, 16, 0x3c0⟩
/-- FAN_CHc_CURVE.T_LO -/
def F.fanChCurveTLO : Fld := ⟨0x23110008, 15, 0, 0x1e0⟩
/-- FAN_CHc_STAT.RPM -/
def F.fanChStatRPM : Fld := ⟨0x23110010, 31, 16, 0⟩
/-- FAN_CHc_STAT.DUTY -/
def F.fanChStatDUTY : Fld := ⟨0x23110010, 15, 8, 0⟩
/-- FAN_CHc_STAT.STALL -/
def F.fanChStatSTALL : Fld := ⟨0x23110010, 7, 7, 0⟩
/-- ROOK_ADDR.ADDR -/
def F.rookAddrADDR : Fld := ⟨0x24000008, 39, 6, 0⟩
/-- ROOK_RES.STATE -/
def F.rookResSTATE : Fld := ⟨0x24000010, 63, 62, 0⟩
/-- ROOK_RES.RESULT -/
def F.rookResRESULT : Fld := ⟨0x24000010, 55, 48, 0⟩
/-- ROOK_RES.SEQ -/
def F.rookResSEQ : Fld := ⟨0x24000010, 47, 32, 0⟩
/-- ROOK_STAT.STATE -/
def F.rookStatSTATE : Fld := ⟨0x24000018, 63, 61, 0⟩
/-- ROOK_STAT.LOCKED -/
def F.rookStatLOCKED : Fld := ⟨0x24000018, 60, 60, 0⟩
/-- ROOK_STAT.DEFAULT -/
def F.rookStatDEFAULT : Fld := ⟨0x24000018, 59, 59, 0⟩
/-- ROOK_STAT.ZONESET -/
def F.rookStatZONESET : Fld := ⟨0x24000018, 58, 56, 0⟩
/-- ROOK_STAT.CLOSED -/
def F.rookStatCLOSED : Fld := ⟨0x24000018, 55, 48, 0⟩
/-- ROOK_STAT.CAPPED -/
def F.rookStatCAPPED : Fld := ⟨0x24000018, 47, 40, 0⟩
/-- ROOK_STAT.HELD -/
def F.rookStatHELD : Fld := ⟨0x24000018, 39, 32, 0⟩
/-- ROOK_STAT.EG_LEFT -/
def F.rookStatEGLEFT : Fld := ⟨0x24000018, 31, 16, 0⟩
/-- ROOK_IN.DEMAND -/
def F.rookInDEMAND : Fld := ⟨0x24000020, 31, 28, 0⟩
/-- ROOK_IN.FAULT -/
def F.rookInFAULT : Fld := ⟨0x24000020, 27, 24, 0⟩
/-- ROOK_IN.TH_SAT -/
def F.rookInTHSAT : Fld := ⟨0x24000020, 23, 23, 0⟩
/-- ROOK_CAUSEg.CAUSE -/
def F.rookCauseCAUSE : Fld := ⟨0x24000040, 11, 0, 0x401⟩
/-- ROOK_DIGESTi.D -/
def F.rookDigestD : Fld := ⟨0x24000080, 63, 0, 0⟩
/-- CHN_PORTc_CFG.EN -/
def F.chnPortCfgEN : Fld := ⟨0x25000000, 31, 31, 0⟩
/-- CHN_PORTc_CFG.RATE -/
def F.chnPortCfgRATE : Fld := ⟨0x25000000, 30, 29, 2⟩
/-- CHN_PORTc_CFG.FEC -/
def F.chnPortCfgFEC : Fld := ⟨0x25000000, 28, 28, 1⟩
/-- CHN_PORTc_CFG.LINK -/
def F.chnPortCfgLINK : Fld := ⟨0x25000000, 27, 26, 0⟩
/-- CHN_PORTc_CFG.MOD -/
def F.chnPortCfgMOD : Fld := ⟨0x25000000, 25, 25, 0⟩
/-- PTP_GT_LO.LO -/
def F.ptpGtLoLO : Fld := ⟨0x25100000, 31, 0, 0⟩
/-- PTP_GT_HI.HI -/
def F.ptpGtHiHI : Fld := ⟨0x25100004, 31, 0, 0⟩
/-- PTP_FRAME_EPOCH.EPOCH -/
def F.ptpFrameEpochEPOCH : Fld := ⟨0x25100018, 63, 0, 0⟩
/-- PTP_FRAME_PERIOD.PERIOD -/
def F.ptpFramePeriodPERIOD : Fld := ⟨0x25100020, 47, 0, 0x7f28155555⟩
/-- PTP_FRAME_NUM.N -/
def F.ptpFrameNumN : Fld := ⟨0x25100028, 47, 0, 0⟩
/-- PTP_REBASEi.V -/
def F.ptpRebaseV : Fld := ⟨0x25100300, 63, 0, 0⟩
/-- PTP_CTRL.TL_EN -/
def F.ptpCtrlTLEN : Fld := ⟨0x25100010, 31, 31, 0⟩
/-- PTP_CTRL.CASTLE_AUTO -/
def F.ptpCtrlCASTLEAUTO : Fld := ⟨0x25100010, 28, 28, 1⟩
/-- PTP_CTRL.ACTIVE -/
def F.ptpCtrlACTIVE : Fld := ⟨0x25100010, 27, 27, 0⟩
/-- PTP_CTRL.GT_STATE -/
def F.ptpCtrlGTSTATE : Fld := ⟨0x25100010, 26, 25, 0⟩
/-- PTP_CTRL.STEP_THR -/
def F.ptpCtrlSTEPTHR : Fld := ⟨0x25100010, 16, 0, 0x3e8⟩
/-- PTP_DOMd_CFG.EN -/
def F.ptpDomCfgEN : Fld := ⟨0x25100100, 31, 31, 0⟩
/-- PTP_DOMd_CFG.PROFILE -/
def F.ptpDomCfgPROFILE : Fld := ⟨0x25100100, 30, 30, 0⟩
/-- PTP_DOMd_CFG.P2P -/
def F.ptpDomCfgP2P : Fld := ⟨0x25100100, 29, 29, 0⟩
/-- PTP_DOMd_CFG.UDP -/
def F.ptpDomCfgUDP : Fld := ⟨0x25100100, 28, 28, 0⟩
/-- PTP_DOMd_CFG.TWO_STEP -/
def F.ptpDomCfgTWOSTEP : Fld := ⟨0x25100100, 27, 27, 0⟩
/-- PTP_DOMd_CFG.MASTER_EN -/
def F.ptpDomCfgMASTEREN : Fld := ⟨0x25100100, 26, 26, 0⟩
/-- PTP_DOMd_CFG.PRIORITY1 -/
def F.ptpDomCfgPRIORITY1 : Fld := ⟨0x25100100, 23, 16, 0xff⟩
/-- PTP_DOMd_CFG.PRIORITY2 -/
def F.ptpDomCfgPRIORITY2 : Fld := ⟨0x25100100, 15, 8, 0xff⟩
/-- PTP_DOMd_CFG.DOMAIN -/
def F.ptpDomCfgDOMAIN : Fld := ⟨0x25100100, 7, 0, 0⟩
/-- PTP_DOMd_SERVO.KP -/
def F.ptpDomServoKP : Fld := ⟨0x25100108, 31, 16, 0x8000⟩
/-- PTP_DOMd_SERVO.KI -/
def F.ptpDomServoKI : Fld := ⟨0x25100108, 15, 0, 0x400⟩
/-- PTP_DOMd_STAT.STATE -/
def F.ptpDomStatSTATE : Fld := ⟨0x25100110, 63, 61, 0⟩
/-- PTP_DOMd_STAT.HELD -/
def F.ptpDomStatHELD : Fld := ⟨0x25100110, 60, 57, 0⟩
/-- PTP_DOMd_STAT.PORT -/
def F.ptpDomStatPORT : Fld := ⟨0x25100110, 56, 56, 0⟩
/-- PTP_DOMd_STAT.DIFF -/
def F.ptpDomStatDIFF : Fld := ⟨0x25100110, 55, 32, 0⟩
/-- PTP_DOMd_STAT.OFFSET -/
def F.ptpDomStatOFFSET : Fld := ⟨0x25100110, 31, 0, 0⟩
/-- PTP_ASYMc.EGR -/
def F.ptpAsymEGR : Fld := ⟨0x25100200, 63, 32, 0⟩
/-- PTP_ASYMc.ING -/
def F.ptpAsymING : Fld := ⟨0x25100200, 31, 0, 0⟩
/-- SAT_CTRL.EN -/
def F.satCtrlEN : Fld := ⟨0x25110000, 31, 31, 0⟩
/-- SAT_Ee_TIME.TIME -/
def F.satETimeTIME : Fld := ⟨0x25110100, 63, 0, 0⟩
/-- SAT_Ee_ARG.ARG -/
def F.satEArgARG : Fld := ⟨0x25110108, 63, 0, 0⟩
/-- SAT_Ee_CTRL.STATE -/
def F.satECtrlSTATE : Fld := ⟨0x25110110, 27, 25, 0⟩
/-- SAT_Ee_CTRL.LATE -/
def F.satECtrlLATE : Fld := ⟨0x25110110, 24, 24, 0⟩
/-- SAT_Ee_CTRL.MISSED -/
def F.satECtrlMISSED : Fld := ⟨0x25110110, 23, 23, 0⟩
/-- SAT_Ee_CTRL.KIND -/
def F.satECtrlKIND : Fld := ⟨0x25110110, 22, 20, 0⟩
/-- SAT_Ee_CTRL.DEF -/
def F.satECtrlDEF : Fld := ⟨0x25110110, 19, 19, 1⟩
/-- SAT_Ee_CTRL.TOL -/
def F.satECtrlTOL : Fld := ⟨0x25110110, 15, 8, 0⟩
/-- SAT_Ee_CTRL.LAMBDA -/
def F.satECtrlLAMBDA : Fld := ⟨0x25110110, 7, 0, 0⟩
/-- CHN_ADDR.VALID -/
def F.chnAddrVALID : Fld := ⟨0x25000800, 31, 31, 0⟩
/-- CHN_ADDR.UPSTREAM -/
def F.chnAddrUPSTREAM : Fld := ⟨0x25000800, 30, 30, 0⟩
/-- CHN_ADDR.ADDR -/
def F.chnAddrADDR : Fld := ⟨0x25000800, 9, 0, 0⟩
/-- CHN_DIGESTi.BYTES -/
def F.chnDigestBYTES : Fld := ⟨0x25000810, 63, 0, 0⟩
/-- CHN_WALK.EPOCH -/
def F.chnWalkEPOCH : Fld := ⟨0x25000820, 63, 32, 0⟩
/-- CHN_WALK.MATCH -/
def F.chnWalkMATCH : Fld := ⟨0x25000820, 31, 31, 0⟩
/-- CHN_WALK.WALKDUP -/
def F.chnWalkWALKDUP : Fld := ⟨0x25000820, 15, 0, 0⟩
/-- CHN_STATUS.PERIOD -/
def F.chnStatusPERIOD : Fld := ⟨0x25000828, 15, 0, 0x3e8⟩
/-- CHN_STATUS_FW.FW -/
def F.chnStatusFwFW : Fld := ⟨0x25000830, 63, 0, 0⟩
/-- CHN_VIDi.EN -/
def F.chnVidEN : Fld := ⟨0x25000900, 31, 31, 0⟩
/-- CHN_VIDi.VID -/
def F.chnVidVID : Fld := ⟨0x25000900, 11, 0, 0⟩
/-- CHN_MCi.EN -/
def F.chnMcEN : Fld := ⟨0x25000a00, 63, 63, 0⟩
/-- CHN_MCi.MAC -/
def F.chnMcMAC : Fld := ⟨0x25000a00, 47, 0, 0⟩
/-- CHN_SACNu.EN -/
def F.chnSacnEN : Fld := ⟨0x25000b00, 31, 31, 0⟩
/-- CHN_SACNu.UNIVERSE -/
def F.chnSacnUNIVERSE : Fld := ⟨0x25000b00, 15, 0, 0⟩
/-- CHN_QUEUES.SACN_EN -/
def F.chnQueuesSACNEN : Fld := ⟨0x25000838, 63, 63, 0⟩
/-- CHN_QUEUES.HOST_EN -/
def F.chnQueuesHOSTEN : Fld := ⟨0x25000838, 62, 62, 0⟩
/-- CHN_QUEUES.TX_EN -/
def F.chnQueuesTXEN : Fld := ⟨0x25000838, 61, 61, 0⟩
/-- CHN_QUEUES.TX -/
def F.chnQueuesTX : Fld := ⟨0x25000838, 41, 32, 0⟩
/-- CHN_QUEUES.HOST -/
def F.chnQueuesHOST : Fld := ⟨0x25000838, 25, 16, 0⟩
/-- CHN_QUEUES.SACN -/
def F.chnQueuesSACN : Fld := ⟨0x25000838, 9, 0, 0⟩
/-- DMX_CFG.EN -/
def F.dmxCfgEN : Fld := ⟨0x27000000, 31, 31, 0⟩
/-- DMX_CFG.MUTED -/
def F.dmxCfgMUTED : Fld := ⟨0x27000000, 30, 30, 0⟩
/-- DMX_CFG.LOSS_MS -/
def F.dmxCfgLOSSMS : Fld := ⟨0x27000000, 29, 16, 0x4e2⟩
/-- DMX_CFG.QUEUE -/
def F.dmxCfgQUEUE : Fld := ⟨0x27000000, 9, 0, 0⟩
/-- DMX_UID.UID -/
def F.dmxUidUID : Fld := ⟨0x27000008, 47, 0, 0⟩
/-- DMX_SLOTSi.SLOTS -/
def F.dmxSlotsSLOTS : Fld := ⟨0x27000100, 63, 0, 0⟩
/-- DMX_RESPi.BYTES -/
def F.dmxRespBYTES : Fld := ⟨0x27000400, 63, 0, 0⟩
/-- DMX_STAT.LOSS -/
def F.dmxStatLOSS : Fld := ⟨0x27000010, 63, 63, 0⟩
/-- DMX_STAT.RESP_BUSY -/
def F.dmxStatRESPBUSY : Fld := ⟨0x27000010, 62, 62, 0⟩
/-- DMX_STAT.SLOTS -/
def F.dmxStatSLOTS : Fld := ⟨0x27000010, 57, 48, 0⟩
/-- DMX_STAT.RDM_LATE -/
def F.dmxStatRDMLATE : Fld := ⟨0x27000010, 47, 40, 0⟩
/-- DMX_STAT.RDM_BAD -/
def F.dmxStatRDMBAD : Fld := ⟨0x27000010, 39, 32, 0⟩
/-- DMX_STAT.PACKETS -/
def F.dmxStatPACKETS : Fld := ⟨0x27000010, 31, 0, 0⟩
/-- DMX_RESP_LEN.LEN -/
def F.dmxRespLenLEN : Fld := ⟨0x27000020, 8, 0, 0⟩
/-- CAN_CLK.KHZ -/
def F.canClkKHZ : Fld := ⟨0x27011000, 16, 0, 0⟩
/-- CAN_PORTn_CTRL.EN -/
def F.canPortCtrlEN : Fld := ⟨0x27010000, 31, 31, 0⟩
/-- CAN_PORTn_CTRL.FD -/
def F.canPortCtrlFD : Fld := ⟨0x27010000, 29, 29, 1⟩
/-- CAN_PORTn_CTRL.LISTEN -/
def F.canPortCtrlLISTEN : Fld := ⟨0x27010000, 28, 28, 0⟩
/-- CAN_PORTn_CTRL.LOOP -/
def F.canPortCtrlLOOP : Fld := ⟨0x27010000, 27, 27, 0⟩
/-- CAN_PORTn_NBT.SJW -/
def F.canPortNbtSJW : Fld := ⟨0x27010008, 31, 25, 3⟩
/-- CAN_PORTn_NBT.TSEG2 -/
def F.canPortNbtTSEG2 : Fld := ⟨0x27010008, 24, 18, 0xf⟩
/-- CAN_PORTn_NBT.TSEG1 -/
def F.canPortNbtTSEG1 : Fld := ⟨0x27010008, 17, 10, 0x3e⟩
/-- CAN_PORTn_NBT.BRP -/
def F.canPortNbtBRP : Fld := ⟨0x27010008, 9, 0, 0⟩
/-- CAN_PORTn_DBT.TDC -/
def F.canPortDbtTDC : Fld := ⟨0x27010010, 31, 31, 1⟩
/-- CAN_PORTn_DBT.TDCO -/
def F.canPortDbtTDCO : Fld := ⟨0x27010010, 30, 24, 8⟩
/-- CAN_PORTn_DBT.DSJW -/
def F.canPortDbtDSJW : Fld := ⟨0x27010010, 23, 20, 1⟩
/-- CAN_PORTn_DBT.DTSEG2 -/
def F.canPortDbtDTSEG2 : Fld := ⟨0x27010010, 19, 16, 3⟩
/-- CAN_PORTn_DBT.DTSEG1 -/
def F.canPortDbtDTSEG1 : Fld := ⟨0x27010010, 15, 11, 0xa⟩
/-- CAN_PORTn_DBT.DBRP -/
def F.canPortDbtDBRP : Fld := ⟨0x27010010, 4, 0, 0⟩
/-- CAN_PORTn_QUEUES.TXQ -/
def F.canPortQueuesTXQ : Fld := ⟨0x27010018, 25, 16, 0⟩
/-- CAN_PORTn_QUEUES.RXQ -/
def F.canPortQueuesRXQ : Fld := ⟨0x27010018, 9, 0, 0⟩
/-- CAN_PORTn_STAT.STATE -/
def F.canPortStatSTATE : Fld := ⟨0x27010020, 63, 62, 3⟩
/-- CAN_PORTn_STAT.RECOVERING -/
def F.canPortStatRECOVERING : Fld := ⟨0x27010020, 61, 61, 0⟩
/-- CAN_PORTn_STAT.TEC -/
def F.canPortStatTEC : Fld := ⟨0x27010020, 55, 48, 0⟩
/-- CAN_PORTn_STAT.REC -/
def F.canPortStatREC : Fld := ⟨0x27010020, 47, 40, 0⟩
/-- CAN_PORTn_STAT.LEC -/
def F.canPortStatLEC : Fld := ⟨0x27010020, 34, 32, 0⟩
/-- CAN_PORTn_STAT.TXD -/
def F.canPortStatTXD : Fld := ⟨0x27010020, 31, 16, 0⟩
/-- CAN_PORTn_STAT.RXD -/
def F.canPortStatRXD : Fld := ⟨0x27010020, 15, 0, 0⟩
/-- CAN_PORTn_CNT.TX_BAD -/
def F.canPortCntTXBAD : Fld := ⟨0x27010028, 63, 48, 0⟩
/-- CAN_PORTn_CNT.RX_LOST -/
def F.canPortCntRXLOST : Fld := ⟨0x27010028, 31, 16, 0⟩
/-- CAN_PORTn_CNT.BUS_OFFS -/
def F.canPortCntBUSOFFS : Fld := ⟨0x27010028, 15, 0, 0⟩
/-- CAN_PORTn_FLTf_ID.EN -/
def F.canPortFltIdEN : Fld := ⟨0x27010100, 31, 31, 0⟩
/-- CAN_PORTn_FLTf_ID.IDE -/
def F.canPortFltIdIDE : Fld := ⟨0x27010100, 30, 30, 0⟩
/-- CAN_PORTn_FLTf_ID.ID -/
def F.canPortFltIdID : Fld := ⟨0x27010100, 28, 0, 0⟩
/-- CAN_PORTn_FLTf_MASK.MASK -/
def F.canPortFltMaskMASK : Fld := ⟨0x27010108, 28, 0, 0⟩
/-- NVM_FL_INFO.SIZE_KIB -/
def F.nvmFlInfoSIZEKIB : Fld := ⟨0x20060000, 47, 24, 0⟩
/-- NVM_FL_INFO.ERASE_LOG2 -/
def F.nvmFlInfoERASELOG2 : Fld := ⟨0x20060000, 23, 16, 0⟩
/-- NVM_FL_INFO.PAGE_LOG2 -/
def F.nvmFlInfoPAGELOG2 : Fld := ⟨0x20060000, 15, 8, 0⟩
/-- NVM_FL_STAT.BUSY -/
def F.nvmFlStatBUSY : Fld := ⟨0x20060008, 63, 63, 0⟩
/-- NVM_FL_STAT.SUSPENDED -/
def F.nvmFlStatSUSPENDED : Fld := ⟨0x20060008, 62, 62, 0⟩
/-- NVM_FL_STAT.ERRORS -/
def F.nvmFlStatERRORS : Fld := ⟨0x20060008, 47, 32, 0⟩
/-- NVM_FL_STAT.ERASES -/
def F.nvmFlStatERASES : Fld := ⟨0x20060008, 31, 0, 0⟩
/-- NVM_MRAM_STAT.CE_COUNT -/
def F.nvmMramStatCECOUNT : Fld := ⟨0x20060010, 63, 32, 0⟩
/-- NVM_MRAM_STAT.UE_COUNT -/
def F.nvmMramStatUECOUNT : Fld := ⟨0x20060010, 31, 16, 0⟩
/-- NVM_MRAM_STAT.OTP_CE -/
def F.nvmMramStatOTPCE : Fld := ⟨0x20060010, 15, 0, 0⟩
/-- UPD_CTRL.EN -/
def F.updCtrlEN : Fld := ⟨0x26000000, 31, 31, 0⟩
/-- UPD_CTRL.FORWARD -/
def F.updCtrlFORWARD : Fld := ⟨0x26000000, 30, 30, 1⟩
/-- UPD_CTRL.TRIAL_BOOTS -/
def F.updCtrlTRIALBOOTS : Fld := ⟨0x26000000, 19, 16, 3⟩
/-- UPD_CTRL.TRIAL_S -/
def F.updCtrlTRIALS : Fld := ⟨0x26000000, 15, 0, 0x12c⟩
/-- UPD_CMD.STATE -/
def F.updCmdSTATE : Fld := ⟨0x26000008, 27, 26, 0⟩
/-- UPD_CMD.RESULT -/
def F.updCmdRESULT : Fld := ⟨0x26000008, 23, 16, 0⟩
/-- UPD_ADDR.ADDR -/
def F.updAddrADDR : Fld := ⟨0x26000010, 39, 0, 0⟩
/-- UPD_LEN.LEN -/
def F.updLenLEN : Fld := ⟨0x26000018, 31, 0, 0⟩
/-- UPD_HASHi.H -/
def F.updHashH : Fld := ⟨0x26000080, 63, 0, 0⟩
/-- UPD_SESS.SRC -/
def F.updSessSRC : Fld := ⟨0x26000020, 63, 62, 0⟩
/-- UPD_SESS.FWD -/
def F.updSessFWD : Fld := ⟨0x26000020, 61, 60, 0⟩
/-- UPD_SESS.LAST_CODE -/
def F.updSessLASTCODE : Fld := ⟨0x26000020, 55, 48, 0⟩
/-- UPD_SESS.NEXT -/
def F.updSessNEXT : Fld := ⟨0x26000020, 47, 32, 0⟩
/-- UPD_SESS.NBLOCKS -/
def F.updSessNBLOCKS : Fld := ⟨0x26000020, 31, 16, 0⟩
/-- UPD_SESS.CRC_RETRY -/
def F.updSessCRCRETRY : Fld := ⟨0x26000020, 15, 0, 0⟩
/-- UPD_BANKb.STATE -/
def F.updBankSTATE : Fld := ⟨0x26000040, 63, 61, 0⟩
/-- UPD_BANKb.BOOT -/
def F.updBankBOOT : Fld := ⟨0x26000040, 60, 60, 0⟩
/-- UPD_BANKb.BOOTS -/
def F.updBankBOOTS : Fld := ⟨0x26000040, 59, 56, 0⟩
/-- UPD_BANKb.SERIAL -/
def F.updBankSERIAL : Fld := ⟨0x26000040, 31, 0, 0⟩
/-- UPD_BANKb_EPOCH.EPOCH -/
def F.updBankEpochEPOCH : Fld := ⟨0x26000048, 31, 0, 0⟩
/-- UPD_FLOOR.FLOOR -/
def F.updFloorFLOOR : Fld := ⟨0x26000060, 31, 0, 0⟩
/-- PWR_STAT.STATE -/
def F.pwrStatSTATE : Fld := ⟨0x20000208, 63, 61, 0⟩
/-- PWR_STAT.RESULT -/
def F.pwrStatRESULT : Fld := ⟨0x20000208, 60, 58, 0⟩
/-- PWR_STAT.STEP -/
def F.pwrStatSTEP : Fld := ⟨0x20000208, 57, 54, 0⟩
/-- PWR_STAT.REASON -/
def F.pwrStatREASON : Fld := ⟨0x20000208, 47, 40, 0⟩
/-- PWR_STAT.WAKE -/
def F.pwrStatWAKE : Fld := ⟨0x20000208, 7, 0, 0⟩
/-- PWR_WAKE_EN.S2 -/
def F.pwrWakeEnS2 : Fld := ⟨0x20000210, 15, 8, 0x38⟩
/-- PWR_WAKE_EN.S1 -/
def F.pwrWakeEnS1 : Fld := ⟨0x20000210, 7, 0, 0xfd⟩
/-- PWR_AON_CNT.CNT -/
def F.pwrAonCntCNT : Fld := ⟨0x20000220, 63, 0, 0⟩
/-- PWR_RTC_ALARM.ALARM -/
def F.pwrRtcAlarmALARM : Fld := ⟨0x20000228, 63, 0, 0xffffffffffffffff⟩
/-- PWR_AON_RATIO.RATIO -/
def F.pwrAonRatioRATIO : Fld := ⟨0x20000230, 63, 0, 0x773594000000⟩
/-- SYS_ID.PART -/
def F.sysIdPART : Fld := ⟨0x20000000, 31, 16, 0x1048⟩
/-- SYS_ID.STEP -/
def F.sysIdSTEP : Fld := ⟨0x20000000, 7, 0, 0xa1⟩
/-- SYS_RST_CAUSE.CHIP_ID -/
def F.sysRstCauseCHIPID : Fld := ⟨0x20000008, 47, 38, 0⟩
/-- SYS_RST_CAUSE.CHIP_SRC -/
def F.sysRstCauseCHIPSRC : Fld := ⟨0x20000008, 37, 33, 0⟩
/-- SYS_RST_CAUSE.S2_WAKE -/
def F.sysRstCauseS2WAKE : Fld := ⟨0x20000008, 10, 10, 0⟩
/-- SYS_RST_CAUSE.RECOVERY -/
def F.sysRstCauseRECOVERY : Fld := ⟨0x20000008, 9, 9, 0⟩
/-- SYS_RST_CAUSE.SVC_STUCK -/
def F.sysRstCauseSVCSTUCK : Fld := ⟨0x20000008, 8, 8, 0⟩
/-- SYS_RST_CAUSE.RST_STUCK -/
def F.sysRstCauseRSTSTUCK : Fld := ⟨0x20000008, 7, 7, 0⟩
/-- SYS_RST_CAUSE.WARM_UPD -/
def F.sysRstCauseWARMUPD : Fld := ⟨0x20000008, 6, 6, 0⟩
/-- SYS_RST_CAUSE.WARM_CMD -/
def F.sysRstCauseWARMCMD : Fld := ⟨0x20000008, 5, 5, 0⟩
/-- SYS_RST_CAUSE.WARM_PIN -/
def F.sysRstCauseWARMPIN : Fld := ⟨0x20000008, 4, 4, 0⟩
/-- SYS_RST_CAUSE.SYS_CMD -/
def F.sysRstCauseSYSCMD : Fld := ⟨0x20000008, 3, 3, 0⟩
/-- SYS_RST_CAUSE.CHIP -/
def F.sysRstCauseCHIP : Fld := ⟨0x20000008, 2, 2, 0⟩
/-- SYS_RST_CAUSE.PIN -/
def F.sysRstCausePIN : Fld := ⟨0x20000008, 1, 1, 0⟩
/-- SYS_RST_CAUSE.POWER_ON -/
def F.sysRstCausePOWERON : Fld := ⟨0x20000008, 0, 0, 1⟩
/-- DDR_CFG.LOCK -/
def F.ddrCfgLOCK : Fld := ⟨0x20050000, 63, 63, 0⟩
/-- DDR_CFG.RATE -/
def F.ddrCfgRATE : Fld := ⟨0x20050000, 47, 40, 0x40⟩
/-- DDR_CFG.RANKS -/
def F.ddrCfgRANKS : Fld := ⟨0x20050000, 29, 29, 0⟩
/-- DDR_CFG.SIZE -/
def F.ddrCfgSIZE : Fld := ⟨0x20050000, 23, 16, 0⟩
/-- DDR_MAP.USABLE -/
def F.ddrMapUSABLE : Fld := ⟨0x20050008, 39, 21, 0⟩
/-- DDR_SCRUB.EN -/
def F.ddrScrubEN : Fld := ⟨0x20050010, 31, 31, 1⟩
/-- DDR_SCRUB.PERIOD_H -/
def F.ddrScrubPERIODH : Fld := ⟨0x20050010, 15, 0, 0x18⟩
/-- DDR_ECC.CE -/
def F.ddrEccCE : Fld := ⟨0x20050018, 63, 32, 0⟩
/-- DDR_ECC.UE -/
def F.ddrEccUE : Fld := ⟨0x20050018, 31, 16, 0⟩
/-- DDR_CE_ADDR.ADDR -/
def F.ddrCeAddrADDR : Fld := ⟨0x20050020, 39, 0, 0⟩
/-- DDR_STAT.STATE -/
def F.ddrStatSTATE : Fld := ⟨0x20050028, 63, 61, 0⟩
/-- DDR_STAT.TEMP1 -/
def F.ddrStatTEMP1 : Fld := ⟨0x20050028, 47, 40, 0⟩
/-- DDR_STAT.TEMP0 -/
def F.ddrStatTEMP0 : Fld := ⟨0x20050028, 39, 32, 0⟩
/-- DDR_STAT.TRAININGS -/
def F.ddrStatTRAININGS : Fld := ⟨0x20050028, 15, 0, 0⟩

end Sys2Proof.Machine
end

