-- ==== Sys2Proof/Machine/SMap.lean ====
section
/-! DEFINITION. Sparse tables: lists of (key, value) with keys strictly rising. Every per-instance table of the
state (memory bytes, register files, tile engines, ports, queues) is one of these; what an unlisted key stands for
is given where the table is read. -/

namespace Sys2Proof.Machine

/-- A table by number. -/
abbrev SMap (α : Type) := List (Nat × α)

/-- The value listed at a key. -/
def SMap.find {α : Type} : SMap α → Nat → Option α
  | [], _ => none
  | (k, v) :: t, a => if a = k then some v else if a < k then none else SMap.find t a

/-- The value at a key, `d` where none is listed. -/
def SMap.get {α : Type} (m : SMap α) (a : Nat) (d : α) : α := (SMap.find m a).getD d

/-- List a value at a key, in key order. -/
def SMap.put {α : Type} : SMap α → Nat → α → SMap α
  | [], a, v => [(a, v)]
  | (k, w) :: t, a, v =>
    if a = k then (a, v) :: t else if a < k then (a, v) :: (k, w) :: t else (k, w) :: SMap.put t a v

/-- Remove a key. -/
def SMap.erase {α : Type} : SMap α → Nat → SMap α
  | [], _ => []
  | (k, w) :: t, a => if a = k then t else if a < k then (k, w) :: t else (k, w) :: SMap.erase t a

/-- Write a value in a table whose unlisted keys read `d`: writing `d` removes the entry, so that tables of equal
contents are equal lists. -/
def SMap.store {α : Type} [DecidableEq α] (m : SMap α) (a : Nat) (v d : α) : SMap α :=
  if v = d then SMap.erase m a else SMap.put m a v

/-- Every key of the table is above `b`, and keys rise strictly. -/
def SMap.rising {α : Type} : SMap α → Option Nat → Bool
  | [], _ => true
  | (k, _) :: t, b => (match b with | none => true | some p => decide (p < k)) && SMap.rising t (some k)

/-- The canonical form of a table whose unlisted keys read `d`. -/
def SMap.wf {α : Type} [DecidableEq α] (m : SMap α) (d : α) : Bool :=
  SMap.rising m none && m.all (fun e => !(decide (e.2 = d)))

/-- Apply a function to the value at a key. -/
def SMap.modify {α : Type} (m : SMap α) (a : Nat) (d : α) (f : α → α) : SMap α := SMap.put m a (f (SMap.get m a d))

end Sys2Proof.Machine
end

