-- ==== Sys2Proof/Machine/State.lean ====
section
/-! DEFINITION. The state of the IZ1048 as plain data. The fields of the register space live in three register files
(`regs`, and for staged fields `staged` and `inForce`), keyed by register address and bit; what no register shows is
typed state beside them, block by block. Defaults are the reset values. -/

namespace Sys2Proof.Machine

/-- Reasons a step could stop with a fault. No meaning of this model raises one: every event of the manual has an
effect, and errors are reported through the block's fault register set (R419). -/
inductive Fault where
  /-- Raised by no meaning; it stands so that the type of faults is not empty. Safe. -/
  | none
  deriving DecidableEq, Repr

/-- Reasons a command could be refused by the model. -/
inductive Refusal where
  /-- Raised by the dispatcher for a command that has no meaning yet. Safe. -/
  | notModelled (mnemonic : String)
  deriving DecidableEq, Repr

/-- A value of field granularity: the register files are keyed by 64 × register address + lowest bit. -/
abbrev RegFile := SMap Nat

/-- The capture of a fault register set (FLT_CAP_ADDR, _MSTR, _TYPE, _TIME). -/
structure Cap where
  valid : Bool := false
  addr : BitVec 48 := 0
  mstr : BitVec 8 := 0
  src : BitVec 5 := 0
  typ : BitVec 4 := 0
  time : BitVec 64 := 0
  deriving DecidableEq, Repr

/-- The common fault register set of a block (R17, R419). `react` lists the masks that differ from the defaults of
Table: Default reactions. -/
structure FltSet where
  stat : BitVec 32 := 0
  raw : BitVec 32 := 0
  cap : Cap := {}
  react : SMap (BitVec 5) := []
  lock : Bool := false
  conseq : BitVec 16 := 0
  deriving DecidableEq, Repr

/-- A commit submitted and not yet at its window close (R31, R36). `sat` names the scheduled-action entry that
submitted it. -/
structure PendCommit where
  target : Nat
  group : BitVec 10
  sat : Option Nat := none
  deriving DecidableEq, Repr

/-- The surfaces of data that Confluence loads from memory at a window close (R149): header and records of a list,
mesh and transfer tables, as bytes; nothing where the commit loads none. -/
structure CmpLoads where
  list : Option (List Byte) := none
  mesh : Option (List Byte) := none
  xfer : Option (List Byte) := none
  deriving DecidableEq, Repr

/-- An armed commit (R32, R34): the armed copy of every staged value of its members, and which apply points have
passed (R30). -/
structure ArmedCommit where
  target : Nat
  group : BitVec 10
  values : RegFile
  loads : CmpLoads := {}
  pipeDone : Bool := false
  dispDone : Bool := false
  sat : Option Nat := none
  deriving DecidableEq, Repr

/-- The commit unit (R36), with the target of the commit armed last. -/
structure CommitUnit where
  pend : Option PendCommit := none
  armed : List ArmedCommit := []
  last : Nat := 0
  deriving DecidableEq, Repr

/-- Context states (Table: Context states). -/
inductive CtxState where
  | stopped | running | waiting | parked | dead
  deriving DecidableEq, Repr

/-- One hardware context (R41): g0–g31, v0–v15, p0–p7 (unlisted read zero), the pc, the control registers of
Table: Control registers, and whether a timer trap is pending (R67). -/
structure HartState where
  st : CtxState := .stopped
  g : SMap Word := []
  v : SMap Vec := []
  p : SMap Word := []
  pc : Word := 0
  status : Word := 2
  cause : Word := 0
  epc : Word := 0
  tval : Word := 0
  vstart : Word := 0
  asid : Word := 0
  ivec : Word := 0
  scratch : Word := 0
  tmr : Word := 0
  tcnt : Word := 0
  ptroot : Word := 0
  mcause : Word := 0
  mepc : Word := 0
  mtval : Word := 0
  mivec : Word := 0
  mscratch : Word := 0
  tmrPending : Bool := false
  deriving DecidableEq, Repr

/-- The structures that hold translations (Table: Translation caches): those of a cluster's cores, the IOTLB of
general channels and queue operations, and the one of the real-time initiators. -/
inductive TlbAt where
  | cluster (n : Nat) | iotlb | rt
  deriving DecidableEq, Repr

/-- A cached translation (Table: Translation caches), in the structure that holds it: until a TLBINV selects it, any
initiator served by that structure may use it (R84). -/
structure TlbEntry where
  on : TlbAt := .cluster 0
  asid : Nat
  global : Bool
  va : Nat
  size : Nat
  pa : Nat
  perm : BitVec 12
  deriving DecidableEq, Repr

/-- The cores: contexts, cycle counters per core, cached translations, identifiers in service, routes held back while
their identifier is in service (R71), and software interrupts asserted until EOI (R70). Context 0 of core 0 runs from
the boot ROM after a reset (R45). -/
structure MelState where
  harts : SMap HartState := [(0, { st := .running })]
  cycle : SMap Word := []
  tlb : List TlbEntry := []
  held : SMap (BitVec 32) := []
  inService : List Nat := []
  swi : BitVec 16 := 0
  deriving DecidableEq, Repr

/-- A channel's own copy of a descriptor (R91). -/
structure DmaDesc where
  kind : Nat
  irq : Bool
  last : Bool
  physSrc : Bool
  physDst : Bool
  tag : BitVec 16
  src : Word
  dst : Word
  width : Nat
  rows : Nat
  sstride : Int
  dstride : Int
  fill : Word
  next : Word
  deriving DecidableEq, Repr

/-- What a general channel does next: load a descriptor, move data, or write STATUS (R93). -/
inductive DmaStage where
  | load | data | status
  deriving DecidableEq, Repr

/-- The hidden state of a DMA channel beside its registers; `pausing` until a PAUSE has reached the next 64-byte
destination boundary (R94). -/
structure DmaChan where
  stage : DmaStage := .load
  desc : Option DmaDesc := none
  pausing : Bool := false
  deriving DecidableEq, Repr

/-- A pool cell in use (Table: Cell layout); cells not listed are free. -/
structure QCell where
  payload : List Byte := []
  next : Nat := 0
  owner : Nat := 0
  first : Bool := false
  last : Bool := false
  idle : Bool := false
  len : Nat := 0
  deriving DecidableEq, Repr

/-- What the queue manager holds twice of a queue (R112): head (nothing when no item is linked), tail (last cell of
the chain, retained cells included), the cell at the rewind mark, whether a mark is set, items and cells. -/
structure QPtrs where
  head : Option Nat := none
  tail : Option Nat := none
  markAt : Option Nat := none
  marked : Bool := false
  items : Nat := 0
  cells : Nat := 0
  deriving DecidableEq, Repr

/-- Queue states (QM_Qq_STAT.STATE). -/
inductive QSt where
  | ok | broken | resetting
  deriving DecidableEq, Repr

/-- One queue: both copies of its pointers, its state, the recorded loss of a mark (R111), and the earliest instant
its RESET scan can end (R114). -/
structure QueueState where
  a : QPtrs := {}
  b : QPtrs := {}
  st : QSt := .ok
  lost : Bool := false
  scanEnd : Nat := 0
  deriving DecidableEq, Repr

/-- A queue operation held in a park slot (R97): the command slot, push or pop, its place in memory, its cells, and the
first cell not completed. `flushed` is set when FLUSH freed the pop's item (R110). -/
structure ParkOp where
  slot : Nat
  isPush : Bool
  queue : Nat
  asid : Nat
  addr : Nat
  len : Nat
  cells : List Nat
  done : Nat
  flushed : Bool := false
  deriving DecidableEq, Repr

/-- A result that a command slot will post when its command completes, for a RESET not before its scan has ended, and
whether the command pushes. -/
structure SlotRes where
  result : Nat
  len : Nat
  queue : Nat
  scan : Bool := false
  push : Bool := false
  deriving DecidableEq, Repr

/-- The queue manager: cells in use, pool words with an uncorrectable error, queues, park slots, results to post. -/
structure QmState where
  cells : SMap QCell := []
  cellUe : List Nat := []
  queues : SMap QueueState := []
  parks : SMap ParkOp := []
  slots : SMap SlotRes := []
  deriving DecidableEq, Repr

/-- A check-value state set (R117): its running register. -/
structure CrcSet where
  run : Nat := 0
  deriving DecidableEq, Repr

/-- A surface descriptor as copied by REGISTER (Descriptor — 64 bytes). -/
structure SurfDesc where
  format : Nat
  seq : Bool
  nbuf : Nat
  width : Nat
  height : Nat
  stride0 : Nat
  stride12 : Nat
  off1 : Nat
  off2 : Nat
  bufs : List Nat
  delayUs : Nat
  timed : Bool
  expect : Nat
  period : Nat
  deriving DecidableEq, Repr

/-- Handle states (R121). -/
inductive HSt where
  | free | registering | live | releasing
  deriving DecidableEq, Repr

/-- One buffer of a surface: published or not, its media time in GT ns, and the order of its publication (0: never). -/
structure BufState where
  pub : Bool := false
  time : Int := 0
  order : Nat := 0
  deriving DecidableEq, Repr

/-- A surface handle. -/
structure HandleState where
  st : HSt := .free
  desc : Option SurfDesc := none
  bufs : SMap BufState := []
  latest : Option Nat := none
  takes : Nat := 0
  count : Nat := 0
  order : Nat := 0
  deriving DecidableEq, Repr

/-- A handle command that is BUSY: what it ends with. -/
structure HCmd where
  handle : Nat
  result : Nat
  live : Option SurfDesc := none
  registering : Bool := false
  deriving DecidableEq, Repr

/-- A frame in progress on a receive context. -/
structure RxFrame where
  ts : Nat
  handle : Nat
  buf : Option Nat
  time : Int
  covered : List (Nat × Nat × Nat) := []
  bytes : List Byte := []
  gap : Bool := false
  dropped : Bool := false
  deriving DecidableEq, Repr

/-- A receive context: the frame in progress, the next sequence number, the packets held for reordering with the GT of each (R132, R135), and
whether a packet went missing while no frame was in progress. -/
structure RxCtx where
  frame : Option RxFrame := none
  next : Option Nat := none
  hold : List (RxPkt × Nat) := []
  lost : Bool := false
  deriving DecidableEq, Repr

/-- A frame of the writeback surface that preview is to send (R138): its number, its handle and buffer, and its media time. -/
structure TxFrame where
  n : Nat
  handle : Nat
  buf : Nat
  time : Int
  deriving DecidableEq, Repr

/-- What a layer shows for the frame in composition (R164–R166). -/
inductive LMode where
  | unused | ready | holding | fill | hidden | fault | maskBlank
  deriving DecidableEq, Repr

/-- One layer position: the buffer it took last, consecutive not-ready takes and the handle for which they were told as stale
or blanking, what it shows for the frame in composition, its fault substitution (the composed line it begins at, and whether
it lasts for the next frame), and whether it occludes what its rectangle covers (R143). -/
structure LayerState where
  last : Option (Nat × Nat) := none
  holds : Nat := 0
  mode : LMode := .unused
  handle : Nat := 0
  buf : Nat := 0
  faultFrom : Option Nat := none
  faultNext : Bool := false
  told : Option Nat := none
  occ : Bool := false
  deriving DecidableEq, Repr

/-- The frame in composition: its number, its next line, and whether its lines may still be delivered (R28). -/
structure CmpFrame where
  n : Nat
  next : Nat := 0
  open_ : Bool := true
  /-- No list was taken: correction receives L16 zero (R148). -/
  zero : Bool := false
  /-- The mapping of every layer by position at the take. -/
  wbBuf : Option Nat := none
  wbDrop : Bool := false
  deriving DecidableEq, Repr

/-- Confluence: the list in force as bytes (empty: the empty list), whether it was loaded by a commit, the data loaded
at commits, layer positions, the frame in composition, groups blanked at the take, and the last output line for the
2 × 2 means of writeback. -/
structure CmpState where
  list : List Byte := []
  listStaged : Bool := false
  loads : CmpLoads := {}
  layers : SMap LayerState := []
  frame : Option CmpFrame := none
  blank : BitVec 8 := 0
  wbPrev : List (Nat × Nat × Nat) := []
  hcmd : Option HCmd := none
  deriving DecidableEq, Repr

/-- The frame timeline: whether frames run, the frame displayed, and the boundary last reached (R27, R444). -/
structure Timeline where
  running : Bool := false
  frame : Nat := 0
  reached : Option Nat := none
  /-- The first frame that starts after TL_EN was set (R444). -/
  first : Option Nat := none
  /-- A frame in which a step was applied, and its start in stepped GT (R359). -/
  base : Option (Nat × Int) := none
  deriving DecidableEq, Repr

/-- What correction latches at its list take (R177): Tn and DERATEn per tile, THROTTLE, and the point temperatures of
the image in force (empty where its header cannot be read or fails R176). -/
structure CorLatch where
  t : List Nat := []
  derate : List Nat := []
  throttle : Nat := 0xFFFF
  thetas : List Int := []
  deriving DecidableEq, Repr

/-- A life record (Table: Life record). -/
structure LifeRec where
  dmax : Nat := 0
  nl80 : Nat := 0
  minrem : Nat := 0
  rate : Nat := 0
  gt : Nat := 0
  deriving DecidableEq, Repr

/-- A checkpoint being written: its slot and what its header will hold. -/
structure CkptRun where
  slot : Nat
  data : Option CkptSlot
  deriving DecidableEq, Repr

/-- A cartridge-manager command in progress: the result it will end with, the pair it produces, the checkpoint it
writes, the identity copy that CAL_WRITE ends with, and whether it waits for the authenticator. -/
structure CorBusy where
  result : Nat
  pair : Option (Nat × Nat) := none
  ckpt : Option CkptRun := none
  newId : Option (List Byte) := none
  waitAuth : Bool := false
  deriving DecidableEq, Repr

/-- Correction and the cartridge manager: the cartridge present, the identity copy in use and whether it is copy B, the
produced pair and whether the pair in force is current (R182), dose accounting, whether removal darkened correction
(R174), the latch of the frame, tiles in port fault this frame and the next (R178), the forecast gathered (largest row
sum per tile and primary, largest c per group and primary, R280), the command and the periodic checkpoint in progress,
the reference instant in GT and a deferred checkpoint (R185, R186), the last slot and sequence, and the life table with
the doses at the start of the GT hour (R187). -/
structure CorState where
  cart : Option Cartridge := none
  id : List Byte := []
  idIsB : Bool := false
  produced : Option (Nat × Nat) := none
  current : Bool := false
  dosing : Bool := false
  dark : Bool := false
  latch : CorLatch := {}
  faultNow : List Nat := []
  faultNext : List Nat := []
  fcRow : SMap Nat := []
  fcMax : SMap Nat := []
  busy : Option CorBusy := none
  ckpt : Option CkptRun := none
  ckptRef : Nat := 0
  deferred : Bool := false
  slot : Nat := 3
  seq : Nat := 0
  ckptDone : Bool := false
  life : SMap LifeRec := []
  hourBase : SMap Nat := []
  hour : SMap Nat := []
  deriving DecidableEq, Repr

/-- What a tile engine hands over for one slot (R233): a DARK packet, or the fields and 192 words of a ROW packet. -/
structure TePkt where
  dark : Bool := true
  row : Nat := 0
  kind : Nat := 0
  sense : Bool := false
  pset : Nat := 0
  gapc : Nat := 0
  lt : Nat := 0
  words : List Nat := []
  deriving DecidableEq, Repr

/-- A tile engine in a refresh (R202–R205): running until END, pc, counters, LINE count i of R199, other instructions
since the last LINE, the next unused slot, rows driven, what it handed over by slot; audit debts by subpixel of the tile
with the frame they arose in, rows audited in the frame (R259, R260), and whether STORE_ECC was raised in the frame. -/
structure TeState where
  run : Bool := false
  pc : Nat := 0
  c0 : Nat := 0
  c1 : Nat := 0
  i : Nat := 0
  others : Nat := 0
  slot : Nat := 0
  rows : List Nat := []
  out : SMap TePkt := []
  debt : SMap Nat := []
  debtFrame : Nat := 0
  audited : List Nat := []
  eccDone : Bool := false
  deriving DecidableEq, Repr

/-- What the engines share: the class that governs, the frame from which a changed class governs (R217), the refresh
in progress, if one is. -/
structure ScanState where
  cls : Nat := 1
  blankTo : Option Nat := none
  last : Option (Nat × Nat) := none
  deriving DecidableEq, Repr

/-- A slot a port has sent: the instant in true time at which it started, its refresh, slot and frame, the packets by position, the positions whose
RET has come, the positions Rook's tap has dealt with, and whether the tap missed one (R326). -/
structure PSlot where
  at_ : Nat := 0
  refresh : Nat
  slot : Nat
  frame : Nat
  slotCyc : Nat
  pkts : List TePkt
  got : BitVec 8 := 0
  tap : BitVec 8 := 0
  miss : Bool := false
  deriving DecidableEq, Repr

/-- A control block that a port sends (Table: Control blocks). -/
inductive Ctrl where
  | idle
  | slot (i refresh offs : Nat)
  | train (rate : Nat) (ready : Bool)
  deriving DecidableEq, Repr

/-- What the forward lanes of a port have carried since a control block began a run: that block, and the words after it
(R229, R230). -/
structure FwdRun where
  start : Ctrl := .idle
  words : List Word := []
  deriving DecidableEq, Repr

/-- Loopbacks of a port (Table: Loopbacks). -/
inductive LoopKind where
  | nes (lane : Nat) | nep (lane : Nat) | far (pos : Nat)
  deriving DecidableEq, Repr

/-- A port beside its registers: bring-up before CAP, the target code, failed TRAINs, the instants of the latch, of TRAIN
and of the last CAP_REQ, the position asked and whether it is asked twice, an ASSIGN waiting behind a firmware frame, whether bring-up follows the block reset (R422), the
loopback and whether it is ending, the error sum of the window, the last slots sent, newest first, the end of the drive
period of the last slot sent in RUN (R319), in quarters of a nanosecond of true time, and the run of blocks that its forward
lanes are sending. -/
structure PortState where
  up : Bool := false
  target : Nat := 0
  tries : Nat := 0
  latched : Option Nat := none
  trainAt : Nat := 0
  capAt : Nat := 0
  capPos : Nat := 0
  capAgain : Bool := false
  rilWait : Bool := false
  restart : Bool := false
  loop : Option LoopKind := none
  ending : Bool := false
  win : Nat := 0
  winAt : Nat := 0
  slots : List PSlot := []
  driveEnd : Nat := 0
  fwd : Option FwdRun := none
  deriving DecidableEq, Repr

/-- A Rill frame in progress: when it started, whether ASSIGN started it, and its eight records. -/
structure RilFrame where
  at_ : Nat
  assign : Bool
  recs : List (BitVec 96)
  deriving DecidableEq, Repr

/-- The fault state of a subpixel (Table: Map entry codes), its firmware mask, and the kind of the last item of evidence
with its run (KIND and RUN of the map entry). -/
structure SubSt where
  st : Nat := 4
  fw : Bool := false
  kind : Nat := 0
  run : Nat := 0
  deriving DecidableEq, Repr

/-- A run in the evidence table (R266): 3 LEAK, 4 OPEN, 5 SHORT. -/
structure EvRun where
  q : Nat
  kind : Nat
  run : Nat
  deriving DecidableEq, Repr

/-- A keep-out rectangle in force for the displayed frame. -/
structure KoRect where
  x0 : Nat
  y0 : Nat
  x1 : Nat
  y1 : Nat
  deriving DecidableEq, Repr

/-- DIAG: subpixel states (unlisted UNVERIFIED, unmasked), verification bits, the evidence table oldest first, the
stuck-on list with KO bits, whether an INIT has completed, the command's result, the subpixels
whose last write of the map or the mask plane failed (R268), the sweep of which 256-frame period was
last made and whether its completion is due, and the keep-out rectangles of the displayed frame. -/
structure DiagState where
  sub : SMap SubSt := []
  ver : SMap Bool := []
  table : List EvRun := []
  stk : SMap (Nat × Bool) := []
  inited : Bool := false
  busy : Option (Nat × Bool) := none
  dirty : List Nat := []
  swept : Option Nat := none
  sweeping : Bool := false
  ko : List KoRect := []
  deriving DecidableEq, Repr

/-- A stretch of a rail's target (R285): from the instant `t0` it moves from `v` mV towards `goal` at `rate` mV/µs. -/
structure RailSeg where
  t0 : Nat
  v : Nat
  goal : Nat
  rate : Nat
  deriving DecidableEq, Repr

/-- A rail engine beside its registers: whether it slews to V_MIN to go OFF (R278), the instant START began, the
stretches of its target over the last millisecond (newest first), the setpoint and phase count of the displayed frame
and the ones applied, the forecast of the next frame, the frame for which V_MAX was substituted (R283), and whether OV holds
every phase low (R286). -/
structure RailState where
  slewOff : Bool := false
  startAt : Nat := 0
  segs : List RailSeg := []
  disp : Option (Nat × Nat) := none
  eff : Option (Nat × Nat) := none
  next : Option (Nat × Nat × Nat) := none
  late : Option Nat := none
  low : Bool := false
  deriving DecidableEq, Repr

/-- The SW_CLOSED line of a group (R275): its level and the instant it last changed. -/
structure SwLine where
  on : Bool := false
  since : Nat := 0
  deriving DecidableEq, Repr

/-- A sensor of THM (R290): its last plausible value, whether it had one since the last reset of THM, its last in-range
sample, the runs of implausible and plausible samples, and whether it is LOST. -/
structure Sensor where
  val : Int := 400
  has : Bool := false
  prev : Option Int := none
  bad : Nat := 0
  good : Nat := 0
  lost : Bool := false
  deriving DecidableEq, Repr

/-- A condition and its run of samples towards the other state (R293). -/
structure Cond where
  on : Bool := false
  run : Nat := 0
  deriving DecidableEq, Repr

/-- THM: the last sample instant; of each tile, the TEMP and OVER_TEMP received since; sensors; conditions by
2 × sensor + limit; OVER_TEMP conditions per tile; fast samples since a sensor was near a limit; the end of the freeze
in GT; the ceilings per group. -/
structure ThmState where
  last : Option Nat := none
  ret : SMap (Nat × Bool) := []
  sens : SMap Sensor := []
  conds : SMap Cond := []
  ovt : SMap Cond := []
  calm : Nat := 0
  frozen : Option Nat := none
  ceil : SMap Nat := []
  deriving DecidableEq, Repr

/-- A fan channel: consecutive windows below and at or above STALL_RPM, and the instant its spin-up began. -/
structure FanCh where
  low : Nat := 0
  high : Nat := 0
  spin : Option Nat := none
  deriving DecidableEq, Repr

/-- Sources of single faults (R311, R312, R314, R316, R320): the discrepancy of an input, a channel of an input, a hand's
pair, and a switch of a group. -/
inductive RFault where
  | disc (i : Nat)
  | chan (i c : Nat)
  | pair (h : Nat)
  | switch (g : Nat) (hs : Bool)
  deriving DecidableEq, Repr

/-- One switch of a group: its gate, the instant of its last change, its readback and the instant of its last change, the
instant of its last passing test, consecutive failed tests, whether its test pulse is in progress, and whether a discarded
test is to be made again (R321). Instants are in Rook time. -/
structure RSwitch where
  gate : Bool := false
  since : Nat := 0
  rb : Bool := false
  rbAt : Nat := 0
  passed : Nat := 0
  fails : Nat := 0
  testing : Bool := false
  redo : Bool := false
  deriving DecidableEq, Repr

/-- A group of switches: the instant its closing completed, which switch was tested last, whether an orderly opening waits
for the low side, the instant of the last step of a sequence, and the opening of the test window used last (R320), in
quarters of a nanosecond of true time. -/
structure RGroup where
  hs : RSwitch := {}
  ls : RSwitch := {}
  closedAt : Nat := 0
  lastHs : Bool := false
  opening : Bool := false
  stepAt : Nat := 0
  window : Option Nat := none
  deriving DecidableEq, Repr

/-- An input of two channels: since when its channels differ, and the progress of the cycle of R334. -/
structure RInput where
  differ : Option Nat := none
  cycle : Nat := 0
  deriving DecidableEq, Repr

/-- A hand of the two-hand control: whether it is actuated and since when, whether its pair is in fault, and whether it
was actuated and then released since a pair fault was recorded. -/
structure RHand where
  act : Bool := false
  since : Nat := 0
  bad : Bool := false
  acted : Bool := false
  released : Bool := false
  deriving DecidableEq, Repr

/-- What the tap units of a port hold for a zone in one bin (R325). -/
structure TapBin where
  a : Nat := 0
  b : Nat := 0
  full : Nat := 0
  deriving DecidableEq, Repr

/-- A logged event (R340). -/
structure REvent where
  gt : Nat
  kind : Nat
  groups : Nat
  input : Nat
  state : Nat
  deriving DecidableEq, Repr

/-- Rook (R304–R342). `cpu` is the context of its two cores in lockstep (R72) and `sram` the memory that only they see
(assumption 70). `block` is the parameter block in force (empty: the ROM block), `stored` the block of its MRAM
copies, `lock` the recorded key hash and digest, `waiting` the wait of R339. Channel states are bits 0 ESTOP_A,
1 ESTOP_B, 2 DOOR_A, 3 DOOR_B, 4 CUR_A, 5 CUR_B. `zoneArmed` lists the armed zone sets by target frame. `osc` is Rook time
(R305) in units of 10⁻⁴ ns since Rook's power-on; every other instant here is in ns of it, but for `forcedAt`, the instants in
true time at which the forced refreshes of the groups began. `pulses` counts the test pulses judged by source (R311),
`sackUp` is the last release of SACK_N, `ran` whether Rook has entered RUN since its power-on. -/
structure RookState where
  osc : Nat := 0
  pulses : SMap Nat := []
  sackUp : Nat := 0
  ran : Bool := false
  forcedAt : SMap Nat := []
  cpu : HartState := { st := .running }
  sram : SMap Byte := []
  block : List Byte := []
  stored : Option (List Byte) := none
  lock : Option (BitVec 384 × BitVec 384) := none
  nonce : Option (List Byte) := none
  waiting : Bool := false
  chan : BitVec 6 := 0
  inputs : SMap RInput := []
  pulseHigh : BitVec 10 := 0
  hands : SMap RHand := []
  thFirst : Option Nat := none
  thSat : Bool := false
  thBlocked : Bool := true
  req : BitVec 8 := 0
  railBad : BitVec 8 := 0xFF
  railSince : SMap Nat := []
  cartAbsent : Bool := true
  stuckBy : SMap (BitVec 9) := []
  zoneHot : BitVec 8 := 0
  faults : List RFault := []
  egStart : Nat := 0
  groups : SMap RGroup := []
  forced : SMap Nat := []
  sackStuck : Bool := false
  zoneArmed : List (Nat × Nat) := []
  portSet : SMap Nat := []
  bins : SMap (List TapBin) := []
  misses : SMap Nat := []
  binAt : Nat := 0
  log : List REvent := []
  busy : Option Nat := none
  deriving DecidableEq, Repr

/-- What the device has sent and no register shows: a frame put in an egress queue of a chain port (Table: Egress queues),
a CAN frame begun, an RDM response. The model's own field (assumption 23). -/
inductive Output where
  | frame (port queue : Nat) (bytes : List Byte)
  | preview (ip port vlan n : Nat) (time : Int) (lines : List (List Nat))
  | can (port : Nat) (item : List Byte)
  | rdm (bytes : List Byte)
  deriving DecidableEq, Repr

/-- CHN beside its registers: the module of each port (its nominal rate in MBd, none where its identity cannot be read),
events counted by source, whether a walk was ever handled, and the instant of the last STATUS. -/
structure ChnState where
  mods : SMap (Option Nat) := []
  counts : SMap Nat := []
  walked : Bool := false
  statusAt : Nat := 0
  deriving DecidableEq, Repr

/-- A PTP domain (R350–R354): its clock DT in units of 10⁻⁹ ns, F and r in ppb, whether its clock is set since LISTENING,
consecutive samples within 100 ns and beyond 1,000 ns, the first held sample of the run and its length, the last confirmed
jump, and meanPathDelay. -/
structure DomState where
  dt : Int := 0
  f : Int := 0
  r : Int := 0
  set : Bool := false
  good : Nat := 0
  bad : Nat := 0
  first : Option Int := none
  held : Nat := 0
  jump : Option Int := none
  mpd : Int := 0
  deriving DecidableEq, Repr

/-- A step decided and not yet applied (R358): its frame N once that frame has started, and its size (none: the difference
to the new domain clock, R357). -/
structure StepPlan where
  n : Option Nat := none
  s : Option Int
  deriving DecidableEq, Repr

/-- PTP: the domains, whether the active domain has set its clock since the system reset, whether GT_STATE shows HOLDOVER
from a wake, and the step decided. -/
structure PtpState where
  dom : SMap DomState := []
  set : Bool := false
  wake : Bool := false
  step : Option StepPlan := none
  deriving DecidableEq, Repr

/-- DMX: the instant of the last NULL packet (or of EN), the end of the request that awaits a response, and whether its response was
written too late. -/
structure DmxState where
  last : Nat := 0
  req : Option Nat := none
  late : Bool := false
  deriving DecidableEq, Repr

/-- A CAN port: the transmit item in hand, whether its TEC has exceeded 255, and whether it went
bus-off and has not recovered. -/
structure CanPort where
  cur : Option (List Byte) := none
  past255 : Bool := false
  off : Bool := false
  deriving DecidableEq, Repr

/-- A bank record (R383): state of Table: Bank states, BOOTS, SERIAL and EPOCH. -/
structure BankRec where
  st : Nat := 0
  boots : Nat := 0
  serial : Nat := 0
  epoch : Nat := 0
  deriving DecidableEq, Repr

/-- A session (R395, R398): its source (1 CN0, 2 CN1, 3 LOCAL), SESSION, header, image key, blocks accepted as received and
in plain, CRC failures by block, slices of blocks being reassembled, blocks whose flash program runs (block header and
contents as stored), whether DONE has come, whether the local bank failed (R399), the result of R390, and the instant the
source was last heard. -/
structure UpdSess where
  src : Nat
  id : Nat
  header : List Byte
  key : List Byte
  raw : SMap (List Byte) := []
  plain : SMap (List Byte) := []
  crcBad : SMap Nat := []
  parts : SMap (SMap (List Byte)) := []
  writing : SMap (List Byte × List Byte) := []
  done : Bool := false
  writeFail : Bool := false
  result : Option Nat := none
  /-- The session is over upstream; what it holds serves its forward sessions only. -/
  ended : Bool := false
  heard : Nat := 0
  deriving DecidableEq, Repr

/-- The records UPD keeps in MRAM (R383, R401): banks, boot bank, EPOCH_FLOOR, TRIAL_BOOTS and TRIAL_S, and the resume state
of a session that ended with TIMEOUT (R398). -/
structure UpdRec where
  bank : SMap BankRec := []
  boot : Nat := 0
  floor : Nat := 0
  trialBoots : Nat := 3
  trialS : Nat := 300
  resume : Option UpdSess := none
  deriving DecidableEq, Repr

/-- A forward session (R399): its port and SESSION, whether the neighbour has accepted, the next block to send, the blocks
sent and not answered, whether DONE was sent, whether it has ended, and the instant the neighbour was last heard. -/
structure FwdSess where
  port : Nat
  id : Nat
  open_ : Bool := false
  next : Nat := 0
  flight : List Nat := []
  doneSent : Bool := false
  ended : Bool := false
  heard : Nat := 0
  deriving DecidableEq, Repr

/-- UPD: records, session, forward sessions, the bank that runs, when its boot began, the command that is BUSY with its
result once it has one, and the flash erases and programs that have not ended. -/
structure UpdState where
  recs : UpdRec := {}
  sess : Option UpdSess := none
  fwd : List FwdSess := []
  running : Option Nat := none
  bootAt : Nat := 0
  busy : Option (Option Nat) := none
  deriving DecidableEq, Repr

/-- Power states (R404). -/
inductive PwrSt where
  | a | s1 | s2 | off
  deriving DecidableEq, Repr

/-- What a power sequence does: entering, unwinding after a refusal (R408), leaving (R407), or the orderly shutdown. -/
inductive PwrDir where
  | enter | unwind | leave | off
  deriving DecidableEq, Repr

/-- A power sequence in progress: where it goes, the step being asked or restarted, whether that step has agreed and
its delay is running (in leaving: whether the PLLs have locked), the instant of that, the domains still to be switched and
the instant from which the next may be, the first step of the sequence, its refusal, and the scheduled-action entry that
asked for it. -/
structure PwrSeq where
  target : PwrSt
  dir : PwrDir
  step : Nat
  agreed : Bool := false
  since : Nat := 0
  doms : List Nat := []
  domAt : Nat := 0
  lo : Nat := 1
  refused : Bool := false
  sat : Option Nat := none
  deriving DecidableEq, Repr

/-- The power controller: the state, the sequence in progress, the steps stopped, the domains clamped and off (numbered
in the order of R406), a wake latched in PD_AON (R409), and the instants and values stored across S2 (R413). -/
structure PwrState where
  st : PwrSt := .a
  seq : Option PwrSeq := none
  stopped : List Nat := []
  domsOff : List Nat := []
  wakeLatch : Option Nat := none
  gtEntry : Nat := 0
  cntEntry : Nat := 0
  /-- The tick count and GT at the opening of the calibration window (R412), and whether the window is spoiled. -/
  calCnt : Nat := 0
  calGt : Nat := 0
  calBad : Bool := true
  /-- Ticks of XTAL_32K in units of 10⁻⁹ ticks past the count. -/
  tickFine : Nat := 0
  /-- SUPPLY_EN, the instant it last changed, and whether every supply is in range. -/
  supplyEn : Bool := true
  supplySince : Nat := 0
  supplyOk : Bool := true
  deriving DecidableEq, Repr

/-- The reset pins and the boot ROM (R416, R417): RESET_N holding the device in reset, each pin stuck and ignored, and
the recovery wait. -/
structure RstState where
  held : Bool := false
  heldSince : Nat := 0
  rstStuck : Bool := false
  svcStuck : Bool := false
  romWait : Bool := true
  recovery : Bool := false
  deriving DecidableEq, Repr

/-- The machine. -/
structure State where
  /-- The commands that are waiting, first in, first out. -/
  pending : List Instr := []
  /-- Free values drawn so far: the model's own field (assumption 3). -/
  free : Nat := 0
  /-- True time in ns since the reset that began the run: the model's own field (assumption 6). -/
  now : Nat := 0
  /-- Bytes of the physical address map (Table: Physical address map); unlisted bytes read 0 (assumption 7). -/
  mem : List Host.Cell := []
  /-- Old bytes that DRAM still holds under lines a core has written and not cleaned (R90, DCLEAN, DINV). -/
  stale : SMap Byte := []
  /-- Old bytes that a core's clean lines may still hold after a real-time initiator, which does not snoop, wrote DRAM
  under them (R90; assumption 10). -/
  cached : SMap Byte := []
  /-- Initiators behind the IOMMU, by MSTR, or 256 + command slot, whose next access ends in a handshake timeout, and
  whether in its table walk (R19): the model's own field (assumption 71). -/
  hsLate : SMap Bool := []
  /-- 128-bit words (address / 16) whose check bits show an uncorrectable error, and those with a correctable one. -/
  ue : List Nat := []
  ce : List Nat := []
  /-- Register fields in force at once (RW, WL, W1C, and the RO fields the hardware writes). -/
  regs : RegFile := []
  /-- Staging copies of ST fields (R14). -/
  staged : RegFile := []
  /-- ST fields in force (R14). -/
  inForce : RegFile := []
  commit : CommitUnit := {}
  /-- Values of commits applied while the block of the member was held in reset or stopped, and what CMP loaded with
  them: the block takes them as it leaves (R34; assumption 76). -/
  late : RegFile := []
  lateLoads : Option CmpLoads := none
  /-- Fault register sets by fault interrupt identifier. -/
  flt : SMap FltSet := []
  /-- Event interrupts raised and not yet taken, by identifier. -/
  evt : List Nat := []
  /-- NMIs raised and not yet delivered, by identifier (R70). -/
  nmi : List Nat := []
  /-- Block resets in progress: fault identifier of the block, and the instant the reset ends (R422). -/
  blkReset : SMap Nat := []
  /-- Reset shadows: fault identifier of the reset block, and the instant the shadow ends (R423). -/
  shadow : SMap Nat := []
  mel : MelState := {}
  dma : SMap DmaChan := []
  /-- GT in units of 10⁻⁹ ns, as shown by PTP (R10). -/
  gtFine : Nat := 0
  qm : QmState := {}
  /-- Check-value state sets, by 4 × cluster + set (R117). -/
  crc : SMap CrcSet := []
  pwr : PwrState := {}
  rst : RstState := {}
  handles : SMap HandleState := []
  rx : SMap RxCtx := []
  /-- The next preview frame to finish sending (R138). -/
  txFrames : List TxFrame := []
  cmp : CmpState := {}
  tl : Timeline := {}
  rails : SMap RailState := []
  swc : SMap SwLine := []
  cor : CorState := {}
  thm : ThmState := {}
  fan : SMap FanCh := []
  rook : RookState := {}
  te : SMap TeState := []
  scan : ScanState := {}
  ports : SMap PortState := []
  ril : SMap RilFrame := []
  diag : DiagState := {}
  chn : ChnState := {}
  ptp : PtpState := {}
  /-- GT at the ARM of each ARMED scheduled entry (R362, R363). -/
  satArm : SMap Nat := []
  dmx : DmxState := {}
  can : SMap CanPort := []
  out : List Output := []
  upd : UpdState := {}
  /-- The DRAM channels whose last mode register 4 asked for a rate above nominal (R437). -/
  ddrHot : BitVec 2 := 0
  deriving DecidableEq, Repr

/-- The machine right after a power-on reset has ended (R418, R431): every field at the value the manual gives for
reset, or at the value the assumption log names; nothing waits in the queue. -/
def State.reset : State := {}

end Sys2Proof.Machine
end

