-- ==== Sys2Proof/Machine/Ops.lean ====
section
/-! DEFINITION. The named operations over register fields, time, free values and interrupts that every block uses. -/

namespace Sys2Proof.Machine

/-- The key of a field in a register file. -/
def Fld.key (f : Fld) : Nat := f.addr * 64 + f.lo

/-- The same field of another instance of its register: `off` is the sum of index × stride. -/
def Fld.at (f : Fld) (off : Nat) : Fld := { f with addr := f.addr + off }

/-- The number of bits of a field. -/
def Fld.width (f : Fld) : Nat := f.hi - f.lo + 1

/-- The value of a field in the register file. -/
def State.fld (s : State) (f : Fld) : Nat := SMap.get s.regs f.key f.reset

/-- A one-bit field as a truth value. -/
def State.flag (s : State) (f : Fld) : Bool := s.fld f != 0

/-- The staging copy of an ST field (R14). -/
def State.stg (s : State) (f : Fld) : Nat := SMap.get s.staged f.key f.reset

/-- The value in force of an ST field (R14). -/
def State.inF (s : State) (f : Fld) : Nat := SMap.get s.inForce f.key f.reset

/-- A one-bit ST field in force. -/
def State.inFlag (s : State) (f : Fld) : Bool := s.inF f != 0

/-- Write a field of the register file, cut to its width. -/
def setFld (f : Fld) (v : Nat) (s : State) : State := { s with regs := SMap.put s.regs f.key (v % 2 ^ f.width) }

/-- Write a one-bit field. -/
def setFlag (f : Fld) (v : Bool) (s : State) : State := setFld f (b2n v) s

/-- Write the staging copy of a field. -/
def setStg (f : Fld) (v : Nat) (s : State) : State := { s with staged := SMap.put s.staged f.key (v % 2 ^ f.width) }

/-- Write the value in force of an ST field: boot images and block reloads only. -/
def setInF (f : Fld) (v : Nat) (s : State) : State := { s with inForce := SMap.put s.inForce f.key (v % 2 ^ f.width) }

/-- GT in ns (R10). -/
def State.gt (s : State) : Nat := s.gtFine / 1000000000 % 2 ^ 64

/-- The next free value (assumption 3). -/
def State.freeW (s : State) : Word := Config.freeWord s.free

/-- The state after a free value has been drawn. -/
def drawn (s : State) : State := { s with free := s.free + 1 }

/-- The next free value as a truth value. -/
def State.freeB (s : State) : Bool := (s.freeW).getLsbD 0

/-- Forwarded-clock period of a rate code in quarters of a nanosecond: 8 / lane rate (R197). -/
def tcyc4 (rate : Nat) : Nat := if rate = 0 then 40 else if rate = 1 then 20 else if rate = 2 then 10 else 5

/-- Down-spread in force in units of 10⁻⁴ (R227). -/
def State.spread (s : State) : Nat := if s.flag F.epRefclkSPREADEN then s.fld F.epRefclkSPREAD else 0

/-- n cycles of the forwarded clock at a rate code, in quarters of a nanosecond. -/
def State.cycles4 (s : State) (rate n : Nat) : Nat := n * tcyc4 rate * (10000 + s.spread) / 10000

/-- The end of the drive period of the last slot that port p has sent in RUN (R319), in quarters of a nanosecond. -/
def State.lastDrive (s : State) (p : Nat) : Nat :=
  let v := SMap.get s.ports p {}
  match v.slots with
  | l :: _ =>
    if s.fld (F.epPstatSTATE.at (p * 0x1000)) = 4 then 4 * l.at_ + s.cycles4 (s.fld (F.epPstatRATE.at (p * 0x1000))) (2 * l.slotCyc + 336)
    else v.driveEnd
  | [] => v.driveEnd

/-- Raise an event interrupt (R23): it stays pending until a context takes it. -/
def intr (id : Nat) (s : State) : State := { s with evt := insertN id s.evt }

end Sys2Proof.Machine

namespace Sys2Proof

/-- The fault interrupt identifier of a block, which is the first of its range (Table: Interrupt identifiers). -/
def Blk.id : Blk → Nat
  | .sys => 0 | .mel => 16 | .mmu => 80 | .qm => 160 | .crc => 192 | .ddr => 196 | .nvm => 204 | .src => 212
  | .cmp => 244 | .cor => 260 | .te n => 292 + n.val | .ep p => 548 + p.val | .ril => 580 | .diag => 276
  | .rail k => 584 + k.val | .thm => 608 | .fan => 616 | .rook => 620 | .chn => 628 | .ptp => 660 | .sat => 676
  | .upd => 740 | .dmx => 748 | .can => 752

/-- Base and size of a block's register window (Table: Register windows; sizes, assumption 8). -/
def Blk.window : Blk → Nat × Nat
  | .sys => (0x20000000, 0x10000) | .mel => (0x20010000, 0x10000) | .mmu => (0x20020000, 0x10000)
  | .qm => (0x20030000, 0x10000) | .crc => (0x20040000, 0x10000) | .ddr => (0x20050000, 0x10000)
  | .nvm => (0x20060000, 0x10000) | .src => (0x20080000, 0x10000) | .cmp => (0x20100000, 0x10000)
  | .cor => (0x20200000, 0x10000) | .te n => (0x21000000 + n.val * 0x10000, 0x10000)
  | .ep p => (0x22000000 + p.val * 0x1000, 0x1000) | .ril => (0x22020000, 0x10000) | .diag => (0x20300000, 0x10000)
  | .rail k => (0x23000000 + k.val * 0x1000, 0x1000) | .thm => (0x23100000, 0x10000) | .fan => (0x23110000, 0x10000)
  | .rook => (0x24000000, 0x10000) | .chn => (0x25000000, 0x10000) | .ptp => (0x25100000, 0x10000)
  | .sat => (0x25110000, 0x10000) | .upd => (0x26000000, 0x10000) | .dmx => (0x27000000, 0x10000)
  | .can => (0x27010000, 0x10000)

/-- Tile engine n. -/
def Blk.teN (n : Nat) : Blk := .te (Fin.ofNat 256 n)

/-- Emitter port p. -/
def Blk.epN (p : Nat) : Blk := .ep (Fin.ofNat 32 p)

/-- Rail engine k. -/
def Blk.railN (k : Nat) : Blk := .rail (Fin.ofNat 24 k)

/-- The blocks of one instance. -/
def Blk.singles : List Blk :=
  [.sys, .mel, .mmu, .qm, .crc, .ddr, .nvm, .src, .cmp, .cor, .ril, .diag, .thm, .fan, .rook, .chn, .ptp, .sat, .upd,
   .dmx, .can]

/-- Every block and instance. -/
def Blk.all : List Blk :=
  Blk.singles ++ (List.range 256).map Blk.teN ++ (List.range 32).map Blk.epN ++ (List.range 24).map Blk.railN

/-- The block whose fault identifier is given. -/
def Blk.ofId (id : Nat) : Option Blk :=
  if 292 ≤ id ∧ id < 548 then some (Blk.teN (id - 292))
  else if 548 ≤ id ∧ id < 580 then some (Blk.epN (id - 548))
  else if 584 ≤ id ∧ id < 608 then some (Blk.railN (id - 584))
  else Blk.singles.find? (fun b => b.id == id)

/-- The block whose window holds an address of the register space (R21: none where no window claims it). -/
def Blk.ofAddr (a : Nat) : Option Blk :=
  if 0x21000000 ≤ a ∧ a < 0x22000000 then some (Blk.teN ((a - 0x21000000) / 0x10000))
  else if 0x22000000 ≤ a ∧ a < 0x22020000 then some (Blk.epN ((a - 0x22000000) / 0x1000))
  else if 0x23000000 ≤ a ∧ a < 0x23018000 then some (Blk.railN ((a - 0x23000000) / 0x1000))
  else Blk.singles.find? (fun b => decide (b.window.1 ≤ a) && decide (a < b.window.1 + b.window.2))

/-- Whether the key of a register field lies in a block's window. -/
def Blk.hasKey (b : Blk) (k : Nat) : Bool := decide (b.window.1 * 64 ≤ k) && decide (k < (b.window.1 + b.window.2) * 64)

end Sys2Proof

namespace Sys2Proof.Machine

/-- The entries of a register file outside a block's window. -/
def RegFile.without (r : RegFile) (b : Blk) : RegFile := r.filter (fun e => !(b.hasKey e.1))

/-- The entries of a register file inside a block's window. -/
def RegFile.only (r : RegFile) (b : Blk) : RegFile := r.filter (fun e => b.hasKey e.1)

end Sys2Proof.Machine
end

