-- ==== Sys2Proof/Machine/RailCore.lean ====
section
/-! DEFINITION. Rail engines: states, targets and phases (R273–R285), below the resets that act on them. -/

namespace Sys2Proof.Machine

/-- A field of rail k. -/
def Fld.rail (f : Fld) (k : Nat) : Fld := f.at (k * 0x1000)

/-- A rail engine. -/
def State.rail (s : State) (k : Nat) : RailState := SMap.get s.rails k {}

/-- Replace a rail engine. -/
def setRail (k : Nat) (v : RailState) (s : State) : State := { s with rails := SMap.put s.rails k v }

/-- RAIL_STAT.STATE: 0 OFF, 1 START, 2 HOLD, 3 TRACK, 4 FAULT. -/
def State.railSt (s : State) (k : Nat) : Nat := s.fld (F.railStatSTATE.rail k)

/-- A rail regulates in START, HOLD and TRACK. -/
def State.railOn (s : State) (k : Nat) : Bool := s.railSt k == 1 || s.railSt k == 2 || s.railSt k == 3

/-- The value of a stretch of the target at an instant. -/
def RailSeg.at (g : RailSeg) (t : Nat) : Nat :=
  let d := g.rate * (t - g.t0) / 1000
  if g.v ≤ g.goal then min g.goal (g.v + d) else max g.goal (g.v - d)

/-- The target of a rail in mV now; 0 where it has none. -/
def State.railTarget (s : State) (k : Nat) : Nat :=
  if s.railOn k then (match (s.rail k).segs with | g :: _ => g.at s.now | [] => 0) else 0

/-- The value a list of stretches, newest first, had at an instant. -/
def segsAt : List RailSeg → Nat → Option Nat
  | [], _ => none
  | g :: l, t => if g.t0 ≤ t then some (g.at t) else segsAt l t

/-- VHI (R286): the highest target of the last 1 ms. A stretch is monotone, so its ends decide. -/
def State.railVhi (s : State) (k : Nat) : Nat :=
  let l := (s.rail k).segs
  let t := s.now - 1000000
  let ends := (l.filter (fun g => decide (t ≤ g.t0))).map (fun g => g.v)
  (ends ++ [(segsAt l t).getD 0, (segsAt l s.now).getD 0]).foldl max 0

/-- Stretches that the last millisecond still meets. -/
def keepSegs : List RailSeg → Nat → List RailSeg
  | [], _ => []
  | g :: l, t => if g.t0 ≤ t then [g] else g :: keepSegs l t

/-- Move the target towards a goal at the slew rates in force (R285), from the present target. -/
def railGoal (k goal : Nat) (s : State) : State :=
  let r := s.rail k
  let v := s.railTarget k
  let rate := if v ≤ goal then s.inF (F.railSlewSLEWUP.rail k) else s.inF (F.railSlewSLEWDN.rail k)
  setRail k { r with segs := ⟨s.now, v, goal, rate⟩ :: keepSegs r.segs (s.now - 1000000) } s

/-- Phase i is installed and not failed. -/
def State.phaseOk (s : State) (k i : Nat) : Bool :=
  bit (s.inF (F.railCtrlPHINST.rail k)) i && !(s.flag ((F.railPhFAILED.rail k).at (8 * i)))

/-- The healthy phases of a rail. -/
def State.healthy (s : State) (k : Nat) : List Nat := (List.range 4).filter (fun i => s.phaseOk k i)

/-- The phases that regulate: the n healthy phases of lowest index. -/
def setPhases (k n : Nat) (s : State) : State :=
  let a := (s.healthy k).take n
  let s := setFld (F.railStatPHACTIVE.rail k) (a.foldl (fun m i => m + 2 ^ i) 0) s
  forN 4 (fun i s => setFlag ((F.railPhACTIVE.rail k).at (8 * i)) (a.contains i) s) s

/-- The state field; entry to HOLD, TRACK and FAULT raises the rail's identifier (R288). -/
def railTo (k st : Nat) (s : State) : State :=
  let s' := setFld (F.railStatSTATE.rail k) st s
  if st = 2 ∨ st = 3 ∨ st = 4 then intr (584 + k) s' else s'

/-- OFF: phases at mid-level, no target. -/
def railOff (k : Nat) (s : State) : State :=
  s |> railTo k 0 |> setPhases k 0 |> setRail k { s.rail k with slewOff := false, segs := [], eff := none, low := false }

/-- HOLD: target V_IDLE, the lowest healthy phase (R276). -/
def railHold (k : Nat) (s : State) : State :=
  let s := s |> railTo k 2 |> setPhases k 1
  let s := setRail k { s.rail k with eff := none } s
  if (s.rail k).slewOff then s else railGoal k (s.inF (F.railVlimVIDLE.rail k)) s

/-- The rails of a group but k. -/
def neighbours (k : Nat) : List Nat := [3 * (k / 3), 3 * (k / 3) + 1, 3 * (k / 3) + 2].filter (fun j => j != k)

/-- The group neighbours of a rail that leaves regulation go to HOLD (R278, R286). -/
def neighboursHold (k : Nat) (s : State) : State :=
  (neighbours k).foldl (fun s j => if s.railSt j = 3 then railHold j s else s) s

end Sys2Proof.Machine
end

