-- ==== Sys2Proof/Machine/RegTable.lean ====
section
/-! DEFINITION. Finding a register of the tables by its address, and the lock bits of the blocks (R16). -/

namespace Sys2Proof.Machine

/-- The indexes of an address within a family, or nothing where it is no register of it. -/
def famIndex : List (Nat × Nat) → Nat → Option (List Nat)
  | [], r => if r = 0 then some [] else none
  | (st, n) :: t, r => if r / st < n then (famIndex t (r % st)).map (fun l => r / st :: l) else none

/-- The register at an address, with its indexes. -/
def lookupIn : List RegDesc → Nat → Option (RegDesc × List Nat)
  | [], _ => none
  | d :: t, a =>
    if a < d.addr then lookupIn t a
    else match famIndex d.dims (a - d.addr) with
      | some l => some (d, l)
      | none => lookupIn t a

/-- The register at an address of the register space. -/
def lookupReg (a : Nat) : Option (RegDesc × List Nat) := lookupIn regTable a

/-- The reset value of a field of a register instance: as its table says, but for the two fields whose reset value
depends on the index (TE_ORDERr: 8r + e, R208; CMP_MATm_ROWr: 0x1000 on the diagonal, R156). -/
def resetAt (d : RegDesc) (ix : List Nat) (f : FieldDesc) : Nat :=
  if d.name = "TE_ORDERr" then 8 * ix.getD 1 0 + f.lo / 8
  else if d.name = "CMP_MATm_ROWr" then (if f.lo / 16 = ix.getD 1 0 ∧ f.lo < 48 then 0x1000 else 0)
  else f.reset

/-- A field of a register instance by place. -/
def fldAt (d : RegDesc) (ix : List Nat) (a : Nat) (f : FieldDesc) : Fld := ⟨a, f.hi, f.lo, resetAt d ix f⟩

/-- The access code of the field with a register-file key. -/
def keyAcc (k : Nat) : Option Acc :=
  (lookupReg (k / 64)).bind (fun p => (p.1.fields.find? (fun f => f.lo == k % 64)).map FieldDesc.acc)

/-- The lock bit of a block that has WL fields (R16). -/
def lockFld : Blk → Option Fld
  | .mmu => some F.mmuCtrlLOCK
  | .cor => some F.corLifeAddrLOCK
  | .diag => some F.diagThrLOCK
  | .rail k => some (F.railCtrlLOCK.at (k.val * 0x1000))
  | .thm => some F.thmCtrlLOCK
  | .ddr => some F.ddrCfgLOCK
  | _ => none

/-- Whether a block's lock bit is set. -/
def State.locked (s : State) (b : Blk) : Bool :=
  match lockFld b with
  | some f => s.flag f
  | none => false

/-- The locked fields of a block's registers: what a reset other than a power-on or system reset keeps (R16, R418). -/
def State.lockedRegs (s : State) (b : Blk) : RegFile :=
  if s.locked b then (s.regs.only b).filter (fun e => keyAcc e.1 == some .wl) else []

/-- Merge the second register file into the first. -/
def RegFile.merge (r t : RegFile) : RegFile := t.foldl (fun m e => SMap.put m e.1 e.2) r

/-- The registers of a block at their reset values, but for its locked fields. -/
def resetRegs (b : Blk) (s : State) : State :=
  { s with regs := (s.regs.without b).merge (s.lockedRegs b) }

end Sys2Proof.Machine
end

