-- ==== Sys2Proof/Machine/Reset.lean ====
section
/-! DEFINITION. What each kind of reset clears (R418, R422) and the hidden state of each block at reset. -/

namespace Sys2Proof.Machine

/-- MRAM, OTP, flash and boot ROM bytes: what every reset keeps (Table: Reset kinds). -/
def isNvm (a : Nat) : Bool :=
  decide (a < 0x40000) || (decide (0x8000000 ≤ a) && decide (a < 0x8400000)) ||
  (decide (0xC000000 ≤ a) && decide (a < 0xC002000)) || (decide (0x40000000 ≤ a) && decide (a < 0x80000000))

/-- DRAM addresses. -/
def isDram (a : Nat) : Bool := decide (0x800000000 ≤ a)

/-- Keys of the registers of an address range. -/
def keyIn (lo hi k : Nat) : Bool := decide (lo * 64 ≤ k) && decide (k < hi * 64)

/-- Drop event interrupts and NMIs of a block (its identifiers start at its fault identifier). -/
def dropIntr (lo n : Nat) (s : State) : State :=
  { s with evt := s.evt.filter (fun i => !(decide (lo ≤ i) && decide (i < lo + n))),
           nmi := s.nmi.filter (fun i => !(decide (lo ≤ i) && decide (i < lo + n))) }

/-- Set a commit member's staging copies to the values in force (R34). -/
def restage (b : Blk) (s : State) : State :=
  { s with staged := (s.staged.without b).merge (s.inForce.only b) }

/-- Write bytes of memory, keeping the canonical form (unlisted bytes read 0). -/
def putBytes (a : Nat) (l : List Byte) (s : State) : State :=
  { s with mem := (l.foldl (fun p b => (SMap.store p.1 p.2 b 0, p.2 + 1)) (s.mem, a)).1 }

/-- A byte of memory. -/
def State.byte (s : State) (a : Nat) : Byte := SMap.get s.mem a 0

/-- Bytes of memory. -/
def State.bytes (s : State) (a n : Nat) : List Byte := (List.range n).map (fun i => s.byte (a + i))

/-- Context 0 of core 0 starts at monitor level in the boot ROM (R45), which waits to boot (R417). -/
def startHart0 (s : State) : State :=
  { s with mel := { s.mel with harts := SMap.put s.mel.harts 0 { st := .running } },
           rst := { s.rst with romWait := true, recovery := false } }

/-- Cores at reset: contexts, pending events, and the lines their caches had not written back, of which the manual says
no more (assumption 26). -/
def resetCores (s : State) : State :=
  { s with mel := { cycle := s.mel.cycle.filter (fun e => e.1 == 16) }, evt := [], nmi := [], stale := [], cached := [] }

/-- The bytes an operation ended before it was whole has moved: those a pop wrote to memory; whether the bytes a push had
copied to cells that are then freed count as moved is not stated, and free (assumption 42). -/
def movedLen (push : Bool) (n : Nat) (s : State) : Nat := if push && s.freeB then 0 else n

/-- Post a result to a command slot's RES (R108). -/
def postRes (off result len items : Nat) (s : State) : State :=
  s |> setFld (F.qmSlotResSTATE.at off) 2 |> setFld (F.qmSlotResPARK.at off) 0 |> setFld (F.qmSlotResRESULT.at off) result |>
    setFld (F.qmSlotResLEN.at off) len |> setFld (F.qmSlotResITEMS.at off) items

/-- What the operation of a command slot in use has moved: whether it is a push, and the bytes. -/
def State.slotMoved (s : State) (slot : Nat) : Bool × Nat :=
  match s.qm.parks.find? (fun e => e.2.slot == slot), SMap.find s.qm.slots slot with
  | some e, _ => (e.2.isPush, 56 * e.2.done)
  | none, some r => (r.push, r.len)
  | none, none => (true, 0)

/-- A block reset of QM (R445): every queue and park slot empties, and command slots in use end ABORTED. -/
def resetQm (s : State) : State :=
  let regs := s.regs.filter (fun e => !(keyIn 0x20032000 0x20033000 e.1) && !(keyIn 0x20038000 0x20040000 e.1 && e.1 / 64 % 16 == 8))
  let used := (List.range 64).filter (fun k =>
    let st := s.fld (F.qmSlotResSTATE.at (0x20 * k))
    st == 1 || st == 3)
  let t := { s with qm := { cellUe := s.qm.cellUe }, regs := regs }
  used.foldl (fun t k =>
    let m := s.slotMoved k
    postRes (0x20 * k) 0x0B (movedLen m.1 m.2 t) 0 (if m.1 then drawn t else t)) t

/-- The rails of a group left alone by one that a reset takes out (R286, R422). -/
def resetRail (k : Nat) (s : State) : State :=
  let keep := s.regs.filter (fun e => e.1 == (F.railStatNEEDRESTART.rail k).key ||
    (List.range 4).any (fun i => e.1 == ((F.railPhFAILED.rail k).at (8 * i)).key))
  let locked := s.lockedRegs (Blk.railN k)
  let s := { s with regs := ((s.regs.without (Blk.railN k)).merge keep).merge locked, rails := SMap.erase s.rails k }
  restage (Blk.railN k) (neighboursHold k s)

/-- The registers of a block at their reset values, but for its locked fields and those that satisfy `keep`. -/
def resetRegsBut (b : Blk) (keep : Nat → Bool) (s : State) : State :=
  let kept := (s.regs.only b).filter (fun e => keep e.1)
  let s := resetRegs b s
  { s with regs := s.regs.merge kept }

/-- What a block reset does to its block at once (R422, and the chapter of the block): registers return to reset but for
what the chapter keeps, staging copies return to the values in force (R34), hidden state is lost. -/
def blockResetClear (b : Blk) (s : State) : State :=
  match b with
  | .sys => s
  | .mel => startHart0 (resetRegs b (resetCores s))
  | .mmu => resetRegs b { s with dma := [] }
  | .qm => resetQm s
  | .crc => resetRegs b { s with crc := [] }
  | .ddr =>
    let on := s.fld F.ddrStatSTATE
    let s := resetRegsBut b (fun k => k / 64 == F.ddrCfgRATE.addr || k == F.ddrStatTRAININGS.key) s
    if on = 0 then s else setFld F.ddrStatSTATE 1 s
  | .nvm => resetRegsBut b (fun k => k / 64 == F.nvmFlInfoSIZEKIB.addr || k == F.nvmFlStatERASES.key) s
  | .src => restage b (resetRegs b { s with rx := [], txFrames := [] })
  | .cmp =>
    let c := s.cmp
    let list := if c.listStaged then c.list else []
    let fr := c.frame.map (fun f => { f with wbBuf := none })
    restage b (resetRegs b { s with
      cmp := { list := list, listStaged := c.listStaged, loads := c.loads, frame := fr }, handles := [] }) |>
      setFld F.cmpListStatTAG (bits (leAt list 0 4) 15 0) |> setFld F.cmpListStatNLAYERS (bits (leAt list 0 4) 23 20)
  | .cor =>
    restage b (setFld F.corUnderrunN 0 { s with cor := { s.cor with faultNow := [], faultNext := [], fcRow := [], fcMax := [] } })
  | .te n =>
    let s := { s with te := SMap.erase s.te n.val }
    restage b (resetRegsBut b (fun k => n.val == 0 && keyIn 0x21007008 0x21008000 k) s)
  | .ep p =>
    let st := s.fld (F.epPstatSTATE.at (p.val * 0x1000))
    let again := decide (st ≠ 0) && decide (st ≠ 6)
    let s := { s with ports := SMap.put s.ports p.val { restart := again, driveEnd := s.lastDrive p.val } }
    restage b (resetRegsBut b (fun k => p.val == 0 && k / 64 == F.epRefclkOUTEN.addr) s)
  | .ril => resetRegs b { s with ril := [] }
  | .diag => restage b { s with diag := { s.diag with table := [] } }
  | .rail k => resetRail k.val s
  | .thm => restage b s
  | .fan => resetRegs b { s with fan := [] }
  | .rook => restage b { s with regs := s.regs.filter (fun e => !(keyIn 0x24000000 0x24000018 e.1)) }
  | .chn => resetRegs b { s with chn := { mods := s.chn.mods } }
  | .ptp => restage b s
  | .sat => setFlag F.satCtrlEN false s
  | .upd =>
    let s := resetRegs b { s with upd := { recs := s.upd.recs, running := s.upd.running, bootAt := s.upd.bootAt } }
    s |> setFld F.updCtrlTRIALBOOTS s.upd.recs.trialBoots |> setFld F.updCtrlTRIALS s.upd.recs.trialS
  | .dmx => resetRegs b { s with dmx := {} }
  | .can => resetRegs b { s with can := [] }

/-- UPD_CTRL.TRIAL_BOOTS and TRIAL_S load from the bank record after every reset (R401). -/
def loadTrial (s : State) : State :=
  s |> setFld F.updCtrlTRIALBOOTS s.upd.recs.trialBoots |> setFld F.updCtrlTRIALS s.upd.recs.trialS

/-- A pending commit that the scheduled-action table submitted and a reset discards: its entry ends FAILED (R364). -/
def failPending (s : State) : State :=
  match s.commit.pend with
  | some p => (match p.sat with | some e => intr (676 + e) (setFld (F.satECtrlSTATE.at (0x20 * e)) 4 s) | none => s)
  | none => s

/-- Register-file keys that a system reset keeps: PD_AON (PWR and SYS_RST_CAUSE), Rook, and the scheduled-action entries
that SAT reloads from MRAM (R366). -/
def systemKeeps (k : Nat) : Bool :=
  keyIn 0x20000008 0x20000010 k || keyIn 0x20000200 0x20000300 k || keyIn 0x24000000 0x24010000 k || keyIn 0x25110100 0x25120000 k

/-- A system reset (R418): every block outside PD_AON, lock bits and DRAM contents are cleared; PD_AON registers,
MRAM, OTP and flash are kept, and so is Rook, which only its own monitor resets (R304). A power sequence ends in A. -/
def systemClear (s : State) : State :=
  let s := failPending s
  loadTrial { ({} : State) with
    pending := s.pending, free := s.free, now := s.now,
    mem := s.mem.filter (fun e => isNvm e.1),
    ue := s.ue.filter (fun w => isNvm (16 * w)), ce := s.ce.filter (fun w => isNvm (16 * w)),
    regs := s.regs.filter (fun e => systemKeeps e.1),
    inForce := s.inForce.only .rook, staged := s.inForce.only .rook,
    mel := { cycle := s.mel.cycle.filter (fun e => e.1 == 16) },
    pwr := { s.pwr with st := .a, seq := none, stopped := [], domsOff := [], wakeLatch := none },
    rst := { s.rst with romWait := true, recovery := false },
    cor := { cart := s.cor.cart }, rook := s.rook, swc := s.swc, satArm := s.satArm, out := s.out,
    upd := { recs := s.upd.recs } } |> setFld F.pwrStatSTATE 0

/-- The blocks that a warm reset clears (Table: Reset kinds), by register-file key. -/
def warmKey (k : Nat) : Bool :=
  keyIn 0x20010000 0x20050000 k || keyIn 0x20060000 0x22030000 k || keyIn 0x23000000 0x23018000 k || keyIn 0x26000000 0x26010000 k ||
  keyIn 0x20000100 0x20000200 k

/-- The blocks that a warm reset clears. -/
def warmBlk : Blk → Bool
  | .mel | .mmu | .qm | .crc | .nvm | .upd | .src | .cmp | .cor | .te _ | .ep _ | .ril | .diag | .rail _ => true
  | _ => false

/-- Fields of cleared blocks that a warm reset keeps: NEED_RESTART and FAILED of the rails (R274, R279), and locked
fields (R16). -/
def warmKeeps (s : State) (k : Nat) : Bool :=
  (keyIn 0x23000000 0x23018000 k &&
    (k % 0x40000 == F.railStatNEEDRESTART.key % 0x40000 || (List.range 4).any (fun i => k % 0x40000 == (F.railPhFAILED.at (8 * i)).key % 0x40000))) ||
  (match Blk.ofAddr (k / 64) with
   | some b => s.locked b && keyAcc k == some .wl
   | none => false)

/-- A fault register set after a warm reset (R422): its locked reactions stay. -/
def FltSet.warm (f : FltSet) : FltSet := if f.lock then { react := f.react, lock := true } else {}

/-- A warm reset (R418): the blocks it clears, the commit unit, the dose accumulators (R446), and context 0 of core 0 starts. -/
def warmClear (s : State) : State :=
  let s := failPending s
  let s := resetCores s
  let regs := s.regs.filter (fun e => !(warmKey e.1) || warmKeeps s e.1)
  let flt := s.flt.map (fun e => (e.1, match Blk.ofId e.1 with | some b => if warmBlk b then e.2.warm else e.2 | none => e.2))
  startHart0 (loadTrial { s with
    regs := regs, flt := flt,
    mem := s.mem.filter (fun e => !(decide (0x11000000 ≤ e.1) && decide (e.1 < 0x11600000))),
    staged := s.staged.filter (fun e => !(warmKey e.1)), inForce := s.inForce.filter (fun e => !(warmKey e.1)),
    late := s.late.filter (fun e => !(warmKey e.1)), lateLoads := none,
    commit := {}, dma := [], qm := {}, crc := [], handles := [], rx := [], txFrames := [], cmp := {},
    rails := [], cor := { cart := s.cor.cart }, te := [], scan := {}, ports := [], ril := [], diag := {},
    upd := { recs := s.upd.recs } })

end Sys2Proof.Machine
end

