-- ==== Sys2Proof/Machine/Fault.lean ====
section
/-! DEFINITION. The common fault register set (R419–R424, R442): events, captures, reactions and reset shadows. -/

namespace Sys2Proof.Machine

/-- Reaction bits: INT 1, NMI 2, BLOCK_RESET 4, CHIP_RESET 8, ERR_PIN 16. -/
def dflt (l : List Nat) (src : Nat) : BitVec 5 := BitVec.ofNat 5 (l.getD (src - 3) 0)

/-- The default reaction mask of a source (Table: Default reactions, R424). -/
def defaultReact (b : Blk) (src : Nat) : BitVec 5 :=
  if src < 2 then 1
  else if src = 2 then (match b with | .sat | .dmx | .can => 0 | _ => 1)
  else match b with
    | .sys => dflt [1, 1, 1, 1, 17, 1, 1, 17, 17] src
    | .mel => dflt [17, 1, 3] src
    | .mmu => dflt [3, 1, 1, 1] src
    | .qm => dflt [17, 1, 1, 1] src
    | .crc => 0
    | .ddr => dflt [17, 1, 17, 1] src
    | .nvm => dflt [17, 17, 1] src
    | .src => dflt [1, 1, 1, 1] src
    | .cmp => dflt [1, 17, 1, 0, 1, 1, 1, 1, 1] src
    | .cor => dflt [17, 1, 1, 1, 17, 1, 17, 1] src
    | .te n => dflt [1, 1, 1, 1, if n.val = 0 then 17 else 0] src
    | .ep _ => dflt [17, 17, 17, 0, 0, 0, 1, 1] src
    | .ril => dflt [1] src
    | .diag => dflt [1, 1, 1, 1, 1, 17, 17] src
    | .rail _ => dflt [17, 17, 17, 17, 17, 1, 1] src
    | .thm => dflt [1, 1, 17, 1, 19] src
    | .fan => dflt [17] src
    | .rook => dflt [17, 17, 17, 1, 1, 1, 17, 17, 17, 1, 17, 1] src
    | .chn => dflt [1, 0, 0, 0, 1, 0, 1] src
    | .ptp => dflt [1, 1, 1, 1] src
    | .sat => dflt [1, 1, 1] src
    | .upd => dflt [1, 0, 1, 17, 1, 1, 1, 1] src
    | .dmx => dflt [1, 1] src
    | .can => dflt [1, 1] src

/-- Bit 2 of every mask reads 0 for SYS/PWR/RST and ROOK (R422). -/
def noBlockReset : Blk → Bool
  | .sys | .rook => true
  | _ => false

/-- The fault set of a block. -/
def State.fltSet (s : State) (b : Blk) : FltSet := SMap.get s.flt b.id {}

/-- Replace the fault set of a block. -/
def setFlt (b : Blk) (f : FltSet) (s : State) : State := { s with flt := SMap.put s.flt b.id f }

/-- The reaction mask of a source in force. -/
def State.react (s : State) (b : Blk) (src : Nat) : BitVec 5 :=
  let m := SMap.get (s.fltSet b).react src (defaultReact b src)
  if noBlockReset b then m &&& 0b11011 else m

/-- Whether the INT reaction of a block asserts its fault interrupt (R420). -/
def State.fltInt (s : State) (b : Blk) : Bool :=
  (List.range 32).any (fun i => (s.fltSet b).stat.getLsbD i && (s.react b i).getLsbD 0)

/-- Whether a block asserts ERR_N (R420). -/
def State.fltErr (s : State) (b : Blk) : Bool :=
  (List.range 32).any (fun i => (s.fltSet b).stat.getLsbD i && (s.react b i).getLsbD 4)

/-- ERR_N is asserted while any block holds such a bit (R420). -/
def State.errN (s : State) : Bool := s.flt.any (fun e => match Blk.ofId e.1 with | some b => s.fltErr b | none => false)

/-- What an event says of itself: address and master for the capture, its type, the tile it concerns, and for a
handshake timeout the block of the far side. -/
structure Ev where
  addr : Nat := 0
  mstr : Nat := 255
  typ : Nat := 0
  tile : Option Nat := none
  into : Option Blk := none

/-- Whether the reset shadow of a block is running (R423). -/
def State.shadowOf (s : State) (b : Blk) : Bool := (SMap.find s.shadow b.id).isSome

/-- Whether an event of a source lies in the shadow of a block it watches (Table: Reset shadow; UNDERRUN also in that of COR
itself, R446; assumption 82). -/
def State.shadowed (s : State) (b : Blk) (src : Nat) (e : Ev) : Bool :=
  let sh := s.shadowOf
  (src == 0 && (match e.into with | some x => decide (x ≠ b) && sh x | none => false)) ||
  (match b, src with
   | .rook, _ => false
   | .mmu, 3 => sh .ddr | .mmu, 4 => sh .ddr | .mmu, 6 => sh .ddr
   | .mmu, 5 => sh .qm
   | .cmp, 5 => sh .ddr | .cmp, 11 => sh .ddr | .cmp, 7 => sh .ddr
   | .cmp, 6 => sh .qm
   | .cor, 3 => sh .ddr | .cor, 4 => sh .ddr | .cor, 5 => sh .ddr || sh .cmp || sh .cor | .cor, 10 => sh .ddr
   | .diag, 6 => sh .ddr | .diag, 7 => sh .qm
   | .src, 3 => sh .ddr
   | .chn, 9 => sh .qm
   | .rail _, 9 => sh .cmp || sh .cor
   | .te n, 3 => sh .cor || sh (Blk.epN (n.val / 8))
   | .ep p, 6 => (List.range 8).any (fun i => sh (Blk.teN (8 * p.val + i)))
   | .ep p, 7 => (List.range 8).any (fun i => sh (Blk.teN (8 * p.val + i)))
   | .ep p, 8 => (List.range 8).any (fun i => sh (Blk.teN (8 * p.val + i)))
   | .diag, 3 => (match e.tile with | some t => sh (Blk.teN t) || sh (Blk.epN (t / 8)) | none => false)
   | .diag, 4 => (match e.tile with | some t => sh (Blk.teN t) || sh (Blk.epN (t / 8)) | none => false)
   | .thm, 3 => (match e.tile with | some t => sh (Blk.epN (t / 8)) | none => false)
   | .rail k, 3 => (List.range 24).any (fun i => i / 3 == k.val / 3 && i != k.val && sh (Blk.railN i))
   | .rail k, 4 => (List.range 24).any (fun i => i / 3 == k.val / 3 && i != k.val && sh (Blk.railN i))
   | .rail k, 5 => (List.range 24).any (fun i => i / 3 == k.val / 3 && i != k.val && sh (Blk.railN i))
   | _, _ => false)

/-- The fault set after an event (R419): the FLT_STAT bit is set, and a capture that is not frozen is filled. -/
def FltSet.event (f : FltSet) (src : Nat) (e : Ev) (gt : Nat) : FltSet :=
  { f with
    stat := f.stat ||| BitVec.ofNat 32 (1 <<< src),
    cap := if f.cap.valid then f.cap else
      { valid := true, addr := BitVec.ofNat 48 e.addr, mstr := BitVec.ofNat 8 e.mstr, src := BitVec.ofNat 5 src,
        typ := BitVec.ofNat 4 e.typ, time := BitVec.ofNat 64 gt } }

/-- A tagged event counts in CONSEQ, saturating (R423). -/
def FltSet.tag (f : FltSet) : FltSet := { f with conseq := if f.conseq = 0xFFFF then f.conseq else f.conseq + 1 }

/-- FLT_CAP_TYPE as a register word. -/
def Cap.typeWord (c : Cap) : Nat := b2n c.valid * 2 ^ 31 + c.src.toNat * 256 + c.typ.toNat

end Sys2Proof.Machine
end

