-- ==== Sys2Proof/Machine/Raise.lean ====
section
/-! DEFINITION. Raising a fault event with its reactions (R419–R423), block resets (R422), and system resets (R418)
with the first-error record (R442). -/

namespace Sys2Proof.Machine

/-- Hold a block in reset (R422): 16 µs, 2,000 µs for DDR; its shadow runs 64 µs longer (R423). A reset that arrives
while the block is in reset is ignored. -/
def startBlockReset (b : Blk) (s : State) : State :=
  if (SMap.find s.blkReset b.id).isSome then s
  else
    let t := s.now + (if b = .ddr then 2000000 else 16000)
    let s := { s with blkReset := SMap.put s.blkReset b.id t, shadow := SMap.put s.shadow b.id (t + 64000) }
    blockResetClear b s

/-- Whether a block is held in a block reset. -/
def State.inReset (s : State) (b : Blk) : Bool := (SMap.find s.blkReset b.id).isSome

/-- The step of the power sequence that stops a block (R406). -/
def stepOf : Blk → Nat
  | .rook => 1 | .rail _ => 2 | .te _ | .ep _ | .ril => 3 | .cmp | .cor | .diag => 4 | .src => 5 | .mel | .crc => 6
  | .mmu | .qm => 7 | .upd | .nvm => 8 | .sys => 9 | .chn | .ptp | .sat | .dmx | .can | .thm | .fan => 10 | .ddr => 11

/-- Whether a commit finds the block of one of its members held: in a block reset, but for PTP, whose timeline runs on
through its own (R422), or stopped by the power sequence, but for Rook (R34; assumption 76). -/
def State.commitHeld (s : State) (b : Blk) : Bool :=
  match b with
  | .rook => false
  | .ptp => s.pwr.stopped.contains 10
  | _ => s.inReset b || s.pwr.stopped.contains (stepOf b)

/-- Registers of the windows of TE0 and EP0 that serve every instance. -/
def sharedKey (k : Nat) : Bool := keyIn 0x21007000 0x21008000 k || keyIn 0x22000800 0x22000810 k

/-- Whether the value of a staged field waits for its block to leave. -/
def State.keyHeld (s : State) (k : Nat) : Bool :=
  match Blk.ofAddr (k / 64) with
  | some b => if sharedKey k then s.pwr.stopped.contains 3 else s.commitHeld b
  | none => false

/-- Bring values of an applied commit into force, or hold them for their blocks. -/
def intoForce (l : RegFile) (s : State) : State :=
  { s with inForce := s.inForce.merge (l.filter (fun e => !(s.keyHeld e.1))),
           late := s.late.merge (l.filter (fun e => s.keyHeld e.1)) }

/-- The first-error record of R442. -/
def firstErrorRecord (b : Blk) (f : FltSet) (gt : Nat) : List Byte :=
  let body := leBytes 8 gt ++ leBytes 4 b.id ++ leBytes 4 f.stat.toNat ++ leBytes 8 f.cap.addr.toNat ++
    leBytes 4 f.cap.mstr.toNat ++ leBytes 4 f.cap.typeWord ++ leBytes 8 f.cap.time.toNat
  body ++ leBytes 4 (crc32c body) ++ leBytes 4 0

/-- The CHIP_RESET reaction (R420): the record is written, CHIP_ID and CHIP_SRC are recorded, and the device takes a
system reset. -/
def chipReset (b : Blk) (src : Nat) (s : State) : State :=
  let s := putBytes 0x8010000 (firstErrorRecord b (s.fltSet b) s.gt) s
  let s := s |> setFld F.sysRstCauseCHIPID b.id |> setFld F.sysRstCauseCHIPSRC src |> setFlag F.sysRstCauseCHIP true
  systemClear s

/-- Take the reactions of an event that found its FLT_STAT bit clear, after ERR_PIN and INT, which follow from the
bit itself (R420). -/
def takeReactions (b : Blk) (src : Nat) (s : State) : State :=
  let m := s.react b src
  let s := if m.getLsbD 1 then { s with nmi := insertN b.id s.nmi } else s
  if m.getLsbD 3 then chipReset b src s else if m.getLsbD 2 then startBlockReset b s else s

/-- An event of source `src` of block `b` (R419, R420, R423). -/
def raise (b : Blk) (src : Nat) (e : Ev) (s : State) : State :=
  let f := s.fltSet b
  if s.shadowed b src e then setFlt b f.tag s
  else
    let s' := setFlt b (f.event src e s.gt) s
    if f.stat.getLsbD src then s' else takeReactions b src s'

/-- A condition that rises makes one event; while it stands, it makes no other (R419). -/
def raiseCond (b : Blk) (src : Nat) (e : Ev) (s : State) : State :=
  let f := s.fltSet b
  if f.raw.getLsbD src then s
  else raise b src e (setFlt b { f with raw := f.raw ||| BitVec.ofNat 32 (1 <<< src) } s)

/-- A condition ends. -/
def endCond (b : Blk) (src : Nat) (s : State) : State :=
  let f := s.fltSet b
  setFlt b { f with raw := f.raw &&& ~~~(BitVec.ofNat 32 (1 <<< src)) } s

end Sys2Proof.Machine
end

