-- ==== Sys2Proof/Machine/Mem.lean ====
section
/-! DEFINITION. The physical address map (R21, R22, R382) and accesses to it: regions, permissions, the (144,128) code
(R437, R443), and the bytes that stay old in DRAM under core cache lines (R90). -/

namespace Sys2Proof.Machine

/-- A cause and subcause (Table: Cause codes). -/
structure Cause where
  code : Nat
  sub : Nat := 0
  deriving DecidableEq, Repr

/-- An initiator: its MSTR number, whether it runs at monitor level, its capture type for reads and writes, and its key
among the initiators whose crossing has timed out. -/
structure Who where
  mstr : Nat
  mon : Bool := false
  rd : Nat := 1
  wr : Nat := 2
  late : Nat := mstr
  deriving DecidableEq, Repr

/-- Regions of the physical address map. -/
inductive Region where
  | rom | mramUpd | mramSys | mramRook | mramFw | otp | frameStore (n : Nat) | pool | lineBuf | corCache | scratch
  | regs | flash | dram | none
  deriving DecidableEq, Repr

/-- DRAM visible at 0x08_0000_0000: eight ninths of two channels of SIZE × 256 MiB, rounded down to 2 MiB (R437). -/
def State.usable (s : State) : Nat := (2 * s.fld F.ddrCfgSIZE * 0x10000000 * 8 / 9) / 0x200000 * 0x200000

/-- The region of a physical address (Table: Physical address map, Table: Shared SRAM map, Table: MRAM regions). -/
def State.region (s : State) (a : Nat) : Region :=
  if a < 0x40000 then .rom
  else if 0x8000000 ≤ a ∧ a < 0x8010000 then .mramUpd
  else if 0x8010000 ≤ a ∧ a < 0x8020000 then .mramSys
  else if 0x8020000 ≤ a ∧ a < 0x8040000 then .mramRook
  else if 0x8040000 ≤ a ∧ a < 0x8400000 then .mramFw
  else if 0xC000000 ≤ a ∧ a < 0xC002000 then .otp
  else if 0x10000000 ≤ a ∧ a < 0x10C00000 then .frameStore ((a - 0x10000000) / 0xC000)
  else if 0x10C00000 ≤ a ∧ a < 0x10D00000 then .pool
  else if 0x10D00000 ≤ a ∧ a < 0x11000000 then .lineBuf
  else if 0x11000000 ≤ a ∧ a < 0x11800000 then .corCache
  else if 0x11800000 ≤ a ∧ a < 0x12800000 then .scratch
  else if 0x20000000 ≤ a ∧ a < 0x30000000 then .regs
  else if 0x40000000 ≤ a ∧ a < 0x80000000 then .flash
  else if 0x800000000 ≤ a ∧ a < 0x800000000 + s.usable then .dram
  else .none

/-- A tile engine is active unless its EN in force is 0 (R221). -/
def State.teActive (s : State) (n : Nat) : Bool := s.inFlag (F.teCtrlEN.at (n * 0x10000))

/-- CMP is active unless its EN in force is 0. -/
def State.cmpActive (s : State) : Bool := s.inFlag F.cmpCtrlEN

/-- COR is active unless its EN in force is 0. -/
def State.corActive (s : State) : Bool := s.inFlag F.corCtrlEN

/-- The 128-bit words an access meets. -/
def wordsOf (a n : Nat) : List Nat := (List.range ((a + n - 1) / 16 + 1 - a / 16)).map (fun i => a / 16 + i)

/-- A counter field that saturates. -/
def countSat (f : Fld) (k : Nat) (s : State) : State := setFld f (min (s.fld f + k) (2 ^ f.width - 1)) s

/-- A counter field that wraps. -/
def countMod (f : Fld) (k : Nat) (s : State) : State := setFld f (s.fld f + k) s

/-- The report of an uncorrectable error by the block that owns the storage (R437, R443). -/
def reportUe (w : Who) (typ a : Nat) (s : State) : State :=
  let e : Ev := { addr := a, mstr := w.mstr, typ := typ }
  match s.region a with
  | .dram => raise .ddr 3 e (countSat F.ddrEccUE 1 s)
  | .mramUpd | .mramSys | .mramRook | .mramFw => raise .nvm 3 e (countSat F.nvmMramStatUECOUNT 1 s)
  | .otp => raise .nvm 4 e s
  | .frameStore n => raise (Blk.teN n) 6 e s
  | _ => s

/-- A correctable error is corrected and written back, counted and reported (R437). -/
def reportCe (w : Who) (typ a : Nat) (s : State) : State :=
  let s := { s with ce := s.ce.filter (fun x => x != a / 16) }
  match s.region a with
  | .dram => raise .ddr 4 { addr := a, mstr := w.mstr, typ := typ }
      (countSat F.ddrEccCE 1 (setFld F.ddrCeAddrADDR a s))
  | .mramUpd | .mramSys | .mramRook | .mramFw => countSat F.nvmMramStatCECOUNT 1 s
  | .otp => countSat F.nvmMramStatOTPCE 1 s
  | .frameStore n => countMod (F.teStatCECOUNT.at (n * 0x10000)) 1 s
  | _ => s

/-- Check bits of a read: correctable words are corrected, an uncorrectable word gives cause 0x10. -/
def eccRead (w : Who) (typ a n : Nat) (s : State) : Option Cause × State :=
  let ws := wordsOf a n
  match ws.find? (fun x => s.ue.contains x) with
  | some x => (some ⟨0x10, 0⟩, reportUe w typ (16 * x) s)
  | none => (none, (ws.filter (fun x => s.ce.contains x)).foldl (fun t x => reportCe w typ (16 * x) t) s)

/-- An address outside every region, or in the register space and in no window (R21). -/
def State.unclaimed (s : State) (a : Nat) : Bool :=
  match s.region a with
  | .none => true
  | .regs => (Blk.ofAddr a).isNone
  | _ => false

/-- An access outside every region: cause 0x04 subcause 0x02, and SYS captures it (R21). -/
def badAddr (w : Who) (typ a : Nat) (s : State) : Option Cause × State :=
  (some ⟨4, 2⟩, raise .sys 6 { addr := a, mstr := w.mstr, typ := typ } s)

/-- The capture of an access that R11 refuses, in the set of the block that owns the address: there is no source for
it, so no FLT_STAT bit is set. -/
def captureOnly (b : Blk) (mstr typ a : Nat) (s : State) : State :=
  let f := s.fltSet b
  if f.cap.valid then s
  else setFlt b { f with cap := { valid := true, addr := BitVec.ofNat 48 a, mstr := BitVec.ofNat 8 mstr, src := 0,
                                  typ := BitVec.ofNat 4 typ, time := BitVec.ofNat 64 s.gt } } s

/-- An access to the register space that is not performed: outside every window as R21 says, and in a window with
cause 0x05 and the capture of R11. -/
def regRefuse (w : Who) (typ a : Nat) (s : State) : Cause × State :=
  match Blk.ofAddr a with
  | none => let r := badAddr w typ a s; (⟨4, 2⟩, r.2)
  | some b => (⟨5, 0⟩, captureOnly b w.mstr typ a s)

/-- Whether an access of memory may be performed: none, or the cause it gives. Only a core's loads and stores are
accesses of 32 or 64 bits that the register space takes (R11; assumption 72). -/
def checkRead (w : Who) (typ a n : Nat) (s : State) : Option Cause × State :=
  match s.region a with
  | .none => badAddr w typ a s
  | .pool => (some ⟨4, 3⟩, s)
  | .rom => if w.mon then eccRead w typ a n s else (some ⟨4, 2⟩, s)
  | .mramRook => (some ⟨4, 2⟩, s)
  | .regs => let r := regRefuse w typ a s; (some r.1, r.2)
  | _ => if s.region (a + n - 1) = .none then badAddr w typ (a + n - 1) s else eccRead w typ a n s

/-- Read n bytes of memory outside the register space. -/
def memRead (w : Who) (a n : Nat) (s : State) : Except Cause (List Byte) × State :=
  let r := checkRead w w.rd a n s
  match r.1 with
  | some c => (.error c, r.2)
  | none => (.ok (r.2.bytes a n), r.2)

/-- What a write of memory may meet: it is performed, not performed without a cause (R22), or refused with a cause. -/
inductive WCheck where
  | go | drop | err (c : Cause)
  deriving DecidableEq, Repr

/-- The check of a write (R21, R22, R382, and read-only regions, assumption 9). -/
def checkWrite (w : Who) (a n : Nat) (s : State) : WCheck × State :=
  let e : Ev := { addr := a, mstr := w.mstr, typ := w.wr }
  match s.region a with
  | .none => let r := badAddr w w.wr a s; (.err ⟨4, 2⟩, r.2)
  | .pool => (.err ⟨4, 3⟩, s)
  | .rom | .otp | .flash | .mramUpd | .mramSys | .mramRook => (.err ⟨4, 2⟩, s)
  | .regs => let r := regRefuse w w.wr a s; (.err r.1, r.2)
  | .frameStore t => if s.teActive t then (.drop, raise (Blk.teN t) 1 e s) else (.go, s)
  | .lineBuf => if s.cmpActive then (.drop, raise .cmp 1 e s) else (.go, s)
  | .corCache => if s.corActive then (.drop, raise .cor 1 e s) else (.go, s)
  | _ => if s.region (a + n - 1) = .none then let r := badAddr w w.wr (a + n - 1) s; (.err ⟨4, 2⟩, r.2) else (.go, s)

/-- The words of a range that it covers whole (R443). -/
def wholeWords (a n : Nat) : List Nat := (wordsOf a n).filter (fun x => decide (a ≤ 16 * x) && decide (16 * x + 16 ≤ a + n))

/-- Store bytes with their check bits: whole words lose their error marks; a partial word with an uncorrectable error
keeps it, and the write is not performed (R443). -/
def eccStore (w : Who) (a : Nat) (l : List Byte) (s : State) : Option Cause × State :=
  let whole := wholeWords a l.length
  let part := (wordsOf a l.length).filter (fun x => !(whole.contains x))
  match part.find? (fun x => s.ue.contains x) with
  | some x => (some ⟨0x10, 0⟩, reportUe w w.wr (16 * x) s)
  | none =>
    let ws := wordsOf a l.length
    (none, putBytes a l { s with ue := s.ue.filter (fun x => !(whole.contains x)),
                                 ce := s.ce.filter (fun x => !(ws.contains x)) })

/-- Write bytes of memory outside the register space. -/
def memWrite (w : Who) (a : Nat) (l : List Byte) (s : State) : Option Cause × State :=
  match l with
  | [] => (none, s)
  | _ =>
    let r := checkWrite w a l.length s
    match r.1 with
    | .err c => (some c, r.2)
    | .drop => (none, r.2)
    | .go => eccStore w a l r.2

/-- Note the old bytes under a core's cached store: DRAM holds them until the line is written back (R90). -/
def markStale (a n : Nat) (s : State) : State :=
  let add := fun (m : SMap Byte) (i : Nat) =>
    if (SMap.find m (a + i)).isSome then m else SMap.put m (a + i) (s.byte (a + i))
  { s with stale := (List.range n).foldl add s.stale }

/-- The entries of a byte map outside a range. -/
def dropBytes (m : SMap Byte) (a n : Nat) : SMap Byte := m.filter (fun e => !(decide (a ≤ e.1) && decide (e.1 < a + n)))

/-- Whether a byte map has an entry in a range. -/
def anyBytes (m : SMap Byte) (a n : Nat) : Bool := m.any (fun e => decide (a ≤ e.1) && decide (e.1 < a + n))

/-- Forget old bytes: they were written back, or overwritten by an initiator that goes to DRAM coherently. -/
def unstale (a n : Nat) (s : State) : State := { s with stale := dropBytes s.stale a n, cached := dropBytes s.cached a n }

/-- Whether any old byte stands in a range. -/
def State.anyStale (s : State) (a n : Nat) : Bool := anyBytes s.stale a n

/-- The bytes a real-time initiator reads (R90: it does not snoop): where old bytes stand under a line, whether the
line has been written back is free (assumption 10). -/
def State.rtBytes (s : State) (old : Bool) (a n : Nat) : List Byte :=
  (List.range n).map (fun i => if old then SMap.get s.stale (a + i) (s.byte (a + i)) else s.byte (a + i))

/-- The bytes a core's cached load answers from memory bytes `l`: where a clean line may still hold the bytes from before
a real-time write, whether it does is free (R90; assumption 10). -/
def State.coreBytes (s : State) (old : Bool) (a : Nat) (l : List Byte) : List Byte :=
  (List.range l.length).map (fun i => if old then SMap.get s.cached (a + i) (l.getD i 0) else l.getD i 0)

/-- The first byte of the 64-byte line that holds an address. -/
def lineBase (a : Nat) : Nat := a / 64 * 64

/-- The bytes of the lines that an access meets. -/
def linesLen (a n : Nat) : Nat := lineBase (a + n - 1) + 64 - lineBase a

/-- A core's cached store makes its lines dirty as its cache holds them: with the bytes from before a real-time write, or
with the new ones, which is free (R90; assumption 10). -/
def settleLines (a n : Nat) (s : State) : State :=
  let lo := lineBase a
  let k := linesLen a n
  if !(anyBytes s.cached lo k) then s
  else
    let held := s.cached.filter (fun e => decide (lo ≤ e.1) && decide (e.1 < lo + k))
    let t := { drawn s with cached := dropBytes s.cached lo k }
    if s.freeB then
      { t with stale := held.foldl (fun m e => SMap.put m e.1 (s.byte e.1)) t.stale,
               mem := held.foldl (fun m e => SMap.store m e.1 e.2 0) t.mem }
    else t

/-- What a write of DRAM that snoops no cache leaves the cores with (R90), from the state `s` before it and `t` after it.
A line that a core has written stays over the new bytes unless it was written back before, which is free; a clean line
may go on holding the bytes from before (assumption 10). -/
def writeUnder (a n : Nat) (s t : State) : State :=
  let lo := lineBase a
  let k := linesLen a n
  let any := anyBytes s.stale lo k
  let dirty := any && t.freeB
  let isOver := fun (x : Nat) => dirty && anyBytes s.stale (lineBase x) 64
  let rng := (List.range n).map (fun i => a + i)
  let dirtyB := rng.filter isOver
  let plain := rng.filter (fun x => !(isOver x))
  let u := if any then drawn t else t
  { u with
    stale := dirtyB.foldl (fun m x => SMap.put m x (t.byte x)) (if dirty then u.stale else dropBytes u.stale lo k),
    cached := plain.foldl (fun m x => if (SMap.find m x).isSome then m else SMap.put m x (s.byte x)) u.cached,
    mem := dirtyB.foldl (fun m x => SMap.store m x (s.byte x) 0) u.mem }

end Sys2Proof.Machine
end

