-- ==== Sys2Proof/Machine/QueueOps.lean ====
section
/-! DEFINITION. The queue manager's cells, items and pointers (R106–R112): what every push and pop is made of, and
the pushes that hardware blocks make. -/

namespace Sys2Proof.Machine

/-- A queue. -/
def State.queue (s : State) (q : Nat) : QueueState := SMap.get s.qm.queues q {}

/-- Replace a queue. -/
def setQueue (q : Nat) (v : QueueState) (s : State) : State := { s with qm := { s.qm with queues := SMap.put s.qm.queues q v } }

/-- Write both copies of a queue's pointers (R112). -/
def setPtrs (q : Nat) (p : QPtrs) (s : State) : State := setQueue q { s.queue q with a := p, b := p } s

/-- A field of QM_Qq_CFG or QM_Qq_STAT. -/
def Fld.q (f : Fld) (q : Nat) : Fld := f.at (q * 0x10)

/-- Cells needed by an item of n bytes: 56 payload bytes each, at least one. -/
def cellsFor (n : Nat) : Nat := max 1 ((n + 55) / 56)

/-- Free cells of the pool: none can be taken while QM is in reset (R445). -/
def State.freeCells (s : State) : Nat := 16384 - s.qm.cells.length

/-- The lowest n free cells. -/
def State.takeCells (s : State) (n : Nat) : List Nat :=
  ((List.range (s.qm.cells.length + n)).filter (fun i => (SMap.find s.qm.cells i).isNone)).take n

/-- The chain of cells from a cell, at most n of them. -/
def chain (cells : SMap QCell) : Nat → Nat → List Nat
  | 0, _ => []
  | n + 1, i => i :: chain cells n (SMap.get cells i {}).next

/-- The cells of the item that starts at a cell: up to its last cell. -/
def itemCells (cells : SMap QCell) : Nat → Nat → List Nat
  | 0, _ => []
  | n + 1, i => if (SMap.get cells i {}).last then [i] else i :: itemCells cells n (SMap.get cells i {}).next

/-- The retained cells: from the mark up to the head, or to the tail when no item is linked (R111). -/
def retained (cells : SMap QCell) (p : QPtrs) : List Nat :=
  match p.markAt with
  | none => []
  | some m =>
    match p.head with
    | some h => (chain cells 16384 m).takeWhile (fun i => i != h)
    | none =>
      match p.tail with
      | some t => (chain cells 16384 m).takeWhile (fun i => i != t) ++ [t]
      | none => []

/-- Free cells. -/
def freeList (l : List Nat) (s : State) : State :=
  { s with qm := { s.qm with cells := l.foldl (fun m i => SMap.erase m i) s.qm.cells } }

/-- Note the fewest free cells seen (QM_POOL.LOW). -/
def noteLow (s : State) : State :=
  if s.freeCells < s.fld F.qmPoolLOW then setFld F.qmPoolLOW s.freeCells s else s

/-- Drop a rewind mark and free the cells it retains. -/
def dropMark (q : Nat) (s : State) : State :=
  let p := (s.queue q).a
  let r := retained s.qm.cells p
  let tail := if p.head.isNone then none else p.tail
  s |> freeList r |> setPtrs q { p with marked := false, markAt := none, cells := p.cells - r.length, tail := tail }

/-- The judgement of a push for n cells (R107, R111): none where the cells may be taken, else the result code. A mark
that retains cells is dropped when the push would exceed the quota. -/
def judgePush (q n : Nat) (s : State) : Option Nat × State :=
  let quota := s.fld (F.qmQCfgQUOTA.q q)
  let p := (s.queue q).a
  let s1 :=
    if quota < p.cells + n ∧ (retained s.qm.cells p) ≠ [] then
      let s := dropMark q s
      let s := setQueue q { s.queue q with lost := true } s
      setFlag (F.qmQStatMARKLOST.q q) true s
    else s
  if quota < (s1.queue q).a.cells + n then (some 2, s1)
  else if s1.inReset .qm ∨ s1.freeCells < n then (some 3, raise .qm 5 { addr := q, typ := 5 } s1)
  else (none, s1)

/-- The cells of an item of given bytes, in order. -/
def mkCells (q : Nat) (idle : Bool) (bytes : List Byte) (idx : List Nat) : List (Nat × QCell) :=
  (List.range idx.length).map (fun j =>
    (idx.getD j 0, { payload := slice bytes (56 * j) 56, next := idx.getD (j + 1) 0, owner := q, first := j == 0,
                     last := j + 1 == idx.length, idle := idle, len := if j = 0 then bytes.length else 0 }))

/-- Take cells for an item: they count against the quota at once (R107). -/
def allocItem (q : Nat) (idle : Bool) (bytes : List Byte) (idx : List Nat) (s : State) : State :=
  let p := (s.queue q).a
  let cells := (mkCells q idle bytes idx).foldl (fun m e => SMap.put m e.1 e.2) s.qm.cells
  { s with qm := { s.qm with cells := cells } } |> setPtrs q { p with cells := p.cells + idx.length } |> noteLow

/-- Link a filled item whole (R106). Its cells have been written with new check bits, so that no error marks stay. -/
def linkItem (q : Nat) (idx : List Nat) (s : State) : State :=
  let p := (s.queue q).a
  let f := idx.headD 0
  let l := idx.getLastD 0
  let cells := match p.tail with
    | some t => SMap.put s.qm.cells t { SMap.get s.qm.cells t {} with next := f }
    | none => s.qm.cells
  { s with qm := { s.qm with cells := cells, cellUe := s.qm.cellUe.filter (fun i => !(idx.contains i)) } } |>
    setPtrs q { p with head := if p.head.isNone then some f else p.head, tail := some l, items := p.items + 1,
                       markAt := if p.marked && p.markAt.isNone then some f else p.markAt }

/-- Take the head item out of the queue: its cells are freed, or retained under a mark (R111). -/
def unlinkHead (q : Nat) (s : State) : State :=
  let p := (s.queue q).a
  match p.head with
  | none => s
  | some h =>
    let cs := itemCells s.qm.cells 64 h
    let nxt := (SMap.get s.qm.cells (cs.getLastD h) {}).next
    let p1 := { p with items := p.items - 1, head := if p.items ≤ 1 then none else some nxt }
    if p.marked then setPtrs q p1 s
    else s |> freeList cs |> setPtrs q { p1 with cells := p.cells - cs.length, tail := if p.items ≤ 1 then none else p.tail }

/-- The bytes of the item at a queue's head. -/
def State.headBytes (s : State) (q : Nat) : List Byte :=
  match (s.queue q).a.head with
  | none => []
  | some h =>
    let cs := itemCells s.qm.cells 64 h
    (cs.flatMap (fun i => (SMap.get s.qm.cells i {}).payload)).take (SMap.get s.qm.cells h {}).len

/-- The queue becomes BROKEN and Q_INTEGRITY is raised, with capture type "queue operation" (R112). -/
def breakQueue (q : Nat) (src : Nat) (s : State) : State :=
  raise .qm src { addr := q, typ := 5 } (setQueue q { s.queue q with st := .broken } s)

/-- The compare of both pointer copies that every command makes before it acts (R112): true where they agree. -/
def ptrsAgree (q : Nat) (s : State) : Bool := decide ((s.queue q).a = (s.queue q).b)

/-- Every cell read during a pop belongs to the queue (R112), and none has an uncorrectable error. -/
def cellsOwned (q : Nat) (cs : List Nat) (s : State) : Bool := cs.all (fun i => (SMap.get s.qm.cells i { owner := 1024 }).owner == q)

/-- The checks of R108 steps 3–5 and the compare of R112: none to go on, else the result. -/
def queueCheck (q : Nat) (s : State) : Option Nat × State :=
  let v := s.queue q
  if !(s.flag (F.qmQCfgEN.q q)) then (some 6, s)
  else if v.st = .resetting then (some 5, s)
  else if v.st = .broken then (some 0x12, s)
  else if !(ptrsAgree q s) then (some 0x12, breakQueue q 3 s)
  else (none, s)

/-- A push by a hardware block of one item: whether it succeeded. -/
def hwPush (q : Nat) (bytes : List Byte) (s : State) : Bool × State :=
  let c := queueCheck q s
  match c.1 with
  | some _ => (false, c.2)
  | none =>
    let n := cellsFor bytes.length
    let j := judgePush q n c.2
    match j.1 with
    | some _ => (false, j.2)
    | none =>
      let idx := j.2.takeCells n
      (true, linkItem q idx (allocItem q false bytes idx j.2))

/-- A pop by a hardware block: the item's bytes, or nothing where the queue holds no item or cannot be read. -/
def hwPop (q : Nat) (s : State) : Option (List Byte) × State :=
  let c := queueCheck q s
  match c.1, (c.2.queue q).a.head with
  | none, some h =>
    if c.2.inReset .qm then (none, c.2)
    else if c.2.qm.parks.any (fun e => !e.2.isPush && e.2.queue == q) then (none, c.2)
    else
      let cs := itemCells c.2.qm.cells 64 h
      if cs.any (fun i => c.2.qm.cellUe.contains i) then (none, breakQueue q 4 c.2)
      else if cellsOwned q cs c.2 then (some (c.2.headBytes q), unlinkHead q c.2)
      else (none, breakQueue q 3 c.2)
  | _, _ => (none, c.2)

end Sys2Proof.Machine
end

