-- ==== Sys2Proof/Machine/Mmu.lean ====
section
/-! DEFINITION. Address translation (R74–R88), translation caches, fault records (R95, R102), and the virtual accesses
of general channels, queue operations and real-time initiators. -/

namespace Sys2Proof.Machine

/-- Kinds of access: the page-fault cause of each is 1, 2, 3 (R76). -/
inductive Acc3 where
  | fetch | read | write
  deriving DecidableEq, Repr

/-- Page-fault cause of an access (R76). -/
def Acc3.pf : Acc3 → Nat
  | .fetch => 1 | .read => 2 | .write => 3

/-- Initiator classes of Table: Permission checks. -/
inductive PClass where
  | task | kernel | general | rt
  deriving DecidableEq, Repr

/-- A failed translation or access: cause, and whether the read of a table entry itself failed (PHASE 4). -/
structure VErr where
  cause : Cause
  va : Nat := 0
  walkRead : Bool := false
  deriving DecidableEq, Repr

/-- Table addresses must lie in DRAM or general scratch SRAM (R77). -/
def State.tableOk (s : State) (a : Nat) : Bool :=
  match s.region a with
  | .dram | .scratch => true
  | _ => false

/-- Malformed in any level (R77). -/
def malformedAny (e : Nat) : Bool :=
  bits e 55 40 != 0 || bit e 11 || bits e 10 9 == 3 || (bit e 4 && !(bit e 3))

/-- The next-table or page address of an entry. -/
def entryPa (e : Nat) : Nat := bits e 39 12 * 4096

/-- Read a table entry: coherent, and with WALK_ECC on an uncorrectable error (R81). -/
def readEntry (w : Who) (a : Nat) (s : State) : Except VErr Nat × State :=
  let r := eccRead w w.rd a 8 s
  match r.1 with
  | some c => (.error ⟨c, 0, true⟩, raise .mmu 3 { addr := a, mstr := w.mstr, typ := w.rd } r.2)
  | none => (.ok (leNat (r.2.bytes a 8)), r.2)

/-- What a walk yields. -/
def mkTlb (asid va size e : Nat) : TlbEntry :=
  { asid := asid, global := bit e 7, va := va / size * size, size := size, pa := entryPa e / size * size, perm := BitVec.ofNat 12 e }

/-- Level 3 of a walk (R77, R78). -/
def walk3 (w : Who) (k : Acc3) (asid va t : Nat) (s : State) : Except VErr TlbEntry × State :=
  let r := readEntry w (t + 8 * bits va 20 12) s
  match r.1 with
  | .error c => (.error c, r.2)
  | .ok e =>
    if !(bit e 0) then (.error ⟨⟨k.pf, 0⟩, 0, false⟩, r.2)
    else if malformedAny e || bit e 1 || (bit e 2 && bits e 15 12 != 0) then (.error ⟨⟨4, 5⟩, 0, false⟩, r.2)
    else (.ok (mkTlb asid va (if bit e 2 then 0x10000 else 0x1000) e), r.2)

/-- Level 2 of a walk. -/
def walk2 (w : Who) (k : Acc3) (asid va t : Nat) (s : State) : Except VErr TlbEntry × State :=
  let r := readEntry w (t + 8 * bits va 33 21) s
  match r.1 with
  | .error c => (.error c, r.2)
  | .ok e =>
    if !(bit e 0) then (.error ⟨⟨k.pf, 0⟩, 0, false⟩, r.2)
    else if malformedAny e then (.error ⟨⟨4, 5⟩, 0, false⟩, r.2)
    else if bit e 1 then
      if r.2.tableOk (entryPa e) then walk3 w k asid va (entryPa e) r.2 else (.error ⟨⟨4, 5⟩, 0, false⟩, r.2)
    else if bits e 20 12 != 0 then (.error ⟨⟨4, 5⟩, 0, false⟩, r.2)
    else (.ok (mkTlb asid va 0x200000 e), r.2)

/-- A walk from a level-1 table (R75). -/
def walk1 (w : Who) (k : Acc3) (asid va root : Nat) (s : State) : Except VErr TlbEntry × State :=
  if !(s.tableOk root) then (.error ⟨⟨4, 5⟩, 0, false⟩, s)
  else
    let r := readEntry w (root + 8 * bits va 47 34) s
    match r.1 with
    | .error c => (.error c, r.2)
    | .ok e =>
      if !(bit e 0) then (.error ⟨⟨k.pf, 0⟩, 0, false⟩, r.2)
      else if malformedAny e || !(bit e 1) || bits e 15 12 != 0 || !(r.2.tableOk (entryPa e)) then
        (.error ⟨⟨4, 5⟩, 0, false⟩, r.2)
      else walk2 w k asid va (entryPa e) r.2

/-- The level-1 table of an ASID, from the ASID table (R85). -/
def asidRoot (w : Who) (k : Acc3) (asid : Nat) (s : State) : Except VErr Nat × State :=
  let a := s.fld F.mmuAsidBaseBASE * 0x80000 + 8 * asid
  if !(s.tableOk a) then (.error ⟨⟨4, 5⟩, 0, false⟩, s)
  else
    let r := readEntry w a s
    match r.1 with
    | .error c => (.error c, r.2)
    | .ok e =>
      if !(bit e 0) then (.error ⟨⟨k.pf, 0⟩, 0, false⟩, r.2)
      else if bits e 63 40 != 0 || bits e 16 1 != 0 then (.error ⟨⟨4, 5⟩, 0, false⟩, r.2)
      else (.ok (bits e 39 17 * 0x20000), r.2)

/-- Table: Permission checks (R79). -/
def permits (c : PClass) (k : Acc3) (e : TlbEntry) : Bool :=
  let b := fun i => e.perm.getLsbD i
  let rwx := match k with | .fetch => b 5 | .read => b 3 | .write => b 4
  match c with
  | .task => b 6 && rwx
  | .kernel => (match k with | .fetch => b 5 && !(b 6) | _ => rwx)
  | .general => rwx
  | .rt => rwx && b 8 && decide (0x10000 ≤ e.size) && !(b 10)

/-- The structure that serves an initiator (Table: Translation caches); the cores of a cluster share its TLB. -/
def tlbOf (w : Who) : PClass → TlbAt
  | .task | .kernel => .cluster (w.mstr / 16)
  | .general => .iotlb
  | .rt => .rt

/-- The translations of a structure that match. -/
def State.tlbHits (s : State) (on : TlbAt) (asid va : Nat) : List TlbEntry :=
  s.mel.tlb.filter (fun e => decide (e.on = on) && (e.global || e.asid == asid) && e.va == va / e.size * e.size)

/-- Hold a translation in a structure, which may still hold an older one of the same page (R84). -/
def tlbFill (e : TlbEntry) (s : State) : State :=
  { s with mel := { s.mel with tlb := e :: s.mel.tlb.filter (fun x => decide (x ≠ e)) } }

/-- Judge a translation and answer the physical address. -/
def useEntry (c : PClass) (k : Acc3) (va : Nat) (e : TlbEntry) : Except VErr (Nat × TlbEntry) :=
  if permits c k e then .ok (e.pa + va % e.size, e) else .error ⟨⟨4, 1⟩, va, false⟩

/-- Translate with a walk from `root`; a translation that the initiator's structure holds may be used instead, and which
is used is free (R84). -/
def xlate (w : Who) (c : PClass) (k : Acc3) (asid va : Nat)
    (root : State → Except VErr Nat × State) (s : State) : Except VErr (Nat × TlbEntry) × State :=
  if va ≥ 2 ^ 48 then (.error ⟨⟨4, 2⟩, va, false⟩, s)
  else
    let walkIt := fun (s : State) =>
      let r := root s
      match r.1 with
      | .error x => (Except.error { x with va := va }, r.2)
      | .ok t =>
        let q := walk1 w k asid va t r.2
        match q.1 with
        | .error x => (.error { x with va := va }, q.2)
        | .ok e => (useEntry c k va e, tlbFill { e with on := tlbOf w c } q.2)
    match s.tlbHits (tlbOf w c) asid va with
    | [] => walkIt s
    | l =>
      match l[s.freeW.toNat % (l.length + 1)]? with
      | some e => (useEntry c k va e, drawn s)
      | none => walkIt (drawn s)

/-- Split a range at 4 KiB boundaries. -/
def pageChunks : Nat → Nat → Nat → List (Nat × Nat)
  | 0, _, _ => []
  | f + 1, va, n =>
    if n = 0 then [] else
    let k := min n (4096 - va % 4096)
    (va, k) :: pageChunks f (va + k) (n - k)

/-- Translate a chunk for an initiator behind the IOMMU; physical transfers are not translated. An access whose crossing
has timed out ends with cause 0x11 (R19). -/
def ioXlate (w : Who) (c : PClass) (k : Acc3) (phys : Bool) (asid va : Nat) (s : State) : Except VErr Nat × State :=
  match SMap.find s.hsLate w.late with
  | some walk => (.error ⟨⟨0x11, 0⟩, va, walk⟩, { s with hsLate := SMap.erase s.hsLate w.late })
  | none =>
    if phys then (.ok va, s)
    else
      let r := xlate w c k asid va (asidRoot w k asid) s
      match r.1 with
      | .error x => (.error x, r.2)
      | .ok p => (.ok p.1, r.2)

/-- Read bytes through the IOMMU, chunk by chunk. -/
def ioReadChunks (w : Who) (c : PClass) (phys : Bool) (asid : Nat) :
    List (Nat × Nat) → State → Except VErr (List Byte) × State
  | [], s => (.ok [], s)
  | (va, n) :: t, s =>
    let r := ioXlate w c .read phys asid va s
    match r.1 with
    | .error x => (.error x, r.2)
    | .ok pa =>
      let m := memRead w pa n r.2
      match m.1 with
      | .error x => (.error ⟨x, va, false⟩, m.2)
      | .ok l =>
        let l' := if c = .rt ∧ m.2.anyStale pa n then m.2.rtBytes m.2.freeB pa n else l
        let s' := if c = .rt ∧ m.2.anyStale pa n then drawn m.2 else m.2
        let q := ioReadChunks w c phys asid t s'
        match q.1 with
        | .error x => (.error x, q.2)
        | .ok l2 => (.ok (l' ++ l2), q.2)

/-- Read n bytes at a virtual address. -/
def ioRead (w : Who) (c : PClass) (phys : Bool) (asid va n : Nat) (s : State) : Except VErr (List Byte) × State :=
  ioReadChunks w c phys asid (pageChunks (n / 4096 + 2) va n) s

/-- Translate every chunk of a write before any byte is written. -/
def ioXlates (w : Who) (c : PClass) (phys : Bool) (asid : Nat) :
    List (Nat × Nat) → State → Except VErr (List (Nat × Nat × Nat)) × State
  | [], s => (.ok [], s)
  | (va, n) :: t, s =>
    let r := ioXlate w c .write phys asid va s
    match r.1 with
    | .error x => (.error x, r.2)
    | .ok pa =>
      let q := ioXlates w c phys asid t r.2
      match q.1 with
      | .error x => (.error x, q.2)
      | .ok l => (.ok ((va, pa, n) :: l), q.2)

/-- What a write through the IOMMU leaves the cores' caches with: general initiators snoop, real-time ones do not (R90). -/
def snoopWrite (c : PClass) (pa n : Nat) (s t : State) : State :=
  if c = .rt ∧ s.region pa = .dram then writeUnder pa n s t else unstale pa n t

/-- Write translated chunks in order. -/
def ioWriteChunks (w : Who) (c : PClass) : List (Nat × Nat × Nat) → List Byte → State → Option VErr × State
  | [], _, s => (none, s)
  | (va, pa, n) :: t, l, s =>
    let r := memWrite w pa (l.take n) s
    match r.1 with
    | some x => (some ⟨x, va, false⟩, r.2)
    | none => ioWriteChunks w c t (l.drop n) (snoopWrite c pa n s r.2)

/-- Write bytes at a virtual address. -/
def ioWrite (w : Who) (c : PClass) (phys : Bool) (asid va : Nat) (l : List Byte) (s : State) : Option VErr × State :=
  let r := ioXlates w c phys asid (pageChunks (l.length / 4096 + 2) va l.length) s
  match r.1 with
  | .error x => (some x, r.2)
  | .ok cs => ioWriteChunks w c cs l r.2

/-- The words of a fault record (Table: Fault record). -/
def frecWords (asid phase kind unit : Nat) (c : Cause) (va row byte gt : Nat) : List Nat :=
  [asid % 65536 * 2 ^ 48 + phase * 2 ^ 36 + kind * 2 ^ 32 + unit * 2 ^ 20 + c.sub * 256 + c.code, va % 2 ^ 48,
   row * 2 ^ 32 + byte, gt]

/-- Store the four words of a fault record in its registers. -/
def setFrec (f : Fld) (ws : List Nat) (s : State) : State := forN 4 (fun i => setFld (f.at (8 * i)) (ws.getD i 0)) s

/-- With FLTQ enabled, a copy of each new record is pushed; a failed push raises FLTQ_OVF and identifier 145 (R89). -/
def fltqPush (ws : List Nat) (s : State) : State :=
  if s.flag F.mmuFltqEN then
    let r := hwPush (s.fld F.mmuFltqQUEUE) (ws.flatMap (leBytes 8)) s
    if r.1 then r.2 else intr 145 (raise .mmu 5 { typ := 5 } r.2)
  else s

/-- A fault of a real-time initiator (R102): the record of KIND 3, RT_FAULT and identifier 146. A data access whose
crossing timed out is no fault of R102: its island has raised HS_TIMEOUT and substitutes (R19, R20). -/
def rtFault (unit : Nat) (write : Bool) (e : VErr) (s : State) : State :=
  if e.cause.code = 0x11 ∧ !e.walkRead then s else
  let ws := frecWords (s.fld F.mmuRtAsidASID) (if e.walkRead then 4 else if write then 2 else 1) 3 unit e.cause e.va 0 0 s.gt
  s |> setFrec F.mmuRtFrecW ws |> fltqPush ws |>
    raise .mmu 4 { addr := e.va, mstr := 144 + unit, typ := if write then 2 else 1 } |> intr 146

/-- A read by a real-time initiator under MMU_RT_ASID; a fault is recorded, and only its address is answered (R102). -/
def rtRead (unit va n : Nat) (s : State) : Except Nat (List Byte) × State :=
  let r := ioRead { mstr := 144 + unit, rd := 1 } .rt false (s.fld F.mmuRtAsidASID) va n s
  match r.1 with
  | .ok l => (.ok l, r.2)
  | .error e => (.error e.va, rtFault unit false e r.2)

/-- A write by a real-time initiator under MMU_RT_ASID: nothing, or the address of its fault. -/
def rtWrite (unit va : Nat) (l : List Byte) (s : State) : Option Nat × State :=
  let r := ioWrite { mstr := 144 + unit, wr := 2 } .rt false (s.fld F.mmuRtAsidASID) va l s
  match r.1 with
  | none => (none, r.2)
  | some e => (some e.va, rtFault unit true e r.2)

end Sys2Proof.Machine
end

