-- ==== Sys2Proof/Machine/Queue.lean ====
section
/-! DEFINITION. The queue commands (R108–R116) and the check-value units, cluster timers and mailboxes (R117–R119). -/

namespace Sys2Proof.Machine

/-- A field of a command slot. -/
def Fld.slot (f : Fld) (s : Nat) : Fld := f.at (s * 0x20)

/-- A field of a park slot. -/
def Fld.park (f : Fld) (k : Nat) : Fld := f.at (k * 0x40)

/-- The queue manager as an initiator, for the operation of a command slot. -/
def qmWho (slot : Nat) : Who := { mstr := 128, rd := 5, wr := 5, late := 256 + slot }

/-- QM_SLOTs_RES.STATE. -/
def State.slotSt (s : State) (slot : Nat) : Nat := s.fld (F.qmSlotResSTATE.slot slot)

/-- The slot is BUSY with a result that its completion will post; a RESET's completion waits for the scan. A reset that
the command itself has caused has ended it already (R445). -/
def slotBusy (op : QmOp) (result len : Nat) (scan push : Bool) (s : State) : State :=
  if s.slotSt op.slot.val ≠ 1 then s
  else { s with qm := { s.qm with slots := SMap.put s.qm.slots op.slot.val ⟨result, len, op.queue.val, scan, push⟩ } }

/-- Post a result to a command slot's RES (R108). -/
def postSlot (slot q result len : Nat) (s : State) : State := postRes (0x20 * slot) result len (s.queue q).a.items s

/-- Whether a pop of a queue is parked (R98). -/
def State.popParked (s : State) (q : Nat) : Bool := s.qm.parks.any (fun e => !e.2.isPush && e.2.queue == q)

/-- The judgement of R108, in its order, and the compare of R112, which a RESET of a queue found BROKEN has no use for:
none to act, else the result. -/
def judgeCmd (op : QmOp) (isPush isPop isReset : Bool) (s : State) : Option Nat × State :=
  let q := op.queue.val
  let v := s.queue q
  if op.rsv ≠ 0 then (some 0x0C, s)
  else if isPush && (op.len.toNat == 0 || decide (3584 < op.len.toNat)) then (some 0x0D, s)
  else if !(s.flag (F.qmQCfgEN.q q)) then (some 6, s)
  else if v.st = .resetting then (some 5, s)
  else if v.st = .broken then (if isReset then none else some 0x12, s)
  else if isPop && s.popParked q then (some 5, s)
  else if !(ptrsAgree q s) then (some 0x12, breakQueue q 3 s)
  else (none, s)

/-- A write of QM_SLOTs_OP (R108): refused while the slot is BUSY or PARKED, else judged and acted on. `act` answers
the result and the bytes moved, or nothing where the operation has parked. -/
def queueCmd (op : QmOp) (isPush isPop isReset : Bool) (act : State → Option (Nat × Nat) × State) (s : State) : State :=
  let slot := op.slot.val
  let st := s.slotSt slot
  if s.inReset .qm then s
  else if st = 1 ∨ st = 3 then raise .qm 1 { addr := 0x20031008 + slot * 0x20, mstr := 255, typ := 2 } s
  else
    let j := judgeCmd op isPush isPop isReset (setFld (F.qmSlotResSTATE.slot slot) 1 s)
    match j.1 with
    | some r => slotBusy op r 0 false isPush j.2
    | none =>
      let a := act j.2
      match a.1 with
      | some r => slotBusy op r.1 r.2 isReset isPush a.2
      | none => a.2

/-- Park an operation (R97): the lowest free park slot, its record, its identifier. Nothing free: `none`. -/
def parkOp (o : ParkOp) (slotOld : Option Nat) (e : VErr) (s : State) : Option State :=
  let free := match slotOld with
    | some k => some k
    | none => (List.range 16).find? (fun k => (SMap.find s.qm.parks k).isNone)
  match free with
  | none => none
  | some k =>
    let ws := frecWords o.asid (if e.walkRead then 4 else if o.isPush then 5 else 6) 2 k e.cause e.va o.done 0 s.gt
    some ({ s with qm := { s.qm with parks := SMap.put s.qm.parks k o } } |>
      setFrec (F.qmParkFrecW.park k) ws |> setFlag (F.qmParkCtrlPARKED.park k) true |>
      setFld (F.qmParkCtrlSLOT.park k) o.slot |> setFld (F.qmSlotResSTATE.slot o.slot) 3 |>
      setFld (F.qmSlotResPARK.slot o.slot) k |> intr (161 + k) |> fltqPush ws)

/-- Fill the cells of a push from memory, from the cell o.done: the number of cells filled, and the fault met. -/
def fillCells (o : ParkOp) : Nat → Nat → State → (Nat × Option VErr) × State
  | 0, j, s => ((j, none), s)
  | n + 1, j, s =>
    if o.cells.length ≤ j then ((j, none), s)
    else
      let len := min 56 (o.len - 56 * j)
      let r := ioRead (qmWho o.slot) .general false o.asid (o.addr + 56 * j) len s
      match r.1 with
      | .error e => ((j, some e), r.2)
      | .ok l =>
        let i := o.cells.getD j 0
        let c := SMap.get r.2.qm.cells i {}
        fillCells o n (j + 1) { r.2 with qm := { r.2.qm with cells := SMap.put r.2.qm.cells i { c with payload := l } } }

/-- Write the cells of a pop to memory, from the cell o.done. -/
def drainCells (o : ParkOp) : Nat → Nat → State → (Nat × Option VErr) × State
  | 0, j, s => ((j, none), s)
  | n + 1, j, s =>
    if o.cells.length ≤ j then ((j, none), s)
    else
      let l := ((SMap.get s.qm.cells (o.cells.getD j 0) {}).payload).take (min 56 (o.len - 56 * j))
      let r := ioWrite (qmWho o.slot) .general false o.asid (o.addr + 56 * j) l s
      match r.1 with
      | some e => ((j, some e), r.2)
      | none => drainCells o n (j + 1) r.2

/-- Free the cells of a push that ends without linking (R97, R107). -/
def dropCells (q : Nat) (cs : List Nat) (s : State) : State :=
  let p := (s.queue q).a
  s |> freeList cs |> setPtrs q { p with cells := p.cells - cs.length }

/-- The bytes an unfinished operation has moved. -/
def ParkOp.moved (o : ParkOp) (s : State) : Nat := movedLen o.isPush (56 * o.done) s

/-- The state after that choice. -/
def ParkOp.drawn (o : ParkOp) (s : State) : State := if o.isPush then Machine.drawn s else s

/-- Whether the slot of an operation still holds it: a reset its own accesses caused has ended it (R445). -/
def ParkOp.stands (o : ParkOp) (s : State) : Bool := s.slotSt o.slot == 1 || s.slotSt o.slot == 3

/-- Run a push from its first cell not completed: result and length, or nothing where it has parked. A memory access
that meets any cause but 0x10 and 0x11 parks, also cause 0x05 of a register-space target, which R97 does not name
(assumption 72). The record of an operation that ends NOPARK goes to the first-error capture and no copy of it to FLTQ
(assumption 74). -/
def runPush (o : ParkOp) (slotOld : Option Nat) (s : State) : Option (Nat × Nat) × State :=
  let r := fillCells o 64 o.done s
  let o' := { o with done := r.1.1 }
  if !(o.stands r.2) then (none, r.2)
  else match r.1.2 with
  | none => (some (0, o.len), linkItem o.queue o.cells r.2)
  | some e =>
    if e.cause.code = 0x10 ∨ e.cause.code = 0x11 then (some (0x11, o'.moved r.2), dropCells o.queue o.cells (o'.drawn r.2))
    else match parkOp o' slotOld e r.2 with
      | some s' => (none, s')
      | none => (some (0x0E, o'.moved r.2), raise .qm 6 { addr := e.va, typ := 5 } (dropCells o.queue o.cells (o'.drawn r.2)))

/-- Run a pop from its first cell not completed. The item leaves the queue when all its cells are written. -/
def runPop (o : ParkOp) (slotOld : Option Nat) (s : State) : Option (Nat × Nat) × State :=
  let r := drainCells o 64 o.done s
  if !(o.stands r.2) then (none, r.2)
  else match r.1.2 with
  | none => (some (0, o.len), if (r.2.queue o.queue).a.head = o.cells.head? then unlinkHead o.queue r.2 else r.2)
  | some e =>
    if e.cause.code = 0x10 ∨ e.cause.code = 0x11 then (some (0x11, 56 * r.1.1), r.2)
    else match parkOp { o with done := r.1.1 } slotOld e r.2 with
      | some s' => (none, s')
      | none => (some (0x0E, 56 * r.1.1), raise .qm 6 { addr := e.va, typ := 5 } r.2)

/-- PUSH (R107): judge the whole item, take its cells, copy it from memory and link it whole. -/
def pushAct (op : QmOp) (s : State) : Option (Nat × Nat) × State :=
  let q := op.queue.val
  let len := op.len.toNat
  let j := judgePush q (cellsFor len) s
  match j.1 with
  | some r => (some (r, 0), j.2)
  | none =>
    let idx := j.2.takeCells (cellsFor len)
    let s := allocItem q false (List.replicate len 0) idx j.2
    runPush { slot := op.slot.val, isPush := true, queue := q, asid := op.asid.toNat,
              addr := s.fld (F.qmSlotAddrADDR.slot op.slot.val), len := len, cells := idx, done := 0 } none s

/-- POP: copy the head item to memory and remove it. -/
def popAct (op : QmOp) (s : State) : Option (Nat × Nat) × State :=
  let q := op.queue.val
  match (s.queue q).a.head with
  | none => (some (1, 0), s)
  | some h =>
    let c := SMap.get s.qm.cells h {}
    let cs := itemCells s.qm.cells 64 h
    if cs.any (fun i => s.qm.cellUe.contains i) then (some (0x10, 0), breakQueue q 4 s)
    else if !(cellsOwned q cs s) then (some (0x12, 0), breakQueue q 3 s)
    else if op.len.toNat < c.len then (some (4, 0), s)
    else if c.idle then (some (9, 0), unlinkHead q s)
    else
      runPop { slot := op.slot.val, isPush := false, queue := q, asid := op.asid.toNat,
               addr := s.fld (F.qmSlotAddrADDR.slot op.slot.val), len := c.len, cells := cs, done := 0 } none s

/-- PUSH_IDLE: link an idle item of one cell and zero length. -/
def pushIdleAct (op : QmOp) (s : State) : Option (Nat × Nat) × State :=
  let q := op.queue.val
  let j := judgePush q 1 s
  match j.1 with
  | some r => (some (r, 0), j.2)
  | none =>
    let idx := j.2.takeCells 1
    (some (0, 0), linkItem q idx (allocItem q true [] idx j.2))

/-- Cells of a queue that belong to its parked pushes. -/
def State.parkedPushCells (s : State) (q : Nat) : List Nat :=
  s.qm.parks.flatMap (fun e => if e.2.isPush && e.2.queue == q then e.2.cells else [])

/-- FLUSH (R110): free every linked and retained cell; a parked pop of the queue will complete with FLUSHED. -/
def flushAct (op : QmOp) (s : State) : Option (Nat × Nat) × State :=
  let q := op.queue.val
  let keep := s.parkedPushCells q
  let gone := (s.qm.cells.filter (fun e => e.2.owner == q && !(keep.contains e.1))).map (fun e => e.1)
  let s := s |> freeList gone |> setPtrs q { cells := keep.length }
  let mk := fun (o : ParkOp) => if !o.isPush && o.queue == q then { o with flushed := true } else o
  (some (0, 0), { s with qm := { s.qm with parks := s.qm.parks.map (fun e => (e.1, mk e.2)) } })

/-- MARK: free what an earlier mark retains and set the mark at the head; the recorded loss ends (R111). -/
def markAct (op : QmOp) (s : State) : Option (Nat × Nat) × State :=
  let q := op.queue.val
  let s := dropMark q s
  let p := (s.queue q).a
  let s := setPtrs q { p with marked := true, markAt := p.head } s
  (some (0, 0), setFlag (F.qmQStatMARKLOST.q q) false (setQueue q { s.queue q with lost := false } s))

/-- REWIND: move the head back to the mark, or answer MARK_LOST or NO_MARK (R111). -/
def rewindAct (op : QmOp) (s : State) : Option (Nat × Nat) × State :=
  let q := op.queue.val
  let v := s.queue q
  if v.lost then (some (7, 0), s)
  else if !v.a.marked then (some (8, 0), s)
  else
    let n := ((retained s.qm.cells v.a).filter (fun i => (SMap.get s.qm.cells i {}).first)).length
    (some (0, 0), setPtrs q { v.a with head := v.a.markAt, items := v.a.items + n } s)

/-- UNMARK: drop the mark and free its retained cells. -/
def unmarkAct (op : QmOp) (s : State) : Option (Nat × Nat) × State :=
  let q := op.queue.val
  if (s.queue q).a.marked then (some (0, 0), dropMark q s) else (some (8, 0), s)

/-- RESET: the scan begins; it takes 2,048 QM cycles, 2.56 µs at the earliest (R114, assumption 11). -/
def resetAct (op : QmOp) (s : State) : Option (Nat × Nat) × State :=
  let q := op.queue.val
  (some (0, 0), setQueue q { s.queue q with st := .resetting, scanEnd := s.now + 2560 } s)

/-- Free a park slot. -/
def freePark (k : Nat) (s : State) : State :=
  { s with qm := { s.qm with parks := SMap.erase s.qm.parks k } } |> setFlag (F.qmParkCtrlPARKED.park k) false

/-- End a parked operation with a result posted to its command slot. -/
def endPark (k : Nat) (o : ParkOp) (result len : Nat) (s : State) : State := postSlot o.slot o.queue result len (freePark k s)

/-- End a parked operation where it stands. -/
def endShort (k : Nat) (o : ParkOp) (result : Nat) (s : State) : State := endPark k o result (o.moved s) (o.drawn s)

/-- End of the RESET scan (R114): every cell the queue owns is free, its parked operations end ABORTED, and the queue
is empty and OK. -/
def scanEnd (q : Nat) (s : State) : State :=
  if (s.queue q).st = .resetting ∧ (s.queue q).scanEnd ≤ s.now then
    let gone := (s.qm.cells.filter (fun e => e.2.owner == q)).map (fun e => e.1)
    let s1 := s |> freeList gone |> setQueue q {} |> setFlag (F.qmQStatMARKLOST.q q) false
    (s1.qm.parks.filter (fun e => e.2.queue == q)).foldl (fun t e => endShort e.1 e.2 0x0B t) s1
  else s

/-- A queue command ends: its result is posted to its slot. A RESET ends with its scan. -/
def cmdComplete (slot : Nat) (s : State) : State :=
  match SMap.find s.qm.slots slot with
  | none => s
  | some r =>
    if r.scan ∧ (s.queue r.queue).st = .resetting then s
    else postSlot slot r.queue r.result r.len { s with qm := { s.qm with slots := SMap.erase s.qm.slots slot } }

/-- RESUME of a parked operation (R116): it continues at its first cell not completed. -/
def resumePark (k : Nat) (s : State) : State :=
  match SMap.find s.qm.parks k with
  | none => s
  | some o =>
    if (s.queue o.queue).st = .resetting then s
    else if o.flushed then endShort k o 0x0A s
    else
      let left := o.cells.drop o.done
      if !o.isPush ∧ left.any (fun i => s.qm.cellUe.contains i) then breakQueue o.queue 4 (endShort k o 0x10 s)
      else if !o.isPush ∧ !(cellsOwned o.queue left s) then breakQueue o.queue 3 (endShort k o 0x12 s)
      else
        let r := if o.isPush then runPush o (some k) s else runPop o (some k) s
        match r.1 with
        | some x => if o.stands r.2 then endPark k o x.1 x.2 r.2 else r.2
        | none => r.2

/-- ABORT of a parked operation (Table: Where a fault can strike): a push frees its cells, a pop leaves its item. -/
def abortPark (k : Nat) (s : State) : State :=
  match SMap.find s.qm.parks k with
  | none => s
  | some o =>
    if (s.queue o.queue).st = .resetting then s
    else
      let s1 := if o.isPush then dropCells o.queue o.cells s else s
      endShort k o (if o.flushed then 0x0A else 0x0B) s1

/-- PUSH. -/
def execPush (op : QmOp) (s : State) : Host.Outcome State Fault Refusal := .next (queueCmd op true false false (pushAct op) s)
/-- POP. -/
def execPop (op : QmOp) (s : State) : Host.Outcome State Fault Refusal := .next (queueCmd op false true false (popAct op) s)
/-- PUSH_IDLE. -/
def execPushIdle (op : QmOp) (s : State) : Host.Outcome State Fault Refusal := .next (queueCmd op false false false (pushIdleAct op) s)
/-- FLUSH. -/
def execFlush (op : QmOp) (s : State) : Host.Outcome State Fault Refusal := .next (queueCmd op false false false (flushAct op) s)
/-- MARK. -/
def execMark (op : QmOp) (s : State) : Host.Outcome State Fault Refusal := .next (queueCmd op false false false (markAct op) s)
/-- REWIND. -/
def execRewind (op : QmOp) (s : State) : Host.Outcome State Fault Refusal := .next (queueCmd op false false false (rewindAct op) s)
/-- UNMARK. -/
def execUnmark (op : QmOp) (s : State) : Host.Outcome State Fault Refusal := .next (queueCmd op false false false (unmarkAct op) s)
/-- QUEUE_RESET. -/
def execQueueReset (op : QmOp) (s : State) : Host.Outcome State Fault Refusal := .next (queueCmd op false false true (resetAct op) s)
/-- QUEUE_RESET_SCAN_END. -/
def execQueueResetScanEnd (q : Fin 1024) (s : State) : Host.Outcome State Fault Refusal := .next (scanEnd q.val s)
/-- QUEUE_CMD_COMPLETE. -/
def execQueueCmdComplete (slot : Fin 64) (s : State) : Host.Outcome State Fault Refusal := .next (cmdComplete slot.val s)
/-- PARK_RESUME. -/
def execParkResume (k : Fin 16) (s : State) : Host.Outcome State Fault Refusal := .next (resumePark k.val s)
/-- PARK_ABORT. -/
def execParkAbort (k : Fin 16) (s : State) : Host.Outcome State Fault Refusal := .next (abortPark k.val s)

end Sys2Proof.Machine
end

