-- ==== Sys2Proof/Machine/Cluster.lean ====
section
/-! DEFINITION. Check-value units (R117), cluster timers (R118) and mailboxes (R119). -/

namespace Sys2Proof.Machine

/-- Add to a counter whose value past its width the manual does not state: it is then a free value (assumption 12). -/
def countOpen (f : Fld) (k : Nat) (s : State) : State :=
  if s.fld f + k < 2 ^ f.width then setFld f (s.fld f + k) s else setFld f s.freeW.toNat (drawn s)

/-- A field of a state set. -/
def Fld.crcSet (f : Fld) (c st : Nat) : Fld := f.at (c * 0x100 + st * 0x40)

/-- A write of ALG: the algorithm is selected and Init loaded; values 5–7 are stored as 0. -/
def crcSelect (c st alg : Nat) (s : State) : State :=
  let a := if alg ≤ 4 then alg else 0
  setFld (F.crcClSCfgALG.crcSet c st) a { s with crc := SMap.put s.crc (4 * c + st) ⟨(crcAlg a).init⟩ }

/-- A DIN write: bytes from the low end of the word, least significant first (R117). RES follows. -/
def crcFeed (c st n : Nat) (word : Nat) (s : State) : State :=
  let a := crcAlg (s.fld (F.crcClSCfgALG.crcSet c st))
  let r := (leBytes n word).foldl (crcByte a) (SMap.get s.crc (4 * c + st) {}).run
  { s with crc := SMap.put s.crc (4 * c + st) ⟨r⟩ }

/-- What RES reads: the check value after reflection and final XOR, zero-extended. -/
def crcRes (c st : Nat) (s : State) : Nat :=
  crcOut (crcAlg (s.fld (F.crcClSCfgALG.crcSet c st))) (SMap.get s.crc (4 * c + st) {}).run

/-- CRC_ALG_WRITE. -/
def execCrcAlgWrite (c st : Fin 4) (alg : BitVec 3) (s : State) : Host.Outcome State Fault Refusal :=
  .next (whenB (!(s.inReset .crc)) (crcSelect c.val st.val alg.toNat) s)

/-- CRC_DIN: n selects DIN8, DIN16 or DIN32. -/
def execCrcDin (c st : Fin 4) (n : Fin 3) (word : BitVec 32) (s : State) : Host.Outcome State Fault Refusal :=
  .next (whenB (!(s.inReset .crc)) (crcFeed c.val st.val (2 ^ n.val) word.toNat) s)

/-- A field of a cluster timer. -/
def Fld.tmr (f : Fld) (t : Nat) : Fld := f.at (t * 0x40)

/-- Expiry of a timer at or after its compare value (R118). -/
def timerExpire (t : Nat) (s : State) : State :=
  let cmp := s.fld (F.melTmrCmpCMP.tmr t)
  let per := s.fld (F.melTmrPerPER.tmr t)
  if s.flag (F.melTmrCtrlEN.tmr t) ∧ cmp ≤ s.gt ∧ !(s.inReset .mel) then
    let p := hwPush (s.fld (F.melTmrCtrlQUEUE.tmr t)) (leBytes 8 t ++ leBytes 8 cmp ++ leBytes 8 s.gt) s
    let s1 := if p.1 then p.2 else countOpen (F.melTmrCtrlMISSED.tmr t) 1 p.2
    if per = 0 then setFlag (F.melTmrCtrlEN.tmr t) false s1
    else
      let n := (s.gt - cmp) / per + 1
      s1 |> setFld (F.melTmrCmpCMP.tmr t) (cmp + n * per) |> countOpen (F.melTmrCtrlMISSED.tmr t) (n - 1)
  else s

/-- TIMER_EXPIRY. -/
def execTimerExpiry (t : Fin 16) (s : State) : Host.Outcome State Fault Refusal := .next (timerExpire t.val s)

/-- A field of a mailbox. -/
def Fld.mbx (f : Fld) (c : Nat) : Fld := f.at (c * 0x80)

/-- A read of MBX_CLAIM by a core: it claims a mailbox that nobody holds. -/
def claimMbx (c reader : Nat) (s : State) : State :=
  if s.flag (F.melMbxCtrlCLAIMED.mbx c) ∨ s.inReset .mel then s
  else s |> setFlag (F.melMbxCtrlCLAIMED.mbx c) true |> setFld (F.melMbxCtrlOWNER.mbx c) reader

/-- Whether a core holds a mailbox's claim. -/
def State.mbxOwned (s : State) (c core : Nat) : Bool :=
  s.flag (F.melMbxCtrlCLAIMED.mbx c) && s.fld (F.melMbxCtrlOWNER.mbx c) == core

/-- Assert a software interrupt 33 + c until EOI (R70). -/
def raiseSwi (c : Nat) (s : State) : State := { s with mel := { s.mel with swi := s.mel.swi ||| BitVec.ofNat 16 (1 <<< c) } }

/-- SEND by the claimant, or MBX_DENIED (R119). -/
def sendMbx (c sender : Nat) (s : State) : State :=
  if s.inReset .mel then s
  else if s.mbxOwned c sender then raiseSwi c (setFlag (F.melMbxCtrlFULL.mbx c) true s)
  else raise .mel 4 { addr := 0x20016040 + c * 0x80, mstr := 4 * sender, typ := 2 } s

/-- ACK, accepted only from core c (R119). -/
def ackMbx (c receiver : Nat) (s : State) : State :=
  if c = receiver ∧ !(s.inReset .mel) then
    s |> setFlag (F.melMbxCtrlFULL.mbx c) false |> setFlag (F.melMbxCtrlCLAIMED.mbx c) false
  else s

/-- MBX_CLAIM. -/
def execMbxClaim (c reader : Fin 16) (s : State) : Host.Outcome State Fault Refusal := .next (claimMbx c.val reader.val s)
/-- MBX_SEND. -/
def execMbxSend (c sender : Fin 16) (s : State) : Host.Outcome State Fault Refusal := .next (sendMbx c.val sender.val s)
/-- MBX_ACK. -/
def execMbxAck (c receiver : Fin 16) (s : State) : Host.Outcome State Fault Refusal := .next (ackMbx c.val receiver.val s)

end Sys2Proof.Machine
end

