-- ==== Sys2Proof/Machine/Handles.lean ====
section
/-! DEFINITION. Surface descriptors, surface handles and their commands (R120–R128), and the choice of a buffer by a
writer (R136). -/

namespace Sys2Proof.Machine

/-- A handle. -/
def State.handle (s : State) (h : Nat) : HandleState := SMap.get s.handles h {}

/-- Replace a handle. -/
def setHandle (h : Nat) (v : HandleState) (s : State) : State := { s with handles := SMap.put s.handles h v }

/-- A buffer of a handle. -/
def HandleState.buf (v : HandleState) (b : Nat) : BufState := SMap.get v.bufs b {}

/-- A descriptor from its 64 bytes. -/
def parseSurf (l : List Byte) : SurfDesc :=
  let c := leAt l 0 4
  { format := bits c 7 0, seq := bit c 10, nbuf := bits c 9 8, width := leAt l 4 2, height := leAt l 6 2,
    stride0 := leAt l 8 4, stride12 := leAt l 12 4, off1 := leAt l 16 4, off2 := leAt l 20 4,
    bufs := (List.range 4).map (fun i => leAt l (0x18 + 8 * i) 8), delayUs := bits (leAt l 0x38 4) 31 12,
    timed := bit (leAt l 0x38 4) 8, expect := bits (leAt l 0x38 4) 7 0, period := leAt l 0x3C 4 }

/-- Number of planes of a format (Table: Surface formats); 0 for an unknown one. -/
def planesOf (f : Nat) : Nat := if f = 1 ∨ f = 2 ∨ f = 3 ∨ f = 4 then 1 else if f = 0x10 ∨ f = 0x11 then 3 else if f = 0x12 then 2 else 0

/-- Bytes of one line of a plane. -/
def lineBytes (f w p : Nat) : Nat :=
  match f with
  | 1 => 4 * w | 2 => 8 * w | 3 => w | 4 => 2 * w
  | 0x12 => if p = 0 then 2 * w else 4 * ((w + 1) / 2)
  | _ => 2 * w

/-- Stride and offset of a plane. -/
def SurfDesc.stride (d : SurfDesc) (p : Nat) : Nat := if p = 0 then d.stride0 else d.stride12
def SurfDesc.off (d : SurfDesc) (p : Nat) : Nat := if p = 0 then 0 else if p = 1 then d.off1 else d.off2

/-- Whether a sequence or still surface has buffer b. -/
def SurfDesc.hasBuf (d : SurfDesc) (b : Nat) : Bool := if d.seq then decide (b ≤ d.nbuf) else b == 0

/-- Length of a buffer's extent: to the last byte of its highest plane. -/
def SurfDesc.extent (d : SurfDesc) : Nat :=
  (List.range (planesOf d.format)).foldl
    (fun m p => max m (d.off p + d.stride p * (d.height - 1) + lineBytes d.format d.width p)) 0

/-- The descriptor checks of R124 step 2. -/
def surfBad (l : List Byte) (d : SurfDesc) : Bool :=
  let np := planesOf d.format
  bits (leAt l 0 4) 31 11 != 0 || bits (leAt l 0x38 4) 11 9 != 0 || np == 0 ||
  d.width == 0 || decide (8192 < d.width) || d.height == 0 || decide (8192 < d.height) ||
  d.stride0 % 64 != 0 || d.stride12 % 64 != 0 || d.off1 % 64 != 0 || d.off2 % 64 != 0 ||
  d.bufs.any (fun b => b % 64 != 0 || decide (2 ^ 48 ≤ b)) ||
  (List.range np).any (fun p => decide (d.stride p < lineBytes d.format d.width p)) ||
  (!d.seq && d.nbuf != 0) || (d.seq && (d.expect == 0 || decide (16 < d.expect))) ||
  (d.seq && d.timed && (decide (d.period < 1000000) || decide (100000000 < d.period)))

/-- A walk of one page for REGISTER, with no record: whether R103 holds. -/
def pagePinned (write : Bool) (va : Nat) (s : State) : Bool × State :=
  let w : Who := { mstr := 255 }
  let r := xlate w .rt .read (s.fld F.mmuRtAsidASID) va (asidRoot w .read (s.fld F.mmuRtAsidASID)) s
  match r.1 with
  | .error _ => (false, r.2)
  | .ok p => (!write || p.2.perm.getLsbD 4, r.2)

/-- Walk every page of an extent: real-time pages are at least 64 KiB long. -/
def pagesPinned (write : Bool) : List Nat → State → Bool × State
  | [], s => (true, s)
  | va :: t, s =>
    let r := pagePinned write va s
    if r.1 then pagesPinned write t r.2 else (false, r.2)

/-- The addresses at which the pages of a range are walked. -/
def pagesOf (base len : Nat) : List Nat :=
  base :: ((List.range (len / 0x10000 + 1)).map (fun i => (base / 0x10000 + 1 + i) * 0x10000)).filter (fun a => decide (a < base + len))

/-- Whether an armed commit names a handle (R128). -/
def ArmedCommit.names (c : ArmedCommit) (h : Nat) : Bool :=
  (List.range 4).any (fun r =>
    SMap.get c.values (F.srcRxCfgEN.at (r * 0x40)).key 0 == 1 && SMap.get c.values (F.srcRxCfgHANDLE.at (r * 0x40)).key 0 == h) ||
  (SMap.get c.values F.srcTxCfgEN.key 0 == 1 && SMap.get c.values F.srcTxCfgHANDLE.key 0 == h) ||
  (SMap.get c.values F.cmpWbCfgEN.key 0 == 1 && SMap.get c.values F.cmpWbCfgHANDLE.key 0 == h) ||
  (match c.loads.list with
   | none => false
   | some l => (List.range (bits (leAt l 0 4) 23 20)).any (fun i => bits (leAt l (32 + 64 * i) 4) 9 0 == h))

/-- Layers of the list in force. -/
def State.nLayers (s : State) : Nat := bits (leAt s.cmp.list 0 4) 23 20

/-- Whether a buffer is held (R127). -/
def State.held (s : State) (h b : Nat) : Bool :=
  ((match s.cmp.frame with | some f => f.open_ | none => false) &&
    s.cmp.layers.any (fun e => (e.2.mode == .ready || e.2.mode == .holding) && e.2.handle == h && e.2.buf == b)) ||
  (List.range s.nLayers).any (fun k => (SMap.get s.cmp.layers k {}).last == some (h, b))

/-- Whether a receiver or decoder writes a handle (CMP_HSTATh.BOUND). -/
def State.bound (s : State) (h : Nat) : Bool :=
  (List.range 4).any (fun r => s.inFlag (F.srcRxCfgEN.at (r * 0x40)) && s.inF (F.srcRxCfgHANDLE.at (r * 0x40)) == h)

/-- Publish a buffer with its media time. -/
def publishBuf (h b : Nat) (t : Int) (s : State) : State :=
  let v := s.handle h
  setHandle h { v with bufs := SMap.put v.bufs b { pub := true, time := t, order := v.order + 1 }, latest := some b,
                       takes := 0, count := (v.count + 1) % 2 ^ 32, order := v.order + 1 } s

/-- Withdraw a buffer's publication. -/
def unpublish (h b : Nat) (s : State) : State :=
  let v := s.handle h
  setHandle h { v with bufs := SMap.put v.bufs b { v.buf b with pub := false } } s

/-- The buffer a writer chooses (R136): neither held nor LATEST, never published first, else published longest ago. -/
def State.chooseBuf (s : State) (h : Nat) : Option Nat :=
  let v := s.handle h
  match v.desc with
  | none => none
  | some d =>
    let free := (List.range (d.nbuf + 1)).filter (fun b => !(s.held h b) && v.latest != some b)
    free.foldl (fun best b => match best with
      | none => some b
      | some x => if (v.buf b).order < (v.buf x).order then some b else some x) none

/-- Choose a buffer and withdraw its publication before the first write (R131). -/
def takeForWrite (h : Nat) (s : State) : Option Nat × State :=
  match s.chooseBuf h with
  | none => (none, s)
  | some b => (some b, unpublish h b s)

/-- The command unit takes a command: BUSY, with the result it will end with (R123). -/
def hcmdBusy (c : HCmd) (s : State) : State :=
  { s with cmp := { s.cmp with hcmd := some c } } |> setFld F.cmpHresSTATE 1 |> setFld F.cmpHresHANDLE c.handle

/-- A write of CMP_HCMD while BUSY is refused under R15; else the command acts. -/
def hcmd (act : State → State) (s : State) : State :=
  if s.inReset .cmp then s
  else if s.fld F.cmpHresSTATE = 1 then raise .cmp 1 { addr := 0x20100808, typ := 2 } s
  else act s

/-- REGISTER (R124): only a FREE handle; the descriptor is copied and checked, and its pages are walked. -/
def registerAct (h : Nat) (s : State) : State :=
  let v := s.handle h
  if v.st ≠ .free then hcmdBusy ⟨h, 3, none, false⟩ s
  else
    let a := s.fld F.cmpSurfBaseBASE * 0x10000 + 64 * h
    let m := memRead { mstr := 255 } a 64 s
    let s1 := setHandle h { st := .registering } m.2
    match m.1 with
    | .error _ => hcmdBusy ⟨h, 1, none, true⟩ s1
    | .ok l =>
      let d := parseSurf l
      if surfBad l d then hcmdBusy ⟨h, 1, none, true⟩ s1
      else
        let n := if d.seq then d.nbuf + 1 else 1
        let ps := (List.range n).flatMap (fun b => pagesOf (d.bufs.getD b 0) d.extent)
        let p := pagesPinned d.seq ps s1
        hcmdBusy (if p.1 then ⟨h, 0, some d, true⟩ else ⟨h, 2, none, true⟩) p.2

/-- The judgement of PUBLISH and ACQUIRE (R125, R126). -/
def judgeBuf (h b : Nat) (s : State) : Nat :=
  let v := s.handle h
  match v.st, v.desc with
  | .live, some d => if s.bound h then 4 else if !(d.hasBuf b) then 7 else if s.held h b then 5 else 0
  | _, _ => 4

/-- PUBLISH with the media time of CMP_HTIME. -/
def publishAct (h b : Nat) (s : State) : State :=
  let r := judgeBuf h b s
  hcmdBusy ⟨h, r, none, false⟩ (if r = 0 then publishBuf h b (s.fld F.cmpHtimeT) s else s)

/-- ACQUIRE. -/
def acquireAct (h b : Nat) (s : State) : State :=
  let r := judgeBuf h b s
  hcmdBusy ⟨h, r, none, false⟩ (if r = 0 then unpublish h b s else s)

/-- RELEASE of a LIVE handle (R128). -/
def releaseAct (h : Nat) (s : State) : State :=
  let v := s.handle h
  if v.st = .live then hcmdBusy ⟨h, 0, none, false⟩ (setHandle h { v with st := .releasing } s)
  else hcmdBusy ⟨h, 4, none, false⟩ s

/-- A command ends DONE and raises identifier 246; a REGISTER leaves its handle LIVE or FREE (R123, R124). -/
def hcmdComplete (s : State) : State :=
  match s.cmp.hcmd with
  | none => s
  | some c =>
    let s1 := if c.registering then
        setHandle c.handle (match c.live with | some d => { st := .live, desc := some d } | none => {}) s
      else s
    { s1 with cmp := { s1.cmp with hcmd := none } } |> setFld F.cmpHresSTATE 2 |> setFld F.cmpHresRESULT c.result |> intr 246

/-- A RELEASING handle becomes FREE once no buffer is held and no armed commit names it (R128). -/
def handleFree (h : Nat) (s : State) : State :=
  if (s.handle h).st = .releasing ∧ !((List.range 4).any (fun b => s.held h b)) ∧ !(s.commit.armed.any (fun c => c.names h)) then
    intr 246 { s with handles := SMap.erase s.handles h }
  else s

/-- REGISTER. -/
def execRegister (h : Fin 1024) (s : State) : Host.Outcome State Fault Refusal := .next (hcmd (registerAct h.val) s)
/-- PUBLISH. -/
def execPublish (h : Fin 1024) (b : Fin 4) (s : State) : Host.Outcome State Fault Refusal := .next (hcmd (publishAct h.val b.val) s)
/-- ACQUIRE. -/
def execAcquire (h : Fin 1024) (b : Fin 4) (s : State) : Host.Outcome State Fault Refusal := .next (hcmd (acquireAct h.val b.val) s)
/-- RELEASE. -/
def execRelease (h : Fin 1024) (s : State) : Host.Outcome State Fault Refusal := .next (hcmd (releaseAct h.val) s)
/-- HANDLE_CMD_COMPLETE. -/
def execHandleCmdComplete (s : State) : Host.Outcome State Fault Refusal := .next (hcmdComplete s)
/-- HANDLE_FREED. -/
def execHandleFreed (h : Fin 1024) (s : State) : Host.Outcome State Fault Refusal := .next (handleFree h.val s)

end Sys2Proof.Machine
end

