-- ==== Sys2Proof/Machine/Ingest.lean ====
section
/-! DEFINITION. ST 2110 receive contexts, JPEG XS decoders and the preview stream (R132–R138). -/

namespace Sys2Proof.Machine

/-- A field of a receive context. -/
def Fld.rx (f : Fld) (r : Nat) : Fld := f.at (r * 0x40)

/-- A receive context. -/
def State.rxCtx (s : State) (r : Nat) : RxCtx := SMap.get s.rx r {}

/-- Replace a receive context. -/
def setRx (r : Nat) (c : RxCtx) (s : State) : State := { s with rx := SMap.put s.rx r c }

/-- Replace the frame in progress of a context. -/
def setRxFrame (r : Nat) (f : Option RxFrame) (s : State) : State := setRx r { s.rxCtx r with frame := f } s

/-- The media time (R135): the RTP timestamp in 90 kHz ticks, unwrapped to the value nearest the GT of the frame's first
packet, in ns; the manual does not say which of two equally near values is taken. -/
def mediaTime (ts gt : Nat) : Int :=
  let g : Int := (gt * 9 / 100000 : Nat)
  let base : Int := g - g % 4294967296 + (ts : Int)
  let far := fun (a : Int) => (a * 100000 - (gt * 9 : Nat)).natAbs
  let near := fun (a b : Int) => if far a < far b ∨ (far a = far b ∧ Config.mediaTie ts gt) then a else b
  (near (near (base - 4294967296) base) (base + 4294967296) * 100000) / 9

/-- Drop the frame in progress and count it. -/
def dropFrame (r : Nat) (f : RxFrame) (s : State) : State := setRxFrame r (some { f with dropped := true, buf := none }) s

/-- Receivers and decoders as an initiator: their writes go through the IOTLB under MMU_RT_ASID (R137). -/
def srcWho : Who := { mstr := 255, rd := 1, wr := 2 }

/-- A write that faults drops the frame, counts ERROR and raises RX_FAULT (R137). -/
def rxWrite (r : Nat) (va : Nat) (l : List Byte) (s : State) : State :=
  match (s.rxCtx r).frame with
  | none => s
  | some f =>
    if f.dropped then s
    else
      let w := ioWrite srcWho .general false (s.fld F.mmuRtAsidASID) va l s
      match w.1 with
      | none => w.2
      | some e => raise .src 3 { addr := e.va, typ := 2 } (countMod (F.srcRxStatERROR.rx r) 1 (dropFrame r f w.2))

/-- Address of a sample of a plane. -/
def SurfDesc.addr (d : SurfDesc) (b p x y : Nat) : Nat := d.bufs.getD b 0 + d.off p + d.stride p * y + 2 * x

/-- The samples of a run as (plane, sample index, value), in wire order of RFC 4175 (assumption 15). -/
def unpackRun (samp : Nat) (x : Nat) (l : List Nat) : List (Nat × Nat × Nat) :=
  (List.range l.length).map (fun i =>
    let v := l.getD i 0
    if samp = 2 then
      if i % 4 = 0 then (1, 2 * ((x / 2) + i / 4), v)
      else if i % 4 = 1 then (0, x + 2 * (i / 4), v)
      else if i % 4 = 2 then (1, 2 * ((x / 2) + i / 4) + 1, v)
      else (0, x + 2 * (i / 4) + 1, v)
    else if samp = 1 then ((if i % 3 = 0 then 1 else if i % 3 = 1 then 0 else 2), x + i / 3, v)
    else (i % 3, x + i / 3, v))

/-- Pixels of a run of samples. -/
def runPixels (samp n : Nat) : Nat := if samp = 2 then n / 2 else n / 3

/-- Begin a frame at its first packet, which came at an instant of GT: a buffer is chosen, or NOBUF counts (R136). -/
def beginFrame (r : Nat) (p : RxPkt) (gt : Nat) (s : State) : State :=
  let h := s.inF (F.srcRxCfgHANDLE.rx r)
  let t := takeForWrite h s
  let c := s.rxCtx r
  let f : RxFrame := { ts := p.ts.toNat, handle := h, buf := t.1, time := mediaTime p.ts.toNat gt, dropped := t.1.isNone,
                       gap := c.lost && s.inFlag (F.srcRxCfgKIND.rx r) }
  setRx r { c with frame := some f, lost := false } (if t.1.isNone then countMod (F.srcRxStatNOBUF.rx r) 1 t.2 else t.2)

/-- Store the samples of a packet, MSB-aligned (R120). A segment outside the bound geometry drops the frame, counts
ERROR and raises RX_GEOM (R137). -/
def storeRun (r : Nat) (p : RxPkt) (f : RxFrame) (d : SurfDesc) (b : Nat) (s : State) : State :=
  let samp := s.inF (F.srcRxCfgSAMP.rx r)
  let n := runPixels samp p.samples.length
  if d.height ≤ p.line ∨ d.width < p.offset + n then
    raise .src 4 { addr := p.line } (countMod (F.srcRxStatERROR.rx r) 1 (dropFrame r f s))
  else
    let sh := if s.inFlag (F.srcRxCfgDEPTH.rx r) then 4 else 6
    let s1 := setRxFrame r (some { f with covered := (p.line, p.offset, n) :: f.covered }) s
    (unpackRun samp p.offset p.samples).foldl
      (fun t e => rxWrite r (d.addr b e.1 e.2.1 p.line) (leBytes 2 (e.2.2 <<< sh)) t) s1

/-- Whether a pixel of the frame has been received. -/
def RxFrame.has (f : RxFrame) (x y : Nat) : Bool :=
  f.covered.any (fun e => e.1 == y && decide (e.2.1 ≤ x) && decide (x < e.2.1 + e.2.2))

/-- Missing pixels are written as zero in every plane (KEEP_INC). -/
def zeroMissing (r : Nat) (f : RxFrame) (d : SurfDesc) (b : Nat) (s : State) : State :=
  forN d.height (fun y s => forN d.width (fun x s =>
    if f.has x y then s
    else forN (planesOf d.format) (fun p s => rxWrite r (d.addr b p x y) [0, 0] s) s) s) s

/-- Publish the frame in progress and raise identifier 213 + r (R136). -/
def publishFrame (r : Nat) (f : RxFrame) (b : Nat) (s : State) : State :=
  match (s.rxCtx r).frame with
  | none => s
  | some g =>
    if g.dropped then setRxFrame r none s
    else s |> publishBuf f.handle b f.time |> countMod (F.srcRxStatPUBLISHED.rx r) 1 |>
      setFld (F.srcRxLastT.rx r) (ofInt 64 f.time) |> setRxFrame r none |> intr (213 + r)

/-- Write decoded pixels of a JPEG XS frame, three 12-bit samples each, MSB-aligned (R120). -/
def storeDecoded (r : Nat) (d : SurfDesc) (b : Nat) (px : List Nat) (s : State) : State :=
  (List.range px.length).foldl
    (fun t i => rxWrite r (d.addr b (i % 3) (i / 3 % d.width) (i / 3 / d.width)) (leBytes 2 (px.getD i 0 % 4096 * 16)) t) s

/-- A whole codestream is decoded (R137); one of another profile or that fails drops its frame. -/
def decodeFrame (r : Nat) (f : RxFrame) (d : SurfDesc) (b : Nat) (s : State) : State :=
  if !(Config.jxsProfileOk f.bytes) then
    setRxFrame r none (raise .src 5 {} (countMod (F.srcRxStatERROR.rx r) 1 s))
  else match Config.jxsDecode f.bytes with
    | none => setRxFrame r none (raise .src 6 {} (countMod (F.srcRxStatERROR.rx r) 1 s))
    | some px => publishFrame r f b (storeDecoded r d b px s)

/-- The end of a frame at the RTP marker bit (R136, R137). A frame with missing packets counts in INCOMPLETE and is dropped
unless KEEP_INC keeps it. -/
def endFrame (r : Nat) (s : State) : State :=
  match (s.rxCtx r).frame with
  | none => s
  | some f =>
    match f.dropped, f.buf, (s.handle f.handle).desc with
    | false, some b, some d =>
      let xs := s.inFlag (F.srcRxCfgKIND.rx r)
      let got := f.covered.foldl (fun a e => a + e.2.2) 0
      let short := f.gap || (!xs && decide (got < d.width * d.height))
      let s := if short then countMod (F.srcRxStatINCOMPLETE.rx r) 1 s else s
      if short && !(s.inFlag (F.srcRxCfgKEEPINC.rx r)) then setRxFrame r none s
      else if xs then decodeFrame r f d b s
      else publishFrame r f b (if short then zeroMissing r f d b s else s)
    | _, _, _ => setRxFrame r none s

/-- One packet in order, with the GT at which it came. A packet of another timestamp ends the frame in progress, which lost its last packet. -/
def rxInOrder (r : Nat) (p : RxPkt) (gt : Nat) (s : State) : State :=
  let s0 := match (s.rxCtx r).frame with
    | some f => if f.ts = p.ts.toNat then s else endFrame r (setRxFrame r (some { f with gap := true }) s)
    | none => s
  let s1 := if (s0.rxCtx r).frame.isNone then beginFrame r p gt s0 else s0
  let s2 := match (s1.rxCtx r).frame with
    | none => s1
    | some f =>
      match f.dropped, f.buf, (s1.handle f.handle).desc with
      | false, some b, some d =>
        if s1.inFlag (F.srcRxCfgKIND.rx r) then setRxFrame r (some { f with bytes := f.bytes ++ p.bytes }) s1
        else storeRun r p f d b s1
      | _, _, _ => s1
  if p.marker then endFrame r s2 else s2

/-- A packet is given up: the frame in progress, else the next one, lacks it. -/
def missed (c : RxCtx) : RxCtx :=
  match c.frame with
  | some f => { c with frame := some { f with gap := true } }
  | none => { c with lost := true }

/-- Take packets from the reorder buffer while the next one is there; a full buffer gives up the missing ones. -/
def rxDrain (r : Nat) : Nat → State → State
  | 0, s => s
  | n + 1, s =>
    let c := s.rxCtx r
    match c.next with
    | none => s
    | some k =>
      match c.hold.find? (fun p => p.1.seq.toNat == k) with
      | some p =>
        rxDrain r n (rxInOrder r p.1 p.2
          (setRx r { c with next := some ((k + 1) % 65536), hold := c.hold.filter (fun q => q.1.seq != p.1.seq) } s))
      | none => if 64 ≤ c.hold.length then rxDrain r n (setRx r (missed { c with next := some ((k + 1) % 65536) }) s) else s

/-- A received packet (R132, R136): held for reordering up to 64 packets, then taken in sequence order. A packet older
than the next one expected is discarded. -/
def rxPacketIn (r : Nat) (p : RxPkt) (s : State) : State :=
  if !(s.inFlag (F.srcRxCfgEN.rx r)) ∨ s.inReset .src ∨ s.pwr.stopped.contains 5 then s
  else
    let c := s.rxCtx r
    let k := c.next.getD p.seq.toNat
    if 32768 ≤ (p.seq.toNat + 65536 - k) % 65536 then s
    else rxDrain r 65600 (setRx r { c with next := some k, hold := c.hold ++ [(p, s.gt)] } s)

/-- The pixels of line y of a buffer of the writeback surface: of RGB444P16 from its planes, of RGBA16 without its alpha. -/
def previewPx (d : SurfDesc) (b y : Nat) (s : State) : Option (List (Nat × Nat × Nat)) × State :=
  let get := fun (p n : Nat) (s : State) =>
    ioRead srcWho .general false (s.fld F.mmuRtAsidASID) (d.bufs.getD b 0 + d.off p + d.stride p * y) n s
  if d.format = 2 then
    let r := get 0 (8 * d.width) s
    (r.1.toOption.map (fun l => (List.range d.width).map (fun x => (leAt l (8 * x) 2, leAt l (8 * x + 2) 2, leAt l (8 * x + 4) 2))), r.2)
  else
    let r := get 0 (2 * d.width) s
    let g := get 1 (2 * d.width) r.2
    let e := get 2 (2 * d.width) g.2
    (match r.1, g.1, e.1 with
     | .ok l, .ok m, .ok n => some ((List.range d.width).map (fun x => (leAt l (2 * x) 2, leAt m (2 * x) 2, leAt n (2 * x) 2)))
     | _, _, _ => none, e.2)

/-- Every line of a preview frame, as it is sent. -/
def previewLines (d : SurfDesc) (b : Nat) (s : State) : List (List Nat) × State :=
  (List.range d.height).foldl (fun a y =>
    let r := previewPx d b y a.2
    match r.1 with
    | some l => (a.1 ++ [Config.previewLine (s.inFlag F.srcTxCfgSAMP) l], r.2)
    | none => (a.1 ++ [Config.previewLost r.2.free], drawn r.2)) ([], s)

/-- The preview stream finishes a frame of the writeback surface, sent to SRC_TX_FLOW with its media time (R138): identifier
217. A frame lost to WB_DROP is not sent. -/
def previewSent (n : Nat) (s : State) : State :=
  match s.txFrames.find? (fun f => f.n == n) with
  | some f =>
    (match (s.handle f.handle).desc with
     | some d =>
       if s.inFlag F.srcTxCfgEN ∧ !(s.inReset .src) ∧ !(s.pwr.stopped.contains 5) then
         let r := previewLines d f.buf s
         let o : Output := .preview (s.inF F.srcTxFlowDSTIP) (s.inF F.srcTxFlowUDPPORT) (s.inF F.srcTxFlowVLAN) n f.time r.1
         intr 217 { r.2 with out := r.2.out ++ [o], txFrames := r.2.txFrames.filter (fun g => g.n != n) }
       else s
     | none => s)
  | none => s

/-- RX_PACKET. -/
def execRxPacket (r : Fin 4) (p : RxPkt) (s : State) : Host.Outcome State Fault Refusal := .next (rxPacketIn r.val p s)
/-- PREVIEW_FRAME_SENT. -/
def execPreviewFrameSent (n : BitVec 48) (s : State) : Host.Outcome State Fault Refusal := .next (previewSent n.toNat s)

end Sys2Proof.Machine
end

