-- ==== Sys2Proof/Machine/Compose.lean ====
section
/-! DEFINITION. Composition lists and their checks (R139, R150), buffer selection (R129–R131), layer failures
(R164–R166), the per-layer pixel path (R151–R156), the mesh warp (R161) and the zone clamps (R158). -/

namespace Sys2Proof.Machine

/-- A layer record (Table: Layer record). -/
structure LayerRec where
  targets : Nat
  hfilt : Nat
  vtaps : Nat
  fillFb : Bool
  keyEn : Bool
  mode : Nat
  ignoreAlpha : Bool
  mask : Bool
  outside : Bool
  handle : Nat
  cropX : Nat
  cropY : Nat
  cropW : Nat
  cropH : Nat
  dstX : Int
  dstY : Int
  dstW : Nat
  dstH : Nat
  galpha : Nat
  postEn : Bool
  xferEn : Bool
  preEn : Bool
  xfer : Nat
  post : Nat
  pre : Nat
  fill : Nat
  keyLo : Nat
  keyHi : Nat
  keyA : Nat
  deriving DecidableEq, Repr

/-- The record of layer i of a list. -/
def recOf (l : List Byte) (i : Nat) : LayerRec :=
  let r := slice l (32 + 64 * i) 64
  let w := leAt r 0 4
  let c := leAt r 0x18 4
  { targets := bits w 31 24, hfilt := bits w 21 20, vtaps := bits w 19 18, fillFb := bit w 17, keyEn := bit w 16,
    mode := bits w 15 13, ignoreAlpha := bit w 12, mask := bit w 11, outside := bit w 10, handle := bits w 9 0,
    cropX := leAt r 4 2, cropY := leAt r 6 2, cropW := leAt r 8 2, cropH := leAt r 10 2,
    dstX := toInt 16 (leAt r 12 2), dstY := toInt 16 (leAt r 14 2), dstW := leAt r 16 2, dstH := leAt r 18 2,
    galpha := leAt r 20 2, postEn := bit c 13, xferEn := bit c 12, preEn := bit c 11, xfer := bits c 10 8,
    post := bits c 7 4, pre := bits c 3 0, fill := leAt r 0x20 8, keyLo := leAt r 0x28 8, keyHi := leAt r 0x30 8,
    keyA := leAt r 0x38 2 }

/-- Layers of a list. -/
def layersOf (l : List Byte) : Nat := bits (leAt l 0 4) 23 20

/-- Background of a list. -/
def bgOf (l : List Byte) : Nat := leAt l 8 8

/-- Channel c of a packed colour. -/
def chan (v c : Nat) : Nat := bits v (16 * c + 15) (16 * c)

/-- Taps of the vertical filter. -/
def tapsOf (v : Nat) : Nat := if v = 0 then 1 else if v = 1 then 2 else 4

/-- Must-be-zero fields of a header or record. -/
def listZeros (l : List Byte) (n : Nat) : Bool :=
  bits (leAt l 0 4) 19 16 != 0 || leAt l 4 4 != 0 || bits (leAt l 8 8) 63 48 != 0 || leAt l 16 16 != 0 ||
  (List.range n).any (fun i =>
    let r := slice l (32 + 64 * i) 64
    bits (leAt r 0 4) 23 22 != 0 || leAt r 0x16 2 != 0 || bits (leAt r 0x18 4) 31 14 != 0 || leAt r 0x1C 4 != 0 ||
    leAt r 0x26 2 != 0 || leAt r 0x2E 2 != 0 || leAt r 0x36 2 != 0 || leAt r 0x3A 6 != 0)

/-- The faults of a layer whose handle is LIVE (R150). -/
def liveBad (r : LayerRec) (d : SurfDesc) : Bool :=
  decide (d.width < r.cropX + r.cropW) || decide (d.height < r.cropY + r.cropH) ||
  ((d.format == 3 || d.format == 4) != r.mask) ||
  (d.format == 0x12 && (r.cropX % 2 == 1 || r.cropW % 2 == 1))

/-- The faults of a record on its own (R150). -/
def recBad (l : List Byte) (n i : Nat) (r : LayerRec) : Bool :=
  decide (4 < r.mode) || r.hfilt == 3 || r.vtaps == 3 || r.cropW == 0 || r.cropH == 0 || r.dstW == 0 || r.dstH == 0 ||
  decide (4096 < r.dstW) || decide (4096 < r.dstH) || decide (r.dstW * 8 < r.cropW) || decide (r.dstH * 8 < r.cropH) ||
  decide (64 * r.cropW < r.dstW) || decide (64 * r.cropH < r.dstH) || (!r.mask && r.targets != 0) ||
  (List.range 8).any (fun j => bit r.targets j && (decide (n ≤ j) || j == i || (recOf l j).mask))

/-- A malformed list (R150). -/
def State.listBad (s : State) (l : List Byte) : Bool :=
  let n := layersOf l
  bits (leAt l 0 4) 31 24 != 1 || decide (8 < n) || l.length != 32 + 64 * n || listZeros l n ||
  (List.range n).any (fun i =>
    let r := recOf l i
    recBad l n i r || (match (s.handle r.handle).st, (s.handle r.handle).desc with | .live, some d => liveBad r d | _, _ => false))

/-- The line-storage rule (R139): fetched width × taps at most 4,096. -/
def listShort (l : List Byte) : Bool :=
  (List.range (layersOf l)).any (fun i => decide (4096 < (recOf l i).cropW * tapsOf (recOf l i).vtaps))

/-- GT of FRAME_START(n) under the epoch and period in force (R27). -/
def State.frameStart (s : State) (n : Nat) : Nat :=
  ((toInt 64 (s.fld F.ptpFrameEpochEPOCH)) + ((n * s.inF F.ptpFramePeriodPERIOD / 65536 : Nat) : Int)).toNat

/-- The candidate buffer of a layer at the take for frame n: ready or not (R129, R130; a still surface is ready once
published). -/
def State.candidate (s : State) (k h n : Nat) : Option Nat :=
  let v := s.handle h
  let last := (SMap.get s.cmp.layers k {}).last
  match v.st, v.desc with
  | .live, some d =>
    if !d.seq then (if (v.buf 0).pub then some 0 else none)
    else if !d.timed then
      match v.latest with
      | some b => if (v.buf b).pub && (last != some (h, b) || decide (v.takes < d.expect)) then some b else none
      | none => none
    else
      let t : Int := (s.frameStart n : Int) - (d.delayUs * 1000 : Nat)
      let ok := (List.range (d.nbuf + 1)).filter (fun b => (v.buf b).pub && decide ((v.buf b).time ≤ t))
      let best := ok.foldl (fun a b => match a with
        | none => some b
        | some x => if (v.buf x).time < (v.buf b).time then some b else some x) (none : Option Nat)
      match best with
      | some b => if t - (d.period : Int) < (v.buf b).time then some b else none
      | none => none
  | _, _ => none

/-- A field of a layer's fetch or condition registers. -/
def Fld.ly (f : Fld) (k : Nat) : Fld := f.at (k * 0x20)

/-- Replace a layer position. -/
def setLayer (k : Nat) (v : LayerState) (s : State) : State := { s with cmp := { s.cmp with layers := SMap.put s.cmp.layers k v } }

/-- CMP_LYk_COND.COND of a mode. -/
def LMode.cond : LMode → Nat
  | .unused => 0 | .ready => 1 | .holding => 2 | .fill => 3 | .hidden => 3 | .fault => 4 | .maskBlank => 5

/-- A layer that takes a buffer, and so fetches. -/
def LayerState.takes (v : LayerState) : Bool := decide (v.mode = .ready) || decide (v.mode = .holding)

/-- From its fault's composed line on, a layer is substituted (R166). -/
def LayerState.faulted (v : LayerState) (Y : Nat) : Bool := match v.faultFrom with | some l => decide (l ≤ Y) | none => false

/-- Level of a layer's FIFO (R142): each entry into URGENT counts. -/
def setLevel (k fill : Nat) (s : State) : State :=
  let crit := 2048 * s.inF (F.cmpLfWeirWEIRCRIT.ly k)
  let weir := 2048 * s.inF (F.cmpLfWeirWEIR.ly k)
  let lvl := if fill < crit then 3 else if fill < weir then 2 else 1
  let was := s.fld (F.cmpLfStatLEVEL.ly k)
  let s := s |> setFld (F.cmpLfStatFILL.ly k) fill |> setFld (F.cmpLfStatLEVEL.ly k) lvl
  if lvl = 3 ∧ was ≠ 3 then countSat (F.cmpLfWeirCRITCOUNT.ly k) 1 s else s

/-- The layer shows a mode with a buffer; its status registers follow, and a fetch starts on an empty FIFO. -/
def showLayer (k : Nat) (v : LayerState) (s : State) : State :=
  setLayer k v s |> setFld (F.cmpLyCondCOND.ly k) v.mode.cond |> setFld (F.cmpLyCondHOLDS.ly k) (min v.holds 15) |>
    setFld (F.cmpLfStatBUF.ly k) v.buf |> setFld (F.cmpLfStatHANDLE.ly k) v.handle |> setFld (F.cmpLfStatFILL.ly k) 0 |>
    setFld (F.cmpLfStatLEVEL.ly k) 0 |> whenB v.takes (setLevel k 0)

/-- One layer at a take (R121, R129–R131, R164–R166). -/
def takeLayer (n k : Nat) (r : LayerRec) (s : State) : State :=
  let v := SMap.get s.cmp.layers k {}
  let h := r.handle
  let s := if (s.handle h).st ≠ .live then raise .cmp 8 { addr := h } s else s
  if v.faultNext then showLayer k { v with mode := if r.mask then .maskBlank else .fault, handle := h, faultFrom := some 0, faultNext := false } s
  else match s.candidate k h n with
  | some b => showLayer k { v with last := some (h, b), holds := 0, told := none, mode := .ready, handle := h, buf := b, faultFrom := none } s
  | none =>
    let holds := min (v.holds + 1) 255
    let lim := if r.mask then 2 else s.inF F.cmpCtrlHOLDMAX
    let same : Bool := match v.last with | some (h', _) => h' == h | none => false
    let b := match v.last with | some (_, b) => b | none => 0
    let v1 := { v with holds := holds, handle := h, buf := b, faultFrom := none }
    if r.mask then
      if same ∧ holds ≤ lim then
        showLayer k { v1 with mode := .holding } (if holds = 1 then raise .cmp 3 { addr := k } s else s)
      else showLayer k { v1 with mode := .maskBlank, told := some h }
        (if v.told = some h then s else raise .cmp 4 { addr := k } s)
    else
      let fb : LMode := if r.fillFb then .fill else .hidden
      let s1 := if lim < holds ∧ v.told.isNone then raise .cmp 3 { addr := k } s else s
      showLayer k { v1 with mode := if same ∧ holds ≤ lim then .holding else fb,
                            told := if lim < holds then some (v.told.getD h) else v.told } s1

/-- The groups a mask affects (R157). -/
def maskGroups (warp : Bool) (r : LayerRec) : BitVec 8 :=
  let m : Int := if warp then 121 else 0
  let lo := r.dstY - m
  let hi := r.dstY + r.dstH - 1 + m
  (List.range 8).foldl (fun a k => if ((128 * k : Nat) : Int) ≤ hi ∧ lo ≤ ((128 * k + 127 : Nat) : Int) then a ||| BitVec.ofNat 8 (1 <<< k) else a) 0

/-- Groups blanked by mask layers whose mode is blanking. -/
def State.takeBlank (s : State) (l : List Byte) : BitVec 8 :=
  (List.range (layersOf l)).foldl (fun a k =>
    if (recOf l k).mask && decide ((SMap.get s.cmp.layers k {}).mode = .maskBlank) then a ||| maskGroups (s.inFlag F.cmpCtrlWARPEN) (recOf l k) else a) 0

/-- TAKES counts take instants that take LATEST, also by a layer that takes it again (R129, R131). -/
def countTakes (l : List Byte) (s : State) : State :=
  let hs := ((List.range (layersOf l)).filter (fun k => (SMap.get s.cmp.layers k {}).takes)).map
    (fun k => ((SMap.get s.cmp.layers k {}).handle, (SMap.get s.cmp.layers k {}).buf))
  (hs.eraseDups).foldl (fun t e =>
    let v := t.handle e.1
    if v.latest = some e.2 then setHandle e.1 { v with takes := min (v.takes + 1) 255 } t else t) s

/-- The list for a take in QUEUE mode (R147): the list to execute and whether it is a repeat. -/
def queueList (s : State) : (List Byte × Bool) × State :=
  let q := s.inF F.cmpCtrlLISTQUEUE
  let idle := match (s.queue q).a.head with | some h => (SMap.get s.qm.cells h {}).idle | none => false
  let p := hwPop q s
  match p.1 with
  | none => ((s.cmp.list, true), raise .cmp 6 { addr := q } p.2)
  | some l =>
    if idle then ((s.cmp.list, true), p.2)
    else if p.2.listBad l then ((s.cmp.list, true), raise .cmp 9 { addr := q } p.2)
    else if listShort l then ((s.cmp.list, true), raise .cmp 10 { addr := q } p.2)
    else ((l, false), p.2)

/-- The list for a take in either mode (R146). -/
def takeList (s : State) : (List Byte × Bool) × State :=
  if s.inFlag F.cmpCtrlLISTSRC then (((s.cmp.loads.list).getD [], false), s) else queueList s

/-- Whether a layer occludes at the take what its placed rectangle covers (R143): it is ready or falls back to a fill colour,
opaque, with neither alpha, key nor mask. -/
def State.opaqueAt (s : State) (k : Nat) : Bool :=
  let r := recOf s.cmp.list k
  let v := SMap.get s.cmp.layers k {}
  let noAlpha := match (s.handle v.handle).desc with | some d => d.format != 1 && d.format != 2 | none => false
  (decide (v.mode = .ready) || (r.fillFb && decide (v.mode ≠ .unused))) && (noAlpha || r.ignoreAlpha) && !r.keyEn &&
  r.mode == 0 && r.galpha == 0xFFFF && !r.mask &&
  !((List.range s.nLayers).any (fun m => (recOf s.cmp.list m).mask && bit (recOf s.cmp.list m).targets k))

/-- Culling is decided at the take, for the whole frame (R145). -/
def latchOcc (s : State) : State :=
  forN 8 (fun k s => setLayer k { SMap.get s.cmp.layers k {} with occ := decide (k < s.nLayers) && s.opaqueAt k } s) s

/-- The list take for frame n (R28, R146–R148). -/
def takeFrame (n : Nat) (s : State) : State :=
  let t := takeList s
  let l := t.1.1
  let s := { t.2 with cmp := { t.2.cmp with list := l, listStaged := t.2.inFlag F.cmpCtrlLISTSRC } }
  let s := if t.1.2 then countMod F.cmpListStatREPEATS 1 s else s
  let s := forN 8 (fun k s =>
    if k < layersOf l then takeLayer n k (recOf l k) s
    else showLayer k { SMap.get s.cmp.layers k {} with mode := .unused, last := none, holds := 0, told := none, faultFrom := none, faultNext := false } s) s
  let s := countTakes l (latchOcc s)
  let b := s.takeBlank l
  let w := if s.inFlag F.cmpWbCfgEN ∧ (s.handle (s.inF F.cmpWbCfgHANDLE)).st = .live then takeForWrite (s.inF F.cmpWbCfgHANDLE) s
    else (none, s)
  let s := w.2
  { s with cmp := { s.cmp with blank := b, frame := some { n := n, wbBuf := w.1 }, wbPrev := [] } } |>
    setFld F.cmpListStatTAG (bits (leAt l 0 4) 15 0) |> setFld F.cmpListStatNLAYERS (layersOf l) |>
    setFld F.cmpListStatBLANK b.toNat |> intr 245

/-- Writeback is dropped for the frame: WB_DROP (R163). A write that faulted leaves its address in the capture (R102). -/
def wbDropFrame (at_ : Option Nat) (s : State) : State :=
  match s.cmp.frame with
  | none => s
  | some f =>
    if f.wbDrop then s
    else raise .cmp 7 (match at_ with | some va => { addr := va, mstr := 152, typ := 2 } | none => { addr := f.n }) (countMod F.cmpListStatWBDROPS 1 { s with cmp := { s.cmp with frame := some { f with wbDrop := true } } })

/-- LIST_TAKE for frame n + 1 in the period of frame n (R28): not before its instant, once, and not while EN is 0 or
CMP is in reset; then correction receives L16 zero for the frame (R148). -/
def listTakeAt (n : Nat) (s : State) : State :=
  let done : Bool := match s.cmp.frame with | some f => f.n == n + 1 | none => false
  if !s.tl.running ∨ s.tl.frame ≠ n ∨ s.gt < s.frameStart n + 8000 ∨ done ∨ s.pwr.stopped.contains 4 then s
  else if !(s.inFlag F.cmpCtrlEN) ∨ s.inReset .cmp then
    { s with cmp := { s.cmp with frame := some { n := n + 1, zero := true } } }
  else
    let s := takeFrame (n + 1) s
    let none_ : Bool := match s.cmp.frame with | some f => f.wbBuf.isNone | none => true
    if s.inFlag F.cmpWbCfgEN && none_ then wbDropFrame none s else s

/-- The fault of a layer's fetch (R166), from a composed line on; the lines before it keep the layer. LAYER_FAULT, with the
address, the channel and type DMA captured. -/
def layerFault (k line va : Nat) (s : State) : State :=
  let v := SMap.get s.cmp.layers k {}
  let r := recOf s.cmp.list k
  let s := setLayer k { v with faultFrom := some (min line (v.faultFrom.getD line)), faultNext := true } s |>
    setFld (F.cmpLyCondCOND.ly k) (if r.mask then LMode.maskBlank.cond else LMode.fault.cond) |>
    setFld (F.cmpLyCondFAULTLINE.ly k) line
  let s := if r.mask then
      setFld F.cmpListStatBLANK (BitVec.ofNat 8 (s.fld F.cmpListStatBLANK) ||| maskGroups (s.inFlag F.cmpCtrlWARPEN) r).toNat s
    else s
  raise .cmp 5 { addr := va, mstr := 64 + k, typ := 4 } s

/-- A real-time read of the fetch port of layer k: a fault replaces the layer from the composed line on. -/
def fetchBytes (k line va n : Nat) (s : State) : Option (List Byte) × State :=
  let r := rtRead k va n s
  match r.1 with
  | .ok l => (some l, r.2)
  | .error a => (none, layerFault k line a r.2)

/-- The four channels of a source pixel (R120): colour or Y Cb Cr, and alpha; A8 and A16 stand in every channel. -/
structure Px where
  c0 : Nat := 0
  c1 : Nat := 0
  c2 : Nat := 0
  a : Nat := 0xFFFF
  deriving DecidableEq, Repr

/-- Fetch one 16-bit sample of a plane. -/
def sample16 (k line : Nat) (d : SurfDesc) (b p x y : Nat) (s : State) : Option Nat × State :=
  let r := fetchBytes k line (d.addr b p x y) 2 s
  (r.1.map leNat, r.2)

/-- The chroma of a YC422P16 pixel over the crop (chroma upsampling): an even pixel's own pair, an odd pixel the
rounded mean of its own pair and the next, the last pixel of the crop its own pair. -/
def chroma (k line : Nat) (d : SurfDesc) (b c x y cropEnd : Nat) (s : State) : Option Nat × State :=
  let own := sample16 k line d b 1 (2 * (x / 2) + c) y s
  if x % 2 = 0 ∨ x + 1 = cropEnd then own
  else
    let nxt := sample16 k line d b 1 (2 * (x / 2) + 2 + c) y own.2
    (match own.1, nxt.1 with | some u, some v => some ((u + v + 1) / 2) | _, _ => none, nxt.2)

/-- Fetch one source pixel, widened to 16 bits (R120). -/
def fetchPx (k line : Nat) (d : SurfDesc) (b x y cropEnd : Nat) (s : State) : Option Px × State :=
  let base := d.bufs.getD b 0 + d.stride0 * y
  match d.format with
  | 1 =>
    let r := fetchBytes k line (base + 4 * x) 4 s
    (r.1.map (fun l => { c0 := leAt l 0 1 * 256, c1 := leAt l 1 1 * 256, c2 := leAt l 2 1 * 256, a := leAt l 3 1 * 257 }), r.2)
  | 2 =>
    let r := fetchBytes k line (base + 8 * x) 8 s
    (r.1.map (fun l => { c0 := leAt l 0 2, c1 := leAt l 2 2, c2 := leAt l 4 2, a := leAt l 6 2 }), r.2)
  | 3 =>
    let r := fetchBytes k line (base + x) 1 s
    (r.1.map (fun l => let v := leNat l * 257; { c0 := v, c1 := v, c2 := v, a := v }), r.2)
  | 4 =>
    let r := fetchBytes k line (base + 2 * x) 2 s
    (r.1.map (fun l => let v := leNat l; { c0 := v, c1 := v, c2 := v, a := v }), r.2)
  | 0x12 =>
    let y0 := sample16 k line d b 0 x y s
    let cb := chroma k line d b 0 x y cropEnd y0.2
    let cr := chroma k line d b 1 x y cropEnd cb.2
    (match y0.1, cb.1, cr.1 with | some u, some v, some w => some { c0 := u, c1 := v, c2 := w } | _, _, _ => none, cr.2)
  | _ =>
    let p0 := sample16 k line d b 0 x y s
    let p1 := sample16 k line d b 1 x y p0.2
    let p2 := sample16 k line d b 2 x y p1.2
    (match p0.1, p1.1, p2.1 with | some u, some v, some w => some { c0 := u, c1 := v, c2 := w } | _, _, _ => none, p2.2)

/-- The source position of R151 as a rational (numerator over 2 × size): crop + (2(X − DST) + 1) × CROP / (2 × DST)
− 1/2. -/
def srcPos (crop cropN dstN : Nat) (dst x : Int) : Int × Nat :=
  ((2 * dstN * crop : Nat) + (2 * (x - dst) + 1) * cropN - dstN, 2 * dstN)

/-- Filter taps at a position num/den: offsets from the whole part with weights over a common denominator. Nearest,
linear, Catmull–Rom (R151, a = −1/2; weights over 2 × den³). -/
def taps (filt : Nat) (num : Int) (den : Nat) : List (Int × Int) × Nat :=
  let i := num / den
  let t : Int := num % den
  let d : Int := den
  if filt = 0 then ([((2 * num + d) / (2 * d), 1)], 1)
  else if filt = 1 then ([(i, d - t), (i + 1, t)], den)
  else
    ([(i - 1, -t * d * d + 2 * t * t * d - t * t * t), (i, 2 * d * d * d - 5 * t * t * d + 3 * t * t * t),
      (i + 1, t * d * d + 4 * t * t * d - 3 * t * t * t), (i + 2, -t * t * d + t * t * t)], 2 * den * den * den)

/-- Round an exact interpolated value: exact where it is whole, else down or up, which is free (assumption 14). -/
def roundFree (s : State) (tag : Nat) (num : Int) (den : Nat) : Nat :=
  let q := num / den
  let v := if num % den = 0 then q else if Config.roundUp s.free tag then q + 1 else q
  (clampI 0 0xFFFF v).toNat

/-- The scaled pixel of a layer at a composed pixel: taps outside the crop take the nearest crop edge pixel (R151). -/
def scaledPx (k : Nat) (r : LayerRec) (d : SurfDesc) (b : Nat) (X Y : Nat) (s : State) : Option Px × State :=
  let px := srcPos r.cropX r.cropW r.dstW r.dstX X
  let py := srcPos r.cropY r.cropH r.dstH r.dstY Y
  let tx := taps r.hfilt px.1 px.2
  let ty := taps (if r.vtaps = 0 then 0 else if r.vtaps = 1 then 1 else 2) py.1 py.2
  let cx := fun (v : Int) => (clampI r.cropX (r.cropX + r.cropW - 1 : Nat) v).toNat
  let cy := fun (v : Int) => (clampI r.cropY (r.cropY + r.cropH - 1 : Nat) v).toNat
  let go := (ty.1.flatMap (fun v => tx.1.map (fun u => (u, v)))).foldl
    (fun (acc : Option (Int × Int × Int × Int) × State) (e : (Int × Int) × (Int × Int)) =>
      match acc.1 with
      | none => acc
      | some t =>
        if e.1.2 * e.2.2 = 0 then acc
        else
        let p := fetchPx k Y d b (cx e.1.1) (cy e.2.1) (r.cropX + r.cropW) acc.2
        match p.1 with
        | none => (none, p.2)
        | some q =>
          let w := e.1.2 * e.2.2
          (some (t.1 + w * q.c0, t.2.1 + w * q.c1, t.2.2.1 + w * q.c2, t.2.2.2 + w * q.a), p.2))
    (some (0, 0, 0, 0), s)
  match go.1 with
  | none => (none, go.2)
  | some t =>
    let den := tx.2 * ty.2
    let tag := ((k * 1024 + Y) * 1024 + X) * 4
    (some { c0 := roundFree go.2 tag t.1 den, c1 := roundFree go.2 (tag + 1) t.2.1 den,
            c2 := roundFree go.2 (tag + 2) t.2.2.1 den, a := roundFree go.2 (tag + 3) t.2.2.2 den }, go.2)

/-- Whether a composed pixel lies in a layer's placed rectangle. -/
def inRect (r : LayerRec) (X Y : Nat) : Bool :=
  decide (r.dstX ≤ X) && decide ((X : Int) < r.dstX + r.dstW) && decide (r.dstY ≤ Y) && decide ((Y : Int) < r.dstY + r.dstH)

/-- The key test (R152). -/
def keyed (r : LayerRec) (p : Px) : Bool :=
  r.keyEn && decide (chan r.keyLo 0 ≤ p.c0) && decide (p.c0 ≤ chan r.keyHi 0) && decide (chan r.keyLo 1 ≤ p.c1) &&
  decide (p.c1 ≤ chan r.keyHi 1) && decide (chan r.keyLo 2 ≤ p.c2) && decide (p.c2 ≤ chan r.keyHi 2)

/-- A coefficient of a matrix slot in force; every slot resets to the identity. -/
def State.matC (s : State) (m r j : Nat) : Int :=
  let f := if j = 0 then F.cmpMatRowC0 else if j = 1 then F.cmpMatRowC1 else F.cmpMatRowC2
  toInt 16 (SMap.get s.inForce (f.at (m * 0x20 + 8 * r)).key (if r = j then 0x1000 else 0))

/-- A matrix step (R153). -/
def State.matrix (s : State) (m : Nat) (x : Nat × Nat × Nat) : Nat × Nat × Nat :=
  let pre := fun (f : Fld) => toInt 16 (s.inF (f.at (m * 0x20)))
  let y0 := (x.1 : Int) + pre F.cmpMatPrePRE0
  let y1 := (x.2.1 : Int) + pre F.cmpMatPrePRE1
  let y2 := (x.2.2 : Int) + pre F.cmpMatPrePRE2
  let out := fun (r : Nat) =>
    (clampI 0 0xFFFF (((s.matC m r 0 * y0 + s.matC m r 1 * y1 + s.matC m r 2 * y2 + 0x800) / 4096) +
      toInt 16 (s.inF (F.cmpMatRowPOST.at (m * 0x20 + 8 * r))))).toNat
  (out 0, out 1, out 2)

/-- Entry j of a transfer table; the identity table where none was loaded (R149, R154). -/
def State.xferAt (s : State) (t j : Nat) : Nat :=
  match s.cmp.loads.xfer with
  | none => min (256 * j) 0xFFFF
  | some l => leAt l (576 * t + 2 * j) 2

/-- Table interpolation (PLUT, R58). -/
def interp (t0 t1 f : Nat) : Nat := (((t0 : Int) + (((t1 : Int) - t0) * f + 0x80) / 256)).toNat

/-- A channel through a transfer slot (R154). -/
def State.xfer (s : State) (t x : Nat) : Nat :=
  interp (s.xferAt t (x / 256)) (s.xferAt t (x / 256 + 1)) (x % 256)

/-- The conversion steps of a layer: PRE, transfer, POST. -/
def State.convert (s : State) (r : LayerRec) (p : Px) : Nat × Nat × Nat :=
  let x := (p.c0, p.c1, p.c2)
  let x := if r.preEn then s.matrix r.pre x else x
  let x := if r.xferEn then (s.xfer r.xfer x.1, s.xfer r.xfer x.2.1, s.xfer r.xfer x.2.2) else x
  if r.postEn then s.matrix r.post x else x

/-- Take a factor into a weight (R155). -/
def factor (e y : Nat) : Nat := (e * (y + y / 32768) + 0x8000) / 65536

/-- A product e as a weight out of 65,536. -/
def weight (e : Nat) : Nat := e + e / 32768

/-- Blend modes (Table: Blend modes). -/
def blend (mode s d w g : Nat) : Nat :=
  match mode with
  | 0 => (s * w + d * (65536 - w) + 0x8000) / 65536
  | 1 => min ((s * g + d * (65536 - w) + 0x8000) / 65536) 0xFFFF
  | 2 => min (d + (s * w + 0x8000) / 65536) 0xFFFF
  | 3 =>
    let s' := s + s / 32768
    (d * (65536 - ((65536 - s') * w + 0x8000) / 65536) + 0x8000) / 65536
  | _ => max d ((s * w + 0x8000) / 65536)

/-- Blend a colour on a pixel. -/
def blend3 (mode : Nat) (c d : Nat × Nat × Nat) (w g : Nat) : Nat × Nat × Nat :=
  (blend mode c.1 d.1 w g, blend mode c.2.1 d.2.1 w g, blend mode c.2.2 d.2.2 w g)

/-- Whether a layer occludes a span of 64 pixels (R143), as decided at the take. -/
def State.occludes (s : State) (k j Y : Nat) : Bool :=
  let r := recOf s.cmp.list k
  (SMap.get s.cmp.layers k {}).occ &&
  decide (r.dstX ≤ (64 * j : Nat)) && decide (((64 * j + 64 : Nat) : Int) ≤ r.dstX + r.dstW) &&
  decide (r.dstY ≤ Y) && decide ((Y : Int) < r.dstY + r.dstH)

/-- The value of a mask layer at a composed pixel (R156). -/
def maskValue (k X Y : Nat) (s : State) : Nat × State :=
  let r := recOf s.cmp.list k
  let v := SMap.get s.cmp.layers k {}
  if inRect r X Y ∧ v.takes then
    if v.faulted Y then (0, s)
    else match (s.handle v.handle).desc with
    | none => (0, s)
    | some d =>
      let p := scaledPx k r d v.buf X Y s
      match p.1 with
      | none => (0, p.2)
      | some q => (if keyed r q then factor q.c0 r.keyA else q.c0, p.2)
  else (if r.outside then 0xFFFF else 0, s)

/-- Every mask that targets a layer multiplies its weight (R155). -/
def maskFactors (k X Y e : Nat) (s : State) : Nat × State :=
  (List.range s.nLayers).foldl (fun a m =>
    let r := recOf a.2.cmp.list m
    if r.mask && bit r.targets k then
      let v := maskValue m X Y a.2
      (factor a.1 v.1, v.2)
    else a) (e, s)

/-- Background as a triple. -/
def State.bg (s : State) : Nat × Nat × Nat := (chan (bgOf s.cmp.list) 0, chan (bgOf s.cmp.list) 1, chan (bgOf s.cmp.list) 2)

/-- One layer at one composed pixel (R155, R164, R166). A mask draws nothing, and is read wherever it lies (R144, R156). -/
def layerPx (k X Y : Nat) (d : Nat × Nat × Nat) (s : State) : (Nat × Nat × Nat) × State :=
  let r := recOf s.cmp.list k
  let v := SMap.get s.cmp.layers k {}
  if r.mask then (d, (maskValue k X Y s).2)
  else if !(inRect r X Y) then (d, s)
  else if v.faulted Y then (s.bg, s)
  else if v.mode = .fill then
    let m := maskFactors k X Y (factor r.galpha 0xFFFF) s
    (blend3 r.mode (chan r.fill 0, chan r.fill 1, chan r.fill 2) d (weight m.1) (weight r.galpha), m.2)
  else if v.takes then
    match (s.handle v.handle).desc with
    | none => (d, s)
    | some sd =>
      let p := scaledPx k r sd v.buf X Y s
      match p.1 with
      | none => (p.2.bg, p.2)
      | some q =>
        let a := if r.ignoreAlpha ∨ (sd.format ≠ 1 ∧ sd.format ≠ 2) then 0xFFFF else q.a
        let e := factor r.galpha a
        let e := if keyed r q then factor e r.keyA else e
        let m := maskFactors k X Y e p.2
        (blend3 r.mode (m.2.convert r q) d (weight m.1) (weight r.galpha), m.2)
  else (d, s)

/-- One composed pixel: layers from the highest that occludes its span, and every mask (R144), over the background. -/
def compPx (X Y : Nat) (s : State) : (Nat × Nat × Nat) × State :=
  let n := s.nLayers
  let from_ := ((List.range n).filter (fun k => s.occludes k (X / 64) Y)).foldl max 0
  (List.range n).foldl (fun a k => if k < from_ ∧ !(recOf s.cmp.list k).mask then a else layerPx k X Y a.1 a.2) (s.bg, s)

/-- A mesh node coordinate in 1/16 pixel; the identity mesh where none is loaded. -/
def State.node (s : State) (i j c : Nat) : Int :=
  match s.cmp.loads.mesh with
  | none => ((512 * (if c = 0 then i else j) : Nat) : Int)
  | some l => toInt 16 (leAt l (4 * (33 * j + i) + 2 * c) 2)

/-- The composed position of an output site (R161), per coordinate. -/
def State.warpPos (s : State) (x y c : Nat) : Int :=
  let i := x / 32; let j := y / 32; let u : Int := (x % 32 : Nat); let v : Int := (y % 32 : Nat)
  (s.node i j c * ((32 - u) * (32 - v)) + s.node (i + 1) j c * (u * (32 - v)) + s.node i (j + 1) c * ((32 - u) * v) +
    s.node (i + 1) (j + 1) c * (u * v) + 512) / 1024

/-- A composed pixel at a sample position: positions outside 0–1023 take BG. -/
def compAt (X Y : Int) (s : State) : (Nat × Nat × Nat) × State :=
  if 0 ≤ X ∧ X < 1024 ∧ 0 ≤ Y ∧ Y < 1024 then compPx X.toNat Y.toNat s else (s.bg, s)

/-- An output site: the composed pixel, or with the warp its bilinear sample at P / 16 (R161). -/
def sitePx (x y : Nat) (s : State) : (Nat × Nat × Nat) × State :=
  if !(s.inFlag F.cmpCtrlWARPEN) then compPx x y s
  else
    let px := s.warpPos x y 0
    let py := s.warpPos x y 1
    let X := px / 16; let Y := py / 16; let u := px % 16; let v := py % 16
    let a := compAt X Y s
    let b := compAt (X + 1) Y a.2
    let c := compAt X (Y + 1) b.2
    let d := compAt (X + 1) (Y + 1) c.2
    let mix := fun (f : Nat × Nat × Nat → Nat) (t : Nat) =>
      roundFree d.2 ((y * 1024 + x) * 4 + t + 2 ^ 40)
        ((f a.1 : Int) * ((16 - u) * (16 - v)) + (f b.1 : Int) * (u * (16 - v)) + (f c.1 : Int) * ((16 - u) * v) +
          (f d.1 : Int) * (u * v)) 256
    ((mix (fun t => t.1) 0, mix (fun t => t.2.1) 1, mix (fun t => t.2.2) 2), d.2)

/-- A field of a zone. -/
def Fld.zone (f : Fld) (z : Nat) : Fld := f.at (z * 0x10)

/-- The zone clamps of a site (R158): the smallest clamp of each primary. -/
def State.zoneClamp (s : State) (x y : Nat) (p : Nat × Nat × Nat) : Nat × Nat × Nat :=
  (List.range 16).foldl (fun a z =>
    if s.inFlag (F.cmpZoneRectEN.zone z) && decide (s.inF (F.cmpZoneRectX0.zone z) ≤ x) && decide (x ≤ s.inF (F.cmpZoneRectX1.zone z)) &&
       decide (s.inF (F.cmpZoneRectY0.zone z) ≤ y) && decide (y ≤ s.inF (F.cmpZoneRectY1.zone z)) then
      (min a.1 (s.inF (F.cmpZoneClampRED.zone z)), min a.2.1 (s.inF (F.cmpZoneClampGREEN.zone z)), min a.2.2 (s.inF (F.cmpZoneClampBLUE.zone z)))
    else a) p

/-- Whether a group is blanked on a line (R157, R165, R166): by a mask stale at the take, or by a mask whose fetch
faulted at or before the line. -/
def State.lineBlank (s : State) (y : Nat) : Bool :=
  s.cmp.blank.getLsbD (y / 128) ||
  (List.range s.nLayers).any (fun k =>
    let v := SMap.get s.cmp.layers k {}
    let r := recOf s.cmp.list k
    r.mask && v.faulted y && (maskGroups (s.inFlag F.cmpCtrlWARPEN) r).getLsbD (y / 128))

/-- No list was taken for the frame in composition: correction receives L16 zero (R148). -/
def State.zeroFrame (s : State) : Bool := match s.cmp.frame with | some f => f.zero | none => true

/-- The 1,024 sites of an output line, after warp and zone clamps. -/
def lineSites (y : Nat) (s : State) : List (Nat × Nat × Nat) × State :=
  let r := (List.range 1024).foldl (fun a x =>
    let p := sitePx x y a.2
    (p.2.zoneClamp x y p.1 :: a.1, p.2)) (([] : List (Nat × Nat × Nat)), s)
  (r.1.reverse, r.2)

/-- An output line. A fetch that faults on the way replaces its layer on the whole composed line (R166), so that the line is
composed once more without it; one free draw serves the line's roundings. -/
def composeLine (y : Nat) (s : State) : List (Nat × Nat × Nat) × State :=
  if s.zeroFrame then (List.replicate 1024 (0, 0, 0), s)
  else
    let r := lineSites y s
    let r := if r.2.cmp.layers = s.cmp.layers then r else lineSites y r.2
    (r.1, drawn r.2)

/-- The plane and the row of a buffer that an address lies in. -/
def SurfDesc.rowOf (d : SurfDesc) (b va : Nat) : Option (Nat × Nat) :=
  ((List.range (planesOf d.format)).find? (fun p =>
    decide (d.bufs.getD b 0 + d.off p ≤ va) && decide (va < d.bufs.getD b 0 + d.off p + d.stride p * d.height))).map
      (fun p => (p, (va - d.bufs.getD b 0 - d.off p) / d.stride p))

/-- The source pixels, from one to before another, that `len` bytes at offset `o` of a row of a plane serve; a chroma pair of
YC422P16 also serves the odd pixel before it. -/
def burstPixels (f p o len : Nat) : Nat × Nat :=
  match f with
  | 1 => (o / 4, (o + len + 3) / 4)
  | 2 => (o / 8, (o + len + 7) / 8)
  | 3 => (o, o + len)
  | 0x12 => if p = 0 then (o / 2, (o + len + 1) / 2) else (2 * (o / 4) - 1, 2 * ((o + len + 3) / 4))
  | _ => (o / 2, (o + len + 1) / 2)

/-- Whether some tap with weight, at a source position, takes a pixel from `a` to before `b`, at the crop's edge where it lies
beyond. -/
def tapsMeet (filt crop cropN a b : Nat) (pos : Int × Nat) : Bool :=
  (taps filt pos.1 pos.2).1.any (fun e =>
    let c := (clampI crop (crop + cropN - 1 : Nat) e.1).toNat
    e.2 != 0 && decide (a ≤ c) && decide (c < b))

/-- The composed line of the first pixel that needs the pixels from `a` to before `b` of a source row of layer k; for none that
an occluding layer hides through all its taps, unless the layer is a mask (R144). -/
def State.burstLine (s : State) (k row a b : Nat) : Option Nat :=
  let r := recOf s.cmp.list k
  (List.range 1024).find? (fun Y =>
    inRect r r.dstX.toNat Y &&
    tapsMeet (if r.vtaps = 0 then 0 else if r.vtaps = 1 then 1 else 2) r.cropY r.cropH row (row + 1) (srcPos r.cropY r.cropH r.dstH r.dstY Y) &&
    (List.range 1024).any (fun X => inRect r X Y &&
      (r.mask || !((List.range s.nLayers).any (fun m => decide (k < m) && s.occludes m (X / 64) Y))) &&
      tapsMeet r.hfilt r.cropX r.cropW a b (srcPos r.cropX r.cropW r.dstW r.dstX X)))

/-- A 64-byte fetch burst of a layer (R141, R142): the FIFO fills, or the fetch faults (R166). A burst that no pixel of the
frame needs is not fetched. -/
def fetchBurst (k va len : Nat) (s : State) : State :=
  let v := SMap.get s.cmp.layers k {}
  match s.cmp.frame, (s.handle v.handle).desc with
  | some f, some d =>
    if v.takes ∧ f.open_ ∧ !f.zero ∧ 0 < len ∧ len ≤ 64 ∧ !(s.inReset .cmp) then
      match d.rowOf v.buf va with
      | none => s
      | some pr =>
        let px := burstPixels d.format pr.1 ((va - d.bufs.getD v.buf 0 - d.off pr.1) % d.stride pr.1) len
        match s.burstLine k pr.2 px.1 px.2 with
        | none => s
        | some Y =>
          if v.faulted Y then s
          else
            let m := rtRead k va len s
            match m.1 with
            | .error a => layerFault k Y a m.2
            | .ok _ => setLevel k (min 32768 (m.2.fld (F.cmpLfStatFILL.ly k) + len)) m.2
    else s
  | _, _ => s

/-- Composition of line y consumes the source lines it was the last to need; a frame without a list has none. -/
def consumeLine (y : Nat) (s : State) : State :=
  if s.zeroFrame then s
  else (List.range s.nLayers).foldl (fun s k =>
    let v := SMap.get s.cmp.layers k {}
    let r := recOf s.cmp.list k
    match (s.handle v.handle).desc with
    | some d =>
      if v.takes ∧ inRect r (r.dstX.toNat) y then
        let a := (srcPos r.cropY r.cropH r.dstH r.dstY y)
        let b := (srcPos r.cropY r.cropH r.dstH r.dstY (y + 1))
        let rows := ((b.1 / b.2) - (a.1 / a.2)).toNat
        setLevel k (s.fld (F.cmpLfStatFILL.ly k) -
          rows * ((List.range (planesOf d.format)).foldl (fun a p => a + lineBytes d.format r.cropW p) 0)) s
      else s
    | none => s) s

/-- LAYER_FETCH_BURST. -/
def execLayerFetchBurst (k : Fin 8) (va : BitVec 48) (len : Nat) (s : State) : Host.Outcome State Fault Refusal :=
  .next (fetchBurst k.val va.toNat len s)

end Sys2Proof.Machine
end

