-- ==== Sys2Proof/Machine/Rail.lean ====
section
/-! DEFINITION. The rail engines (R273–R288): states, slew, setpoints of the demand forecast, and faults. -/

namespace Sys2Proof.Machine

/-- Entry to FAULT (R278, R286): phases at mid-level, or low after OV; NEED_RESTART; the neighbours hold. -/
def railFault (k : Nat) (low : Bool) (s : State) : State :=
  s |> railTo k 4 |> setPhases k 0 |> setRail k { s.rail k with slewOff := false, segs := [], eff := none, low := low } |>
    setFlag (F.railStatNEEDRESTART.rail k) true |> neighboursHold k

/-- A fault that acts on a rail and is reported by its engine. -/
def railTrip (k src : Nat) (low : Bool) (s : State) : State := raise (Blk.railN k) src { addr := k } (railFault k low s)

/-- Whether rail k's engine is held in a block reset. -/
def State.railReset (s : State) (k : Nat) : Bool := s.inReset (Blk.railN k)

/-- The START condition (R274): OFF, EN in force, the cartridge READY, NEED_RESTART 0, and power step 2 not stopped. -/
def State.startOk (s : State) (k : Nat) : Bool :=
  s.railSt k == 0 && s.inFlag (F.railCtrlEN.rail k) && s.fld F.corCartStatSTATE == 2 &&
  !(s.flag (F.railStatNEEDRESTART.rail k)) && !(s.railReset k) && !(s.pwr.stopped.contains 2)

/-- RAIL_START: the target ramps to V_IDLE at SLEW_UP from the sensed output. -/
def railStartAt (k : Nat) (s : State) : State :=
  if s.startOk k then
    let v := s.fld (F.railStatVSENSE.rail k)
    let g : RailSeg := ⟨s.now, v, s.inF (F.railVlimVIDLE.rail k),
      if v ≤ s.inF (F.railVlimVIDLE.rail k) then s.inF (F.railSlewSLEWUP.rail k) else s.inF (F.railSlewSLEWDN.rail k)⟩
    s |> railTo k 1 |> setPhases k 1 |> setRail k { s.rail k with slewOff := false, startAt := s.now, segs := [g], low := false }
  else s

/-- RESTART (R274, R279): in OFF or FAULT it clears NEED_RESTART and the FAILED bits and leaves the rail OFF. -/
def railRestartAt (k : Nat) (s : State) : State :=
  if s.railReset k then s
  else if s.railSt k = 0 ∨ s.railSt k = 4 then
    s |> forN 4 (fun i s => setFlag ((F.railPhFAILED.rail k).at (8 * i)) false s) |>
      setFlag (F.railStatNEEDRESTART.rail k) false |> railOff k
  else s

/-- A sample of VSENSE in mV; below V_IDLE, phases that OV holds low go to mid-level (R286). -/
def railSense (k v : Nat) (s : State) : State :=
  let s := setFld (F.railStatVSENSE.rail k) v s
  if v < s.inF (F.railVlimVIDLE.rail k) then setRail k { s.rail k with low := false } s else s

/-- What the converters of a rail show when software looks (R287): VSENSE and the current of each phase, which the outside
gives and no command tells, are free values; IOUT is the sum of the phase currents. -/
def railSample (k : Nat) (s : State) : State :=
  let s := drawn (railSense k (s.freeW.toNat % 65536) s)
  let s := forN 4 (fun i s => drawn (setFld ((F.railPhIPH.rail k).at (8 * i)) (s.freeW.toNat % 65536) s)) s
  let sum := (List.range 4).foldl (fun (a : Int) i => a + toInt 16 (s.fld ((F.railPhIPH.rail k).at (8 * i)))) 0
  setFld (F.railStatIOUT.rail k) (ofInt 16 sum) s

/-- A sample of VSENSE within UV_MARGIN of V_IDLE takes START to HOLD. -/
def railHoldEntryAt (k v : Nat) (s : State) : State :=
  if s.railReset k then s
  else
    let m := 10 * s.fld (F.railProtUVMARGIN.rail k)
    let idle := s.inF (F.railVlimVIDLE.rail k)
    let s := railSense k v s
    if s.railSt k = 1 ∧ idle ≤ v + m ∧ v ≤ idle + m then railHold k s else s

/-- START has not reached HOLD within 2 ms. -/
def startFailAt (k : Nat) (s : State) : State :=
  if s.railSt k = 1 ∧ (s.rail k).startAt + 2000000 ≤ s.now then railTrip k 6 false s else s

/-- SW_CLOSED of a group. -/
def State.swLine (s : State) (g : Nat) : SwLine := SMap.get s.swc g {}

/-- The setpoint and phase count of the displayed frame; with none, V_MAX and every healthy phase (R283). -/
def State.dispSet (s : State) (k : Nat) : Nat × Nat :=
  ((s.rail k).disp).getD (s.inF (F.railVlimVMAX.rail k), (s.healthy k).length)

/-- Apply a setpoint and phase count in TRACK. -/
def railApplySet (k v n : Nat) (s : State) : State :=
  s |> setRail k { s.rail k with eff := some (v, n) } |> setPhases k (max 1 n) |> railGoal k v

/-- HOLD to TRACK (R275): SW_CLOSED for 2 µs, no rail of the group in FAULT or START. -/
def railTrackEntryAt (k : Nat) (s : State) : State :=
  let w := s.swLine (k / 3)
  if s.railSt k = 2 ∧ w.on ∧ w.since + 2000 ≤ s.now ∧ !(s.railReset k) ∧ !((s.rail k).slewOff) ∧
     !((neighbours k).any (fun j => s.railSt j == 4 || s.railSt j == 1 || s.railReset j)) then
    railApplySet k (s.dispSet k).1 (s.dispSet k).2 (railTo k 3 s)
  else s

/-- SW_CLOSED of a rail's group has been lost for 2 µs (R276): the filter passes over Rook's test pulses. -/
def State.swLost (s : State) (k : Nat) : Bool := !(s.swLine (k / 3)).on && decide ((s.swLine (k / 3)).since + 2000 ≤ s.now)

/-- TRACK to HOLD (R276): SW_CLOSED lost for 2 µs. -/
def railTrackExitAt (k : Nat) (s : State) : State :=
  if s.railSt k = 3 ∧ s.swLost k then railHold k s else s

/-- Slew to V_MIN, then OFF (R278): EN in force 0, or power step 2. -/
def railDown (k : Nat) (s : State) : State :=
  if s.railOn k ∧ !((s.rail k).slewOff) then
    railGoal k (s.inF (F.railVlimVMIN.rail k)) (setRail k { s.rail k with slewOff := true } s)
  else s

/-- The target has reached V_MIN: the rail goes OFF. -/
def railSlewOffAt (k : Nat) (s : State) : State :=
  if (s.rail k).slewOff ∧ s.railOn k ∧ s.railTarget k = s.inF (F.railVlimVMIN.rail k) then railOff k s else s

/-- Over-voltage (R286): two consecutive samples, the lower of which is given, above VHI + OV_MARGIN. -/
def ovAt (k v : Nat) (s : State) : State :=
  if s.railOn k ∧ s.railVhi k + 10 * s.fld (F.railProtOVMARGIN.rail k) < v then railTrip k 3 true (railSense k v s) else s

/-- Under-voltage: 16 consecutive samples in HOLD or TRACK, the highest of which is given. -/
def uvAt (k v : Nat) (s : State) : State :=
  if (s.railSt k = 2 ∨ s.railSt k = 3) ∧ v + 10 * s.fld (F.railProtUVMARGIN.rail k) < s.railTarget k then
    railTrip k 4 false (railSense k v s)
  else s

/-- Over-current: every active phase at IPH_LIM for 64 consecutive cycles. -/
def ocAt (k : Nat) (s : State) : State := if s.railOn k then railTrip k 5 false s else s

/-- Sense failure: VSEN outside 0.2–6.5 V outside OFF; a rail already in FAULT goes to mid-level. -/
def senseFailAt (k v : Nat) (s : State) : State :=
  if s.railSt k = 0 ∨ s.railReset k ∨ (200 ≤ v ∧ v ≤ 6500) then s
  else
    let s := railSense k v s
    if s.railSt k = 4 then raise (Blk.railN k) 7 { addr := k } (setRail k { s.rail k with low := false } s)
    else railTrip k 7 false s

/-- A phase fails (R279): excluded until RESTART; no healthy phase left is a fault. -/
def phaseFailAt (k i : Nat) (s : State) : State :=
  if s.railOn k ∧ bit (s.fld (F.railStatPHACTIVE.rail k)) i then
    let n := match (s.rail k).eff with | some p => p.2 | none => 1
    let s := setFlag ((F.railPhFAILED.rail k).at (8 * i)) true s
    raise (Blk.railN k) 8 { addr := i } (if s.healthy k = [] then railFault k false s else setPhases k (max 1 n) s)
  else s

/-- A phase reaches IPH_LIM: its on-time ends for the cycle, which counts (R279). -/
def phaseLimitAt (k i : Nat) (s : State) : State :=
  if s.railOn k ∧ bit (s.fld (F.railStatPHACTIVE.rail k)) i then countSat (F.railCntILIM.rail k) 1 s else s

/-- Cartridge removal (R278): every rail goes OFF and waits for RESTART. -/
def railsRemoved (s : State) : State :=
  forN 24 (fun k s => setFlag (F.railStatNEEDRESTART.rail k) true (railOff k s)) s

/-- A number divided and rounded up. -/
def ceilDiv (a b : Nat) : Nat := (a + b - 1) / b

/-- The setpoint of R281. -/
def State.setpoint (s : State) (k smax ipk : Nat) (tmin : Int) : Nat × Nat :=
  let f := fun (x : Fld) => s.inF (x.rail k)
  let iu := f F.railModelIU
  let vmin := f F.railVlimVMIN
  if smax = 0 then (vmin, 1)
  else
    let v : Int := (f F.railModelV0 : Nat) + ((f F.railModelKS * smax : Nat) : Int) +
      ((f F.railModelRD * ipk * iu / 1000000 : Nat) : Int) + ((f F.railModelTC : Nat) : Int) * (400 - tmin) / 16000
    ((clampI vmin (f F.railVlimVMAX) v).toNat,
     clampN 1 (max 1 (s.healthy k).length) (ceilDiv (ipk * iu) (100000 * s.fld (F.railProtSHED.rail k))))

/-- The forecast of frame n reaches a rail (R281): the setpoint is computed and recorded; a frame whose forecast came too late
keeps V_MAX (R283). -/
def railForecast (k n smax ipk : Nat) (tmin : Int) (s : State) : State :=
  if s.railReset k then s
  else
    let p := s.setpoint k smax ipk tmin
    let r := s.rail k
    s |> setRail k { r with next := if r.late = some n then r.next else some (n, p.1, p.2) } |> setFld (F.railFcstFRAME.rail k) n |>
      setFld (F.railFcstIPK.rail k) ipk |> setFld (F.railFcstSMAX.rail k) smax |> setFld (F.railFcstNPH.rail k) p.2 |>
      setFld (F.railFcstTMIN.rail k) (ofInt 16 tmin)

/-- The forecast of frame n + 1, or its substitution (R283): V_MAX and every healthy phase, counted and raised. -/
def railLate (k n : Nat) (s : State) : State :=
  let have_ : Bool := match (s.rail k).next with | some p => p.1 == n + 1 | none => false
  if have_ then s
  else
    setRail k { s.rail k with next := some (n + 1, s.inF (F.railVlimVMAX.rail k), max 1 (s.healthy k).length), late := some (n + 1) } s |>
      countMod (F.railCntFCLATE.rail k) 1 |> raise (Blk.railN k) 9 { addr := n + 1 }

/-- One rail at the rise instant for frame n + 1 (R282–R284): only a rail in TRACK applies a rise. -/
def railRise (k n : Nat) (s : State) : State :=
  if s.railReset k then s
  else
    let s := railLate k n s
    match (s.rail k).next, (s.rail k).eff with
    | some p, some e =>
      if s.railSt k = 3 ∧ !((s.rail k).slewOff) ∧ !(s.swLost k) ∧ p.1 = n + 1 ∧ (e.1 < p.2.1 ∨ e.2 < p.2.2) then
        railApplySet k (max e.1 p.2.1) (max e.2 p.2.2) s
      else s
    | _, _ => s

/-- RAIL_LEAD in ns. -/
def State.railLead (s : State) : Nat := 1000 * s.inF F.railLeadLEADUS

/-- RAIL_RAISE in the period of frame n: not before FRAME_START(n + 1) − RAIL_LEAD. -/
def railRaiseAt (n : Nat) (s : State) : State :=
  if s.tl.running ∧ s.tl.frame = n ∧ s.frameStart (n + 1) ≤ s.gt + s.railLead then forN 24 (fun k s => railRise k n s) s else s

/-- Falling setpoints and phase counts of frame n apply at FRAME_START(n); the frame's setpoint becomes the displayed
one (R282). -/
def railFall (k n : Nat) (s : State) : State :=
  if s.railReset k then s
  else
    let r := s.rail k
    let d := match r.next with | some p => if p.1 = n then some p.2 else none | none => none
    let s := setRail k { r with disp := d } s
    if s.railSt k = 3 ∧ !r.slewOff ∧ r.eff ≠ some (s.dispSet k) then railApplySet k (s.dispSet k).1 (s.dispSet k).2 s else s

/-- The state of a rail when a commit that holds RAIL applies: EN 0 slews it down; a target that stands or moves goes on to its
goal at the slew rates now in force (R285). -/
def railCommitted (k : Nat) (s : State) : State :=
  if s.railReset k ∨ !(s.railOn k) then s
  else if (s.rail k).slewOff then railGoal k (s.inF (F.railVlimVMIN.rail k)) s
  else if !(s.inFlag (F.railCtrlEN.rail k)) then railDown k s
  else if s.railSt k = 3 then
    (match (s.rail k).segs with | g :: _ => railGoal k g.goal s | [] => s)
  else railGoal k (s.inF (F.railVlimVIDLE.rail k)) s

/-- Power step 2 (R278): every rail slews down; it has stopped when each is OFF or in FAULT. -/
def railsStop (s : State) : State := forN 24 railDown s
def State.railsStopped (s : State) : Bool := (List.range 24).all (fun k => !(s.railOn k))

/-- RAIL_OK of a group (R277), clamped to 0 while PD_PIX is off or retained (R410). -/
def State.railOk (s : State) (g : Nat) : Bool := !(s.pwr.domsOff.contains 0) && (List.range 3).all (fun p => s.railSt (3 * g + p) == 2 || s.railSt (3 * g + p) == 3)

/-- Validation by rail k (R288): the first code that fails, on the staged values. -/
def State.railCheck (s : State) (k : Nat) : Option Nat :=
  let f := fun (x : Fld) => s.stg (x.rail k)
  let lo := f F.railVlimVMIN; let id := f F.railVlimVIDLE; let hi := f F.railVlimVMAX
  let out := fun (v : Nat) => decide (v < 2000) || decide (6000 < v)
  if out lo || out id || out hi || decide (id < lo) || decide (hi < id) then some 0x700
  else if s.stg F.railLeadLEADUS * f F.railSlewSLEWUP < hi - lo then some 0x701
  else if 800 * f F.railSlewSLEWDN < hi - lo then some 0x702
  else if f F.railCtrlEN = 1 ∧ f F.railCtrlPHINST = 0 then some 0x703
  else none

/-- The first refusal of any rail, in order of rail. -/
def State.railsCheck (s : State) : Option Nat := (List.range 24).foldl (fun a k => a.orElse (fun _ => s.railCheck k)) none

/-- RAIL_RESTART. -/
def execRailRestart (k : Fin 24) (s : State) : Host.Outcome State Fault Refusal := .next (railRestartAt k.val s)
/-- RAIL_START. -/
def execRailStart (k : Fin 24) (s : State) : Host.Outcome State Fault Refusal := .next (railStartAt k.val s)
/-- RAIL_HOLD_ENTRY. -/
def execRailHoldEntry (k : Fin 24) (vsense : BitVec 16) (s : State) : Host.Outcome State Fault Refusal :=
  .next (railHoldEntryAt k.val vsense.toNat s)
/-- START_FAIL. -/
def execStartFail (k : Fin 24) (s : State) : Host.Outcome State Fault Refusal := .next (startFailAt k.val s)
/-- RAIL_TRACK_ENTRY. -/
def execRailTrackEntry (k : Fin 24) (s : State) : Host.Outcome State Fault Refusal := .next (railTrackEntryAt k.val s)
/-- RAIL_TRACK_EXIT. -/
def execRailTrackExit (k : Fin 24) (s : State) : Host.Outcome State Fault Refusal := .next (railTrackExitAt k.val s)
/-- RAIL_SLEW_OFF. -/
def execRailSlewOff (k : Fin 24) (s : State) : Host.Outcome State Fault Refusal := .next (railSlewOffAt k.val s)
/-- OV. -/
def execOv (k : Fin 24) (vsense : BitVec 16) (s : State) : Host.Outcome State Fault Refusal := .next (ovAt k.val vsense.toNat s)
/-- UV. -/
def execUv (k : Fin 24) (vsense : BitVec 16) (s : State) : Host.Outcome State Fault Refusal := .next (uvAt k.val vsense.toNat s)
/-- OC. -/
def execOc (k : Fin 24) (s : State) : Host.Outcome State Fault Refusal := .next (ocAt k.val s)
/-- SENSE_FAIL. -/
def execSenseFail (k : Fin 24) (vsense : BitVec 16) (s : State) : Host.Outcome State Fault Refusal :=
  .next (senseFailAt k.val vsense.toNat s)
/-- PHASE_FAIL. -/
def execPhaseFail (k : Fin 24) (i : Fin 4) (s : State) : Host.Outcome State Fault Refusal := .next (phaseFailAt k.val i.val s)
/-- PHASE_CURRENT_LIMIT. -/
def execPhaseCurrentLimit (k : Fin 24) (i : Fin 4) (s : State) : Host.Outcome State Fault Refusal :=
  .next (phaseLimitAt k.val i.val s)
/-- RAIL_RAISE. -/
def execRailRaise (n : BitVec 48) (s : State) : Host.Outcome State Fault Refusal := .next (railRaiseAt n.toNat s)

end Sys2Proof.Machine
end

