-- ==== Sys2Proof/Machine/Cartridge.lean ====
section
/-! DEFINITION. The cartridge manager (R170–R190, R446): presence, attach and authentication, images, wear gains, dose
spills, checkpoints and life records. -/

namespace Sys2Proof.Machine

/-- Change the state of COR. -/
def modCor (f : CorState → CorState) (s : State) : State := { s with cor := f s.cor }

/-- The pair in force (R182). -/
def State.pairInForce (s : State) : Nat × Nat := (s.inF F.corCalVaVA, s.inF F.corWgainVaVA)

/-- The cartridge manager as an initiator: it uses the correction port (unit 9). -/
def corWho : Who := { mstr := 153 }

/-- A read under MMU_RT_ASID that reports no real-time fault record (R188). -/
def corQuiet (va n : Nat) (s : State) : Option (List Byte) × State :=
  let r := ioRead corWho .rt false (s.fld F.mmuRtAsidASID) va n s
  (match r.1 with | .ok l => some l | .error _ => none, r.2)

/-- A write under MMU_RT_ASID that reports no real-time fault record: whether it was performed. -/
def corQuietW (va : Nat) (l : List Byte) (s : State) : Bool × State :=
  let r := ioWrite corWho .rt false (s.fld F.mmuRtAsidASID) va l s
  (r.1.isNone, r.2)

/-- A read by the cartridge manager (`cm`, R188) or by correction through its port (R102). -/
def corRead (cm : Bool) (va n : Nat) (s : State) : Option (List Byte) × State := if cm then corQuiet va n s else let r := rtRead 9 va n s; (r.1.toOption, r.2)
def corWrite (cm : Bool) (va : Nat) (l : List Byte) (s : State) : Bool × State := if cm then corQuietW va l s else let r := rtWrite 9 va l s; (r.1.isNone, r.2)

/-- Table entry i of primary p's efficiency table of the identity copy in use. -/
def State.etaE (s : State) (p i : Nat) : Int := ((leAt s.cor.id (0x34 + 2 * (33 * p + i)) 2 : Nat) : Int)

/-- QFS and DSTEP of a primary. -/
def State.qfs (s : State) (p : Nat) : Nat := leAt s.cor.id (0x1C + 4 * p) 4
def State.dstep (s : State) (p : Nat) : Nat := leAt s.cor.id (0x28 + 4 * p) 4

/-- η(DOSE) of a primary (R184). -/
def State.eta (s : State) (p dose : Nat) : Nat :=
  let S := 256 * s.dstep p
  let e := if S = 0 then s.etaE p 0
    else if 32 ≤ dose / S then s.etaE p 32
    else s.etaE p (dose / S) + (2 * (s.etaE p (dose / S + 1) - s.etaE p (dose / S)) * (dose % S : Nat) + S) / (2 * S : Nat)
  if e = 0 then 1 else e.toNat

/-- The wear gain of an ETA_REF at a dose (R184, R182), with WEAR_EN and WEAR_GAIN_MAX in force. -/
def State.wearGain (s : State) (p etaRef dose : Nat) : Nat :=
  if !(s.inFlag F.corCtrlWEAREN) ∨ s.fld F.corCartStatAUTH ≠ 1 then 0x4000
  else min ((etaRef * 16384 + s.eta p dose / 2) / s.eta p dose) (s.inF F.corCtrlWEARGAINMAX)

/-- Temperature weight W at T (R183), clamped at the ends. -/
def State.weightAt (s : State) (t : Int) : Int :=
  let w := fun (k : Nat) => ((leAt s.cor.id (0xFA + 2 * k) 2 : Nat) : Int)
  if t ≤ 0 then w 0
  else if 2048 ≤ t then w 16
  else
    let k := (t / 128).toNat
    let f := (t % 128) * 65536 / 128
    w k + ((w (k + 1) - w k) * f + 0x8000) / 65536

/-- Subpixels of the cartridge. -/
def subpixels : Nat := 3145728

/-- Index of a subpixel. -/
def subIdx (n p yl xl : Nat) : Nat := (3 * n + p) * 4096 + 64 * yl + xl

/-- The accumulator of a subpixel. -/
def State.acc (s : State) (q : Nat) : Nat := leNat (s.bytes (0x11000000 + 2 * q) 2)
def setAcc (q v : Nat) (s : State) : State := putBytes (0x11000000 + 2 * q) (leBytes 2 v) s

/-- The calibration image header that `l` begins with fails R176 apart from CRC. -/
def headerBad (l : List Byte) : Bool :=
  let np := leAt l 8 4
  let th := fun (i : Nat) => toInt 16 (leAt l (0xC + 2 * i) 2)
  leAt l 0 4 != 0x4C41435A || decide (np < 1) || decide (4 < np) ||
  (List.range np).any (fun i => decide (th i < -640) || decide (2000 < th i) || (decide (i + 1 < np) && decide (th (i + 1) ≤ th i))) ||
  (List.range 4).any (fun i => decide (np ≤ i) && leAt l (0xC + 2 * i) 2 != 0) ||
  (slice l 0x20 0xFE0).any (fun b => b != 0)

/-- Point temperatures of a header. -/
def thetasOf (l : List Byte) : List Int := (List.range (leAt l 8 4)).map (fun i => toInt 16 (leAt l (0xC + 2 * i) 2))

/-- The CRC of an image given its bytes: over the NPOINTS planes and the ETA_REF plane. -/
def imageCrc (l : List Byte) : Nat :=
  crc32c (slice l 0x1000 (min 4 (leAt l 8 4) * 0xC00000) ++ slice l 0x3001000 0x600000)

/-- Length of an image. -/
def imageLen : Nat := 0x3601000

/-- The result of checking an image's bytes (R176): 0 OK, 8 BAD_IMAGE, 2 BAD_CRC. -/
def imageResult (l : List Byte) : Nat :=
  if headerBad l then 8 else if imageCrc l ≠ leAt l 0x1C 4 then 2 else 0

/-- The unity set (R171): every record 0x0000_4000, SET_ID 0, one point, ETA_REF 0xFFFF. -/
def unityImage (gain : Nat) : List Byte :=
  let planes := (List.range 0xC00000).flatMap (fun _ => leBytes 4 gain)
  let head := leBytes 4 0x4C41435A ++ leBytes 4 0 ++ leBytes 4 1 ++ leBytes 8 0 ++ leBytes 8 0
  let eta := (List.range 0x300000).flatMap (fun _ => leBytes 2 0xFFFF)
  let body := planes ++ eta
  head ++ leBytes 4 (crc32c (slice planes 0 0xC00000 ++ eta)) ++ List.replicate 0xFE0 0 ++ body

/-- Bytes of the calibration area of a cartridge, as they read. -/
def cartArea (c : Cartridge) : List Byte := (List.range imageLen).map (fun i => (SMap.find c.worn i).getD (SMap.get c.cal i 0))

/-- A list of bytes as the listed bytes of an area. -/
def areaOf (l : List Byte) : List (Nat × Byte) :=
  ((List.range l.length).zip l).filter (fun e => e.2 != 0)

/-- Whether an identity copy is valid: 4 KiB with its CRC. -/
def idOk (l : List Byte) : Bool := l.length == 4096 && leAt l 0xFFC 4 == crc32c (l.take 0xFFC)

/-- The identity copy in use: valid, with the higher SEQ; and whether it is copy B. -/
def cartId (c : Cartridge) : Option (List Byte × Bool) :=
  match idOk c.idA, idOk c.idB with
  | true, true => if leAt c.idA 4 4 < leAt c.idB 4 4 then some (c.idB, true) else some (c.idA, false)
  | true, false => some (c.idA, false)
  | false, true => some (c.idB, true)
  | false, false => none

/-- Fields of an identity copy rewritten, with SEQ + 1 and a fresh CRC. -/
def rewriteId (l : List Byte) (calState count setId gt : Nat) : List Byte :=
  let body := l.take 4 ++ leBytes 4 (leAt l 4 4 + 1) ++ slice l 8 0x114 ++ leBytes 4 calState ++ leBytes 4 count ++
    leBytes 4 setId ++ leBytes 8 gt ++ slice l 0x130 0xECC
  body ++ leBytes 4 (crc32c body)

/-- Authentication (R172): 1 PASS, 2 FAIL. The nonce is drawn. -/
def authResult (id cert sig : List Byte) (s : State) : Nat × State :=
  let nonce := (List.range 6).flatMap (fun i => leBytes 8 (Config.freeWord (s.free + i)).toNat)
  let ca := slice cert 113 97
  let h := Config.sha384 ca
  let ok := cert.length == 306 && (h == Config.otpCartRoot 0 || h == Config.otpCartRoot 1) && Config.p384Verify ca (Config.sha384 (cert.take 210)) (slice cert 210 96) &&
    (cert.take 16 == slice id 8 16) &&
    Config.p384Verify (slice cert 16 97)
      (Config.sha384 (nonce ++ cert.take 16 ++ beBytes 48 (Config.sha384 id).toNat)) sig
  (if ok then 1 else 2, { s with free := s.free + 6 })

/-- Post the result of the command (R189): DONE, identifier 261. -/
def corFinish (r : Nat) (s : State) : State :=
  { s with cor := { s.cor with busy := none } } |> setFld F.corCmdSTATE 2 |> setFld F.corCmdRESULT r |> intr 261

/-- The command runs until CART_CMD_COMPLETE. -/
def corBusy (b : CorBusy) (s : State) : State := { s with cor := { s.cor with busy := some b } } |> setFld F.corCmdSTATE 1

/-- Write bytes at COR_CADDR, COR_CADDR2 or the dose plane; the result is 0, or 5 FAULT. -/
def corPut (va : Nat) (l : List Byte) (s : State) : Nat × State :=
  let w := corQuietW va l s
  (if w.1 then 0 else 5, w.2)

/-- Bytes of a plane of w-byte words. -/
def planeBytes (w : Nat) (f : Nat → Nat) : List Byte := (List.range subpixels).flatMap (fun q => leBytes w (f q))

/-- Primary of a subpixel index. -/
def primOf (q : Nat) : Nat := q / 4096 % 3

/-- The wear-gain plane of the image at `img`, written at `wg` (R182): the result. -/
def wearPlane (img wg : Nat) (s : State) : Nat × State :=
  let e := corQuiet (img + 0x3001000) 0x600000 s
  let d := corQuiet (s.fld F.corDoseVaVA) 0x1800000 e.2
  match e.1, d.1 with
  | some eta, some dose =>
    corPut wg (planeBytes 2 (fun q => d.2.wearGain (primOf q) (leAt eta (2 * q) 2) (leAt dose (8 * q) 6))) d.2
  | _, _ => (5, d.2)

/-- Chain two steps that answer a result: the second runs if the first answers 0. -/
def andThen (r : Nat × State) (f : State → Nat × State) : Nat × State := if r.1 = 0 then f r.2 else r

/-- CRC-32C of the 18 MiB of a checkpoint: bits [47:0] of every dose record (R185). -/
def ckptCrc (dose : SMap Nat) : Nat := crc32c ((List.range subpixels).flatMap (fun q => leBytes 6 (SMap.get dose q 0)))

/-- The valid checkpoint slot of highest sequence. -/
def cartBest (c : Cartridge) : Option (Nat × CkptSlot) :=
  (c.slots.filter (fun e => e.2.crc == ckptCrc e.2.dose)).foldl (fun a e => match a with
    | none => some e
    | some x => if x.2.seq < e.2.seq then some e else some x) none

/-- ATTACH step 3 (R171): the calibration area, or the unity set with CAL_INVALID. -/
def attachCal (c : Cartridge) (s : State) : Nat × State :=
  let img := cartArea c
  if imageResult img = 0 ∧ leAt s.cor.id 0x11C 4 = 0 then corPut (s.fld F.corCaddrVA) img (setFlag F.corCartStatCALVALID true s)
  else corPut (s.fld F.corCaddrVA) (unityImage 0x4000) (raise .cor 9 {} (setFlag F.corCartStatCALVALID false s))

/-- ATTACH step 4: the dose plane from the best slot, or zero (R171, R185, R186). -/
def attachDose (c : Cartridge) (s : State) : Nat × State :=
  let dose : SMap Nat := match cartBest c with | some e => e.2.dose | none => []
  let s := modCor (fun x => { x with slot := (match cartBest c with | some e => e.1 | none => 3),
                                     seq := (match cartBest c with | some e => e.2.seq | none => 0) }) s
  let s := match cartBest c with
    | some e => if e.2.clean then s else countSat F.corCartStatUNCLEAN 1 s
    | none => s
  corPut (s.fld F.corDoseVaVA) (planeBytes 8 (fun q => SMap.get dose q 0 % 2 ^ 48)) s

/-- ATTACH from the recorded authentication outcome on (R171 steps 2 to 6, R173, R181, R185). -/
def attachRest (auth : Nat) (c : Cartridge) (s : State) : State :=
  let s := setFld F.corCartStatAUTH auth s
  let s := if auth = 1 then s else raise .cor 8 {} s
  let a := s.fld F.corCaddrVA
  let b := s.fld F.corCaddr2VA
  let r := andThen (andThen (attachCal c s) (attachDose c)) (wearPlane a b)
  if r.1 = 0 then
    r.2 |> setFld F.corCartStatSTATE 2 |>
      modCor (fun x => { x with dosing := auth == 1, ckptRef := r.2.gt, ckptDone := false, hour := [], hourBase := [] }) |>
      corBusy { result := 0, pair := some (a, b) }
  else corBusy { result := r.1 } r.2

/-- Zero the life summary: the table has no valid figure (R173). -/
def lifeClear (s : State) : State :=
  modCor (fun x => { x with life := [] }) s |> setFld F.corLifeSumHOURSMIN 0 |> setFlag F.corLifeSumVALID false |>
    setFld F.corLifeSumNL80TOTAL 0

/-- Show the calibration fields of the identity copy in use (R181). -/
def showId (s : State) : State :=
  s |> setFld F.corCartCalCALSETID (leAt s.cor.id 0x124 4) |> setFld F.corCartCalCALCOUNT (leAt s.cor.id 0x120 4) |>
    setFld F.corCartCalgtGT (leAt s.cor.id 0x128 8)

/-- ATTACH (R171): REMOVED while ABSENT; else the produced pair is cleared, the identity is read, and the authenticator is asked
afresh (R172), a silent one waited for until AUTH_TIMEOUT. -/
def attachAct (s : State) : State :=
  match s.cor.cart with
  | none => corFinish 4 s
  | some c =>
    if s.fld F.corCartStatSTATE = 0 then corFinish 4 s else
    let s := modCor (fun x => { x with produced := none, current := false, dosing := false }) s |> lifeClear
    match cartId c with
    | none => corBusy { result := 1 } (setFld F.corCartStatSTATE 3 s)
    | some (l, b) =>
      if leAt l 0x18 4 ≠ 0x1000040 then corBusy { result := 1 } (setFld F.corCartStatSTATE 3 s)
      else
        let s := modCor (fun x => { x with id := l, idIsB := b }) s |> showId
        let c' := { c with answers := c.answers.drop 1 }
        let s := modCor (fun x => { x with cart := some c' }) s
        match c.answers.head? with
        | some (some cert, some sig) => let a := authResult l cert sig s; attachRest a.1 c' a.2
        | _ => corBusy { result := 0, waitAuth := true } s

/-- A write of COR_CMD.OP (R189): refused while BUSY; every command but ATTACH needs READY. -/
def corCommand (act : State → State) (s : State) : State :=
  if s.fld F.corCmdSTATE = 1 then raise .cor 1 { addr := 0x20200050, typ := 2 } s else act s
def corReady (act : State → State) (s : State) : State := corCommand (fun s => if s.fld F.corCartStatSTATE = 2 then act s else corFinish 6 s) s

/-- An authenticator transaction unanswered for 500 ms (R172): NO_RESPONSE, and ATTACH goes on. -/
def authTimeoutAct (s : State) : State :=
  match s.cor.busy, s.cor.cart with
  | some b, some c => if b.waitAuth then attachRest 3 c s else s
  | _, _ => s

/-- PREPARE (R182): the wear gains of the image at COR_CADDR, with REBASE after ETA_REF := η(DOSE). -/
def prepareAct (rebase : Bool) (s : State) : State :=
  let a := s.fld F.corCaddrVA
  let b := s.fld F.corCaddr2VA
  let m := corQuiet a imageLen s
  match m.1 with
  | none => corBusy { result := 5 } m.2
  | some l =>
    if imageResult l ≠ 0 then corBusy { result := imageResult l } m.2
    else
      let reb : Nat × State :=
        if !rebase then (0, m.2)
        else
          let d := corQuiet (s.fld F.corDoseVaVA) 0x1800000 m.2
          match d.1 with
          | none => (5, d.2)
          | some dose =>
            let eta := planeBytes 2 (fun q => d.2.eta (primOf q) (leAt dose (8 * q) 6))
            let crc := crc32c (slice l 0x1000 (min 4 (leAt l 8 4) * 0xC00000) ++ eta)
            andThen (corPut (a + 0x3001000) eta d.2) (corPut (a + 0x1C) (leBytes 4 crc))
      let r := andThen reb (wearPlane a b)
      corBusy { result := r.1, pair := if r.1 = 0 then some (a, b) else none } r.2

/-- EXPORT (R180). -/
def exportAct (s : State) : State :=
  match s.cor.cart with
  | none => corFinish 4 s
  | some c =>
    let img := cartArea c
    let r := corPut (s.fld F.corCaddrVA) (s.cor.id ++ img) s
    corBusy { result := if r.1 ≠ 0 then r.1 else if imageCrc img ≠ leAt img 0x1C 4 then 2 else 0 } r.2

/-- CAL_WRITE (R179): the image is checked, then OVERWRITE is asked for; the copy not in use says WRITING, the area is
programmed and read back; the copy is rewritten VALID when the command completes. A read-back that fails its CRC ends the
command there with BAD_CRC (assumption 82). -/
def calWriteAct (overwrite : Bool) (s : State) : State :=
  match s.cor.cart with
  | none => corFinish 4 s
  | some c =>
    let m := corQuiet (s.fld F.corCaddrVA) imageLen s
    match m.1 with
    | none => corBusy { result := 5 } m.2
    | some l =>
      if imageResult l ≠ 0 then corBusy { result := imageResult l } m.2
      else if !overwrite then corFinish 3 m.2
      else
        let id := s.cor.id
        let w := rewriteId id 1 (leAt id 0x120 4) (leAt id 0x124 4) (leAt id 0x128 8)
        let c' := if s.cor.idIsB then { c with idA := w, cal := areaOf l } else { c with idB := w, cal := areaOf l }
        let s := modCor (fun x => { x with cart := some c' }) m.2
        if imageCrc (cartArea c') ≠ leAt (cartArea c') 0x1C 4 then corBusy { result := 2 } s
        else corBusy { result := 0, newId := some (rewriteId w 0 (leAt id 0x120 4 + 1) (leAt l 4 4) 0) } s

/-- The last step of CAL_WRITE: the copy is rewritten with CAL_GT and becomes the copy in use. -/
def calWriteEnd (id : List Byte) (s : State) : State :=
  match s.cor.cart with
  | none => s
  | some c =>
    let old := if s.cor.idIsB then c.idA else c.idB
    let w := rewriteId old 0 (leAt id 0x120 4) (leAt id 0x124 4) s.gt
    modCor (fun x => { x with cart := some (if x.idIsB then { c with idA := w } else { c with idB := w }),
                              id := w, idIsB := !x.idIsB }) s |> showId

/-- The life table in MRAM (R187). -/
def lifeBytes (s : State) : List Byte :=
  (List.range 768).flatMap (fun k =>
    let r := SMap.get s.cor.life k {}
    leBytes 8 (r.dmax + r.nl80 * 2 ^ 48) ++ leBytes 8 r.minrem ++ leBytes 8 r.rate ++ leBytes 8 r.gt)

/-- The life table's address (COR_LIFE_ADDR). -/
def State.lifeAddr (s : State) : Nat := 0x8000000 + s.fld F.corLifeAddrOFFSET * 0x8000

/-- COR_LIFE_SUM from the life records (R187). -/
def lifeSum (s : State) : State :=
  let rs := (List.range 768).map (fun k => SMap.get s.cor.life k {})
  let hs := (rs.filter (fun r => decide (0 < r.rate))).map (fun r => r.minrem / r.rate)
  s |> setFld F.corLifeSumHOURSMIN (hs.foldl min 0xFFFFFFFF) |>
    setFld F.corLifeSumNL80TOTAL (rs.foldl (fun a r => a + r.nl80) 0) |>
    setFlag F.corLifeSumVALID (s.cor.dosing && s.cor.ckptDone)

/-- Begin a checkpoint in the next slot (R185): its header is invalid until it is written; nothing is written where AUTH
is not PASS (R173). A slot write or a read of the dose plane that fails answers none; the latter leaves the store untouched
(R188). One that begins while another runs follows it in rotation and in sequence. -/
def ckptBegin (clean : Bool) (s : State) : Option CkptRun × State :=
  match s.cor.cart with
  | none => (none, s)
  | some c =>
    let k := (s.cor.slot + 1) % 4
    let d := corQuiet (s.fld F.corDoseVaVA) 0x1800000 s
    match d.1 with
    | none => (some ⟨k, none⟩, modCor (fun x => { x with slot := k }) d.2)
    | some l =>
      let s := modCor (fun x => { x with slot := k, cart := some { c with slots := SMap.erase c.slots k } }) d.2
      if c.badSlots.contains k then (some ⟨k, none⟩, s)
      else
        let dose := ((List.range subpixels).map (fun q => (q, leAt l (8 * q) 6))).filter (fun e => e.2 != 0)
        let runs := b2n (match s.cor.ckpt with | some r => r.data.isSome | none => false)
        (some ⟨k, some { seq := s.cor.seq + 1 + runs, gt := s.gt, clean := clean, dose := dose, crc := ckptCrc dose }⟩, s)

/-- A checkpoint ends (R185–R187): its header is written, the life table goes to MRAM and identifier 263 is raised; a CLEAN one
then stops dose accounting. A failed one raises CKPT_FAIL. The reference instant restarts in either case. -/
def ckptEnd (r : CkptRun) (s : State) : State :=
  let s := modCor (fun x => { x with ckptRef := s.gt }) s
  match r.data, s.cor.cart with
  | some d, some c =>
    modCor (fun x => { x with seq := max x.seq d.seq, ckptDone := true, dosing := x.dosing && !d.clean,
                              cart := some { c with slots := SMap.put c.slots r.slot d } }) s |>
      (fun s => putBytes s.lifeAddr (lifeBytes s) s) |> lifeSum |> intr 263
  | _, _ => raise .cor 10 { addr := r.slot } s

/-- CHECKPOINT: a command that writes a slot. -/
def checkpointAct (clean : Bool) (s : State) : State :=
  if s.fld F.corCartStatAUTH ≠ 1 then corBusy { result := 0 } s
  else
    let r := ckptBegin clean s
    corBusy { result := (match r.1 with | some ⟨_, some _⟩ => 0 | _ => 5), ckpt := r.1 } r.2

/-- D80 of a primary in DOSE units: the smallest dose at which the interpolated η reaches 52,429. -/
def State.d80 (s : State) (p : Nat) : Option Nat :=
  let S := 256 * s.dstep p
  if s.etaE p 0 ≤ 52429 then some 0
  else if S = 0 then none
  else match (List.range 32).find? (fun i => decide (s.etaE p (i + 1) ≤ 52429)) with
    | none => none
    | some i =>
      let m := 52430 - s.etaE p i
      let fall := s.etaE p i - s.etaE p (i + 1)
      some (i * S + min S (((S : Int) * (1 - 2 * m)) / (2 * fall) + 1).toNat)

/-- The life record of a spilled tile and primary (R187). A GT hour that has ended gives RATE the largest increase of a
subpixel since its first spill in that hour. -/
def lifeUpdate (n p : Nat) (doses : List Nat) (s : State) : State :=
  let k := 3 * n + p
  let r := SMap.get s.cor.life k {}
  let h := s.gt / 3600000000000
  let q0 := k * 4096
  let inc := ((List.range 4096).zip doses).foldl (fun m e => max m (e.2 - SMap.get s.cor.hourBase (q0 + e.1) e.2)) 0
  let rate := match SMap.find s.cor.hour k with
    | none => 0
    | some h0 => if h = h0 then r.rate else if h = h0 + 1 then inc else 0
  let base := if SMap.find s.cor.hour k = some h then s.cor.hourBase
    else ((List.range 4096).zip doses).foldl (fun m e => SMap.put m (q0 + e.1) e.2) s.cor.hourBase
  let mr := match s.d80 p with
    | some d => doses.foldl (fun m x => min m (d - x)) (2 ^ 48 - 1)
    | none => s.freeW.toNat % 2 ^ 48
  let s := if (s.d80 p).isNone then drawn s else s
  modCor (fun x => { x with
    life := SMap.put x.life k { dmax := doses.foldl max 0, nl80 := (doses.filter (fun d => decide (s.eta p d ≤ 52429))).length,
                                minrem := mr, rate := rate, gt := s.gt },
    hour := SMap.put x.hour k h, hourBase := base }) s

/-- Wear-gain planes that a spill writes, with their images (R182): the pair in force, and the prepared pair. -/
def State.wearTargets (s : State) : List (Nat × Nat) :=
  let f := (s.inF F.corCalVaVA, s.inF F.corWgainVaVA)
  (if s.cor.current || s.inFlag F.corCtrlEN then [f] else []) ++
  (match s.cor.produced with | some p => if p = f ∧ (s.cor.current || s.inFlag F.corCtrlEN) then [] else [p] | none => [])

/-- Write the wear gain of a subpixel in each plane: false where an access faults. -/
def spillWear (cm : Bool) (p q dose : Nat) : List (Nat × Nat) → State → Bool × State
  | [], s => (true, s)
  | (img, wg) :: t, s =>
    let e := corRead cm (img + 0x3001000 + 2 * q) 2 s
    match e.1 with
    | none => (false, e.2)
    | some l =>
      let w := corWrite cm (wg + 2 * q) (leBytes 2 (e.2.wearGain p (leNat l) dose)) e.2
      if w.1 then spillWear cm p q dose t w.2 else (false, w.2)

/-- The spill of one subpixel (R184): whether it was performed. An access that faults leaves its accumulator and raises
DOSE_FAULT. -/
def spillSub (cm : Bool) (n p i : Nat) (s : State) : Bool × State :=
  let q := (3 * n + p) * 4096 + i
  let va := s.fld F.corDoseVaVA + 8 * q
  let r := corRead cm va 8 s
  let bad := fun (s : State) => (false, raise .cor 4 { addr := va, mstr := 153, typ := 2 } s)
  match r.1 with
  | none => bad r.2
  | some l =>
    let d0 := leNat l % 2 ^ 48 + s.acc q * s.qfs p * s.inF F.ptpFramePeriodPERIOD / (250000000 * 65536)
    let d := if d0 < 2 ^ 48 then d0 else s.freeW.toNat % 2 ^ 48
    let s1 := if d0 < 2 ^ 48 then r.2 else drawn r.2
    let w := spillWear cm p q d s1.wearTargets s1
    if !w.1 then bad w.2
    else
      let x := corWrite cm va (leBytes 8 d) w.2
      if x.1 then (true, setAcc q 0 x.2) else bad x.2

/-- The spill of a tile: every subpixel, then the life records of its primaries; whether all of it was performed. -/
def spillTile (cm : Bool) (n : Nat) (s : State) : Bool × State :=
  let r := (List.range 3).foldl (fun a p =>
    let r := (List.range 4096).foldl (fun (a : Bool × State) i => let x := spillSub cm n p i a.2; (a.1 && x.1, x.2)) a
    let d := corQuiet (r.2.fld F.corDoseVaVA + 8 * ((3 * n + p) * 4096)) 32768 r.2
    match d.1 with
    | none => (r.1, d.2)
    | some l => (r.1, lifeUpdate n p ((List.range 4096).map (fun i => leAt l (8 * i) 6)) d.2)) (true, s)
  (r.1, lifeSum r.2)

/-- SHUTDOWN_CKPT (R185): every accumulator is spilled, and a CLEAN checkpoint follows. A spill that faults ends the command
with FAULT and leaves the store untouched (R188). -/
def shutdownAct (s : State) : State :=
  let r := if s.cor.dosing then (List.range 256).foldl (fun a n => let x := spillTile true n a.2; (a.1 && x.1, x.2)) (true, s) else (true, s)
  if r.1 then checkpointAct true r.2 else corBusy { result := 5 } r.2

/-- A command ends (R189): its effects at the end, its result, identifier 261. -/
def corComplete (s : State) : State :=
  match s.cor.busy with
  | none => s
  | some b =>
    if b.waitAuth then s
    else
      let s := match b.newId with | some id => calWriteEnd id s | none => s
      let s := match b.ckpt with | some r => ckptEnd r s | none => s
      let s := match b.pair with | some p => modCor (fun x => { x with produced := some p }) s | none => s
      corFinish b.result s

/-- Presence (R170). A cartridge that a reset of the manager left in its place is found as it stands. -/
def presenceAct (c : Cartridge) (s : State) : State :=
  if s.fld F.corCartStatSTATE = 0 then
    modCor (fun x => { x with cart := some (x.cart.getD c) }) s |> setFld F.corCartStatSTATE 1 |> intr 262
  else s

/-- What removal and a reset of the manager leave: ABSENT, no identity, no accounting. -/
def cartGone (s : State) : State :=
  modCor (fun x => { x with cart := none, id := [], produced := none, current := false, dosing := false, dark := true,
                            ckpt := none, deferred := false, ckptDone := false }) s |> lifeClear |>
    setFld F.corCartStatSTATE 0 |> setFld F.corCartStatAUTH 0 |> setFlag F.corCartStatCALVALID false |>
    setFld F.corCartCalCALSETID 0 |> setFld F.corCartCalCALCOUNT 0 |> setFld F.corCartCalgtGT 0

/-- Removal (R174, R278): ABSENT, CART_REMOVED, the command ends REMOVED, unspilled dose is lost, rails go OFF. Where presence
was not detected yet, nothing but the cartridge goes. -/
def removalAct (s : State) : State :=
  if s.fld F.corCartStatSTATE = 0 then modCor (fun x => { x with cart := none }) s
  else
    let s := cartGone s |> (fun s => { s with mem := s.mem.filter (fun e => !(decide (0x11000000 ≤ e.1) && decide (e.1 < 0x11600000))) })
    let s := raise .cor 7 {} s |> intr 262
    let s := if s.cor.busy.isSome then corFinish 4 s else s
    railsRemoved s

/-- The checkpoint period in ns. -/
def State.ckptPeriod (s : State) : Nat := s.fld F.corCtrlCKPTMIN * 60000000000

/-- A periodic checkpoint starts. -/
def ckptStart (s : State) : State :=
  let r := ckptBegin false s
  modCor (fun x => { x with ckpt := r.1, deferred := false }) r.2

/-- CKPT_DUE (R185, R186): while READY with AUTH PASS; during another command it waits for that command to end. -/
def ckptDueAct (s : State) : State :=
  if s.fld F.corCartStatSTATE = 2 ∧ s.fld F.corCartStatAUTH = 1 ∧ s.cor.ckptRef + s.ckptPeriod ≤ s.gt ∧ s.cor.ckpt.isNone then
    if s.cor.busy.isSome then modCor (fun x => { x with deferred := true }) s else ckptStart s
  else s

/-- CKPT_DEFERRED_START. -/
def ckptDeferredAct (s : State) : State :=
  if s.cor.deferred ∧ s.cor.busy.isNone ∧ s.cor.ckpt.isNone then ckptStart s else s

/-- CHECKPOINT_WRITTEN: the periodic checkpoint ends. -/
def ckptWrittenAct (s : State) : State :=
  match s.cor.ckpt with
  | none => s
  | some r => ckptEnd r (modCor (fun x => { x with ckpt := none }) s)

/-- CART_PRESENCE. -/
def execCartPresence (c : Cartridge) (s : State) : Host.Outcome State Fault Refusal := .next (presenceAct c s)
/-- CART_REMOVAL. -/
def execCartRemoval (s : State) : Host.Outcome State Fault Refusal := .next (removalAct s)
/-- ATTACH. -/
def execAttach (s : State) : Host.Outcome State Fault Refusal := .next (corCommand attachAct s)
/-- AUTH_TIMEOUT. -/
def execAuthTimeout (s : State) : Host.Outcome State Fault Refusal := .next (authTimeoutAct s)
/-- PREPARE. -/
def execPrepare (rebase : Bool) (s : State) : Host.Outcome State Fault Refusal := .next (corReady (prepareAct rebase) s)
/-- EXPORT. -/
def execExportCal (s : State) : Host.Outcome State Fault Refusal := .next (corReady exportAct s)
/-- CAL_WRITE. -/
def execCalWrite (overwrite : Bool) (s : State) : Host.Outcome State Fault Refusal := .next (corReady (calWriteAct overwrite) s)
/-- CHECKPOINT. -/
def execCheckpoint (s : State) : Host.Outcome State Fault Refusal := .next (corReady (checkpointAct false) s)
/-- SHUTDOWN_CKPT. -/
def execShutdownCkpt (s : State) : Host.Outcome State Fault Refusal := .next (corReady shutdownAct s)
/-- CART_CMD_COMPLETE. -/
def execCartCmdComplete (s : State) : Host.Outcome State Fault Refusal := .next (corComplete s)
/-- CKPT_DUE. -/
def execCkptDue (s : State) : Host.Outcome State Fault Refusal := .next (ckptDueAct s)
/-- CKPT_DEFERRED_START. -/
def execCkptDeferredStart (s : State) : Host.Outcome State Fault Refusal := .next (ckptDeferredAct s)
/-- CHECKPOINT_WRITTEN. -/
def execCheckpointWritten (s : State) : Host.Outcome State Fault Refusal := .next (ckptWrittenAct s)

end Sys2Proof.Machine
end

