-- ==== Sys2Proof/Machine/Correct.lean ====
section
/-! DEFINITION. The correction stage: the take's latch, correction of a line, dose accumulation, the demand forecast,
the deadline, and writeback (R28, R162, R163, R174–R178, R183, R280). -/

namespace Sys2Proof.Machine

/-- Correction is lit: EN in force and no removal since the last commit (R174). -/
def State.corLit (s : State) : Bool := s.corActive && !s.cor.dark

/-- What THM presents (R292). -/
def State.thmT (s : State) (n : Nat) : Nat := if s.inFlag F.thmCtrlEN then s.fld (F.thmTileT.at (8 * n)) else 400
def State.thmDerate (s : State) (n : Nat) : Nat := if s.inFlag F.thmCtrlEN then s.fld (F.thmTileDERATE.at (8 * n)) else 0xFFFF
def State.thmThrottle (s : State) : Nat := if s.inFlag F.thmCtrlEN then s.fld F.thmStatTHROTTLE else 0xFFFF

/-- The header of the image in force, read through the correction port: its point temperatures, or none, and the address
at which it failed. -/
def readThetas (s : State) : (List Int × Nat) × State :=
  let r := rtRead 9 (s.inF F.corCalVaVA) 4096 s
  match r.1 with
  | .ok l => ((if headerBad l then [] else thetasOf l, s.inF F.corCalVaVA), r.2)
  | .error va => (([], va), r.2)

/-- What correction latches at its take (R177); the forecast starts afresh, and tiles whose port faulted in the last
frame stay substituted for this one (R178). An unreadable header substitutes every tile. -/
def corLatch (s : State) : State :=
  let h := if s.corLit then readThetas s else (([], 0), s)
  let bad := s.corLit && h.1.1.isEmpty
  let s := if bad then raise .cor 3 { addr := h.1.2, mstr := 153, typ := 1 } h.2 else h.2
  modCor (fun x => { x with
    latch := { t := (List.range 256).map s.thmT, derate := (List.range 256).map s.thmDerate, throttle := s.thmThrottle,
               thetas := h.1.1 },
    faultNow := if bad then List.range 256 else x.faultNext, faultNext := if bad then List.range 256 else [],
    fcRow := [], fcMax := [] }) s

/-- LIST_TAKE with correction's latch. -/
def takeAt (n : Nat) (s : State) : State :=
  let t := listTakeAt n s
  if t.cmp.frame.map (fun f => f.n) = s.cmp.frame.map (fun f => f.n) then t else corLatch t

/-- Tn latched, signed sixteenths of a degree. -/
def State.tn (s : State) (n : Nat) : Int := toInt 16 (s.cor.latch.t.getD n 0)

/-- What correction takes for one subpixel. -/
structure CalIn where
  g : Int := 0x4000
  o : Int := 0
  wg : Nat := 0x4000
  mask : Bool := false

/-- The mask bit of a subpixel. -/
def State.maskVa (s : State) (q : Nat) : Nat := s.fld F.diagMaskVaVA + q / 8

/-- CAL_FAULT, with the address the correction port faulted at (R102, R178). -/
def calFault (va : Nat) (s : State) : State := raise .cor 3 { addr := va, mstr := 153, typ := 1 } s

/-- A subpixel of a tile in port fault (R178), or of one not corrected: unity inputs. Its mask bit is still read; where it
cannot be, it is a free value (assumption 16). -/
def faultIn (q : Nat) (s : State) : CalIn × State :=
  let m := rtRead 9 (s.maskVa q) 1 s
  match m.1 with
  | .ok l => ({ mask := bit (leNat l) (q % 8) }, m.2)
  | .error va => ({ mask := m.2.freeB }, drawn (calFault va m.2))

/-- A fault of the correction port at a subpixel of a tile: CAL_FAULT, and substitution to the end of the next frame. -/
def portFault (n va q : Nat) (s : State) : CalIn × State :=
  faultIn q (modCor (fun x => { x with faultNow := insertN n x.faultNow, faultNext := insertN n x.faultNext }) (calFault va s))

/-- GAIN and OFFSET at T from the two records that bracket it (R177). -/
def interpCal (th : List Int) (T : Int) (k : Nat) (a b : List Byte) : Int × Int :=
  let g := fun (l : List Byte) => ((leAt l 0 2 : Nat) : Int)
  let o := fun (l : List Byte) => toInt 16 (leAt l 2 2)
  let d := th.getD (k + 1) 1 - th.getD k 0
  let t := (T - th.getD k 0) * 65536 / d
  (g a + ((g b - g a) * t + 0x8000) / 65536, o a + ((o b - o a) * t + 0x8000) / 65536)

/-- The bracket of T: its lower point, and whether one record clamps. -/
def bracket (th : List Int) (T : Int) : Nat × Bool :=
  let last := th.length - 1
  if T ≤ th.getD 0 0 then (0, true)
  else if th.getD last 0 ≤ T then (last, true)
  else (((List.range th.length).filter (fun k => decide (th.getD k 0 ≤ T))).foldl max 0, false)

/-- The inputs of a subpixel (R177, R178): plane records, wear gain and mask bit, through the correction port. -/
def calIn (n q : Nat) (s : State) : CalIn × State :=
  if s.cor.faultNow.contains n then faultIn q s
  else
    let th := s.cor.latch.thetas
    let br := bracket th (s.tn n)
    let va := fun (k : Nat) => s.inF F.corCalVaVA + 0x1000 + k * 0xC00000 + 4 * q
    let a := rtRead 9 (va br.1) 4 s
    match a.1 with
    | .error x => portFault n x q a.2
    | .ok la =>
      let b := if br.2 then (.ok la, a.2) else rtRead 9 (va (br.1 + 1)) 4 a.2
      match b.1 with
      | .error x => portFault n x q b.2
      | .ok lb =>
        let w := rtRead 9 (s.inF F.corWgainVaVA + 2 * q) 2 b.2
        match w.1 with
        | .error x => portFault n x q w.2
        | .ok lw =>
          let m := rtRead 9 (s.maskVa q) 1 w.2
          match m.1 with
          | .error x => portFault n x q m.2
          | .ok lm =>
            let go := if br.2 then (((leAt la 0 2 : Nat) : Int), toInt 16 (leAt la 2 2)) else interpCal th (s.tn n) br.1 la lb
            ({ g := go.1, o := go.2, wg := if s.fld F.corCartStatAUTH = 1 then leNat lw else 0x4000,
               mask := bit (leNat lm) (q % 8) }, m.2)

/-- f of R177. -/
def fFactor (x : Nat) : Nat := x + x / 32768

/-- The corrected value of a subpixel (R177). -/
def correctVal (d : Nat) (c : CalIn) (derate throttle : Nat) : Nat :=
  let y1 := if c.mask ∨ d = 0 then 0 else (clampI 0 0xFFFF (((d : Int) * c.g + 0x2000) / 16384 + c.o)).toNat
  let y2 := min ((y1 * c.wg + 0x2000) / 16384) 0xFFFF
  let y3 := (y2 * fFactor derate + 0x8000) / 65536
  (y3 * fFactor throttle + 0x8000) / 65536

/-- Dose of a corrected value (R183). -/
def doseAcc (n q frame y : Nat) (s : State) : State :=
  if !s.cor.dosing then s
  else
    let rev := (List.range 5).foldl (fun a i => a + (if bit (frame % 32) i then 2 ^ (4 - i) else 0)) 0
    let v := s.acc q + (((y : Int) * s.weightAt (s.tn n) + ((rev * 131072 : Nat) : Int)) / 4194304).toNat
    let s' := setAcc q (min v 0xFFFF) s
    if 0xFFFF < v then raise .cor 6 { addr := q } s' else s'

/-- The contribution c of R280. -/
def State.contrib (s : State) (y : Nat) (mask : Bool) : Nat :=
  if 0 < y then (16 * y + 65534) / 65535 else if s.inFlag F.diagCtrlDARKAUDIT && !mask then 1 else 0

/-- The forecast gathers a row sum of a tile and primary, and the largest c of its group (R280). -/
def gather (n p sum top : Nat) (s : State) : State :=
  modCor (fun x => { x with fcRow := SMap.modify x.fcRow (3 * n + p) 0 (fun v => max v sum),
                            fcMax := SMap.modify x.fcMax (3 * (n / 32) + p) 0 (fun v => max v top) }) s

/-- One row of one primary of tile n: 64 subpixels corrected from the composed values, dosed, gathered and written to
the back store of the frame. -/
def correctRow (frame n yl p : Nat) (d : List Nat) (s : State) : State :=
  let one := fun (a : (List Nat × Nat × Nat) × State) (xl : Nat) =>
    let q := subIdx n p yl xl
    let c := if a.2.corLit then calIn n q a.2 else if a.2.inFlag F.diagCtrlDARKAUDIT then faultIn q a.2 else ({}, a.2)
    let y := if a.2.corLit then correctVal (d.getD xl 0) c.1 (s.cor.latch.derate.getD n 0xFFFF) s.cor.latch.throttle else 0
    let v := c.2.contrib y c.1.mask
    ((a.1.1 ++ [y], a.1.2.1 + v, max a.1.2.2 v), if a.2.corLit then doseAcc n q frame y c.2 else c.2)
  let r := (List.range 64).foldl one (([], 0, 0), s)
  let st := 0x10000000 + n * 0xC000 + (frame % 2) * 0x6000 + 2 * (4096 * p + 64 * yl)
  let words := wordsOf st 128
  let s := { r.2 with ue := r.2.ue.filter (fun w => !(words.contains w)), ce := r.2.ce.filter (fun w => !(words.contains w)) }
  putBytes st (r.1.1.flatMap (leBytes 2)) (gather n p r.1.2.1 r.1.2.2 s)

/-- One line of 1,024 sites through correction; a blanked group is L16 zero at the input (R157). -/
def correctLine (frame y : Nat) (line : List (Nat × Nat × Nat)) (s : State) : State :=
  let z := s.lineBlank y
  forN 16 (fun c s =>
    let seg := (line.drop (64 * c)).take 64
    let ch := fun (p : Nat) => seg.map (fun v => if z then 0 else if p = 0 then v.1 else if p = 1 then v.2.1 else v.2.2)
    forN 3 (fun p s => correctRow frame (16 * (y / 64) + c) (y % 64) p (ch p) s) s) s

/-- The spill of the frame's 8 tiles (R184) stands at the last line of their rows (assumption 17). -/
def spillAfter (frame y : Nat) (s : State) : State :=
  let g := frame % 32
  if s.cor.dosing ∧ s.corLit ∧ y = 64 * (g / 2) + 63 then forN 8 (fun i s => (spillTile false (8 * g + i) s).2) s else s

/-- A site through writeback's matrix and transfer slots (CMP_WB_CFG). -/
def State.wbSite (s : State) (v : Nat × Nat × Nat) : Nat × Nat × Nat :=
  let v := if s.inFlag F.cmpWbCfgMATEN then s.matrix (s.inF F.cmpWbCfgMAT) v else v
  let t := s.inF F.cmpWbCfgXFER
  if s.inFlag F.cmpWbCfgXFEREN then (s.xfer t v.1, s.xfer t v.2.1, s.xfer t v.2.2) else v

/-- Write one line of the writeback surface, plane by plane, or with alpha 0xFFFF in RGBA16 (R162): nothing, or the address of
its fault. -/
def wbWriteLine (d : SurfDesc) (b y : Nat) (l : List (Nat × Nat × Nat)) (s : State) : Option Nat × State :=
  let base := d.bufs.getD b 0
  if d.format = 2 then
    rtWrite 8 (base + d.stride0 * y) (l.flatMap (fun v => leBytes 2 v.1 ++ leBytes 2 v.2.1 ++ leBytes 2 v.2.2 ++ leBytes 2 0xFFFF)) s
  else
    let put := fun (p : Nat) (f : Nat × Nat × Nat → Nat) (s : State) => rtWrite 8 (base + d.off p + d.stride p * y) (l.flatMap (fun v => leBytes 2 (f v))) s
    let r := put 0 (fun v => v.1) s
    let g := if r.1.isNone then put 1 (fun v => v.2.1) r.2 else r
    if g.1.isNone then put 2 (fun v => v.2.2) g.2 else g

/-- The 2 × 2 means of two lines (QUARTER). -/
def quarter : List (Nat × Nat × Nat) → List (Nat × Nat × Nat) → List (Nat × Nat × Nat)
  | a :: b :: t, c :: d :: u =>
    ((a.1 + b.1 + c.1 + d.1 + 2) / 4, (a.2.1 + b.2.1 + c.2.1 + d.2.1 + 2) / 4, (a.2.2 + b.2.2 + c.2.2 + d.2.2 + 2) / 4) :: quarter t u
  | _, _ => []

/-- Writeback of an output line (R162, R163): a write that faults, or a handle no longer LIVE, drops the frame. -/
def wbLine (y : Nat) (line : List (Nat × Nat × Nat)) (s : State) : State :=
  match s.cmp.frame with
  | none => s
  | some f =>
    match f.wbBuf, (s.handle (s.inF F.cmpWbCfgHANDLE)).desc with
    | some b, some d =>
      if f.wbDrop then s
      else if (s.handle (s.inF F.cmpWbCfgHANDLE)).st ≠ .live then wbDropFrame none s
      else
        let r :=
          if s.inFlag F.cmpWbCfgQUARTER then
            if y % 2 = 0 then (none, { s with cmp := { s.cmp with wbPrev := line } })
            else wbWriteLine d b (y / 2) ((quarter s.cmp.wbPrev line).map s.wbSite) s
          else wbWriteLine d b y (line.map s.wbSite) s
        match r.1 with
        | none => r.2
        | some va => wbDropFrame (some va) r.2
    | some _, none => wbDropFrame none s
    | none, _ => s

/-- The next line of the frame in composition. -/
def setNext (y : Nat) (s : State) : State :=
  match s.cmp.frame with
  | none => s
  | some f => { s with cmp := { s.cmp with frame := some { f with next := y } } }

/-- CORRECTION_LINE (R177): the next line of the frame is composed, clamped, written back, corrected and stored. In a
block reset of COR or CMP no line is delivered (R446). -/
def lineAt (y : Nat) (s : State) : State :=
  match s.cmp.frame with
  | none => s
  | some f =>
    if !f.open_ ∨ f.next ≠ y ∨ s.inReset .cor ∨ s.inReset .cmp ∨ s.pwr.stopped.contains 4 then s
    else
      let c := composeLine y s
      setNext (y + 1) (consumeLine y c.2) |> wbLine y c.1 |> correctLine f.n y c.1 |> spillAfter f.n y

/-- Rest of the frame filled with background through correction (R28; the reading, assumption 18), or with L16 zero where no
list was taken (R148): UNDERRUN counts. -/
def fillLines (frame : Nat) : List Nat → State → State
  | [], s => s
  | y :: t, s =>
    let site := if s.zeroFrame then (0, 0, 0) else s.bg
    fillLines frame t (spillAfter frame y (correctLine frame y (List.replicate 1024 site) s))

/-- Whether any LINE of a program in force of the group has IFIX = 1 (R280). -/
def State.groupIfix (s : State) (g : Nat) : Bool :=
  (List.range 32).any (fun i => (List.range 128).any (fun w =>
    let x := s.inF (F.teProgINSN.at ((32 * g + i) * 0x10000 + 4 * w))
    bits x 31 28 == 1 && bit x 15))

/-- The forecast closes and goes to the 24 rails (R280, R281). -/
def closeForecast (n : Nat) (s : State) : State :=
  forN 24 (fun k s =>
    let g := k / 3
    let ifix := s.groupIfix g
    let smax := if ifix then 16 else SMap.get s.cor.fcMax k 0
    let ipk := if ifix then 32768 else (List.range 32).foldl (fun a i => a + SMap.get s.cor.fcRow (3 * (32 * g + i) + k % 3) 0) 0
    let tmin := (List.range 32).foldl (fun m i => min m (s.tn (32 * g + i))) (s.tn (32 * g))
    railForecast k n smax ipk tmin s) s

/-- CORRECTION_DEADLINE in the period of frame n (R28): lines of frame n + 1 not delivered are filled and counted, an
unfinished writeback is dropped, and the forecast closes; in a block reset of COR the forecast does not reach the
rails. -/
def deadlineAt (n : Nat) (s : State) : State :=
  match s.cmp.frame with
  | none => s
  | some f =>
    if !s.tl.running ∨ s.tl.frame ≠ n ∨ f.n ≠ n + 1 ∨ !f.open_ ∨ s.gt + 400000 < s.frameStart (n + 1) ∨ s.pwr.stopped.contains 4 then s
    else
      let late := 1024 - f.next
      let s := if late = 0 then s
        else raise .cor 5 { addr := n + 1 } (countMod F.corUnderrunN late
          (fillLines f.n ((List.range late).map (fun i => f.next + i)) s))
      let s := if late ≠ 0 ∧ f.wbBuf.isSome then wbDropFrame none s else s
      let s := setNext 1024 s
      let s := match s.cmp.frame with
        | some g => { s with cmp := { s.cmp with frame := some { g with open_ := false } } }
        | none => s
      if s.inReset .cor then s else closeForecast (n + 1) s

/-- WRITEBACK_PUBLISH (R163): once the last line of frame n is written, the buffer is published with FRAME_START(n), and
preview takes the frames of its DIV where it is bound to the writeback handle (R138). -/
def publishAt (n : Nat) (s : State) : State :=
  match s.cmp.frame with
  | none => s
  | some f =>
    match f.wbBuf with
    | some b =>
      if f.n = n ∧ f.next = 1024 ∧ !f.wbDrop ∧ !(s.inReset .cmp) then
        let h := s.inF F.cmpWbCfgHANDLE
        if (s.handle h).st ≠ .live then wbDropFrame none s
        else
          let s := publishBuf h b (s.frameStart n : Int) s
          let s := { s with cmp := { s.cmp with frame := some { f with wbBuf := none } } }
          let s := if s.inFlag F.srcTxCfgEN ∧ s.inF F.srcTxCfgHANDLE = h ∧ n % (s.inF F.srcTxCfgDIV + 1) = 0 then
              { s with txFrames := s.txFrames ++ [⟨n, h, b, (s.frameStart n : Int)⟩] }
            else s
          intr 247 s
      else s
    | none => s

/-- LIST_TAKE. -/
def execListTake (n : BitVec 48) (s : State) : Host.Outcome State Fault Refusal := .next (takeAt n.toNat s)
/-- CORRECTION_LINE. -/
def execCorrectionLine (y : Fin 1024) (s : State) : Host.Outcome State Fault Refusal := .next (lineAt y.val s)
/-- CORRECTION_DEADLINE. -/
def execCorrectionDeadline (n : BitVec 48) (s : State) : Host.Outcome State Fault Refusal := .next (deadlineAt n.toNat s)
/-- WRITEBACK_PUBLISH. -/
def execWritebackPublish (n : BitVec 48) (s : State) : Host.Outcome State Fault Refusal := .next (publishAt n.toNat s)

end Sys2Proof.Machine
end

