-- ==== Sys2Proof/Machine/Thermal.lean ====
section
/-! DEFINITION. Thermal sensing, derating, the throttle law and ceilings (R289–R300), fans and heaters (R301–R303). -/

namespace Sys2Proof.Machine

/-- One unit of the fixed-point logarithm below. -/
def lnOne : Int := 2 ^ 96

/-- 2 artanh z for z = n / d with |z| at most 1/3, to far beyond the rounding of R289. -/
def atanh2 : Nat → Nat → Int → Int → Int → Int
  | 0, _, _, _, _ => 0
  | f + 1, k, p, n, d => 2 * p / (2 * k + 1 : Nat) + atanh2 f (k + 1) (p * n / d * n / d) n d

/-- Scale n / d into [1, 2) by powers of two: the numerator, the denominator and the power. -/
def normTwo : Nat → Int → Int → Int → Int × Int × Int
  | 0, n, d, e => (n, d, e)
  | f + 1, n, d, e => if n < d then normTwo f (2 * n) d (e - 1) else if 2 * d ≤ n then normTwo f n (2 * d) (e + 1) else (n, d, e)

/-- ln (n / d) in units of 1 / lnOne. -/
def lnFix (n d : Int) : Int :=
  let r := normTwo 64 n d 0
  let ln2 := atanh2 40 0 (lnOne / 3) 1 3
  let z := r.1 - r.2.1
  let w := r.1 + r.2.1
  r.2.2 * ln2 + atanh2 40 0 (lnOne * z / w) z w

/-- The thermistor conversion of R289: from the pin voltage in µV to sixteenths of a degree, rounded to nearest. -/
def ntc (uv : Nat) : Int :=
  let L := lnFix uv (1800000 - uv : Nat)
  let D := lnOne * 100 / 29815 + L / 3435
  let t := 16 * lnOne * lnOne / D - 16 * 27315 * lnOne / 100
  (2 * t + lnOne) / (2 * lnOne)

/-- Change the state of THM. -/
def modThm (f : ThmState → ThmState) (s : State) : State := { s with thm := f s.thm }

/-- A sensor. -/
def State.sensor (s : State) (i : Nat) : Sensor := SMap.get s.thm.sens i {}

/-- Whether the port of a tile is in RUN. -/
def State.portRun (s : State) (p : Nat) : Bool := s.fld (F.epPstatSTATE.at (p * 0x1000)) == 4

/-- A tile is UNAVAILABLE while its port is not in RUN (R291). -/
def State.unavail (s : State) (i : Nat) : Bool := decide (i < 256) && !(s.portRun (i / 8))

/-- External input i is in use. -/
def State.esOn (s : State) (i : Nat) : Bool := s.flag (F.thmEsCfgEN.at (8 * i))

/-- GROUPS of external input i. -/
def State.esGroups (s : State) (i : Nat) : BitVec 8 := BitVec.ofNat 8 (s.fld (F.thmEsCfgGROUPS.at (8 * i)))

/-- A sensor that is sampled: tiles, inputs in use, and the die. -/
def State.sampled (s : State) (i : Nat) : Bool := decide (i < 256) || (decide (i < 272) && s.esOn (i - 256)) || (decide (272 ≤ i) && decide (i < 284))

/-- The sample of a sensor now, or none where it is missing. An input below 0.05 V or above 1.75 V gives a value that is
implausible (R290). -/
def sampleOf (es : List (BitVec 32)) (die : List (BitVec 16)) (i : Nat) (s : State) : Option Int :=
  if i < 256 then (SMap.find s.thm.ret i).map (fun e => toInt 16 e.1)
  else if i < 272 then
    let v := (es.getD (i - 256) 0).toNat
    some (if v < 50000 ∨ 1750000 < v then -32768 else ntc v)
  else some (match die[i - 272]? with | some t => t.toInt | none => -32768)

/-- Judge the sample of one sensor (R290, R291). -/
def judge (i : Nat) (x : Option Int) (s : State) : State :=
  let v := s.sensor i
  let inRange : Bool := match x with | some t => decide (-640 ≤ t) && decide (t ≤ 2400) | none => false
  let far : Bool := match x, v.prev with | some t, some p => decide (320 < t - p) || decide (320 < p - t) | _, _ => false
  let good := inRange && !far
  let prev : Option Int := if good ∨ (v.lost ∧ inRange) then x else v.prev
  let put := fun (v : Sensor) (s : State) => modThm (fun t => { t with sens := SMap.put t.sens i v }) s
  if x.isNone ∧ s.unavail i then s
  else if good then
    let v1 := { v with val := x.getD 0, has := true, prev := prev, bad := 0, good := v.good + 1 }
    if v.lost ∧ 3 ≤ v1.good then intr 610 (put { v1 with lost := false } s) else put v1 s
  else
    let v1 := { v with prev := prev, bad := v.bad + 1, good := 0 }
    if !v.lost ∧ 3 ≤ v1.bad then
      intr 610 (raise .thm 3 { addr := i, tile := if i < 256 then some i else none } (put { v1 with lost := true } s))
    else put v1 s

/-- A measured value: not LOST, not UNAVAILABLE, with a plausible sample. -/
def State.valid (s : State) (i : Nat) : Bool := s.sampled i && !(s.sensor i).lost && !(s.unavail i) && (s.sensor i).has

/-- Tiles adjacent in the grid, diagonals included. -/
def tileNeighbours (n : Nat) : List Nat :=
  (List.range 256).filter (fun m => m != n && decide (m / 16 ≤ n / 16 + 1) && decide (n / 16 ≤ m / 16 + 1) &&
    decide (m % 16 ≤ n % 16 + 1) && decide (n % 16 ≤ m % 16 + 1))

/-- The sets of R291, in order. -/
def State.estSets (s : State) (i : Nat) : List (List Nat) :=
  let dies := (List.range 12).map (fun j => 272 + j)
  if i < 256 then
    [tileNeighbours i, ((List.range 32).map (fun j => 32 * (i / 32) + j)).filter (fun m => m != i),
     ((List.range 16).filter (fun j => (s.esGroups j).getLsbD (i / 32))).map (fun j => 256 + j), dies]
  else if i < 272 then
    [((List.range 16).filter (fun j => j != i - 256 && (s.esGroups j &&& s.esGroups (i - 256)) != 0)).map (fun j => 256 + j), dies]
  else [dies.filter (fun j => j != i)]

/-- The estimate of a sensor (R291); where no set holds a valid value the manual states none, and it is a free value
(assumption 19). -/
def State.estimate (s : State) (i : Nat) : Int :=
  match (s.estSets i).find? (fun l => l.any (fun j => s.valid j)) with
  | some l =>
    let v := (l.filter (fun j => s.valid j)).map (fun j => (s.sensor j).val)
    v.foldl max (v.headD 0) + (s.inF F.thmCtrlMARGIN : Nat)
  | none => toInt 16 s.freeW.toNat

/-- The value of a sensor: its sample, or its estimate (R290, R291). -/
def State.thmValue (s : State) (i : Nat) : Int :=
  if (s.sensor i).lost ∨ s.unavail i ∨ !(s.sensor i).has then s.estimate i else (s.sensor i).val

/-- SRC of a sensor. -/
def State.thmSrc (s : State) (i : Nat) : Nat :=
  if (s.sensor i).lost then 2 else if s.unavail i then 1 else if (s.sensor i).has then 0 else 3

/-- The value register of a sensor. -/
def valueFld (i : Nat) : Fld := if i < 256 then F.thmTileT.at (8 * i) else if i < 272 then F.thmEsValT.at (8 * (i - 256)) else F.thmDievalT.at (8 * (i - 272))
def srcFld (i : Nat) : Fld := if i < 256 then F.thmTileSRC.at (8 * i) else if i < 272 then F.thmEsValSRC.at (8 * (i - 256)) else F.thmDievalSRC.at (8 * (i - 272))

/-- The value a register shows. -/
def State.shown (s : State) (i : Nat) : Int := toInt 16 (s.fld (valueFld i))

/-- A limit of a sensor: its index, its level, and whether it is an upper one (Table: Limits and their effects). -/
structure Limit where
  k : Nat
  lim : Int
  upper : Bool := true

/-- The limits that apply to a sensor. -/
def State.limits (s : State) (i : Nat) : List Limit :=
  let sg := fun (f : Fld) => toInt 16 (s.fld f)
  if i < 256 then [⟨0, toInt 16 (s.inF F.thmThrotTILETLIM), true⟩, ⟨1, toInt 16 (s.inF F.thmColdCOLDLIM), false⟩]
  else if i < 272 then
    (if s.flag (F.thmEsCfgTHROT.at (8 * (i - 256))) then [⟨0, sg (F.thmEsCfgTLIM.at (8 * (i - 256))), true⟩] else []) ++
    [⟨1, sg (F.thmEsCfgCEILLIM.at (8 * (i - 256))), true⟩]
  else [⟨0, sg F.thmDieDIEWARN, true⟩, ⟨1, sg F.thmDieDIECRIT, true⟩]

/-- A condition of a sensor. -/
def State.thmCond (s : State) (i k : Nat) : Cond := SMap.get s.thm.conds (2 * i + k) {}

/-- One sample for a condition (R293): three consecutive samples turn it. -/
def Cond.step (c : Cond) (toOn toOff : Bool) : Cond :=
  let hit := if c.on then toOff else toOn
  if !hit then { c with run := 0 } else if 2 ≤ c.run then { on := !c.on, run := 0 } else { c with run := c.run + 1 }

/-- The conditions of one sensor at a sample; a COLD condition judges valid samples only, `fresh` ones. -/
def condStep (i : Nat) (fresh : Bool) (s : State) : State :=
  let v := s.shown i
  let h : Int := (s.inF F.thmCtrlHYST : Nat)
  (s.limits i).foldl (fun s l =>
    let c := s.thmCond i l.k
    let c' := if l.upper then c.step (decide (l.lim ≤ v)) (decide (v ≤ l.lim - h))
      else if fresh then c.step (decide (v ≤ l.lim)) (decide (l.lim + h ≤ v)) else c
    modThm (fun t => { t with conds := SMap.put t.conds (2 * i + l.k) c' }) s) s

/-- Whether a sensor lies within 80 of a limit, on the safe side or past it (R294). -/
def State.nearLimit (s : State) (i : Nat) : Bool :=
  (s.limits i).any (fun l => if l.upper then decide (l.lim - 80 ≤ s.shown i) else decide (s.shown i ≤ l.lim + 80))

/-- Every sensor that takes part. -/
def State.sensors (s : State) : List Nat := (List.range 284).filter (fun i => s.sampled i)

/-- The OVER_TEMP condition of a tile (R294): set at once, cleared after three samples without it. -/
def ovtStep (n : Nat) (s : State) : State :=
  let seen : Bool := match SMap.find s.thm.ret n with | some e => e.2 | none => false
  let c := SMap.get s.thm.ovt n {}
  let c' : Cond := if seen then { on := true, run := 0 } else if !c.on then c else if 2 ≤ c.run then {} else { c with run := c.run + 1 }
  modThm (fun t => { t with ovt := if c' = {} then SMap.erase t.ovt n else SMap.put t.ovt n c' }) s

/-- The lowest tile whose OVER_TEMP is asserted. -/
def State.ovtTile (s : State) : Option Nat := (List.range 256).find? (fun n => (SMap.get s.thm.ovt n {}).on)

/-- BP_OVERTEMP stands while the OVER_TEMP of any tile is asserted (R294, R419). -/
def ovtRaise (s : State) : State :=
  match s.ovtTile with
  | some n => raiseCond .thm 5 { addr := n } s
  | none => endCond .thm 5 s

/-- The THM ceiling of a group (R295). -/
def State.thmCeilOf (s : State) (g : Nat) : Nat :=
  let tiles := (List.range 32).map (fun j => 32 * g + j)
  if tiles.any (fun n => (SMap.get s.thm.ovt n {}).on) then 0
  else
    let cold := if tiles.any (fun n => (s.thmCond n 1).on) then s.inF F.thmColdCOLDCEIL else 0xFFFF
    (List.range 16).foldl (fun m i =>
      if s.esOn i && (s.esGroups i).getLsbD g && (s.thmCond (256 + i) 1).on then min m (s.fld (F.thmEsCfgCEILVAL.at (8 * i))) else m) cold

/-- Recompute the ceilings: identifier 611 on a change. -/
def ceilStep (s : State) : State :=
  forN 8 (fun g s =>
    let c := s.thmCeilOf g
    if c = SMap.get s.thm.ceil g 0xFFFF then s
    else intr 611 (modThm (fun t => { t with ceil := SMap.store t.ceil g c 0xFFFF }) s)) s

/-- DERATE of a value (R296). -/
def State.derate (s : State) (t : Int) : Nat :=
  let knee := toInt 16 (s.inF F.thmDerateKNEE)
  (clampI (s.inF F.thmDerateFLOOR) 65535 (65535 - (s.inF F.thmDerateSLOPE : Nat) * (t - knee) / 16)).toNat

/-- The largest excess of an asserted throttle condition, with its sensor (R297). -/
def State.excess (s : State) : Int × Option Nat :=
  (s.sensors.filter (fun i => decide (i < 272))).foldl (fun a i =>
    match (s.limits i).find? (fun l => l.k == 0) with
    | some l => if (s.thmCond i 0).on && decide (a.1 < s.shown i - l.lim) then (s.shown i - l.lim, some i) else a
    | none => a) (0, none)

/-- The throttle law (R297, R298) for a sample after `ms` milliseconds at GT instant `t`. -/
def throttleStep (ms t : Nat) (govLost : Bool) (s : State) : State :=
  let s := modThm (fun x => { x with frozen := x.frozen.filter (fun e => decide (t < e)) }) s
  let old := s.fld F.thmStatTHROTTLE
  let e := s.excess
  let target := (clampI (s.inF F.thmThrotTMIN) 65535 (65535 - (s.inF F.thmThrotTGAIN : Nat) * e.1 / 16)).toNat
  let s := if govLost ∧ old < 0xFFFF then modThm (fun x => { x with frozen := some (t + s.inF F.thmCtrlHOLDS * 1000000000) }) s else s
  let up := if s.thm.frozen.isSome then old else old + s.inF F.thmThrotRELAX * ms / 1000
  let new := min target up
  let s := s |> setFld F.thmStatTHROTTLE new |> setFlag F.thmStatFROZEN s.thm.frozen.isSome
  let s := match e.2 with
    | some i => if new < 0xFFFF then setFld F.thmStatGOVERNOR i s else s
    | none => s
  if (old < 0xFFFF) ≠ (new < 0xFFFF) then intr 609 (raise .thm 4 { addr := new } s) else s

/-- COLD and OVT show the tile groups with a condition asserted. -/
def showGroups (s : State) : State :=
  let mask := fun (p : Nat → Bool) =>
    (List.range 8).foldl (fun m g => if (List.range 32).any (fun j => p (32 * g + j)) then m + 2 ^ g else m) 0
  s |> setFld F.thmStatCOLD (mask (fun n => (s.thmCond n 1).on)) |>
    setFld F.thmStatOVT (mask (fun n => (SMap.get s.thm.ovt n {}).on))

/-- DERATE of every tile, 0xFFFF while EN in force is 0 (R292, R296). -/
def showDerate (s : State) : State :=
  forN 256 (fun n t => setFld (F.thmTileDERATE.at (8 * n)) (if t.inFlag F.thmCtrlEN then t.derate (t.shown n) else 0xFFFF) t) s

/-- While EN is 0 THM presents no derating, no throttle and no ceiling, and it raises no condition (R292). -/
def thmQuiet (s : State) : State :=
  let was := s.fld F.thmStatTHROTTLE
  let s := modThm (fun t => { t with conds := [], ovt := [], frozen := none }) s |>
    setFld F.thmStatTHROTTLE 0xFFFF |> setFlag F.thmStatFROZEN false |> ceilStep |>
    endCond .thm 5 |> endCond .thm 6 |> endCond .thm 7 |> showGroups |> showDerate
  if was < 0xFFFF then intr 609 (raise .thm 4 { addr := 0xFFFF } s) else s

/-- EN in force changes, from `en`: at 0 THM falls quiet; at 1 no sensor has had a plausible sample yet (R290, R292). -/
def thmSwitch (en : Bool) (s : State) : State :=
  if en = s.inFlag F.thmCtrlEN then s
  else if en then thmQuiet s
  else modThm (fun t => { t with sens := t.sens.map (fun e => (e.1, { e.2 with has := false })) }) s

/-- DIE_WARN and DIE_CRIT follow the die conditions. -/
def dieStep (s : State) : State :=
  let on := fun (k : Nat) => (List.range 12).any (fun j => (s.thmCond (272 + j) k).on)
  let s := if on 0 then raiseCond .thm 6 {} s else endCond .thm 6 s
  if on 1 then raiseCond .thm 7 {} s else endCond .thm 7 s

/-- Show the sensors' values and status in their registers. -/
def showSensors (s : State) : State :=
  let vs := s.sensors.map (fun i => (i, s.thmValue i, s.thmSrc i))
  let s1 := vs.foldl (fun t e => t |> setFld (valueFld e.1) (ofInt 16 e.2.1) |> setFld (srcFld e.1) e.2.2) s
  drawn (showDerate s1) |> setFld F.thmStatLOST (min 255 (s.sensors.filter (fun i => (s.sensor i).lost)).length)

/-- Sample interval in ns (R289). -/
def State.thmInterval (s : State) : Nat := if s.flag F.thmStatFAST then 10000000 else 100000000

/-- Duty and temperature of a fan channel. -/
def Fld.fan (f : Fld) (c : Nat) : Fld := f.at (0x20 * c)

/-- The sensor value a channel follows (R301); an identifier of no sensor has no stated value, and it is free. -/
def State.fanTemp (s : State) (c : Nat) : Int :=
  let i := s.fld (F.fanChCfgSRC.fan c)
  if i = 511 then (List.range 256).foldl (fun m n => max m (s.shown n)) (s.shown 0)
  else if i < 284 then s.shown i else toInt 16 (s.freeW).toNat

/-- Whether another channel has stalled. -/
def State.otherStall (s : State) (c : Nat) : Bool := (List.range 8).any (fun d => d != c && s.flag (F.fanChStatSTALL.fan d))

/-- The duty a channel's mode asks for (R301–R303). The rounding of the curve is free (assumption 14). -/
def State.fanTarget (s : State) (c : Nat) : Nat :=
  let lo := s.fld (F.fanChCfgDUTYMIN.fan c)
  let hi := s.fld (F.fanChCfgDUTYMAX.fan c)
  match s.fld (F.fanChCfgMODE.fan c) with
  | 0 => 0
  | 1 =>
    if s.otherStall c then hi
    else
      let t := s.fanTemp c
      let tl := toInt 16 (s.fld (F.fanChCurveTLO.fan c))
      let th := toInt 16 (s.fld (F.fanChCurveTHI.fan c))
      if t ≤ tl then lo else if th ≤ t then hi
      else roundFree s (2 ^ 41 + c) ((lo : Int) * (th - tl) + ((hi : Int) - lo) * (t - tl)) (th - tl).toNat
  | 2 => hi
  | _ =>
    let gs := BitVec.ofNat 8 (s.fld (F.fanChCurveGROUPS.fan c))
    if (List.range 8).any (fun g => gs.getLsbD g && bit (s.fld F.thmStatCOLD) g) then s.fld (F.fanChCurveHEATDUTY.fan c) else 0

/-- Drive a channel: a fan whose duty rises from 0 runs at 100 % for 1 s first (R301). -/
def fanDrive (c : Nat) (s : State) : State :=
  let v := SMap.get s.fan c {}
  let t := min 100 (s.fanTarget c)
  let mode := s.fld (F.fanChCfgMODE.fan c)
  let duty := F.fanChStatDUTY.fan c
  if mode = 3 ∨ t = 0 then setFld duty t { s with fan := SMap.put s.fan c { v with spin := none } }
  else if v.spin.isSome then setFld duty 100 s
  else if s.fld duty = 0 then setFld duty 100 { s with fan := SMap.put s.fan c { v with spin := some s.now } }
  else setFld duty t s

/-- Drive every channel. -/
def fansDrive (s : State) : State := if s.inReset .fan then s else forN 8 fanDrive (drawn s)

/-- A sample (R289–R298). -/
def sampleAll (es : List (BitVec 32)) (die : List (BitVec 16)) (t : Nat) (s : State) : State :=
  let ms := s.thmInterval / 1000000
  let ids := s.sensors
  let gov := s.fld F.thmStatGOVERNOR
  let was := (s.sensor gov).lost
  let samples := ids.map (fun i => (i, sampleOf es die i s))
  let s := samples.foldl (fun s e => judge e.1 e.2 s) s
  let fresh := fun (s : State) (i : Nat) => s.valid i && (s.sensor i).bad == 0 && ((SMap.find s.thm.ret i).isSome || decide (256 ≤ i))
  let s := showSensors s
  let s := if s.inFlag F.thmCtrlEN then
      let s := ids.foldl (fun s i => condStep i (fresh s i) s) s
      let s := ovtRaise (forN 256 ovtStep s)
      dieStep (ceilStep (throttleStep ms t (!was && (s.sensor gov).lost) s))
    else thmQuiet s
  let near := ids.any (fun i => s.nearLimit i)
  let calm := if near then 0 else s.thm.calm + 1
  let fast := near || (s.flag F.thmStatFAST && decide (calm < 10))
  modThm (fun x => { x with last := some t, ret := [], calm := calm }) s |> setFlag F.thmStatFAST fast |> showGroups |> fansDrive

/-- Whether the sample instant t has been served: samples follow GT upwards, also when the interval lengthens; a step of GT
to below the last sample starts them anew. -/
def State.sampledAt (s : State) (t : Nat) : Bool :=
  match s.thm.last with
  | some l => decide (t ≤ l) && decide (l ≤ s.gt)
  | none => false

/-- THM_SAMPLE: at the GT instants that are whole multiples of the interval, once each (R289). -/
def thmSampleAt (es : List (BitVec 32)) (die : List (BitVec 16)) (s : State) : State :=
  let t := s.gt / s.thmInterval * s.thmInterval
  if s.sampledAt t ∨ s.inReset .thm ∨ s.pwr.stopped.contains 10 then s else sampleAll es die t s

/-- The freeze ends (R298). -/
def holdEnd (s : State) : State :=
  match s.thm.frozen with
  | none => s
  | some t => if t ≤ s.gt then setFlag F.thmStatFROZEN false (modThm (fun x => { x with frozen := none }) s) else s

/-- HOLD_LEFT: seconds of hold remaining, rounded up. -/
def State.holdLeft (s : State) : Nat :=
  match s.thm.frozen with
  | some t => min 255 ((t - s.gt + 999999999) / 1000000000)
  | none => 0

/-- The THM ceiling of a group that THM presents (R292). -/
def State.thmCeil (s : State) (g : Nat) : Nat := if s.inFlag F.thmCtrlEN then SMap.get s.thm.ceil g 0xFFFF else 0xFFFF

/-- THM's refusal (R300). -/
def State.thmCheck (s : State) : Option Nat :=
  let sg := fun (f : Fld) => toInt 16 (s.stg f)
  if sg F.thmDerateKNEE ≤ sg F.thmColdCOLDLIM + (s.stg F.thmCtrlHYST : Nat) ∨ sg F.thmThrotTILETLIM < sg F.thmDerateKNEE ∨
     s.stg F.thmDerateFLOOR < s.stg F.thmThrotTMIN then some 0x800 else none

/-- A tach window of a channel (R301, R303): two pulses a revolution over one second. -/
def tachWindow (c pulses : Nat) (s : State) : State :=
  if s.inReset .fan ∨ s.pwr.stopped.contains 10 then s
  else
    let rpm := min 0xFFFF (30 * pulses)
    let s := setFld (F.fanChStatRPM.fan c) rpm s
    let v := SMap.get s.fan c {}
    let mode := s.fld (F.fanChCfgMODE.fan c)
    let judged : Bool := (mode == 1 || mode == 2) && decide (20 < s.fld (F.fanChStatDUTY.fan c))
    let slow := decide (rpm < 10 * s.fld (F.fanChCfgSTALLRPM.fan c))
    let v' : FanCh := { v with low := if judged && slow then v.low + 1 else 0, high := if judged && !slow then v.high + 1 else 0 }
    let s := { s with fan := SMap.put s.fan c v' }
    let st := F.fanChStatSTALL.fan c
    let s := if !(s.flag st) ∧ 2 ≤ v'.low then intr 617 (raise .fan 3 { addr := c } (setFlag st true s))
      else if s.flag st ∧ 2 ≤ v'.high then intr 617 (setFlag st false s) else s
    fansDrive s

/-- The spin-up of a channel ends after 1 s. -/
def spinupEnd (c : Nat) (s : State) : State :=
  let v := SMap.get s.fan c {}
  match v.spin with
  | none => s
  | some t =>
    if t + 1000000000 ≤ s.now then
      setFld (F.fanChStatDUTY.fan c) (min 100 (s.fanTarget c)) { s with fan := SMap.put s.fan c { v with spin := none } }
    else s

/-- A write of MODE (R303): OFF and HEATER clear a stall. -/
def fanMode (c mode : Nat) (s : State) : State :=
  if s.inReset .fan then s
  else
    let st := F.fanChStatSTALL.fan c
    let s := setFld (F.fanChCfgMODE.fan c) mode s
    let s := if (mode = 0 ∨ mode = 3) ∧ s.flag st then
        intr 617 (setFlag st false { s with fan := SMap.put s.fan c { SMap.get s.fan c {} with low := 0, high := 0 } })
      else s
    fansDrive s

/-- THM_SAMPLE: the pin voltages of ES0–ES15 in µV and the die temperatures. -/
def execThmSample (es : List (BitVec 32)) (die : List (BitVec 16)) (s : State) : Host.Outcome State Fault Refusal :=
  .next (thmSampleAt es die s)
/-- THROTTLE_HOLD_END. -/
def execThrottleHoldEnd (s : State) : Host.Outcome State Fault Refusal := .next (holdEnd s)
/-- FAN_TACH_WINDOW: the tach pulses of the window. -/
def execFanTachWindow (c : Fin 8) (pulses : BitVec 16) (s : State) : Host.Outcome State Fault Refusal :=
  .next (tachWindow c.val pulses.toNat s)
/-- FAN_SPINUP_END. -/
def execFanSpinupEnd (c : Fin 8) (s : State) : Host.Outcome State Fault Refusal := .next (spinupEnd c.val s)
/-- FAN_MODE_WRITE. -/
def execFanModeWrite (c : Fin 8) (mode : Fin 4) (s : State) : Host.Outcome State Fault Refusal := .next (fanMode c.val mode.val s)

end Sys2Proof.Machine
end

