-- ==== Sys2Proof/Machine/RookCore.lean ====
section
/-! DEFINITION. Rook's parameters, inputs, causes, permits and states (R304–R318, R328–R339). -/

namespace Sys2Proof.Machine

/-- Change Rook. -/
def modRook (f : RookState → RookState) (s : State) : State := { s with rook := f s.rook }

/-- A ROM value kept in the range this chapter gives it. -/
def romIn (k lo hi : Nat) : Nat := lo + (Config.romParam k).toNat % (hi - lo + 1)

/-- The ROM block (R338): every input and zone disabled, every restart mode AUTO; TP_NS, SW_T_CLOSE and SW_T_OPEN at the
defaults of Table: Switch timing, the rest open (assumption 20). -/
def romBlock : List Byte :=
  let body := leBytes 4 0x4B4F4F52 ++ leBytes 4 1 ++ leBytes 8 0 ++ List.replicate 64 0 ++
    (List.range 8).flatMap (fun g => leBytes 8 (Config.romParam (16 + g)).toNat) ++
    leBytes 2 64 ++ leBytes 2 (romIn 0 10 1000) ++ leBytes 2 (romIn 1 1000 10000) ++ leBytes 2 200 ++ leBytes 2 500 ++
    leBytes 1 (romIn 2 1 60) ++ List.replicate 5 0 ++ List.replicate 96 0 ++ List.replicate 4096 0 ++ List.replicate 252 0
  body ++ leBytes 4 (crc32c body)

/-- The parameter block in force. -/
def State.rblock (s : State) : List Byte := if s.rook.block = [] then romBlock else s.rook.block

/-- A little-endian field of the block in force. -/
def State.rp (s : State) (off n : Nat) : Nat := leAt s.rblock off n

/-- INPUTi fields: EN, GROUPS, FILT in ns, RESTART, DISC in ns. -/
def State.rinEn (s : State) (i : Nat) : Bool := s.rp (0x10 + 16 * i) 1 != 0
def State.rinGroups (s : State) (i : Nat) : BitVec 8 := BitVec.ofNat 8 (s.rp (0x11 + 16 * i) 1)
def State.rinMode (s : State) (i : Nat) : Nat := s.rp (0x13 + 16 * i) 1
def State.rinDisc (s : State) (i : Nat) : Nat := s.rp (0x14 + 16 * i) 2 * 1000000

/-- A zone entry of a set, as its fields. -/
structure Zone where
  en : Bool
  keepOut : Bool
  x0 : Nat
  y0 : Nat
  x1 : Nat
  y1 : Nat
  sumLim : Nat
  siteLim : Nat
  wp : Nat → Nat
  winMs : Nat

/-- Zone z of set k of a block. -/
def zoneOf (b : List Byte) (k z : Nat) : Zone :=
  let o := 0x100 + 512 * k + 32 * z
  let r := leAt b o 8
  { en := bit r 63, keepOut := bit r 62, y1 := bits r 57 48, x1 := bits r 41 32, y0 := bits r 25 16, x0 := bits r 9 0,
    sumLim := leAt b (o + 8) 8, siteLim := leAt b (o + 16) 2, wp := fun p => leAt b (o + 18 + p) 1, winMs := leAt b (o + 21) 1 }

/-- Whether bytes of a block are not all zero. -/
def nonZero (b : List Byte) (off n : Nat) : Bool := (slice b off n).any (fun x => x != 0)

/-- Reserved bits of a zone rectangle. -/
def rectReserved (r : Nat) : Bool := bits r 61 58 != 0 || bits r 47 42 != 0 || bits r 31 26 != 0 || bits r 15 10 != 0

/-- An input entry out of range (R338); the times of a disabled input are not judged (assumption 21). -/
def inputBad (b : List Byte) (i : Nat) : Bool :=
  let o := 0x10 + 16 * i
  let filt := leAt b (o + 2) 1
  let disc := leAt b (o + 4) 2
  decide (1 < leAt b o 1) || decide (2 < leAt b (o + 3) 1) || nonZero b (o + 6) 10 ||
  (leAt b o 1 == 1 && (decide (filt < (if i = 3 then 11 else 10)) || decide ((if i = 3 then 30 else 100) < filt) ||
    (i != 2 && (decide (disc < 20) || decide (1000 < disc)))))

/-- A zone entry out of range (R338). -/
def zoneBad (b : List Byte) (k z : Nat) : Bool :=
  let o := 0x100 + 512 * k + 32 * z
  let e := zoneOf b k z
  rectReserved (leAt b o 8) || nonZero b (o + 22) 10 ||
  (e.en && (decide (e.x1 < e.x0) || decide (e.y1 < e.y0) || decide (e.winMs < 1) || decide (250 < e.winMs)))

/-- Whether a block is valid (R338). -/
def blockOk (b : List Byte) : Bool :=
  let u := fun (o : Nat) => leAt b o 2
  b.length == 4608 && leAt b 0 4 == 0x4B4F4F52 && leAt b 4 4 == 1 && decide (leAt b 8 4 < 2) && leAt b 0xC 4 == 0 &&
  !(nonZero b 0xA0 96) && !(nonZero b 0x1100 252) && leAt b 0x11FC 4 == crc32c (b.take 0x11FC) &&
  !((List.range 4).any (inputBad b)) && leAt b 0x13 1 != 0 && leAt b 0x33 1 == 0 &&
  !((List.range 8).any (fun g => nonZero b (0x52 + 8 * g) 6)) &&
  decide (64 ≤ u 0x90) && decide (u 0x90 ≤ 448) && u 0x90 % 16 == 0 && decide (10 ≤ u 0x92) && decide (u 0x92 ≤ 1000) &&
  decide (u 0x92 ≤ u 0x94) && decide (u 0x94 ≤ 10000) && decide (10 ≤ u 0x96) && decide (u 0x96 ≤ 1000) &&
  decide (10 ≤ u 0x98) && decide (u 0x98 ≤ 2000) && decide (1 ≤ leAt b 0x9A 1) && decide (leAt b 0x9A 1 ≤ 60) &&
  (List.range 5).all (fun j => decide (leAt b (0x9B + j) 1 ≤ 2)) &&
  !((List.range 8).any (fun k => (List.range 16).any (zoneBad b k)))

/-- Rook time in ns (R305). -/
def State.rookNow (s : State) : Nat := s.rook.osc / 10000

/-- One nanosecond of true time on ROOK_OSC: Rook time stays within 1 % of it (R305). -/
def RookState.count (r : RookState) (t : Nat) : RookState := { r with osc := r.osc + 9900 + Config.oscRate t % 201 }

/-- `d` ns of Rook time have passed since `t`. -/
def State.rookSince (s : State) (t d : Nat) : Bool := decide (t + d ≤ s.rookNow)

/-- Whether the channels of input i are filtered high: ESTOP 0, DOOR 1, CURTAIN 3. -/
def State.chanHigh (s : State) (i c : Nat) : Bool := s.rook.chan.getLsbD (2 * (if i = 3 then 2 else i) + c)

/-- Demand of an input (R310, R314). -/
def State.demand (s : State) (i : Nat) : Bool :=
  s.rinEn i && (if i = 2 then !s.rook.thSat else !(s.chanHigh i 0) || !(s.chanHigh i 1))

/-- Rook's state. -/
def State.rookSt (s : State) : Nat := s.fld F.rookStatSTATE

/-- ROOK_CAUSEg. -/
def State.causes (s : State) (g : Nat) : BitVec 12 := BitVec.ofNat 12 (s.fld (F.rookCauseCAUSE.at (8 * g)))

/-- The restart mode of a latched cause (R308): 0 AUTO, 1 MANUAL_PANEL, 2 MANUAL_ANY; EXPIRED has none. -/
def State.causeMode (s : State) (b : Nat) : Nat :=
  match b with
  | 3 => s.rinMode 0 | 4 => s.rinMode 1 | 5 => s.rinMode 3
  | 6 => s.rp 0x9B 1 | 7 => s.rp 0x9C 1 | 8 => s.rp 0x9D 1 | 9 => s.rp 0x9F 1 | 10 => s.rp 0x9E 1
  | _ => 3

/-- DIAG's lines to Rook (R262, R264, R265): bit k while group k holds a stuck-on entry inside a keep-out zone, bit 8 while
the stuck-on list overflows. They are clamped to 0 while PD_PIX is off or retained (R410). -/
def State.stuckLines (s : State) : BitVec 9 :=
  if s.pwr.domsOff.contains 0 then 0 else BitVec.ofNat 9 (s.diag.stk.foldl (fun m e => if e.2.2 then m ||| 2 ^ (e.2.1 / 12288 / 32) else m) (256 * s.fld F.diagStatOVF))

/-- Whether the condition of a latched cause of group g has ended (R308). -/
def State.causeEnded (s : State) (g b : Nat) : Bool :=
  match b with
  | 3 => !(s.demand 0) | 4 => !(s.demand 1) | 5 => !(s.demand 3)
  | 6 => !(s.rook.zoneHot.getLsbD g)
  | 7 => (SMap.get s.rook.stuckBy g 0 &&& s.stuckLines) == 0
  | 8 => (List.range 4).all (fun i => decide (SMap.get s.rook.misses (4 * g + i) 0 < 64))
  | 9 => !s.rook.cartAbsent
  | 10 => s.rook.ran
  | _ => false

/-- Log an event, keeping the 256 most recent (R340). -/
def rlog (kind groups input : Nat) (s : State) : State :=
  let l := s.rook.log ++ [⟨s.gt, kind, groups, input, s.rookSt⟩]
  modRook (fun r => { r with log := l.drop (l.length - 256) }) s

/-- Write ROOK_CAUSEg. -/
def putCause (g : Nat) (c : BitVec 12) (s : State) : State :=
  if s.causes g = c then s else intr 623 (setFld (F.rookCauseCAUSE.at (8 * g)) c.toNat s)

/-- Set a latched cause in the groups of a mask. -/
def latchCause (gs : BitVec 8) (b : Nat) (s : State) : State :=
  forN 8 (fun g s => if gs.getLsbD g then putCause g (s.causes g ||| BitVec.ofNat 12 (1 <<< b)) s else s) s

/-- Whether some named group does not yet hold a cause. -/
def State.newCause (s : State) (gs : BitVec 8) (b : Nat) : Bool := (List.range 8).any (fun g => gs.getLsbD g && !((s.causes g).getLsbD b))

/-- A restart (R308): in the groups named, every latched cause whose condition has ended and whose mode is one of `ms`
clears. -/
def restart (gs : BitVec 8) (ms : List Nat) (s : State) : State :=
  forN 8 (fun g s =>
    if gs.getLsbD g then
      forN 8 (fun j s =>
        let b := j + 3
        if (s.causes g).getLsbD b && ms.contains (s.causeMode b) && s.causeEnded g b then
          let s := putCause g (s.causes g &&& ~~~(BitVec.ofNat 12 (1 <<< b))) s
          if b = 7 then modRook (fun r => { r with stuckBy := SMap.erase r.stuckBy g }) s else s
        else s) s
    else s) s

/-- The live causes 0–2 of a group (R307). -/
def State.liveCauses (s : State) (g : Nat) : BitVec 12 :=
  BitVec.ofNat 12 (b2n (!(s.rook.req.getLsbD g)) + 2 * b2n (s.rook.railBad.getLsbD g) +
    4 * b2n (s.rinEn 2 && (s.rinGroups 2).getLsbD g && !s.rook.thSat))

/-- ROOK_IN and the FLT_RAW conditions of Table: Rook fault events. -/
def showRook (s : State) : State :=
  let dem := (List.range 4).foldl (fun m i => m + b2n (s.demand i) * 2 ^ i) 0
  let flt := (List.range 4).foldl (fun m i => m + b2n (s.rook.faults.any (fun f => match f with
    | .disc j => j == i | .chan j _ => j == i | .pair _ => i == 2 | .switch _ _ => false)) * 2 ^ i) 0
  let chg : Bool := s.fld F.rookInDEMAND != dem || s.fld F.rookInFAULT != flt || s.flag F.rookInTHSAT != s.rook.thSat
  let s := s |> setFld F.rookInDEMAND dem |> setFld F.rookInFAULT flt |> setFlag F.rookInTHSAT s.rook.thSat
  let s := if chg then intr 624 s else s
  let any := fun (b : Nat) => (List.range 8).any (fun g => (s.causes g).getLsbD b)
  let raw := b2n (flt != 0) * 8 + b2n (s.rook.faults.any (fun f => match f with | .switch _ _ => true | _ => false)) * 16 +
    b2n (any 6) * 32 + b2n (any 7) * 64 + b2n (s.rookSt == 2) * 512 + b2n (s.rookSt == 3) * 1024 + b2n (s.rookSt == 4) * 2048 +
    b2n (s.flag F.rookStatDEFAULT) * 4096 + b2n s.rook.waiting * 8192 + b2n s.rook.sackStuck * 16384
  setFlt .rook { s.fltSet .rook with raw := ((s.fltSet .rook).raw &&& 7) ||| BitVec.ofNat 32 raw } s

/-- A stuck-on line of DIAG sets STUCK in the groups it governs (R328, R329). -/
def stuckSet (gs : BitVec 8) (line : Nat) (s : State) : State :=
  let new := s.newCause gs 7
  let s := latchCause gs 7 s
  let s := forN 8 (fun g s => if gs.getLsbD g then
    modRook (fun r => { r with stuckBy := SMap.put r.stuckBy g (SMap.get r.stuckBy g 0 ||| BitVec.ofNat 9 (1 <<< line)) }) s else s) s
  if new then raise .rook 6 { addr := line } s else s

/-- Zone z of the set in force, by set number. -/
def State.rzone (s : State) (k z : Nat) : Zone := zoneOf s.rblock k z

/-- Whether the set in force has an enabled KEEP_OUT zone. -/
def State.hasKeepOut (s : State) : Bool := (List.range 16).any (fun z => let e := s.rzone (s.fld F.rookStatZONESET) z; e.en && e.keepOut)

/-- The groups in which a line sets STUCK: its own, or every one with ZONE_COUPLED (R328); every one for the overflow line
while a KEEP_OUT zone is enabled, else none (R329). -/
def State.stuckGroups (s : State) (line : Nat) : BitVec 8 :=
  if line = 8 then (if s.hasKeepOut then 0xFF else 0) else if s.rp 8 4 % 2 = 1 then 0xFF else BitVec.ofNat 8 (1 <<< line)

/-- While lines are asserted, Rook sets STUCK (R328, R329). -/
def stuckHear (s : State) : State :=
  forN 9 (fun l s => if s.stuckLines.getLsbD l then stuckSet (s.stuckGroups l) l s else s) s

/-- Bring causes, demands and status up to date after an event: demands and DIAG's lines latch their causes, ended AUTO
causes clear. -/
def rookEval (s : State) : State :=
  let s := [(0, 3), (1, 4), (3, 5)].foldl (fun s e => if s.demand e.1 then latchCause (s.rinGroups e.1) e.2 s else s) s
  let s := stuckHear s
  let s := forN 8 (fun g s => putCause g ((s.causes g &&& 0xFF8) ||| s.liveCauses g) s) s
  showRook (restart 0xFF [0] s)

/-- Change of state: identifier 622. -/
def rookTo (st : Nat) (s : State) : State := intr 622 (rlog (10 + st) 0 255 (setFld F.rookStatSTATE st s))

/-- A group of switches, and a switch of it. -/
def State.rgroup (s : State) (g : Nat) : RGroup := SMap.get s.rook.groups g {}
def setGroup (g : Nat) (v : RGroup) (s : State) : State := modRook (fun r => { r with groups := SMap.put r.groups g v }) s
def RGroup.sw (v : RGroup) (hs : Bool) : RSwitch := if hs then v.hs else v.ls
def RGroup.put (v : RGroup) (hs : Bool) (w : RSwitch) : RGroup := if hs then { v with hs := w } else { v with ls := w }

/-- Drive a gate. -/
def RSwitch.drive (w : RSwitch) (on : Bool) (t : Nat) : RSwitch := if w.gate = on then w else { w with gate := on, since := t, testing := false }

/-- Turn a switch off; a test in progress is discarded, and made again after the next closing (R321). -/
def RSwitch.off (w : RSwitch) (t : Nat) : RSwitch := { w.drive false t with testing := false, redo := w.redo || w.testing }

/-- Both gates of a group off together (R315). -/
def groupOff (g : Nat) (s : State) : State :=
  let v := s.rgroup g
  setGroup g { v with hs := v.hs.off s.rookNow, ls := v.ls.off s.rookNow, opening := false } s

/-- Enter HALT (R336): a hardware path turns every gate off. -/
def rookHalt (s : State) : State :=
  if s.rookSt = 4 then s
  else showRook (raise .rook 11 {} (rookTo 4 (forN 8 groupOff s)))

/-- The input of a fault record, and the groups Endgame covers for it (R332). -/
def State.faultGroups (s : State) (f : RFault) : BitVec 8 :=
  match f with
  | .disc i => s.rinGroups i | .chan i _ => s.rinGroups i | .pair _ => s.rinGroups 2
  | .switch g _ => BitVec.ofNat 8 (1 <<< g)

/-- Whether a fault is of a source already recorded (R333): a discrepancy of an input and a channel fault of it are one
source, two channels are two. -/
def sameSource (rec : List RFault) (f : RFault) : Bool :=
  rec.contains f ||
  (match f with
   | .disc i => rec.any (fun r => match r with | .chan j _ => j == i | _ => false)
   | .chan i _ => rec.contains (.disc i) && !(rec.any (fun r => match r with | .chan j _ => j == i | _ => false))
   | _ => false)

/-- A single fault (R332, R333, R335): recorded and raised; the first in RUN starts Endgame, another source in ENDGAME
leads to LOCKOUT of every group. -/
def singleFault (f : RFault) (s : State) : State :=
  let same := sameSource s.rook.faults f
  let src := match f with | .switch _ _ => 4 | _ => 3
  let gs := s.faultGroups f
  let s := modRook (fun r => { r with faults := if r.faults.contains f then r.faults else r.faults ++ [f] }) s
  let s := raise .rook src { addr := gs.toNat } (rlog src gs.toNat 255 s)
  let s := if s.rookSt = 1 then
      modRook (fun r => { r with egStart := s.rookNow }) s |> setFld F.rookStatCAPPED gs.toNat |> rookTo 2 |> raise .rook 9 {}
    else if s.rookSt = 2 ∧ !same then
      setFld F.rookStatHELD 0xFF s |> rookTo 3 |> raise .rook 10 {}
    else s
  rookEval s

/-- Seconds of Endgame remaining. -/
def State.egLeft (s : State) : Nat := if s.rookSt = 2 then (s.rook.egStart + s.rp 0x9A 1 * 60000000000 - s.rookNow + 999999999) / 1000000000 else 0

/-- ENDGAME_EXPIRY (R333). -/
def endgameExpire (s : State) : State :=
  if s.rookSt = 2 ∧ s.rookSince s.rook.egStart (s.rp 0x9A 1 * 60000000000) then
    let gs := BitVec.ofNat 8 (s.fld F.rookStatCAPPED)
    latchCause gs 11 s |> setFld F.rookStatHELD gs.toNat |> rookTo 3 |> raise .rook 10 {} |> rookEval
  else s

/-- The power sequence asks Rook to open every group, or has stopped it (R337, R406). -/
def State.rookAsked (s : State) : Bool :=
  s.pwr.stopped.contains 1 ||
  (match s.pwr.seq with | some q => q.step == 1 && (q.dir == .enter || q.dir == .off) | none => false)

/-- The permit of a group (R307): in RUN, ENDGAME or LOCKOUT, not held, no cause, and no sleep asked by PWR (R337). -/
def State.permit (s : State) (g : Nat) : Bool :=
  (s.rookSt == 1 || s.rookSt == 2 || s.rookSt == 3) && !(bit (s.fld F.rookStatHELD) g) && s.causes g == 0 && !s.rookAsked

/-- Whether a group must open together: a cause other than FW and RAIL, held, or a state that opens it. -/
def State.mustOpen (s : State) (g : Nat) : Bool :=
  (s.causes g &&& 0xFFC) != 0 || bit (s.fld F.rookStatHELD) g || s.rookSt == 0 || s.rookSt == 4

/-- GROUP_CLOSE (R315): SWg_LS on. -/
def groupCloseAt (g : Nat) (s : State) : State :=
  let v := s.rgroup g
  if s.permit g ∧ !v.hs.gate ∧ !v.ls.gate ∧ !v.hs.testing ∧ !v.ls.testing then
    setGroup g { v with ls := v.ls.drive true s.rookNow, opening := false, stepAt := s.rookNow } s
  else s

/-- SWg_HS on 10 µs later. -/
def groupHsOn (g : Nat) (s : State) : State :=
  let v := s.rgroup g
  if s.permit g ∧ v.ls.gate ∧ !v.hs.gate ∧ !v.hs.testing ∧ !v.opening ∧ s.rookSince v.stepAt 10000 then
    setGroup g { v with hs := v.hs.drive true s.rookNow, closedAt := s.rookNow } s
  else s

/-- GROUP_SAFETY_OPEN. -/
def groupSafety (g : Nat) (s : State) : State := if s.mustOpen g then groupOff g s else s

/-- GROUP_ORDERLY_OPEN: FW or RAIL alone (or a sleep request) turns SWg_HS off first. -/
def groupOrderly (g : Nat) (s : State) : State :=
  let v := s.rgroup g
  if !(s.permit g) ∧ !(s.mustOpen g) ∧ !v.opening ∧ (v.hs.gate ∨ v.ls.gate ∨ v.hs.testing ∨ v.ls.testing) then
    setGroup g { v with hs := v.hs.off s.rookNow, opening := true, stepAt := s.rookNow } s
  else s

/-- SWg_LS off 10 µs later. -/
def groupLsOff (g : Nat) (s : State) : State :=
  let v := s.rgroup g
  if v.opening ∧ s.rookSince v.stepAt 10000 then
    setGroup g { v with ls := v.ls.off s.rookNow, opening := false } s
  else s

/-- SW_T_CLOSE or SW_T_OPEN in ns after a gate change (R315). -/
def State.swSettle (s : State) (on : Bool) : Nat := 1000 * (if on then s.rp 0x96 2 else s.rp 0x98 2)

/-- The instants at which Rook samples its pins lie 20 µs apart (R310); the last one. -/
def State.rookSample (s : State) : Nat := s.rookNow / 20000

/-- A readback is wrong at its last two samples (R316): it and the gate have stood since the earlier one, outside the settling
time of the gate's change. -/
def State.rbWrong (s : State) (w : RSwitch) : Bool :=
  w.rb != w.gate && !w.testing && decide (1 ≤ s.rookSample) && decide (w.rbAt ≤ 20000 * (s.rookSample - 1)) &&
    decide (w.since + s.swSettle w.gate ≤ 20000 * (s.rookSample - 1))

/-- SWITCH_FAULT (R316). -/
def switchFaultAt (g : Nat) (hs : Bool) (s : State) : State :=
  if s.rbWrong ((s.rgroup g).sw hs) then singleFault (.switch g hs) s else s

/-- Whether every gate is off. -/
def State.allOff (s : State) : Bool :=
  (List.range 8).all (fun g => let v := s.rgroup g; !v.hs.gate && !v.ls.gate && !v.hs.testing && !v.ls.testing)

/-- READBACK_CHANGE (R275, R316): SW_CLOSED is both readbacks high. -/
def readbackAt (g : Nat) (hs level : Bool) (s : State) : State :=
  let v := s.rgroup g
  let v' := v.put hs { v.sw hs with rb := level, rbAt := if (v.sw hs).rb = level then (v.sw hs).rbAt else s.rookNow }
  let on := v'.hs.rb && v'.ls.rb
  let s := setGroup g v' s
  if (s.swLine g).on = on then s
  else intr 623 (setFld F.rookStatCLOSED (setBit (s.fld F.rookStatCLOSED) g on) { s with swc := SMap.put s.swc g ⟨on, s.now⟩ })

/-- The instant at which the test of a switch falls due (R320): TEST_INTERVAL after its last passing test or the group's last
closing; a discarded test, at the closing (R321). -/
def State.testDueAt (s : State) (g : Nat) (hs : Bool) : Nat :=
  let v := s.rgroup g
  if (v.sw hs).redo then v.closedAt else max (v.sw hs).passed v.closedAt + s.rp 0x92 2 * 1000000

/-- A group whose test has fallen due: the switch to test, the one not tested last if both are due. -/
def State.testDue (s : State) (g : Nat) : Option Bool :=
  let v := s.rgroup g
  let due := fun (hs : Bool) => s.rookSince (s.testDueAt g hs) 0
  if !(v.hs.gate && v.ls.gate) then none
  else if due (!v.lastHs) then some (!v.lastHs) else if due v.lastHs then some v.lastHs else none

/-- A switch of a closed group is overdue for its test (R322). -/
def State.testOverdue (s : State) (g : Nat) (hs : Bool) : Bool :=
  let v := s.rgroup g
  v.hs.gate && v.ls.gate && s.rookSince (max (v.sw hs).passed v.closedAt) (s.rp 0x94 2 * 1000000)

/-- TEST_FORCED (R322): an overdue switch asks for a forced refresh. -/
def testForcedAt (g : Nat) (s : State) : State :=
  if (s.testOverdue g true ∨ s.testOverdue g false) ∧ SMap.get s.rook.forced g 0 = 0 then
    modRook (fun r => { r with forced := SMap.put r.forced g 1 }) (raise .rook 8 { addr := g } s)
  else s

/-- A refresh start: a forced refresh asked for begins, the one that ran ends (R322). -/
def forcedStep (s : State) : State :=
  forN 8 (fun g s => match SMap.get s.rook.forced g 0 with
    | 1 => modRook (fun r => { r with forced := SMap.put r.forced g 2, forcedAt := SMap.put r.forcedAt g s.now }) s
    | 2 => modRook (fun r => { r with forced := SMap.erase r.forced g }) s
    | _ => s) s

/-- The Rook ceiling of a group (R331). -/
def State.rookCeil (s : State) (g : Nat) : Nat :=
  if SMap.get s.rook.forced g 0 = 2 then 0
  else if bit (s.fld F.rookStatCAPPED) g then s.rp (0x50 + 8 * g) 2 else 0xFFFF

/-- The progress of a full cycle of an input (R334). -/
def RInput.changed (v : RInput) (a b : Bool) (t disc : Nat) : RInput :=
  if a ≠ b then { v with differ := some (v.differ.getD t) }
  else
    let late := match v.differ with | some d => decide (disc < t - d) | none => false
    { differ := none, cycle := if late then 0 else if !a then 1 else if v.cycle = 1 then 2 else v.cycle }

/-- The instant at which the latest test pulse of a source began, if one has (R311): every 10 ms of Rook time, TPO_B 5 ms after
TPO_A. -/
def State.tpoAt (t src : Nat) : Option Nat :=
  if t < 5000000 * src then none else some (5000000 * src + (t - 5000000 * src) / 10000000 * 10000000)

/-- Level of a TPO pin: low for 200 µs from the start of a pulse. -/
def State.tpo (s : State) (src : Nat) : Bool :=
  match State.tpoAt s.rookNow src with | some p => decide (p + 200000 ≤ s.rookNow) | none => true

/-- A sample lies in the exclusion window of a source: from the start of a pulse to 100 µs after its end. -/
def excluded (t src : Nat) : Bool :=
  match State.tpoAt t src with | some p => decide (t ≤ p + 300000) | none => false

/-- The samples that count of a list, newest first, each taken 20 µs before the one ahead of it: the excluded ones neither
count toward a run nor break one. -/
def State.counted {α : Type} (s : State) (skip : Nat → Bool) (l : List α) : List α :=
  (l.take (s.rookSample + 1)).zipIdx.filterMap (fun e => if skip (20000 * (s.rookSample - e.2)) then none else some e.1)

/-- A run of `ns` of consecutive samples (R310) of which every one satisfies a condition. -/
def State.sampleRun {α : Type} (s : State) (skip : Nat → Bool) (ns : Nat) (l : List α) (ok : α → Bool) : Bool :=
  let r := (s.counted skip l).take (ns / 20000)
  decide (ns / 20000 ≤ r.length) && r.all ok

/-- FILT of input i in ns. -/
def State.rinFilt (s : State) (i : Nat) : Nat := s.rp (0x12 + 16 * i) 1 * 100000

/-- The input of a channel: 0 and 1 ESTOP, 2 and 3 DOOR, 4 and 5 CURTAIN. -/
def chanInput (ch : Nat) : Nat := if ch / 2 = 2 then 3 else ch / 2

/-- A channel's filtered state changes. -/
def chanSet (ch : Nat) (high : Bool) (s : State) : State :=
  let i := chanInput ch
  let c := BitVec.ofNat 6 (setBit s.rook.chan.toNat ch high)
  let s := modRook (fun r => { r with chan := c }) s
  let v := SMap.get s.rook.inputs i {}
  rookEval (modRook (fun r => { r with inputs := SMap.put r.inputs i (v.changed (s.chanHigh i 0) (s.chanHigh i 1) s.rookNow (s.rinDisc i)) }) s)

/-- INPUT_FILTER_CHANGE (R310): after FILT of consecutive samples at the new level; CURTAIN has no test pulses (R313). -/
def filterChange (ch : Nat) (high : Bool) (samples : List Bool) (s : State) : State :=
  let i := chanInput ch
  let skip := fun (t : Nat) => i != 3 && excluded t (ch % 2)
  if s.rook.chan.getLsbD ch = high ∨ !(s.sampleRun skip (s.rinFilt i) samples (fun b => b == high)) then s else chanSet ch high s

/-- The channels that TPO pins feed: bits 0 ESTOP_A, 1 DOOR_A, 2 TH_L_NO, 3 TH_R_NO from TPO_A; 5–8 their counterparts
from TPO_B. -/
def tpoFed (src : Nat) : List Nat := if src = 0 then [0, 1, 2, 3] else [5, 6, 7, 8]

/-- Whether a fed channel belongs to an enabled input and is filtered high, with its input and fault. -/
def State.tpoChan (s : State) (j : Nat) : Bool × RFault :=
  let side := j / 5
  match j % 5 with
  | 0 => (s.rinEn 0 && s.chanHigh 0 side, .chan 0 side)
  | 1 => (s.rinEn 1 && s.chanHigh 1 side, .chan 1 side)
  | 2 => (s.rinEn 2 && ((SMap.get s.rook.hands 0 {}).act == (side == 0)), .chan 2 side)
  | _ => (s.rinEn 2 && ((SMap.get s.rook.hands 1 {}).act == (side == 0)), .chan 2 (2 + side))

/-- Test pulses of a source that have ended. -/
def State.pulsesEnded (s : State) (src : Nat) : Nat := (s.rookNow + 9800000 - 5000000 * src) / 10000000

/-- A channel that reads high inside two consecutive pulses of its source has a channel fault (R311). -/
def pulseJudge (src : Nat) (high : BitVec 10) (s : State) : State :=
  (tpoFed src).foldl (fun s j =>
    let c := s.tpoChan j
    let hi := high.getLsbD j && c.1
    let was := s.rook.pulseHigh.getLsbD j
    let s := modRook (fun r => { r with pulseHigh := BitVec.ofNat 10 (setBit r.pulseHigh.toNat j hi) }) s
    if hi && was then
      let s := match c.2 with
        | .chan i _ => modRook (fun r => { r with inputs := SMap.put r.inputs i { SMap.get r.inputs i {} with cycle := 0 } }) s
        | _ => s
      singleFault c.2 s
    else s) s

/-- TPO_PULSE (R311): the end of a test pulse, each once; `high` is what the channels read from 100 µs after its start to its
end. Where the pulse before went unjudged, none is consecutive. -/
def tpoPulseAt (src : Nat) (high : BitVec 10) (s : State) : State :=
  let n := s.pulsesEnded src
  let last := SMap.get s.rook.pulses src 0
  if n ≤ last then s
  else
    let mine := (tpoFed src).foldl (fun m j => m + 2 ^ j) 0
    let s := if n = last + 1 then s else modRook (fun r => { r with pulseHigh := r.pulseHigh &&& ~~~(BitVec.ofNat 10 mine) }) s
    pulseJudge src high (modRook (fun r => { r with pulses := SMap.put r.pulses src n }) s)

/-- DISCREPANCY (R312): the channels of an enabled input have differed for DISC. -/
def discrepancyAt (i : Nat) (s : State) : State :=
  match (SMap.get s.rook.inputs i {}).differ with
  | some t =>
    if s.rinEn i ∧ i ≠ 2 ∧ s.rookSince t (s.rinDisc i) then
      singleFault (.disc i) (modRook (fun r => { r with inputs := SMap.put r.inputs i { differ := some t, cycle := 0 } }) s)
    else s
  | none => s

/-- A hand, and its change. -/
def State.hand (s : State) (h : Nat) : RHand := SMap.get s.rook.hands h {}
def setHand (h : Nat) (v : RHand) (s : State) : State := modRook (fun r => { r with hands := SMap.put r.hands h v }) s

/-- A run of `ns` of samples (NO, NC) of a hand's pair, skipping those that a test pulse excludes: TPO_A feeds NO, TPO_B feeds
NC. -/
def State.pairRan (s : State) (ns : Nat) (l : List (Bool × Bool)) (ok : Bool → Bool → Bool) : Bool :=
  s.sampleRun (fun t => excluded t 0 || excluded t 1) ns l (fun e => ok e.1 e.2)

/-- Synchronism (Table: Two-hand evaluation): the second hand within 500 ms of the first; after any end of satisfaction
a new first actuation counts only once both hands have been released. -/
def handActed (h : Nat) (s : State) : State :=
  let v := s.hand h
  if v.act then s
  else
    let s := setHand h { v with act := true, since := s.rookNow, bad := false, acted := true, released := false } s
    let o := s.hand (1 - h)
    let s := if s.rook.thBlocked then s
      else if !o.act then modRook (fun r => { r with thFirst := some s.rookNow }) s
      else match s.rook.thFirst with
        | some t => if s.rookNow - t ≤ 500000000 then modRook (fun r => { r with thSat := true }) s else modRook (fun r => { r with thBlocked := true }) s
        | none => modRook (fun r => { r with thBlocked := true }) s
    rookEval s

/-- A hand released (or counted as released by a pair fault). -/
def handGone (h : Nat) (bad : Bool) (s : State) : State :=
  let v := s.hand h
  let s := setHand h { v with act := false, bad := bad, released := v.acted || v.released } s
  let was := s.rook.thSat
  let both := !(s.hand 0).act && !(s.hand 1).act
  modRook (fun r => { r with thSat := false, thFirst := none, thBlocked := if both then false else (r.thBlocked || was || r.thFirst.isSome) }) s

/-- HAND_ACTUATED: NO high and NC low for FILT. -/
def handActuatedAt (h : Nat) (samples : List (Bool × Bool)) (s : State) : State :=
  if s.pairRan (s.rinFilt 2) samples (fun no nc => no && !nc) then handActed h s else s

/-- HAND_RELEASED: NO low and NC high for 1 ms. -/
def handFreed (h : Nat) (samples : List (Bool × Bool)) (s : State) : State :=
  if s.pairRan 1000000 samples (fun no nc => !no && nc) then rookEval (handGone h false s) else s

/-- PAIR_FAULT: NO equal to NC for 25 ms; the hand counts as released, an INPUT_FAULT of TWOHAND. -/
def pairFaultAt (h : Nat) (samples : List (Bool × Bool)) (s : State) : State :=
  if s.rinEn 2 ∧ s.pairRan 25000000 samples (fun no nc => no == nc) then
    let s := handGone h true s
    let s := forN 2 (fun k s => setHand k { s.hand k with acted := false, released := false } s) s
    singleFault (.pair h) s
  else s

/-- Whether the condition of a recorded fault is absent (R334). -/
def State.faultAbsent (s : State) (f : RFault) : Bool :=
  match f with
  | .disc i => (SMap.get s.rook.inputs i {}).cycle == 2
  | .chan 2 _ => !(s.hand 0).bad && !(s.hand 1).bad && (s.hand 0).released && (s.hand 1).released
  | .chan i _ => (SMap.get s.rook.inputs i {}).cycle == 2
  | .pair _ => !(s.hand 0).bad && !(s.hand 1).bad && (s.hand 0).released && (s.hand 1).released
  | .switch _ _ => (List.range 8).all (fun g =>
      let v := s.rgroup g
      v.hs.rb == v.hs.gate && v.ls.rb == v.ls.gate && v.hs.fails == 0 && v.ls.fails == 0)

/-- A service acknowledge (R334): accepted in ENDGAME and LOCKOUT when every recorded fault's condition is absent. -/
def serviceAck (s : State) : State :=
  if s.rookSt = 2 ∨ s.rookSt = 3 then
    if s.rook.faults.all (fun f => s.faultAbsent f) then
      let s := forN 8 (fun g s => putCause g (s.causes g &&& 0x7FF) s) s
      modRook (fun r => { r with faults := [] }) s |> setFld F.rookStatCAPPED 0 |> setFld F.rookStatHELD 0 |> rookTo 1 |> rookEval
    else rlog 1 0 255 s
  else s

/-- SACK_RELEASE (R309): the action by the time SACK_N was held low, in µs of Rook time. -/
def sackAt (held : Nat) (s : State) : State :=
  let s := modRook (fun r => { r with sackUp := s.rookNow }) s
  if s.rook.sackStuck then s
  else if held < 100000 then s
  else if held ≤ 2000000 then rookEval (restart 0xFF [1, 2] s)
  else if held < 5000000 then s
  else if held ≤ 10000000 then serviceAck s
  else showRook (raise .rook 14 {} (modRook (fun r => { r with sackStuck := true }) s))

/-- SACK_REARM: heard again once it has read high for 1 s since its last release. -/
def sackRearmAt (s : State) : State :=
  if s.rook.sackStuck ∧ s.rookSince s.rook.sackUp 1000000000 then showRook (modRook (fun r => { r with sackStuck := false }) s) else s

/-- RAIL_OK_CHANGE (R317): the line of the group as the rails give it. -/
def railOkAt (g : Nat) (s : State) : State :=
  if s.railOk g then
    if (SMap.find s.rook.railSince g).isSome then s else modRook (fun r => { r with railSince := SMap.put r.railSince g s.rookNow }) s
  else rookEval (modRook (fun r => { r with railBad := r.railBad ||| BitVec.ofNat 8 (1 <<< g), railSince := SMap.erase r.railSince g }) s)

/-- RAIL_CAUSE_CLEAR: RAIL_OK has been 1 for 1 ms. -/
def railClear (g : Nat) (s : State) : State :=
  match SMap.find s.rook.railSince g with
  | some t =>
    if s.railOk g ∧ s.rookSince t 1000000 then rookEval (modRook (fun r => { r with railBad := r.railBad &&& ~~~(BitVec.ofNat 8 (1 <<< g)) }) s)
    else s
  | none => s

/-- ROOK_CART_DETECT (R318): CART_DET_N has read high for 1 ms, or low for 100 ms, of consecutive samples; the pin counts as
absent until then. -/
def rookCart (present : Bool) (samples : Nat) (s : State) : State :=
  if samples < (if present then 5000 else 50) then s else
  let s := modRook (fun r => { r with cartAbsent := !present }) s
  rookEval (if present then s else latchCause 0xFF 9 s)

/-- STUCK_LINE_ASSERT, STUCK_LINE_DEASSERT and STUCK_OVF_LINE (R328, R329): Rook hears the level at which DIAG drives a line.
DIAG's own events have Rook hear it at once, so that a command finds nothing left to do but in a state that no run reaches. -/
def stuckLine (k : Nat) (s : State) : State := if s.stuckLines.getLsbD k then rookEval s else s
def stuckLineEnd (k : Nat) (s : State) : State := if s.stuckLines.getLsbD k then s else rookEval s

/-- PARAM_DIGEST registers. -/
def showDigest (s : State) : State :=
  let d := beBytes 48 (Config.sha384 s.rblock).toNat
  forN 6 (fun i s => setFld (F.rookDigestD.at (8 * i)) (leAt d (8 * i) 8) s) s

/-- Adopt a parameter block (R327, R338): zone set 0 is in force. -/
def adoptBlock (b : List Byte) (s : State) : State :=
  modRook (fun r => { r with block := b, zoneArmed := [], portSet := [], bins := [] }) s |> setFlag F.rookStatDEFAULT (b == []) |>
    setFld F.rookStatZONESET 0 |> showDigest

/-- Rook enters RUN from INIT: the condition of POWERUP ends (R308). -/
def rookRun (s : State) : State := rookEval (rookTo 1 (modRook (fun r => { r with waiting := false, ran := true }) s))

/-- ROOK_INIT_COMPLETE (R338, R339). -/
def rookInitDone (t : RookInit) (s : State) : State :=
  if s.rookSt ≠ 0 ∨ s.rook.waiting ∨ s.pwr.domsOff.contains 8 ∨ s.pwr.st = .off then s
  else if !t.selfTest then rookHalt s
  else
    let s := setFlag F.rookStatLOCKED s.rook.lock.isSome s
    match s.rook.stored, s.rook.lock with
    | none, _ => rookRun (raise .rook 12 {} (adoptBlock [] s))
    | some b, none => if t.blockOk then rookRun (adoptBlock b s) else rookRun (raise .rook 12 {} (adoptBlock [] s))
    | some b, some _ =>
      if t.blockOk then rookRun (adoptBlock b s)
      else showRook (raise .rook 13 {} (modRook (fun r => { r with waiting := true, lock := if t.lockOk then r.lock else none, stored := none }) s))

/-- ROOK_POWER_ON (R304): Rook starts in INIT; its MRAM copies, and the levels of its readbacks, stay. -/
def rookPowerOnAt (s : State) : State :=
  let r := s.rook
  let gs := r.groups.map (fun e => (e.1, { hs := { rb := e.2.hs.rb }, ls := { rb := e.2.ls.rb } : RGroup }))
  let s := modRook (fun _ => { stored := r.stored, lock := r.lock, groups := gs }) s
  let s := forN 8 (fun g s => putCause g 0x401 s) s
  s |> setFld F.rookStatSTATE 0 |> setFld F.rookStatCAPPED 0 |> setFld F.rookStatHELD 0 |> setFlag F.rookStatLOCKED false |>
    setFlag F.rookStatDEFAULT false |> setFld F.rookStatZONESET 0 |> setFld F.rookResSTATE 0 |> setFld F.rookResRESULT 0 |>
    setFld F.rookResSEQ 0 |> setFld F.rookAddrADDR 0 |> forN 6 (fun i s => setFld (F.rookDigestD.at (8 * i)) 0 s) |> intr 622 |>
    stuckHear |> showRook

end Sys2Proof.Machine
end

