-- ==== Sys2Proof/Machine/Scan.lean ====
section
/-! DEFINITION. Tile engines (R191–R223): refreshes, scan programs, row order, the ON8·I4 encoding, audit pulses and
borrowing (R259, R260), blanking and refusals. -/

namespace Sys2Proof.Machine

/-- A field of tile engine n. -/
def Fld.te (f : Fld) (n : Nat) : Fld := f.at (n * 0x10000)

/-- A tile engine. -/
def State.teSt (s : State) (n : Nat) : TeState := SMap.get s.te n {}

/-- Replace a tile engine. -/
def setTe (n : Nat) (v : TeState) (s : State) : State := { s with te := SMap.put s.te n v }

/-- The class rate in Hz of a REFRESH code. -/
def classHz (c : Nat) : Nat := if c = 0 then 1920 else if c = 1 then 3840 else 7680

/-- Refreshes per content frame (R195). -/
def refreshes (cls period : Nat) : Nat := (classHz cls * period + 65536 * 1000000) / (65536 * 1000000000)

/-- M in force. -/
def State.scanM (s : State) : Nat := refreshes s.scan.cls (s.inF F.ptpFramePeriodPERIOD)

/-- The largest power of two not above min (M, 128) (R198). -/
def ditherLen (m : Nat) : Nat := ([1, 2, 4, 8, 16, 32, 64, 128].filter (fun x => decide (x ≤ min m 128))).foldl max 1

/-- Start of frame n for its refreshes, in ns of GT: in a frame in which a step was applied, the refreshes keep their
spacing in true time (R359). -/
def State.frameBase (s : State) (n : Nat) : Nat :=
  match s.tl.base with
  | some b => if b.1 = n then b.2.toNat else s.frameStart n
  | none => s.frameStart n

/-- RSTART (R196), in ns of GT. -/
def State.rstart (s : State) (n k : Nat) : Nat := s.frameBase n + k * s.inF F.ptpFramePeriodPERIOD / (65536 * s.scanM)

/-- Whether refreshes of a frame may run past k = M − 1 (R359). -/
def State.stretched (s : State) (n : Nat) : Bool := match s.tl.base with | some b => b.1 == n | none => false

/-- SLOT_CYC (R197) at a rate code. -/
def State.slotCyc (s : State) (rate : Nat) : Nat :=
  s.inF F.ptpFramePeriodPERIOD * 4 * 10000 / (65536 * 64 * s.scanM * tcyc4 rate * (10000 + s.spread))

/-- GAPC (R197) of a parameter set of engine n at a rate code. -/
def State.gapc (s : State) (n pset rate : Nat) : Nat := ceilDiv (16 * s.inF ((F.tePsetGAP4.te n).at (8 * pset))) (tcyc4 rate)

/-- Entry x of the order table of engine n, from a register file. -/
def orderAt (m : RegFile) (n x : Nat) : Nat := SMap.get m ((0x21000000 + n * 0x10000 + 0x100 + 8 * (x / 8)) * 64 + 8 * (x % 8)) x

/-- The row that a LINE without EXPL drives (R199). -/
def State.orderRow (s : State) (n i rc : Nat) : Nat :=
  (orderAt s.inForce n ((i + s.inF (F.teScramROT.te n) * rc) % 64)) ^^^ (if rc % 2 = 1 then s.inF (F.teScramXMASK.te n) else 0)

/-- The program word at an address, in force. -/
def State.progWord (s : State) (n w : Nat) : Nat := s.inF ((F.teProgINSN.te n).at (4 * w))

/-- Reverse the low b bits of a number. -/
def bitrev (b x : Nat) : Nat := (List.range b).foldl (fun a i => a + (if bit x i then 2 ^ (b - 1 - i) else 0)) 0

/-- The encoding of R210: (ON, step). -/
def encodeOn (y ceil ld rc : Nat) (ifix : Bool) (istep : Nat) : Nat × Nat :=
  let yc := min y ceil
  let st := if ifix then istep else (16 * yc + 65534) / 65535 - 1
  let qb := min ((32 * yc * ld + 257 * (st + 1)) / (514 * (st + 1))) (255 * ld)
  let b := Nat.log2 ld
  (qb / ld + (if bitrev b (rc % ld) < qb % ld then 1 else 0), st)

/-- CEIL[g] as latched at the refresh start. -/
def State.ceilOf (s : State) (g : Nat) : Nat := s.fld (F.teCeilCEIL.at (8 * g))

/-- RC. -/
def State.rc (s : State) : Nat := s.fld F.teScanStatRC

/-- The mask bit of a subpixel (R257). -/
def State.maskBit (s : State) (q : Nat) : Bool :=
  let v := SMap.get s.diag.sub q {}
  v.st == 1 || v.st == 2 || v.fw

/-- Whether frame f is an audit frame of tile n (R259). -/
def State.auditFrame (s : State) (n f : Nat) : Bool :=
  s.inFlag F.diagCtrlEN && (f + 2048 - n) % 2 ^ s.inF F.diagCtrlAUDITLOG2 == 0

/-- The port of an engine runs at or above the class minimum (R218). -/
def State.portFast (s : State) (p : Nat) : Bool := s.portRun p && decide (s.scan.cls + 1 ≤ s.fld (F.epPstatRATE.at (p * 0x1000)))

/-- Slots of engine n are dark whatever it drives: R217, R218, EN 0, a block reset. -/
def State.forcedDark (s : State) (n : Nat) : Bool :=
  s.flag F.teScanStatBLANKED || !(s.portFast (n / 8)) || !(s.teActive n) || s.inReset (Blk.teN n)

/-- The eight subpixels of a frame-store word: their values, or none where the word has an uncorrectable error (R194). -/
def storeWord (n a : Nat) (s : State) : Option (List Nat) × State :=
  if s.ue.contains (a / 16) then
    let v := s.teSt n
    (none, if v.eccDone then s else raise (Blk.teN n) 6 { addr := a } (setTe n { v with eccDone := true } s))
  else
    let s := if s.ce.contains (a / 16) then reportCe { mstr := 255 } 1 a s else s
    (some ((List.range 8).map (fun i => leNat (s.bytes (a + 2 * i) 2))), s)

/-- The 64 values of a row of a primary, eight at a time; none marks a subpixel of a bad word. -/
def storeRow (n frame p yl : Nat) (s : State) : List (Option Nat) × State :=
  (List.range 8).foldl (fun a w =>
    let r := storeWord n (0x10000000 + n * 0xC000 + (frame % 2) * 0x6000 + 2 * (4096 * p + 64 * yl) + 16 * w) a.2
    (a.1 ++ (match r.1 with | some l => l.map some | none => List.replicate 8 none), r.2)) ([], s)

/-- One word after pulses and borrowing (R259, R260), with the subpixel's debt after it. -/
def auditWord (pulse : Bool) (on st debt : Nat) : Nat × Nat :=
  if pulse ∧ on ≤ 1 then (2 * 16 + st, 2 - on)
  else if 0 < debt ∧ 1 ≤ on then ((on - 1) * 16 + st, debt - 1)
  else (on * 16 + st, debt)

/-- The words of a row of tile n: column 3 × xl + p (R201). -/
def rowWords (n row : Nat) (word : Nat) (s : State) : List Nat × State :=
  let frame := s.tl.frame
  let ceil := s.ceilOf (n / 32)
  let ld := s.fld F.teScanStatLD
  let r := (List.range 3).foldl (fun a p => let x := storeRow n frame p row a.2; (a.1 ++ [x.1], x.2)) (([] : List (List (Option Nat))), s)
  let s := r.2
  let v := s.teSt n
  let sensed := bit word 16 && bits word 20 19 != 2
  let audit := s.auditFrame n frame && sensed && !(v.audited.contains row)
  let one := fun (a : List Nat × SMap Nat) (c : Nat) =>
    let p := c % 3
    let l := 4096 * p + 64 * row + c / 3
    match (r.1.getD p []).getD (c / 3) none with
    | none => (a.1 ++ [0], a.2)
    | some y =>
      let e := encodeOn y ceil ld s.rc (bit word 15) (bits word 14 11)
      let want := decide (0 < min y ceil) || (s.inFlag F.diagCtrlDARKAUDIT && !(s.maskBit (n * 12288 + l)))
      let w := auditWord (audit && want && decide (ceil ≠ 0)) e.1 e.2 (SMap.get a.2 l 0)
      (a.1 ++ [w.1], SMap.store a.2 l w.2 0)
  let o := (List.range 192).foldl one ([], v.debt)
  (o.1, setTe n { v with debt := o.2, debtFrame := if audit then frame else v.debtFrame,
                         audited := if audit then v.audited ++ [row] else v.audited } s)

/-- A slot filled and not yet sent goes dark. -/
def slotDark (n i : Nat) (s : State) : State := setTe n { s.teSt n with out := SMap.erase (s.teSt n).out i } s

/-- SLOT_MISS of a slot (R203, R223). -/
def slotMiss (n : Nat) (s : State) : State := raise (Blk.teN n) 3 {} (countMod (F.teStatSLOTMISS.te n) 1 s)

/-- An instruction other than LINE is reached (R203): the ninth before a LINE sends the pending slot dark, where one is
left in the refresh. -/
def otherInsn (n : Nat) (s : State) : State :=
  let v := s.teSt n
  if v.others < 8 then setTe n { v with others := v.others + 1 } s
  else if v.slot < 64 then slotMiss n (setTe n { v with others := 1, slot := v.slot + 1 } s)
  else s

/-- LINE (R199–R201, R205–R208): fill the next slot; with every slot used it waits for the refresh start. -/
def lineInsn (n word : Nat) (s : State) : State :=
  let v := s.teSt n
  if 64 ≤ v.slot then s
  else
    let expl := bit word 27
    let row := if expl then bits word 26 21 else s.orderRow n v.i s.rc
    let v1 := { v with pc := (v.pc + 1) % 128, i := if expl then v.i else v.i + 1, others := 0, slot := v.slot + 1 }
    if bits word 20 19 = 2 ∨ s.forcedDark n then setTe n v1 s
    else if v.rows.contains row then
      raise (Blk.teN n) 4 { addr := row } (countSat (F.teStatROWREPEAT.te n) 1 (setTe n v1 s))
    else
      let w := rowWords n row word (setTe n { v1 with rows := v.rows ++ [row] } s)
      let rate := s.fld (F.epPstatRATE.at (n / 8 * 0x1000))
      let pset := bits word 18 17
      let gap := s.gapc n pset rate
      let pkt : TePkt := { dark := false, row := row, kind := bits word 20 19, sense := bit word 16, pset := pset,
                           gapc := gap, lt := s.slotCyc rate - gap, words := w.1 }
      let u := w.2.teSt n
      setTe n { u with out := SMap.put u.out v.slot pkt } w.2

/-- Execute the word at pc of engine n if its opcode is `op` (R202, R205). -/
def scanStep (n op : Nat) (act : Nat → State → State) (s : State) : State :=
  let v := s.teSt n
  let w := s.progWord n v.pc
  if v.run ∧ bits w 31 28 = op ∧ s.teActive n ∧ !(s.inReset (Blk.teN n)) then act w s else s

/-- Move pc. -/
def scanPc (n pc : Nat) (s : State) : State := setTe n { s.teSt n with pc := pc % 128 } s

/-- LOOP: cC := (cC − 1) mod 256, and branch if it is not 0. -/
def loopInsn (n w : Nat) (s : State) : State :=
  let s := otherInsn n s
  let v := s.teSt n
  let c := ((if bit w 27 then v.c1 else v.c0) + 255) % 256
  scanPc n (if c ≠ 0 then bits w 26 20 else v.pc + 1) (setTe n (if bit w 27 then { v with c1 := c } else { v with c0 := c }) s)

/-- SETC. -/
def setcInsn (n w : Nat) (s : State) : State :=
  let s := otherInsn n s
  let v := s.teSt n
  scanPc n (v.pc + 1) (setTe n (if bit w 27 then { v with c1 := bits w 7 0 } else { v with c0 := bits w 7 0 }) s)

/-- JMP. -/
def jmpInsn (n w : Nat) (s : State) : State := scanPc n (bits w 27 21) (otherInsn n s)

/-- BRREF: branch on the refresh count. -/
def brrefInsn (n w : Nat) (s : State) : State :=
  scanPc n (if (s.rc &&& bits w 20 14) = bits w 13 7 then bits w 27 21 else (s.teSt n).pc + 1) (otherInsn n s)

/-- END: the remaining slots of the refresh are dark. -/
def endInsn (n : Nat) (s : State) : State :=
  let s := otherInsn n s
  setTe n { s.teSt n with run := false } s

/-- CEIL[g] is latched (R214): the smaller of the THM and Rook ceilings. -/
def latchCeil (s : State) : State :=
  forN 8 (fun g s =>
    let t := s.thmCeil g
    let r := s.rookCeil g
    s |> setFld (F.teCeilCEIL.at (8 * g)) (min t r) |> setFlag (F.teCeilTHM.at (8 * g)) (decide (t < 0xFFFF)) |>
      setFlag (F.teCeilROOK.at (8 * g)) (decide (r < 0xFFFF))) s

/-- One engine at a refresh start (R202, R204): a program not at END has overrun; the program starts at ENTRY. -/
def teRefresh (n : Nat) (s : State) : State :=
  let v := s.teSt n
  let s := if v.run then raise (Blk.teN n) 5 {} (countSat (F.teStatOVERRUN.te n) 1 s) else s
  let on := s.teActive n && !(s.inReset (Blk.teN n))
  setTe n { s.teSt n with run := on, pc := s.inF (F.teCtrlENTRY.te n), c0 := 0, c1 := 0, i := 0, others := 0, slot := 0,
                          rows := [], out := [] } s |>
    setFlag (F.teStatCEIL.te n) (decide (s.ceilOf (n / 32) < 0xFFFF)) |> whenB on (setFlag (F.teStatBUF.te n) (s.tl.frame % 2 == 1))

/-- A refresh begins: RC counts (R198). -/
def refreshBegin (frame k : Nat) (s : State) : State :=
  let s := countMod F.teScanStatRC 1 s
  let s := latchCeil (forcedStep { s with scan := { s.scan with last := some (frame, k) } })
  forN 256 teRefresh s

/-- REFRESH_START: refresh k of the displayed frame, not before its instant, once. -/
def refreshAt (k : Nat) (s : State) : State :=
  let n := s.tl.frame
  let fresh : Bool := match s.scan.last with | some l => l.1 != n || decide (l.2 < k) | none => true
  if s.tl.running ∧ (k < s.scanM ∨ s.stretched n) ∧ s.rstart n k < s.frameStart (n + 1) ∧ s.rstart n k ≤ s.gt ∧ fresh ∧ !(s.pwr.stopped.contains 3) then refreshBegin n k s else s

/-- Whether every port is ready at the class that governs (R218). -/
def State.portsReady (s : State) : Bool := (List.range 32).all (fun p => s.portFast p)

/-- A commit that targets frame f changes REFRESH (R217): the new class governs from f + 2. -/
def classChange (f : Nat) (s : State) : State := { s with scan := { s.scan with blankTo := some (f + 2) } }

/-- The class that a commit has brought governs at its boundary, frames or none (R217, R444). -/
def scanClass (n : Nat) (s : State) : State :=
  match s.scan.blankTo with
  | some t => if n < t then s else
      let c := s.inF F.teScanCfgREFRESH
      setFld F.teScanStatREFRESHF c { s with scan := { s.scan with cls := c } }
  | none => s

/-- The engines at FRAME_START(n): the swap (R192), the class and its blanking (R217, R218), debts dropped (R260). -/
def scanFrame (n : Nat) (s : State) : State :=
  let s := scanClass n s
  let s := match s.scan.blankTo with
    | none => s
    | some t =>
      if n < t then setFlag F.teScanStatBLANKED true s
      else
        if s.portsReady then setFlag F.teScanStatBLANKED false { s with scan := { s.scan with blankTo := none } }
        else raise (Blk.teN 0) 7 { addr := n } (setFlag F.teScanStatBLANKED true s)
  let m := s.scanM
  let s := s |> setFld F.teScanStatM m |> setFld F.teScanStatLD (ditherLen m) |> setFld F.teScanStatREFRESHF s.scan.cls |>
    setFld F.teScanStatSLOTCYC (s.slotCyc (s.inF F.epRateRATE))
  forN 256 (fun e s =>
    let v := s.teSt e
    let drop := v.debt.length ≠ 0 ∧ v.debtFrame + 2 ≤ n
    let s := if drop then countMod F.diagStatDEBTDROP v.debt.length s else s
    setTe e { v with debt := if drop then [] else v.debt, audited := [], eccDone := false } s |>
      (fun s => if s.teActive e then setFlag (F.teStatBUF.te e) (n % 2 == 1) s else s)) s

/-- A scan word is malformed (R206). -/
def wordBad (w : Nat) : Bool :=
  match bits w 31 28 with
  | 0 => bits w 27 0 != 0
  | 1 => bits w 10 0 != 0 || bits w 20 19 == 3 || (!(bit w 27) && bits w 26 21 != 0) || (!(bit w 15) && bits w 14 11 != 0)
  | 2 => bits w 19 0 != 0
  | 3 => bits w 26 8 != 0
  | 4 => bits w 20 0 != 0
  | 5 => bits w 6 0 != 0
  | _ => true

/-- Validation by one engine (R222). -/
def State.teCheck (s : State) (n : Nat) : Option Nat :=
  let ord := (List.range 64).map (orderAt s.staged n)
  if (List.range 128).any (fun w => wordBad (s.stg ((F.teProgINSN.te n).at (4 * w)))) then some 0x400
  else if !((List.range 64).all (fun r => ord.contains r)) then some 0x401
  else if (List.range 4).any (fun m =>
      let pre := s.stg ((F.tePsetPRE4.te n).at (8 * m))
      pre != 0 && decide (4 * s.stg ((F.tePsetGAP4.te n).at (8 * m)) < 4 * pre + 32)) then some 0x402
  else none

/-- Validation by TE (R216, R222): the code and the lowest engine that refuses. -/
def State.tesCheck (s : State) (withEp : Bool) : Option (Nat × Nat) :=
  match (List.range 256).find? (fun n => (s.teCheck n).isSome) with
  | some n => (s.teCheck n).map (fun c => (c, n))
  | none =>
    if s.stg F.teScanCfgREFRESH = s.inF F.teScanCfgREFRESH then none
    else if !withEp then some (0x403, 0)
    else if s.stg F.epRateRATE < s.stg F.teScanCfgREFRESH + 1 then some (0x404, 0)
    else none

/-- REFRESH_START. -/
def execRefreshStart (k : Fin 320) (s : State) : Host.Outcome State Fault Refusal := .next (refreshAt k.val s)
/-- LINE. -/
def execLine (n : Fin 256) (s : State) : Host.Outcome State Fault Refusal := .next (scanStep n.val 1 (lineInsn n.val) s)
/-- LOOP. -/
def execScanLoop (n : Fin 256) (s : State) : Host.Outcome State Fault Refusal := .next (scanStep n.val 2 (loopInsn n.val) s)
/-- SETC. -/
def execSetc (n : Fin 256) (s : State) : Host.Outcome State Fault Refusal := .next (scanStep n.val 3 (setcInsn n.val) s)
/-- JMP. -/
def execJmp (n : Fin 256) (s : State) : Host.Outcome State Fault Refusal := .next (scanStep n.val 4 (jmpInsn n.val) s)
/-- BRREF. -/
def execBrref (n : Fin 256) (s : State) : Host.Outcome State Fault Refusal := .next (scanStep n.val 5 (brrefInsn n.val) s)
/-- END. -/
def execScanEnd (n : Fin 256) (s : State) : Host.Outcome State Fault Refusal := .next (scanStep n.val 0 (fun _ => endInsn n.val) s)

end Sys2Proof.Machine
end

