-- ==== Sys2Proof/Machine/Diag.lean ====
section
/-! DEFINITION. DIAG (R253–R272): evidence, fault states, the stuck-on list and keep-out zones, the sweep, the fault map
and mask plane, event items, and the commands. -/

namespace Sys2Proof.Machine

/-- Change DIAG. -/
def modDiag (f : DiagState → DiagState) (s : State) : State := { s with diag := f s.diag }

/-- The state of a subpixel. -/
def State.sub (s : State) (q : Nat) : SubSt := SMap.get s.diag.sub q {}

/-- Replace the state of a subpixel. -/
def setSub (q : Nat) (v : SubSt) (s : State) : State := modDiag (fun d => { d with sub := SMap.store d.sub q v {} }) s

/-- Tile, primary and site of a subpixel index. -/
def subTile (q : Nat) : Nat := q / 12288
def subPrim (q : Nat) : Nat := q / 4096 % 3
def subYl (q : Nat) : Nat := q / 64 % 64
def subXl (q : Nat) : Nat := q % 64

/-- Whether a site lies in a keep-out zone in force for the displayed frame (R261). -/
def State.inKo (s : State) (q : Nat) : Bool :=
  let x := 64 * (subTile q % 16) + subXl q
  let y := 64 * (subTile q / 16) + subYl q
  s.diag.ko.any (fun r => decide (r.x0 ≤ x) && decide (x ≤ r.x1) && decide (r.y0 ≤ y) && decide (y ≤ r.y1))

/-- The upper half-word of a map entry (Table: Map entry). -/
def State.mapWord (s : State) (q : Nat) : Nat :=
  let v := s.sub q
  v.st * 0x2000 + b2n v.fw * 0x1000 + b2n (v.st == 3 && s.inKo q) * 0x800 + v.kind * 0x100 + v.run * 0x10

/-- The byte of the mask plane that holds a subpixel's mask bit (R267). -/
def State.maskByte (s : State) (q : Nat) : Nat :=
  (List.range 8).foldl (fun a i => a + b2n (s.maskBit (q / 8 * 8 + i)) * 2 ^ i) 0

/-- A write of the map or the mask plane; a fault raises MAP_FAULT and is not retried (R268). -/
def diagWrite (va : Nat) (l : List Byte) (s : State) : Bool × State :=
  let r := ioWrite { mstr := 255 } .rt false (s.fld F.mmuRtAsidASID) va l s
  match r.1 with
  | none => (true, r.2)
  | some e => (false, raise .diag 6 { addr := e.va, mstr := 255, typ := 2 } r.2)

/-- Write a subpixel's map entry, with its stamp where one is given, and its mask bit; where that fails, the next change or sweep
writes them again (R268). -/
def writeEntry (q : Nat) (stamp : Option Nat) (s : State) : Bool × State :=
  let va := s.fld F.diagMapVaVA + 4 * q
  let hi := leBytes 2 (s.mapWord q)
  let r := match stamp with
    | some t => diagWrite va (leBytes 2 t ++ hi) s
    | none => diagWrite (va + 2) hi s
  let m := diagWrite (r.2.fld F.diagMaskVaVA + q / 8) (leBytes 1 (r.2.maskByte q)) r.2
  let ok := r.1 && m.1
  (ok, modDiag (fun d => { d with dirty := if ok then d.dirty.filter (fun e => e != q) else insertN q d.dirty }) m.2)

/-- Push an event item (R269). -/
def diagEvent (q old new cause : Nat) (ko : Bool) (s : State) : State :=
  if s.flag F.diagEvqEN then
    let r := hwPush (s.fld F.diagEvqQUEUE)
      (leBytes 8 s.tl.frame ++ leBytes 4 q ++ [BitVec.ofNat 8 old, BitVec.ofNat 8 new, BitVec.ofNat 8 cause, BitVec.ofNat 8 (b2n ko)] ++
        List.replicate 40 0) s
    if r.1 then r.2 else raise .diag 7 {} (countMod F.diagStatEVQLOST 1 r.2)
  else s

/-- Show entry i of the stuck-on list in DIAG_STKi, and the group lines in DIAG_STAT. -/
def showStk (i : Nat) (s : State) : State :=
  let e := SMap.find s.diag.stk i
  let q := match e with | some v => v.1 | none => 0
  let ko : Bool := match e with | some v => v.2 | none => false
  let gs := s.diag.stk.foldl (fun m e => if e.2.2 then m ||| 2 ^ (subTile e.2.1 / 32) else m) 0
  s |> setFlag (F.diagStkVALID.at (4 * i)) e.isSome |> setFlag (F.diagStkKO.at (4 * i)) ko |>
    setFld (F.diagStkTILE.at (4 * i)) (subTile q) |> setFld (F.diagStkPRIM.at (4 * i)) (subPrim q) |>
    setFld (F.diagStkYL.at (4 * i)) (subYl q) |> setFld (F.diagStkXL.at (4 * i)) (subXl q) |> setFld F.diagStatGROUPS gs

/-- A subpixel enters STUCK_ON (R261–R263, R265): an entry inside a keep-out zone, or one that finds the list full, asserts a
line to Rook. -/
def stuckAdd (q : Nat) (s : State) : State :=
  let ko := s.inKo q
  let s := if ko then s else intr 279 s
  match (List.range 256).find? (fun i => (SMap.find s.diag.stk i).isNone) with
  | some i =>
    let s := showStk i (modDiag (fun d => { d with stk := SMap.put d.stk i (q, ko) }) s)
    if ko then rookEval (intr 278 (raise .diag 8 { addr := q } s)) else s
  | none => rookEval (raise .diag 9 { addr := q } (setFlag F.diagStatOVF true s))

/-- Subpixels in a state, of those that are not UNVERIFIED and unmasked. -/
def State.subCount (s : State) (st : Nat) : Nat := (s.diag.sub.filter (fun e => e.2.st == st)).length

/-- The overflow holds until 256 or fewer subpixels are STUCK_ON (R265); its line to Rook then falls. -/
def ovfCheck (s : State) : State :=
  if s.flag F.diagStatOVF ∧ s.subCount 3 ≤ 256 then
    rookEval (setFlag F.diagStatOVF false s)
  else s

/-- A subpixel leaves STUCK_ON by CLEAR: its entry is removed. -/
def stuckRemove (q : Nat) (s : State) : State :=
  let s := match s.diag.stk.find? (fun e => e.2.1 == q) with
    | some e => rookEval (showStk e.1 (modDiag (fun d => { d with stk := SMap.erase d.stk e.1 }) s))
    | none => s
  ovfCheck s

/-- A change of STATE (R255): the map is written and an event pushed; entering STUCK_ON joins the list. -/
def subTo (q new cause : Nat) (s : State) : Bool × State :=
  let old := s.sub q
  let s := setSub q { old with st := new } s
  let s := if new = 3 then stuckAdd q s else if old.st = 3 then stuckRemove q s else s
  let r := writeEntry q none s
  (r.1, diagEvent q old.st new cause (new == 3 && r.2.inKo q) r.2)

/-- The entry of a subpixel in the evidence table. -/
def State.evRun (s : State) (q : Nat) : Option EvRun := s.diag.table.find? (fun e => e.q == q)

/-- Count an item of LEAK, OPEN or SHORT in the evidence table (R255, R266): the run it makes, or nothing where it is
dropped. -/
def evCount (q kind : Nat) (s : State) : Option Nat × State :=
  match s.evRun q with
  | some e =>
    let n := if e.kind = kind then min (e.run + 1) 15 else 1
    (some n, modDiag (fun d => { d with table := d.table.map (fun x => if x.q = q then { x with kind := kind, run := n } else x) }) s)
  | none =>
    let add := fun (t : List EvRun) => modDiag (fun d => { d with table := t ++ [⟨q, kind, 1⟩] }) s
    if s.diag.table.length < 4096 then (some 1, add s.diag.table)
    else
      let drop := raise .diag 5 { addr := q } (countSat F.diagStatEVIDDROP 1 s)
      match (if kind = 3 then s.diag.table.find? (fun e => e.kind != 3) else none) with
      | some x => (some 1, add (s.diag.table.erase x))
      | none => (none, drop)

/-- DARK_OK and DRIVE_OK end any run of LEAK, OPEN or SHORT. -/
def evEnd (q : Nat) (s : State) : State := modDiag (fun d => { d with table := d.table.filter (fun e => e.q != q) }) s

/-- Note the kind of the last item and its run (Table: Map entry). -/
def evNote (q kind run : Nat) (s : State) : State := setSub q { s.sub q with kind := kind, run := run } s

/-- The confirmation count of a kind, in DIAG_THR. -/
def State.confirm (s : State) (kind : Nat) : Nat :=
  s.fld (if kind = 3 then F.diagThrSTUCKCONFIRM else if kind = 4 then F.diagThrOPENCONFIRM else F.diagThrSHORTCONFIRM)

/-- One item of evidence of a subpixel (R255, R256, R258): 1 DRIVE_OK, 2 DARK_OK, 3 LEAK, 4 OPEN, 5 SHORT. -/
def evidence (q kind : Nat) (s : State) : State :=
  let v := s.sub q
  if kind ≤ 2 then
    let s := evNote q kind (if v.kind = kind then min (v.run + 1) 15 else 1) (evEnd q s)
    if kind = 2 then s
    else
      let s := modDiag (fun d => { d with ver := SMap.put d.ver q true }) s
      if v.st = 4 then (subTo q 0 0 s).2 else s
  else
    let r := evCount q kind s
    match r.1 with
    | none => r.2
    | some n =>
      let s := evNote q kind n r.2
      if n < s.confirm kind then s
      else if kind = 3 then (if v.st = 3 then s else (subTo q 3 0 s).2)
      else if v.st = 0 ∨ v.st = 4 then (subTo q (if kind = 4 then 1 else 2) 0 s).2
      else s

/-- The kind of a code for an ON (Table: Sense codes): nothing for ON 1, 0 for a code that is not allowed. -/
def senseKind (on code : Nat) : Option Nat :=
  if on = 1 then none
  else if on = 0 then some (match code with | 0 => 2 | 1 => 3 | _ => 0)
  else some (match code with | 1 => 1 | 2 => 4 | 3 => 5 | _ => 0)

/-- One column of a sensed row (R254); in a reset shadow every code is tagged CONSEQUENTIAL and discarded. -/
def senseColumn (n row c on code : Nat) (dark : Bool) (s : State) : State :=
  match senseKind on code with
  | none => s
  | some 0 =>
    if dark then setFlt .diag (s.fltSet .diag).tag s
    else raise .diag 3 { addr := n, tile := some n } (countMod F.diagStatSENSEBAD 1 s)
  | some k => if dark then setFlt .diag (s.fltSet .diag).tag s else evidence (subIdx n (c % 3) row (c / 3)) k s

/-- Sense results of a valid RET of tile n for the packet it answers (R254). -/
def diagRet (n : Nat) (r : Ret) (pkt : TePkt) (s : State) : State :=
  if s.inReset .diag then s
  else if r.rowFault ∨ r.sinkFault then raise .diag 4 { addr := n, tile := some n } s
  else if s.inFlag F.diagCtrlEN ∧ s.fld F.corCartStatSTATE = 2 ∧ r.driven ∧ r.sensed ∧ !pkt.dark then
    let dark := s.shadowOf (Blk.epN (n / 8)) || (List.range 8).any (fun i => s.shadowOf (Blk.teN (n / 8 * 8 + i)))
    forN 192 (fun c s => senseColumn n pkt.row c (pkt.words.getD c 0 / 16) (r.codes.getD c 0).val dark s) s
  else s

/-- The keep-out rectangles of CMP's zones in force (R261), taken for the frame that becomes displayed. -/
def State.koZones (s : State) : List KoRect :=
  (List.range 16).filterMap (fun z =>
    let f := fun (x : Fld) => s.inF (x.at (16 * z))
    if f F.cmpZoneRectEN = 1 ∧ f F.cmpZoneRectKEEPOUT = 1 then
      some ⟨f F.cmpZoneRectX0, f F.cmpZoneRectY0, f F.cmpZoneRectX1, f F.cmpZoneRectY1⟩ else none)

/-- KO of every list entry is evaluated again, and Rook is told of each change (R262, R264). -/
def diagZones (ko : List KoRect) (s : State) : State :=
  let s := modDiag (fun d => { d with ko := ko }) s
  s.diag.stk.foldl (fun s e =>
    let on := s.inKo e.2.1
    if on = e.2.2 then s
    else
      let s := showStk e.1 (modDiag (fun d => { d with stk := SMap.put d.stk e.1 (e.2.1, on) }) s)
      let s := rookEval (if on then intr 278 (raise .diag 8 { addr := e.2.1 } s) else s)
      (writeEntry e.2.1 none s).2) s

/-- Frame number [19:4] (R258). -/
def State.stamp (s : State) : Nat := s.tl.frame / 16 % 65536

/-- One subpixel at the sweep (R258, R268). -/
def sweepOne (q : Nat) (s : State) : State :=
  let va := s.fld F.diagMapVaVA + 4 * q
  let r := ioRead { mstr := 255 } .rt false (s.fld F.mmuRtAsidASID) va 4 s
  match r.1 with
  | .error e => raise .diag 6 { addr := e.va, mstr := 255, typ := 1 } r.2
  | .ok l =>
    let s := r.2
    let v := leAt l 0 2
    if SMap.get s.diag.ver q false then
      let s := modDiag (fun d => { d with ver := SMap.erase d.ver q }) s
      if v = s.stamp ∧ !(s.diag.dirty.contains q) then s else (writeEntry q (some s.stamp) s).2
    else if (s.sub q).st = 0 ∧ s.inF F.diagCtrlAGEMAX < (s.stamp + 65536 - v) % 65536 then (subTo q 4 2 s).2
    else if s.diag.dirty.contains q then (writeEntry q none s).2
    else s

/-- DIAG_SWEEP: once in every 256 frames while evidence is taken. -/
def sweepAt (s : State) : State :=
  if s.inFlag F.diagCtrlEN ∧ s.tl.running ∧ s.diag.swept ≠ some (s.tl.frame / 256) ∧ !s.diag.sweeping ∧ !(s.inReset .diag) ∧
      !(s.pwr.stopped.contains 4) then
    forN 3145728 sweepOne (modDiag (fun d => { d with swept := some (s.tl.frame / 256), sweeping := true }) s)
  else s

/-- SWEEP_COMPLETE. -/
def sweepDone (s : State) : State := if s.diag.sweeping then intr 280 (modDiag (fun d => { d with sweeping := false }) s) else s

/-- A command of DIAG (R271): refused while one is BUSY; its result stands when it completes. -/
def diagCommand (act : State → Nat × State) (init : Bool) (s : State) : State :=
  if s.inReset .diag then s
  else if s.fld F.diagCmdSTATE = 1 then raise .diag 1 { addr := 0x20300028, mstr := 255, typ := 2 } s
  else
    let r := act s
    setFld F.diagCmdSTATE 1 (modDiag (fun d => { d with busy := some (r.1, init) }) r.2)

/-- MASK, UNMASK and CLEAR of a subpixel (R255, R256). -/
def diagSub (n p yl xl : Nat) (act : SubSt → Option SubSt) (s : State) : Nat × State :=
  if p = 3 then (1, s)
  else
    let q := subIdx n p yl xl
    let v := s.sub q
    match act v with
    | none => (5, s)
    | some w =>
      if w = v then (0, s)
      else
        let s := setSub q { v with fw := w.fw } s
        let r := if w.st = v.st then writeEntry q none s else subTo q w.st 1 s
        (if r.1 then 0 else 3, r.2)

def maskSub (v : SubSt) : Option SubSt := some { v with fw := true, st := if v.st = 0 ∨ v.st = 4 then 5 else v.st }
def unmaskSub (v : SubSt) : Option SubSt := some { v with fw := false, st := if v.st = 5 then 4 else v.st }
def clearSub (v : SubSt) : Option SubSt := if v.st = 1 ∨ v.st = 2 ∨ v.st = 3 then some { v with st := if v.fw then 5 else 4 } else none

/-- INIT (R271): only while idle. -/
def diagInitAct (s : State) : Nat × State :=
  if s.inFlag F.diagCtrlEN then (2, s)
  else
    let s := modDiag (fun d => { d with sub := [], ver := [], table := [], stk := [], dirty := [] }) s
    let s := ovfCheck (rookEval (forN 256 showStk s))
    let e := leBytes 4 (4 * 0x20000000 + s.stamp)
    let m := (List.range 3072).foldl (fun (a : Bool × State) i =>
      let r := diagWrite (a.2.fld F.diagMapVaVA + 4096 * i) (List.replicate 1024 e).flatten a.2
      (a.1 && r.1, r.2)) (true, s)
    let k := (List.range 96).foldl (fun (a : Bool × State) i =>
      let r := diagWrite (a.2.fld F.diagMaskVaVA + 4096 * i) (List.replicate 4096 0) a.2
      (a.1 && r.1, r.2)) m
    (if k.1 then 0 else 3, diagEvent 0xFFFFFFFF 4 4 3 false k.2)

/-- DIAG_CMD_COMPLETE. -/
def diagDone (s : State) : State :=
  match s.diag.busy with
  | none => s
  | some b =>
    modDiag (fun d => { d with busy := none, inited := d.inited || (b.2 && b.1 == 0) }) s |> setFld F.diagCmdSTATE 2 |>
      setFld F.diagCmdRESULT b.1 |> intr 277

/-- The commands, as DIAG_CMD starts them: OP, then the subpixel. -/
def diagOp (op n p yl xl : Nat) (s : State) : State :=
  match op with
  | 1 => diagCommand diagInitAct true s
  | 2 => diagCommand (diagSub n p yl xl maskSub) false s
  | 3 => diagCommand (diagSub n p yl xl unmaskSub) false s
  | 4 => diagCommand (diagSub n p yl xl clearSub) false s
  | _ => diagCommand (fun s => (4, s)) false s

/-- Refusals of DIAG (R272). -/
def State.diagCheck (s : State) : Option Nat :=
  if s.stg F.diagCtrlEN = 1 ∧ !s.diag.inited then some 0x600
  else if 16 * s.stg F.diagCtrlAGEMAX < 2 * 2 ^ s.stg F.diagCtrlAUDITLOG2 then some 0x601
  else none

/-- DIAG_SWEEP. -/
def execDiagSweep (s : State) : Host.Outcome State Fault Refusal := .next (sweepAt s)
/-- SWEEP_COMPLETE. -/
def execSweepComplete (s : State) : Host.Outcome State Fault Refusal := .next (sweepDone s)
/-- INIT. -/
def execDiagInit (s : State) : Host.Outcome State Fault Refusal := .next (diagOp 1 0 0 0 0 s)
/-- MASK. -/
def execDiagMask (n : Fin 256) (p : Fin 4) (yl xl : Fin 64) (s : State) : Host.Outcome State Fault Refusal :=
  .next (diagOp 2 n.val p.val yl.val xl.val s)
/-- UNMASK. -/
def execDiagUnmask (n : Fin 256) (p : Fin 4) (yl xl : Fin 64) (s : State) : Host.Outcome State Fault Refusal :=
  .next (diagOp 3 n.val p.val yl.val xl.val s)
/-- CLEAR. -/
def execDiagClear (n : Fin 256) (p : Fin 4) (yl xl : Fin 64) (s : State) : Host.Outcome State Fault Refusal :=
  .next (diagOp 4 n.val p.val yl.val xl.val s)
/-- DIAG_CMD_COMPLETE. -/
def execDiagCmdComplete (s : State) : Host.Outcome State Fault Refusal := .next (diagDone s)

end Sys2Proof.Machine
end

