-- ==== Sys2Proof/Machine/Stream.lean ====
section
/-! DEFINITION. What the forward lanes of a port carry (R225–R233): blocks, control blocks, packets, the sequence of words
and its lanes, and the line codes. -/

namespace Sys2Proof.Machine

/-- A block of a lane (R228): eight bytes of data, or a control block with its type and 56 bits. -/
inductive Block where
  | data (w : Word)
  | control (type : Byte) (body : BitVec 56)
  deriving DecidableEq, Repr

/-- Table: Control blocks, as a lane carries them; LANE tells the two lanes of a TRAIN block apart. -/
def Ctrl.block (lane : Nat) : Ctrl → Block
  | .idle => .control 0x1E 0
  | .slot i k offs => .control 0x78 (BitVec.ofNat 56 (i * 2 ^ 50 + k * 2 ^ 41 + offs * 2 ^ 37))
  | .train rate ready => .control 0x4B (BitVec.ofNat 56 (rate * 2 ^ 54 + lane * 2 ^ 53 + b2n ready * 2 ^ 52 + 0xCCCCCCCCCCCCC))

/-- A packet (R232): header, body, and the CRC-32C of their bytes. -/
def packet (ws : List Word) : List Word := ws ++ [BitVec.ofNat 64 (crc32c (ws.flatMap (fun w => leBytes 8 w.toNat)))]

/-- A header: TYPE, BCAST, TILE and the fields below. -/
def header (type : Nat) (bcast : Bool) (tile rest : Nat) : Word :=
  BitVec.ofNat 64 (type * 2 ^ 60 + b2n bcast * 2 ^ 59 + tile % 256 * 2 ^ 51 + rest % 2 ^ 51)

/-- The number whose 12-bit digits, lowest first, are given: the body of a ROW packet (Table: ROW header). -/
def digits12 : List Nat → Nat
  | [] => 0
  | w :: l => w % 4096 + 4096 * digits12 l

/-- The n low 64-bit words of a number, lowest first. -/
def leWords : Nat → Nat → List Word
  | 0, _ => []
  | n + 1, x => BitVec.ofNat 64 x :: leWords n (x / 2 ^ 64)

/-- What a tile engine hands over in a slot, as a ROW or DARK packet of tile n (R233). -/
def rowPacket (n i k : Nat) (t : TePkt) : List Word :=
  if t.dark then packet [header 2 false n (i * 2 ^ 35 + k * 2 ^ 26)]
  else
    packet (header 1 false n (t.row % 64 * 2 ^ 45 + b2n (t.kind == 1) * 2 ^ 44 + b2n t.sense * 2 ^ 43 + t.pset % 4 * 2 ^ 41 +
      i * 2 ^ 35 + k * 2 ^ 26 + t.lt % 8192 * 2 ^ 13 + t.gapc % 1024 * 2 ^ 3) :: leWords 36 (digits12 t.words))

/-- A PARAM packet (Table: PARAM header and body). The sets are those of one engine of the port; the manual does not say
whose where they differ, nor what TILE a broadcast carries (assumption 79). -/
def State.paramPacket (s : State) (p frame k slotCyc : Nat) : List Word :=
  let n := 8 * p + (Config.paramPos p).val
  let set := fun (m : Nat) =>
    let f := fun (x : Fld) => s.inF ((x.te n).at (8 * m))
    BitVec.ofNat 64 (f F.tePsetPRE4 * 2 ^ 56 + f F.tePsetVPCR * 2 ^ 48 + f F.tePsetVPCG * 2 ^ 40 + f F.tePsetVPCB * 2 ^ 32)
  packet (header 3 true (Config.paramTile p).toNat (slotCyc % 8192 * 2 ^ 38 + k * 2 ^ 29 + b2n (k == 0) * 2 ^ 28 + frame % 2 ^ 28) ::
    (List.range 4).map set)

/-- A CAP_REQ packet to tile n. -/
def capReqPacket (n : Nat) : List Word := packet [header 4 false n 0]

/-- A LOOP packet to tile n. -/
def loopPacket (n : Nat) (exit : Bool) : List Word := packet [header 5 false n (b2n exit * 2 ^ 50)]

/-- Block b of a lane in a run that a control block begins (R229, R230): that block on both lanes, then the words, word w
on lane w mod 2, then IDLE blocks. Every packet has an even number of words, so every run begins on lane 0. -/
def FwdRun.block (r : FwdRun) (lane b : Nat) : Block :=
  match b with
  | 0 => r.start.block lane
  | b + 1 => match r.words[2 * b + lane]? with
    | some w => .data w
    | none => Ctrl.idle.block lane

/-- Bits of a block on the line at a rate code (R225): 8b/10b below code 2, else 64b/66b. -/
def blockBits (rate : Nat) : Nat := if rate ≤ 1 then 80 else 66

/-- Blocks per lane per slot (Table: Lane coding and slot capacity). -/
def blocksPerSlot (rate slotCyc : Nat) : Nat := 8 * slotCyc / blockBits rate

/-- Table: Port states, R226: the forwarded clock runs. -/
def State.fckRuns (s : State) (p : Nat) : Bool :=
  let st := s.fld (F.epPstatSTATE.at (p * 0x1000))
  st == 2 || st == 3 || st == 4 || (st == 5 && match (SMap.get s.ports p {}).loop with | some (.far _) => true | _ => false)

/-- Block b of a looped lane (R244): PRBS31 in data blocks, and a SLOT block every 256 blocks. -/
def loopBlock (p b : Nat) : Block :=
  if b % 256 = 0 then .control 0x78 (Config.loopSlot p b) else .data (Config.prbs31 p b)

/-- Block b on the pins of a forward lane since the last control block that begins a run, TRAIN or the loopback; nothing
while the lanes are idle. READY of a forward TRAIN block is not stated (assumption 79). -/
def State.fwdBlock (s : State) (p lane b : Nat) : Option Block :=
  let v := SMap.get s.ports p {}
  if !(s.fckRuns p) then none
  else if s.fld (F.epPstatSTATE.at (p * 0x1000)) = 2 then
    some ((Ctrl.train (s.fld (F.epPstatRATE.at (p * 0x1000))) (Config.fwdReady p b)).block lane)
  else match v.loop, v.fwd with
    | some (.far _), _ => some (if lane = 0 then loopBlock p b else if b % 256 = 0 then loopBlock p b else Ctrl.idle.block lane)
    | _, some r => some (r.block lane b)
    | _, none => some (Ctrl.idle.block lane)

/-- The bytes of a block's payload, in order; words are little-endian (R9, R232). -/
def Block.bytes : Block → List Byte
  | .data w => leBytes 8 w.toNat
  | .control t x => t :: leBytes 7 x.toNat

/-- The state of a lane's coder: the running disparity of 8b/10b is positive, and the last 58 scrambled bits. -/
structure Coder where
  plus : Bool
  scr : BitVec 58
  deriving DecidableEq, Repr

/-- The 6-bit groups abcdei of IEEE 802.3 Clause 36 for negative running disparity, a first. -/
def six : List (BitVec 6) :=
  [0b100111, 0b011101, 0b101101, 0b110001, 0b110101, 0b101001, 0b011001, 0b111000,
   0b111001, 0b100101, 0b010101, 0b110100, 0b001101, 0b101100, 0b011100, 0b010111] ++
  [0b011011, 0b100011, 0b010011, 0b110010, 0b001011, 0b101010, 0b011010, 0b111010,
   0b110011, 0b100110, 0b010110, 0b110110, 0b001110, 0b101110, 0b011110, 0b101011]

/-- The 4-bit groups fghj for negative running disparity, f first. -/
def four : List (BitVec 4) := [0b1011, 0b1001, 0b0101, 0b1100, 0b1101, 0b1010, 0b0110, 0b1110]

/-- Ones of a number of w bits. -/
def onesOf (w x : Nat) : Nat := (List.range w).foldl (fun a i => a + b2n (bit x i)) 0

/-- The data character of a byte and the running disparity after it (Clause 36). -/
def dataChar (plus : Bool) (b : Byte) : BitVec 10 × Bool :=
  let x := b.toNat % 32
  let y := b.toNat / 32
  let g := six.getD x 0
  let odd := onesOf 6 g.toNat != 3
  let g := if plus && (odd || x == 7) then ~~~g else g
  let plus := plus != odd
  let h := if y = 7 ∧ ((!plus ∧ (x = 17 ∨ x = 18 ∨ x = 20)) ∨ (plus ∧ (x = 11 ∨ x = 13 ∨ x = 14))) then 0b0111 else four.getD y 0
  let odd := onesOf 4 h.toNat != 2
  let h := if plus && (odd || y == 3) then ~~~h else h
  (g ++ h, plus != odd)

/-- The comma K28.5 and the running disparity after it. -/
def comma (plus : Bool) : BitVec 10 × Bool := (if plus then 0b1100000101 else 0b0011111010, !plus)

/-- Characters in order, first bit first. -/
def charBits (w : BitVec 10) : List Bool := (List.range 10).map (fun i => w.getLsbD (9 - i))

/-- Data characters of a list of bytes. -/
def dataChars : List Byte → Bool → List Bool × Bool
  | [], plus => ([], plus)
  | b :: l, plus =>
    let c := dataChar plus b
    let r := dataChars l c.2
    (charBits c.1 ++ r.1, r.2)

/-- Bits through the scrambler 1 + x³⁹ + x⁵⁸ (IEEE 802.3 Clause 49). -/
def scramble : List Bool → BitVec 58 → List Bool × BitVec 58
  | [], r => ([], r)
  | d :: l, r =>
    let o := (d != r.getLsbD 38) != r.getLsbD 57
    let t := scramble l ((r <<< 1) ||| BitVec.ofNat 58 (b2n o))
    (o :: t.1, t.2)

/-- The bits of a byte, lowest first. -/
def byteBits (b : Byte) : List Bool := (List.range 8).map b.getLsbD

/-- The bits of a block on the line at a rate code (R225, R228). In 8b/10b a control block is K28.5 and seven data
characters; which bytes of its type and 56 bits those seven carry the manual does not say (assumption 79). -/
def Block.line (rate : Nat) (b : Block) (c : Coder) : List Bool × Coder :=
  if rate ≤ 1 then
    match b with
    | .data _ => let r := dataChars b.bytes c.plus; (r.1, { c with plus := r.2 })
    | .control t x =>
      let k := comma c.plus
      let r := dataChars ((List.range 7).map (fun i => Config.ctrlChar t x i)) k.2
      (charBits k.1 ++ r.1, { c with plus := r.2 })
  else
    let sync := match b with | .data _ => [false, true] | .control _ _ => [true, false]
    let r := scramble (b.bytes.flatMap byteBits) c.scr
    (sync ++ r.1, { c with scr := r.2 })

/-- The bits of the first n blocks of a lane's run, from a state of its coder, which the manual does not state where the
lanes begin. -/
def FwdRun.line (r : FwdRun) (rate lane : Nat) : Nat → Coder → List Bool × Coder
  | 0, c => ([], c)
  | n + 1, c =>
    let a := r.line rate lane n c
    let b := (r.block lane n).line rate a.2
    (a.1 ++ b.1, b.2)

end Sys2Proof.Machine
end

