-- ==== Sys2Proof/Machine/Port.lean ====
section
/-! DEFINITION. Emitter ports and RIL (R224–R252): bring-up, training, fallbacks, slots and returns, loopbacks, Rill
frames. -/

namespace Sys2Proof.Machine

/-- A field of port p. -/
def Fld.ep (f : Fld) (p : Nat) : Fld := f.at (p * 0x1000)

/-- A port beside its registers. -/
def State.port (s : State) (p : Nat) : PortState := SMap.get s.ports p {}

/-- Change a port. -/
def modPort (p : Nat) (f : PortState → PortState) (s : State) : State := { s with ports := SMap.put s.ports p (f (s.port p)) }

/-- Port states (Table: Port states): 0 DOWN, 1 ASSIGN, 2 TRAIN, 3 CAP, 4 RUN, 5 LOOP, 6 FAULT. -/
def State.epSt (s : State) (p : Nat) : Nat := s.fld (F.epPstatSTATE.ep p)

/-- The code running or being trained. -/
def State.epCode (s : State) (p : Nat) : Nat := s.fld (F.epPstatRATE.ep p)

/-- A port acts: its block is not in reset and the power sequence has not stopped it. -/
def State.epOn (s : State) (p : Nat) : Bool := !(s.inReset (Blk.epN p)) && !(s.pwr.stopped.contains 3)

/-- The port sends words after what its run has carried. -/
def sendWords (p : Nat) (ws : List Word) (s : State) : State :=
  modPort p (fun v => let r := v.fwd.getD {}; { v with fwd := some { r with words := r.words ++ ws } }) s

/-- The port sends CAP_REQ to the position it asks (R241). -/
def sendCapReq (p : Nat) (s : State) : State := sendWords p (capReqPacket (8 * p + (s.port p).capPos)) s

/-- Enter a state; entry to RUN and to FAULT raise identifier 548 + p. -/
def epTo (p st : Nat) (s : State) : State :=
  let s := modPort p (fun v => { v with driveEnd := s.lastDrive p }) s
  let s := setFld (F.epPstatSTATE.ep p) st s
  let s := if st = 4 then s else modPort p (fun v => { v with slots := [], fwd := if st = 3 ∨ st = 5 then v.fwd else none }) s
  if st = 4 ∨ st = 6 then intr (548 + p) s else s

/-- The Rill record of position r of port p at a rate code (R246, Table: Rill record). -/
def State.rillRecord (s : State) (p r rate : Nat) : BitVec 96 :=
  let n := 8 * p + r
  let trim := fun (f : Fld) => s.fld (f.at (8 * n))
  let body := 0xA * 2 ^ 76 + n * 2 ^ 68 + r * 2 ^ 65 + rate * 2 ^ 63 + s.fld (F.epEqBPTXEQ.ep p) * 2 ^ 59 +
    s.fld (F.epEqBPRXEQ.ep p) * 2 ^ 55 + trim F.rilTrimIREFR * 2 ^ 43 + trim F.rilTrimIREFG * 2 ^ 31 + trim F.rilTrimIREFB * 2 ^ 19
  BitVec.ofNat 96 (body * 65536 + crc16 (beBytes 10 body))

/-- RIL starts a frame on a port (R247, R248): RATE is the code the port is running or being brought to, 0 in DOWN or
FAULT. -/
def rilStart (p : Nat) (assign : Bool) (s : State) : State :=
  let rate := if s.epSt p = 0 ∨ s.epSt p = 6 then 0 else s.epCode p
  setFld F.rilStatBUSY (setBit (s.fld F.rilStatBUSY) p true)
    { s with ril := SMap.put s.ril p { at_ := s.now, assign := assign, recs := (List.range 8).map (fun r => s.rillRecord p r rate) } }

/-- ASSIGN at a code (R239): its frame waits behind a frame in progress on the port. -/
def epAssign (p q : Nat) (s : State) : State :=
  let s := setFld (F.epPstatRATE.ep p) q (epTo p 1 s)
  let wait := bit (s.fld F.rilStatBUSY) p || s.inReset .ril
  let s := modPort p (fun v => { v with tries := 0, latched := none, rilWait := wait, loop := none, ending := false }) s
  if wait then s else rilStart p true s

/-- Enter FAULT with a code. -/
def epFault (p code : Nat) (s : State) : State :=
  modPort p (fun v => { v with rilWait := false }) s |> setFld (F.epPstatFAULTCODE.ep p) code |> epTo p 6 |> setFld (F.epPstatRATE.ep p) 0

/-- A fallback to code q (R240): that code becomes the target and the port does not step up again. -/
def epFall (p q : Nat) (s : State) : State :=
  modPort p (fun v => { v with up := false, target := q }) s |> setFlag (F.epPstatFALLBACK.ep p) true |>
    countMod (F.epErrcntFALLBACKS.ep p) 1 |> intr (548 + p) |> epAssign p q

/-- Error-limit fallback (R242): as if TRAIN had failed 3 times; one that would reach code 0 ends in FAULT. -/
def errFall (p : Nat) (s : State) : State :=
  raise (Blk.epN p) 5 { typ := 6 } (if s.epCode p ≤ 1 then epFault p 3 s else epFall p (s.epCode p - 1) s)

/-- Enter RUN. -/
def epRun (p : Nat) (s : State) : State :=
  modPort p (fun v => { v with up := false, loop := none, ending := false, win := 0, winAt := s.gt / 1000000 }) s |>
    setFlag (F.epPstatFALLBACK.ep p) (decide (s.epCode p < s.inF F.epRateRATE)) |> epTo p 4

/-- Where a port goes once it runs at a code with its capabilities known (R238, R243): up one code, straight to a target
that moved below it, or RUN. -/
def epNext (p : Nat) (s : State) : State :=
  let q := s.epCode p
  let v := s.port p
  if q < v.target then epAssign p (if v.up then q + 1 else v.target) s
  else if v.target < q then epAssign p v.target s
  else epRun p s

/-- BRINGUP (R238): from any state other than LOOP. -/
def bringupAt (p : Nat) (s : State) : State :=
  if !(s.epOn p) ∨ s.epSt p = 5 then s
  else
    modPort p (fun v => { v with up := true, target := 0 }) s |> setFlag (F.epPstatCAPVALID.ep p) false |>
      setFlag (F.epPstatFALLBACK.ep p) false |> setFld (F.epPstatFAULTCODE.ep p) 0 |> epAssign p 0

/-- The target of a port whose capabilities are known: the lower of EP_RATE in force and CAP_RATE. -/
def State.epTarget (s : State) (p : Nat) : Nat := min (s.inF F.epRateRATE) (s.fld (F.epPstatCAPRATE.ep p))

/-- RETRAIN (R238, R252): NO_CAP without capabilities, and nothing else then. -/
def retrainAt (p : Nat) (s : State) : State :=
  if !(s.epOn p) then s
  else if !(s.flag (F.epPstatCAPVALID.ep p)) then raise (Blk.epN p) 10 {} s
  else if s.epSt p = 5 then s
  else
    let t := s.epTarget p
    modPort p (fun v => { v with up := false, target := t }) s |> setFlag (F.epPstatFALLBACK.ep p) (decide (t < s.inF F.epRateRATE)) |>
      setFld (F.epPstatFAULTCODE.ep p) 0 |> epAssign p t

/-- The counts of a loopback go on (R244): how many words have been checked and how many bits were wrong since, no sender
gives: free values. WORDS wraps, ERRORS saturates. -/
def prbsCount (p : Nat) (s : State) : State :=
  let a := s.freeW.toNat
  let s := drawn s
  let b := s.freeW.toNat
  drawn s |> setFld (F.epPrbsWORDS.ep p) (s.fld (F.epPrbsWORDS.ep p) + a) |>
    setFld (F.epPrbsERRORS.ep p) (min (s.fld (F.epPrbsERRORS.ep p) + b) 0xFFFFFFFF)

/-- DOWN (R243): from any state; a Rill frame in progress completes. -/
def downAt (p : Nat) (s : State) : State :=
  if !(s.epOn p) then s
  else
    let s := if s.epSt p = 5 then prbsCount p s else s
    modPort p (fun _ => { driveEnd := s.lastDrive p }) s |> setFlag (F.epPstatCAPVALID.ep p) false |> setFlag (F.epPstatFALLBACK.ep p) false |>
      setFld (F.epPstatFAULTCODE.ep p) 0 |> setFld (F.epPstatRATE.ep p) 0 |> epTo p 0

/-- A loopback (R244): accepted in one state, refused in any other; the far one begins with a LOOP packet to its position. -/
def loopStart (p from_ : Nat) (k : LoopKind) (s : State) : State :=
  if !(s.epOn p) then s
  else if s.epSt p ≠ from_ then raise (Blk.epN p) 1 { addr := 0x22000000 + p * 0x1000, mstr := 255, typ := 2 } s
  else
    let s := match k with | .far pos => sendWords p (loopPacket (8 * p + pos) false) s | _ => s
    modPort p (fun v => { v with loop := some k, ending := false }) s |> setFld (F.epPrbsWORDS.ep p) 0 |>
      setFld (F.epPrbsERRORS.ep p) 0 |> epTo p 5

/-- LOOP_END: to DOWN inside the device; a far-end loopback sends LOOP with EXIT and waits for return block lock. -/
def loopEndAt (p : Nat) (s : State) : State :=
  if !(s.epOn p) ∨ s.epSt p ≠ 5 then s
  else match (s.port p).loop with
    | some (.far pos) =>
      if (s.port p).ending then s
      else sendWords p (loopPacket (8 * p + pos) true) (modPort p (fun v => { v with ending := true, trainAt := s.now }) (prbsCount p s))
    | _ => modPort p (fun v => { v with loop := none }) (prbsCount p s) |> epTo p 0

/-- 64 block times of a rate code, in ns, rounded up. -/
def blocks64 (rate : Nat) : Nat := if rate = 0 then 6400 else if rate = 1 then 3200 else if rate = 2 then 1320 else 660

/-- RETURN_BLOCK_LOCK: lock regained within 64 block times of the end of a far-end loopback: back to RUN (R244). -/
def blockLockAt (p : Nat) (s : State) : State :=
  let v := s.port p
  if s.epOn p ∧ s.epSt p = 5 ∧ v.ending ∧ s.now ≤ v.trainAt + blocks64 (s.epCode p) then epRun p s else s

/-- RETURN_LOCK_LOSS: lock lost for 64 block times in RUN, or not regained after a far-end loopback (R242, R244). -/
def lockLossAt (p : Nat) (s : State) : State :=
  if s.epOn p ∧ (s.epSt p = 4 ∨ (s.epSt p = 5 ∧ (s.port p).ending)) then errFall p s else s

/-- TRAIN_START: 100 µs after RIL reports the latch (R239). -/
def trainAt (p : Nat) (s : State) : State :=
  match (s.port p).latched with
  | some t => if s.epOn p ∧ s.epSt p = 1 ∧ t + 100000 ≤ s.now then epTo p 2 (modPort p (fun v => { v with trainAt := s.now }) s) else s
  | none => s

/-- TRAIN_SUCCESS (R240): to CAP in bring-up at code 0, else onwards. -/
def trainOk (p : Nat) (s : State) : State :=
  if !(s.epOn p) ∨ s.epSt p ≠ 2 then s
  else if (s.port p).up ∧ !(s.flag (F.epPstatCAPVALID.ep p)) then
    sendCapReq p (epTo p 3 (modPort p (fun v => { v with capAt := s.now, capPos := 0, capAgain := false }) s))
  else epNext p s

/-- TRAIN_TIMEOUT (R240): repeated; the third failure falls back, or at code 0 ends in FAULT. -/
def trainBad (p : Nat) (s : State) : State :=
  let v := s.port p
  if !(s.epOn p) ∨ s.epSt p ≠ 2 ∨ s.now < v.trainAt + 2000000 then s
  else if v.tries < 2 then modPort p (fun v => { v with tries := v.tries + 1, trainAt := s.now }) s
  else raise (Blk.epN p) 3 { typ := 6 } (if s.epCode p = 0 then epFault p 1 s else epFall p (s.epCode p - 1) s)

/-- CAP_ANSWER (R241): the position asked answers; the eighth answer gives CAP_RATE. -/
def capAt (p pos : Nat) (cap : BitVec 64) (s : State) : State :=
  let v := s.port p
  if !(s.epOn p) ∨ s.epSt p ≠ 3 ∨ v.capPos ≠ pos then s
  else
    let s := setFld ((F.epCapCAP.ep p).at (8 * pos)) cap.toNat s
    if pos < 7 then sendCapReq p (modPort p (fun v => { v with capPos := pos + 1, capAgain := false, capAt := s.now }) s)
    else
      let m := (List.range 8).foldl (fun m r => min m (s.fld ((F.epCapCAP.ep p).at (8 * r)) / 2 ^ 62)) 3
      let s := s |> setFld (F.epPstatCAPRATE.ep p) m |> setFlag (F.epPstatCAPVALID.ep p) true
      let t := s.epTarget p
      epNext p (setFlag (F.epPstatFALLBACK.ep p) (decide (t < s.inF F.epRateRATE)) (modPort p (fun v => { v with target := t }) s))

/-- CAP_TIMEOUT (R241): asked once more; a second silence is CAP_MISSING. -/
def capBad (p : Nat) (s : State) : State :=
  let v := s.port p
  if !(s.epOn p) ∨ s.epSt p ≠ 3 ∨ s.now < v.capAt + 100000 then s
  else if !v.capAgain then sendCapReq p (modPort p (fun v => { v with capAgain := true, capAt := s.now }) s)
  else raise (Blk.epN p) 4 { addr := v.capPos } (epFault p 2 (setFld (F.epPstatFAULTPOS.ep p) v.capPos s))

/-- ERR_WINDOW_CLOSE (R242): a window of 1 ms of GT closes. -/
def windowAt (p : Nat) (s : State) : State :=
  let v := s.port p
  if s.epOn p ∧ s.epSt p = 4 ∧ v.winAt < s.gt / 1000000 then
    let s := modPort p (fun v => { v with win := 0, winAt := s.gt / 1000000 }) s
    if s.fld (F.epLimitERRMAX.ep p) < v.win then errFall p s else s
  else s

/-- A commit that changes EP_RATE applies (R243). -/
def epRerate (p : Nat) (s : State) : State :=
  let new := s.inF F.epRateRATE
  match s.epSt p with
  | 4 => epAssign p new (setFlag (F.epPstatFALLBACK.ep p) false (modPort p (fun v => { v with up := false, target := new }) s))
  | 1 | 2 | 3 =>
    if s.flag (F.epPstatCAPVALID.ep p) then modPort p (fun v => { v with target := s.epTarget p }) s else s
  | _ => s

/-- SSTART (R196), in ns of GT. -/
def State.sstart (s : State) (n k i : Nat) : Nat := s.rstart n k + i * s.inF F.ptpFramePeriodPERIOD / (65536 * 64 * s.scanM)

/-- What an engine hands over in slot i (R233): a slot it has not filled goes dark, and is used. -/
def handOver (n i : Nat) (s : State) : TePkt × State :=
  let v := s.teSt n
  let pkt := if s.forcedDark n then {} else SMap.get v.out i {}
  (pkt, if v.slot ≤ i then setTe n { v with slot := i + 1 } s else s)

/-- RETs of the slot three back that have not come (R237). -/
def retLost (p : Nat) (s : State) : State :=
  match (s.port p).slots[3]? with
  | none => s
  | some l =>
    forN 8 (fun r s =>
      if l.got.getLsbD r then s
      else raise (Blk.epN p) 8 { addr := r } (countMod (F.epErrcntRETLOST.ep p) 1 (modPort p (fun v => { v with win := v.win + 1 }) s))) s

/-- Lexicographic order of slots. -/
def slotBefore (l : PSlot) (f k i : Nat) : Bool :=
  decide (l.frame < f) || (l.frame == f && (decide (l.refresh < k) || (l.refresh == k && decide (l.slot < i))))

/-- A port sends a slot (R230): SLOT with the cycles that have passed since the slot's start, which lie within one block
time and are open; PARAM in slot 0 in RUN (Table: Port states gives CAP no PARAM); then each position's packet. -/
def sendSlot (p i k frame slotCyc : Nat) (pkts : List TePkt) (s : State) : State :=
  let code := s.epCode p
  let offs := s.freeW.toNat % (if code ≤ 1 then 10 else 9)
  let param := if i = 0 ∧ s.epSt p = 4 then s.paramPacket p frame k slotCyc else []
  let rows := pkts.zipIdx.flatMap (fun x => rowPacket (8 * p + x.2) i k x.1)
  modPort p (fun v => { v with fwd := some { start := .slot i k offs, words := param ++ rows } }) (drawn s)

/-- SLOT_START (R230): slot i of the refresh in progress starts on a port in CAP or RUN, in order and not before its
instant. In CAP every packet is DARK, and no RET is expected for it (R236). -/
def slotAt (p i : Nat) (s : State) : State :=
  match s.scan.last with
  | none => s
  | some (f, k) =>
    let fresh : Bool := match (s.port p).slots.head? with | some l => slotBefore l f k i | none => true
    if s.epOn p ∧ (s.epSt p = 3 ∨ s.epSt p = 4) ∧ f = s.tl.frame ∧ s.sstart f k i ≤ s.gt ∧ s.sstart f k i < s.frameStart (f + 1) ∧ fresh then
      let r := (List.range 8).foldl (fun (a : List TePkt × State) r =>
        let h := handOver (8 * p + r) i a.2
        (a.1 ++ [h.1], h.2)) ([], s)
      let slot : PSlot := { at_ := s.now, refresh := k, slot := i, frame := f, slotCyc := r.2.slotCyc (r.2.epCode p), pkts := r.1,
                            got := if s.epSt p = 3 then 0xFF else 0, tap := if s.epSt p = 3 then 0xFF else 0 }
      retLost p (modPort p (fun v => { v with slots := (slot :: v.slots).take 4 }) (sendSlot p i k f slot.slotCyc r.1 r.2))
    else s

/-- Status of a RET: to the counts of R242, BP_STATUS and THM (R237). -/
def retStatus (p : Nat) (r : Ret) (s : State) : State :=
  let n := 8 * p + r.pos.val
  let c := r.crcErr.toNat
  let s := if c = 0 then s
    else raise (Blk.epN p) 6 { addr := r.pos.val } (countMod (F.epErrcntFWDCRC.ep p) c (modPort p (fun v => { v with win := v.win + c }) s))
  let s := if r.supplyLow ∨ r.pllUnlock ∨ r.rillBad then raise (Blk.epN p) 9 { addr := r.pos.val } s else s
  let s := if r.rillBad then raise .ril 3 { addr := n } s else s
  let hadOver : Bool := match SMap.find s.thm.ret n with | some e => e.2 | none => false
  { s with thm := { s.thm with ret := SMap.put s.thm.ret n (ofInt 16 r.temp.toInt, r.overTemp || hadOver) } }

/-- RET_RECEIVED (R236, R237): the RET of a position for one of the last three slots. -/
def retAt (p : Nat) (r : Ret) (s : State) : State :=
  let v := s.port p
  let isIt := fun (l : PSlot) => l.slot == r.slot.val && l.refresh == r.refresh.val && !(l.got.getLsbD r.pos.val)
  match (v.slots.take 3).find? isIt with
  | none => s
  | some l =>
    if !(s.epOn p) ∨ s.epSt p ≠ 4 then s
    else
      let mark := fun (x : PSlot) => if x = l then { x with got := x.got ||| BitVec.ofNat 8 (1 <<< r.pos.val) } else x
      let s := modPort p (fun v => { v with slots := v.slots.map mark }) s
      if !r.crcOk then
        raise (Blk.epN p) 7 { addr := r.pos.val } (countMod (F.epErrcntRETCRC.ep p) 1 (modPort p (fun v => { v with win := v.win + 1 }) s))
      else diagRet (8 * p + r.pos.val) r (l.pkts.getD r.pos.val {}) (retStatus p r s)

/-- RIL_SEND (R248): refused whole if a named port is BUSY. -/
def rilSendAt (ports : BitVec 32) (s : State) : State :=
  if s.inReset .ril ∨ s.pwr.stopped.contains 3 then s
  else if (BitVec.ofNat 32 (s.fld F.rilStatBUSY) &&& ports) ≠ 0 then raise .ril 1 { addr := 0x22020000, mstr := 255, typ := 2 } s
  else forN 32 (fun p s => if ports.getLsbD p then rilStart p false s else s) s

/-- RILL_LATCH_REPORT (R248): 1,596 µs after the frame started. An ASSIGN that waited starts its frame. -/
def latchAt (p : Nat) (s : State) : State :=
  match SMap.find s.ril p with
  | none => s
  | some f =>
    if s.now < f.at_ + 1596000 ∨ s.inReset .ril then s
    else
      let s := { s with ril := SMap.erase s.ril p } |> setFld F.rilStatBUSY (setBit (s.fld F.rilStatBUSY) p false) |>
        setFld F.rilStatDONE (setBit (s.fld F.rilStatDONE) p true) |> intr 581
      if s.epSt p ≠ 1 then s
      else if (s.port p).rilWait then rilStart p true (modPort p (fun v => { v with rilWait := false }) s)
      else if f.assign then modPort p (fun v => { v with latched := some s.now }) s
      else s

/-- RIL leaves a reset: the frames of ports that wait in ASSIGN start. -/
def rilResume (s : State) : State :=
  forN 32 (fun p s =>
    if s.epSt p = 1 ∧ (s.port p).latched = none ∧ (SMap.find s.ril p).isNone then
      rilStart p true (modPort p (fun v => { v with rilWait := false }) s)
    else s) s

/-- Refusals of EP (R252). -/
def State.epCheck (s : State) : Option Nat :=
  if (List.range 32).any (fun p => s.flag (F.epPstatCAPVALID.ep p) && decide (s.fld (F.epPstatCAPRATE.ep p) < s.stg F.epRateRATE)) then some 0x500
  else if s.stg F.epRateRATE ≠ s.inF F.epRateRATE ∧ (List.range 32).any (fun p => s.epSt p == 5) then some 0x501
  else none

/-- EP_PCMD (Registers): OP, LANE, POS. -/
def epOp (p op lane pos : Nat) (s : State) : State :=
  match op with
  | 1 => bringupAt p s
  | 2 => retrainAt p s
  | 3 => downAt p s
  | 4 => loopStart p 0 (.nes lane) s
  | 5 => loopStart p 0 (.nep lane) s
  | 6 => loopStart p 4 (.far pos) s
  | 7 => loopEndAt p s
  | _ => s

/-- SLOT_START. -/
def execSlotStart (p : Fin 32) (i : Fin 64) (s : State) : Host.Outcome State Fault Refusal := .next (slotAt p.val i.val s)
/-- RET_RECEIVED. -/
def execRetReceived (p : Fin 32) (r : Ret) (s : State) : Host.Outcome State Fault Refusal := .next (retAt p.val r s)
/-- BRINGUP. -/
def execBringup (p : Fin 32) (s : State) : Host.Outcome State Fault Refusal := .next (bringupAt p.val s)
/-- RETRAIN. -/
def execRetrain (p : Fin 32) (s : State) : Host.Outcome State Fault Refusal := .next (retrainAt p.val s)
/-- DOWN. -/
def execDown (p : Fin 32) (s : State) : Host.Outcome State Fault Refusal := .next (downAt p.val s)
/-- LOOP_NES. -/
def execLoopNes (p : Fin 32) (lane : Fin 2) (s : State) : Host.Outcome State Fault Refusal := .next (loopStart p.val 0 (.nes lane.val) s)
/-- LOOP_NEP. -/
def execLoopNep (p : Fin 32) (lane : Fin 2) (s : State) : Host.Outcome State Fault Refusal := .next (loopStart p.val 0 (.nep lane.val) s)
/-- LOOP_FAR. -/
def execLoopFar (p : Fin 32) (pos : Fin 8) (s : State) : Host.Outcome State Fault Refusal := .next (loopStart p.val 4 (.far pos.val) s)
/-- LOOP_END. -/
def execLoopEnd (p : Fin 32) (s : State) : Host.Outcome State Fault Refusal := .next (loopEndAt p.val s)
/-- TRAIN_START. -/
def execTrainStart (p : Fin 32) (s : State) : Host.Outcome State Fault Refusal := .next (trainAt p.val s)
/-- TRAIN_SUCCESS. -/
def execTrainSuccess (p : Fin 32) (s : State) : Host.Outcome State Fault Refusal := .next (trainOk p.val s)
/-- TRAIN_TIMEOUT. -/
def execTrainTimeout (p : Fin 32) (s : State) : Host.Outcome State Fault Refusal := .next (trainBad p.val s)
/-- CAP_ANSWER. -/
def execCapAnswer (p : Fin 32) (pos : Fin 8) (cap : BitVec 64) (s : State) : Host.Outcome State Fault Refusal := .next (capAt p.val pos.val cap s)
/-- CAP_TIMEOUT. -/
def execCapTimeout (p : Fin 32) (s : State) : Host.Outcome State Fault Refusal := .next (capBad p.val s)
/-- ERR_WINDOW_CLOSE. -/
def execErrWindowClose (p : Fin 32) (s : State) : Host.Outcome State Fault Refusal := .next (windowAt p.val s)
/-- RETURN_LOCK_LOSS. -/
def execReturnLockLoss (p : Fin 32) (s : State) : Host.Outcome State Fault Refusal := .next (lockLossAt p.val s)
/-- RIL_SEND. -/
def execRilSend (ports : BitVec 32) (s : State) : Host.Outcome State Fault Refusal := .next (rilSendAt ports s)
/-- RILL_LATCH_REPORT. -/
def execRillLatchReport (p : Fin 32) (s : State) : Host.Outcome State Fault Refusal := .next (latchAt p.val s)
/-- RETURN_BLOCK_LOCK. -/
def execReturnBlockLock (p : Fin 32) (s : State) : Host.Outcome State Fault Refusal := .next (blockLockAt p.val s)

end Sys2Proof.Machine
end

