-- ==== Sys2Proof/Machine/Ptp.lean ====
section
/-! DEFINITION. PTP (R350–R359, R360): domain clocks and servo, jumps, steps, Castling. -/

namespace Sys2Proof.Machine

/-- A field of domain d. -/
def Fld.dom (f : Fld) (d : Nat) : Fld := f.at (d * 0x40)

/-- A domain beside its registers. -/
def State.dom (s : State) (d : Nat) : DomState := SMap.get s.ptp.dom d {}

/-- Change a domain. -/
def modDom (d : Nat) (f : DomState → DomState) (s : State) : State :=
  { s with ptp := { s.ptp with dom := SMap.put s.ptp.dom d (f (s.dom d)) } }

/-- Domain states (Table: Domain states): 0 DISABLED, 1 LISTENING, 2 ACQUIRING, 3 LOCKED, 4 HOLDOVER, 5 MASTER. -/
def State.domSt (s : State) (d : Nat) : Nat := s.fld (F.ptpDomStatSTATE.dom d)

/-- The active domain. -/
def State.active (s : State) : Nat := s.fld F.ptpCtrlACTIVE

/-- STEP_THRESHOLD in ns. -/
def State.stepThr (s : State) : Int := (s.fld F.ptpCtrlSTEPTHR * 1000 : Nat)

/-- DTd − GT in ns. -/
def State.domDiff (s : State) (d : Nat) : Int := ((s.dom d).dt - (s.gtFine : Int)) / 1000000000

/-- GT_STATE as the active domain gives it (R353): 0 FREE, 1 ACQUIRING, 2 LOCKED, 3 HOLDOVER; for DISABLED and MASTER the
manual gives no code (a free value). -/
def gtShow (s : State) : State :=
  let cur := s.fld F.ptpCtrlGTSTATE
  let put := fun (v : Nat) (s : State) =>
    if v = cur then s
    else
      let s := intr 661 (setFld F.ptpCtrlGTSTATE v s)
      if cur = 2 then { s with pwr := { s.pwr with calBad := true } } else s
  if s.ptp.wake then put 3 s
  else if !s.ptp.set then put 0 s
  else match s.domSt s.active with
    | 1 | 2 => put 1 s
    | 3 => put 2 s
    | 4 => put 3 s
    | _ => put (s.freeW.toNat % 4) (drawn s)

/-- A domain enters a state: identifier 665. -/
def domTo (d st : Nat) (s : State) : State :=
  if s.domSt d = st then s
  else
    let s := intr 665 (setFld (F.ptpDomStatSTATE.dom d) st s)
    let s := if st ≤ 1 then modDom d (fun v => { v with set := false, first := none, held := 0, good := 0, bad := 0 }) s |> setFld (F.ptpDomStatHELD.dom d) 0 else s
    gtShow (if d = s.active then { s with ptp := { s.ptp with wake := false } } else s)

/-- Set GT. -/
def setGt (v : Int) (s : State) : State := { s with gtFine := v.toNat }

/-- Castle to domain d (R357): GT keeps running. -/
def castleTo (d : Nat) (s : State) : State := gtShow (intr 662 (setFld F.ptpCtrlACTIVE d s))

/-- Whether Castling to domain d is allowed. -/
def State.castleOk (s : State) (d : Nat) : Bool :=
  s.domSt d == 3 && decide (s.domDiff d ≤ s.stepThr) && decide (-s.stepThr ≤ s.domDiff d)

/-- A request for Castling to the other domain: whether it was granted. -/
def castleReq (s : State) : Bool × State :=
  let d := 1 - s.active
  if s.castleOk d then (true, castleTo d s) else (false, raise .ptp 5 {} s)

/-- K of R358. -/
def stepK (st fp : Int) : Int := (2 * st * 65536 + fp) / (2 * fp)

/-- Apply a step of GT (R358): with TL_EN 0 nothing follows from it. -/
def applyStep (n : Nat) (plan : Option Int) (s : State) : State :=
  let a := s.active
  let st := plan.getD (s.domDiff a)
  let fine := match plan with | some v => (s.gtFine : Int) + v * 1000000000 | none => (s.dom a).dt
  let old := s.frameStart n
  let s := if plan.isSome then modDom a (fun v => { v with dt := v.dt + st * 1000000000 }) s else s
  let s := setGt fine { s with ptp := { s.ptp with step := none }, pwr := { s.pwr with calBad := true } }
  if !s.flag F.ptpCtrlTLEN then s
  else
    let fp : Int := (s.inF F.ptpFramePeriodPERIOD : Nat)
    let k := stepK st fp
    let epoch := toInt 64 (s.fld F.ptpFrameEpochEPOCH)
    let start' := epoch + ((n : Int) + 1 + k) * fp / 65536
    let epoch' := start' - ((n : Int) + 1) * fp / 65536
    { s with tl := { s.tl with base := some (n, (old : Int) + st) } } |> setFld F.ptpFrameEpochEPOCH (ofInt 64 epoch') |>
      setFld F.ptpRebaseV (ofInt 64 st) |> setFld (F.ptpRebaseV.at 8) (ofInt 16 k * 2 ^ 48 + n % 2 ^ 48) |>
      setFld (F.ptpRebaseV.at 16) s.gt |> raise .ptp 4 {} |> intr 664

/-- Decide a step (R356, R357): at once while TL_EN is 0. -/
def decideStep (plan : Option Int) (s : State) : State :=
  if !s.flag F.ptpCtrlTLEN then applyStep s.tl.frame plan s
  else if s.ptp.step.isSome then s
  else { s with ptp := { s.ptp with step := some { s := plan } } }

/-- A confirmed jump of domain d by `st` ns (R356). -/
def jumpConfirmed (d : Nat) (st : Int) (s : State) : State :=
  let o := 1 - d
  let s := modDom d (fun v => { v with first := none, held := 0, jump := some st }) s |> setFld (F.ptpDomStatHELD.dom d) 0
  if d ≠ s.active then modDom d (fun v => { v with dt := v.dt + st * 1000000000 }) s
  else
    let same : Bool := match (s.dom o).jump with | some j => decide (j - st ≤ 10000) && decide (st - j ≤ 10000) | none => false
    if s.domSt o ≠ 3 ∨ same then decideStep (some st) s else s

/-- A sample beyond STEP_THRESHOLD is held (R354, R355). -/
def holdSample (d : Nat) (o : Int) (s : State) : State :=
  let v := s.dom d
  let run : Bool := match v.first with | some f => decide (o - f ≤ 10000) && decide (f - o ≤ 10000) | none => false
  let n := if run then v.held + 1 else 1
  let s := modDom d (fun v => { v with first := if run then v.first else some o, held := n }) s |> setFld (F.ptpDomStatHELD.dom d) (min n 15) |> intr 663
  let s := if v.first.isNone ∧ d = s.active ∧ s.flag F.ptpCtrlCASTLEAUTO ∧ s.castleOk (1 - d) then castleTo (1 - d) s else s
  if n = 8 then jumpConfirmed d (-o) s else s

/-- The servo of R352. -/
def servo (d : Nat) (o : Int) (s : State) : State :=
  let ki : Int := s.fld (F.ptpDomServoKI.dom d)
  let kp : Int := s.fld (F.ptpDomServoKP.dom d)
  modDom d (fun v =>
    let f := clampI (-200000) 200000 (v.f + ki * o / 65536)
    { v with f := f, r := f + clampI (-500000) 500000 (kp * o / 65536) }) s

/-- The run lengths of Table: Domain states. -/
def trackSample (d : Nat) (o : Int) (s : State) : State :=
  let near : Bool := decide (-100 ≤ o) && decide (o ≤ 100)
  let far : Bool := decide (o < -1000) || decide (1000 < o)
  let s := modDom d (fun v => { v with good := if near then v.good + 1 else 0, bad := if far then v.bad + 1 else 0 }) s
  let v := s.dom d
  if s.domSt d = 4 then domTo d 2 s
  else if s.domSt d = 2 ∧ 16 ≤ v.good then domTo d 3 s
  else if s.domSt d = 3 ∧ 4 ≤ v.bad then domTo d 2 s
  else s

/-- The ingress stamp on DTd less PTP_ASYM.ING of its port, in ns (R351). -/
def State.ingress (s : State) (d : Nat) : Int :=
  ((s.dom d).dt - 1000000 * toInt 32 (s.fld (F.ptpAsymING.at (8 * s.fld (F.ptpDomStatPORT.dom d))))) / 1000000000

/-- PTP acts on messages: no block reset (R422), and the power sequence has not stopped it. -/
def State.ptpOn (s : State) : Bool := !(s.inReset .ptp) && !(s.pwr.stopped.contains 10)

/-- PTP_SYNC_SAMPLE (R351–R356): origin time-stamp and correction of a Sync, in ns. -/
def syncAt (d : Nat) (t1 corr : Int) (s : State) : State :=
  if !s.ptpOn ∨ !(s.flag (F.ptpDomCfgEN.dom d)) ∨ s.domSt d < 2 ∨ 4 < s.domSt d then s
  else
    let v := s.dom d
    let o := s.ingress d - t1 - corr - v.mpd
    let s := setFld (F.ptpDomStatOFFSET.dom d) (ofInt 32 (clampI (-2147483648) 2147483647 o)) s
    if !v.set then
      let s := modDom d (fun v => { v with dt := v.dt - o * 1000000000, set := true }) s
      if d = s.active then gtShow (setGt (s.dom d).dt { s with ptp := { s.ptp with set := true }, pwr := { s.pwr with calBad := true } }) else s
    else if s.stepThr < o ∨ o < -s.stepThr then holdSample d o s
    else
      let s := if v.first.isSome then
          raise .ptp 3 {} (setFld (F.ptpDomStatHELD.dom d) 0 (modDom d (fun v => { v with first := none, held := 0 }) s))
        else s
      trackSample d o (servo d o s)

/-- HOLDOVER (R353): DTd runs at F; the active domain asks for Castling (R357). -/
def holdover (d : Nat) (s : State) : State :=
  if s.domSt d = 3 then
    let s := raise .ptp 6 { addr := d } (domTo d 4 (modDom d (fun v => { v with r := v.f, good := 0, bad := 0, first := none, held := 0 }) s))
    if d = s.active ∧ s.flag F.ptpCtrlCASTLEAUTO then (castleReq s).2 else s
  else if s.domSt d = 2 then domTo d 1 s
  else s

/-- PTP_MESSAGE (R350): what the domain's protocol and selection make of another message. -/
def messageAt (d : Nat) (m : PtpRes) (s : State) : State :=
  if !s.ptpOn ∨ !(s.flag (F.ptpDomCfgEN.dom d)) then s
  else match m with
    | .master p =>
      let s := setFld (F.ptpDomStatPORT.dom d) p.val s
      if s.domSt d = 2 ∨ s.domSt d = 3 then s else domTo d 2 s
    | .noMaster => holdover d s
    | .become => if s.flag (F.ptpDomCfgMASTEREN.dom d) then domTo d 5 s else s
    | .delay ns => modDom d (fun v => { v with mpd := ns }) s
    | .nothing => s

/-- HOLDOVER_ENTRY. -/
def holdoverAt (d : Nat) (s : State) : State :=
  if s.ptpOn ∧ s.flag (F.ptpDomCfgEN.dom d) then holdover d s else s

/-- CASTLE. -/
def castleAt (s : State) : State := if s.pwr.stopped.contains 10 || s.rst.held then s else (castleReq s).2

/-- CASTLE_STEP: lifts only the second condition, and steps GT. -/
def castleStepAt (s : State) : State :=
  if s.pwr.stopped.contains 10 || s.rst.held then s
  else
    let d := 1 - s.active
    if s.domSt d = 3 then decideStep none (castleTo d s) else raise .ptp 5 {} s

/-- EN of a domain changes (PTP_DOMd_CFG). -/
def domEnable (d : Nat) (on : Bool) (s : State) : State :=
  let was := s.flag (F.ptpDomCfgEN.dom d)
  let s := setFlag (F.ptpDomCfgEN.dom d) on s
  if on = was then s else domTo d (if on then 1 else 0) s

/-- PTP validates FRAME_PERIOD (R360). -/
def State.ptpCheck (s : State) : Option Nat :=
  let fp := s.stg F.ptpFramePeriodPERIOD
  if fp < 4166666 * 65536 ∨ 41708375 * 65536 < fp then some 0xA00 else none

/-- PTP_SYNC_SAMPLE. -/
def execPtpSyncSample (d : Fin 2) (t1 corr : Int) (s : State) : Host.Outcome State Fault Refusal := .next (syncAt d.val t1 corr s)
/-- PTP_MESSAGE. -/
def execPtpMessage (d : Fin 2) (res : PtpRes) (s : State) : Host.Outcome State Fault Refusal := .next (messageAt d.val res s)
/-- HOLDOVER_ENTRY. -/
def execHoldoverEntry (d : Fin 2) (s : State) : Host.Outcome State Fault Refusal := .next (holdoverAt d.val s)
/-- CASTLE. -/
def execCastle (s : State) : Host.Outcome State Fault Refusal := .next (castleAt s)
/-- CASTLE_STEP. -/
def execCastleStep (s : State) : Host.Outcome State Fault Refusal := .next (castleStepAt s)

end Sys2Proof.Machine
end

