-- ==== Sys2Proof/Machine/Egress.lean ====
section
/-! DEFINITION. Frames as the switch sees them, its egress queues (R345–R349) and Berranlink frames (R368). -/

namespace Sys2Proof.Machine

/-- A chain port's field. -/
def Fld.cn (f : Fld) (c : Nat) : Fld := f.at (c * 0x100)

/-- CHN acts. -/
def State.chnOn (s : State) : Bool := !(s.inReset .chn) && !(s.pwr.stopped.contains 10)

/-- Whether a chain port runs and its link is up. -/
def State.linkUp (s : State) (c : Nat) : Bool := s.flag (F.chnPortCfgEN.cn c) && s.fld (F.chnPortCfgLINK.cn c) != 0

/-- Count an event of CHN and raise its source. -/
def chnCount (src : Nat) (s : State) : State :=
  raise .chn src {} { s with chn := { s.chn with counts := SMap.put s.chn.counts src (SMap.get s.chn.counts src 0 + 1) } }

/-- Whether a frame carries an 802.1Q tag, its EtherType, and the offset of what follows it. -/
def frTagged (f : List Byte) : Bool := beAt f 12 2 == 0x8100
def frVid (f : List Byte) : Nat := if frTagged f then beAt f 14 2 % 4096 else 0
def frPcp (f : List Byte) : Nat := if frTagged f then beAt f 14 2 / 8192 else 0
def frType (f : List Byte) : Nat := beAt f (if frTagged f then 16 else 12) 2
def frBody (f : List Byte) : Nat := if frTagged f then 18 else 14

/-- The offset of the UDP header of an IPv4 frame, where it is UDP. -/
def frUdp (f : List Byte) : Option Nat :=
  let b := frBody f
  if frType f = 0x0800 ∧ beAt f (b + 9) 1 = 17 then some (b + beAt f b 1 % 16 * 4) else none

/-- UDP destination port, 0 where there is none. -/
def frPort (f : List Byte) : Nat := match frUdp f with | some u => beAt f (u + 2) 2 | none => 0

/-- IPv4 destination address. -/
def frIp (f : List Byte) : Nat := beAt f (frBody f + 16) 4

/-- A PTP message (Table: Egress queues), and the offset of its header. -/
def frPtp (f : List Byte) : Option Nat :=
  if frType f = 0x88F7 then some (frBody f)
  else match frUdp f with
    | some u => if frPort f = 319 ∨ frPort f = 320 then some (u + 8) else none
    | none => none

/-- A frame of a flow that SRC receives. -/
def State.srcFlow (s : State) (f : List Byte) : Bool :=
  (List.range 4).any (fun r =>
    let g := fun (x : Fld) => s.inF (x.at (0x40 * r))
    g F.srcRxCfgEN == 1 && (frUdp f).isSome && frIp f == g F.srcRxFlowDSTIP && frPort f == g F.srcRxFlowUDPPORT &&
      frVid f == g F.srcRxFlowVLAN && frTagged f == (g F.srcRxFlowVLAN != 0))

/-- A frame of preview transmit. -/
def State.txFlow (s : State) (f : List Byte) : Bool :=
  s.inFlag F.srcTxCfgEN && (frUdp f).isSome && frIp f == s.inF F.srcTxFlowDSTIP && frPort f == s.inF F.srcTxFlowUDPPORT

/-- The egress queue a frame is classified to (Table: Egress queues). -/
def State.egressQ (s : State) (f : List Byte) : Nat :=
  let bl := frType f == 0x88B5
  let ty := beAt f (frBody f + 1) 1
  if (frPtp f).isSome then 3
  else if s.srcFlow f ∨ s.txFlow f ∨ frPort f = 5568 ∨ (bl ∧ ty < 0x10) then 2
  else if bl ∧ 0x10 ≤ ty ∧ ty < 0x20 then 0
  else if 4 ≤ frPcp f then 1 else 0

/-- Put a frame in its egress queue of port c, padded to 60 bytes. -/
def send (c : Nat) (f : List Byte) (s : State) : State :=
  { s with out := s.out ++ [.frame c (s.egressQ f) (f ++ List.replicate (60 - f.length) 0)] }

/-- Put a frame in the egress queue of a port whose link is up. -/
def sendUp (c : Nat) (f : List Byte) (s : State) : State := if s.linkUp c then send c f s else s

/-- Hop and chain addresses of Berranlink. -/
def blHop : List Byte := [0x03, 0x47, 0x5A, 0x42, 0x4C, 0x00]
def blChain : List Byte := [0x03, 0x47, 0x5A, 0x42, 0x4C, 0x01]

/-- The chain address as SRC, 0xFFFF without one. -/
def State.blSrc (s : State) : Nat := if s.flag F.chnAddrVALID then s.fld F.chnAddrADDR else 0xFFFF

/-- A Berranlink frame to all (R368). SEQ is not given: a free value. -/
def sendBl (c : Nat) (hop : Bool) (ty : Nat) (down : Bool) (body : List Byte) (s : State) : State :=
  let f := (if hop then blHop else blChain) ++ beBytes 6 Config.fixtureMac.toNat ++ beBytes 2 0x88B5 ++
    [1, BitVec.ofNat 8 ty] ++ beBytes 2 (if down then 0x8000 else 0) ++ beBytes 2 s.blSrc ++ beBytes 2 0xFFFF ++
    beBytes 4 (s.freeW.toNat % 2 ^ 32) ++ beBytes 2 body.length ++ body
  sendUp c f (drawn s)

/-- Whether a Berranlink frame is well formed (R368); its LENGTH agrees with the frame where the padding of a short frame is
all that follows. -/
def blOk (f : List Byte) : Bool :=
  let n := beAt f 26 2
  decide (28 ≤ f.length) && beAt f 14 1 == 1 && beAt f 16 2 % 0x8000 == 0 &&
  (f.length == 28 + n || (f.length == 60 && decide (28 + n ≤ 60)))

/-- The GT of a frame's ingress time-stamp (R351). -/
def State.ingressGt (s : State) (c : Nat) : Nat :=
  (((s.gtFine : Int) - 1000000 * toInt 32 (s.fld (F.ptpAsymING.at (8 * c)))) / 1000000000).toNat

end Sys2Proof.Machine
end

