-- ==== Sys2Proof/Machine/RookTest.lean ====
section
/-! DEFINITION. Rook's test pulses: when a group carries no drive, and the tests of its switches (R319–R322). Windows are
reckoned in quarters of a nanosecond of true time, from the packets tapped. -/

namespace Sys2Proof.Machine

/-- The drive period of a slot that began at `t0` and whose next slot began at `t1` is a drive-free interval, whole where all
its packets are DARK, else as long as the shortest gap (R319). A slot of which the tap missed a packet has none. -/
def State.freePart (s : State) (rate : Nat) (l : PSlot) (start stop : Nat) : Option (Nat × Nat) :=
  if l.miss then none
  else
    match (l.pkts.filter (fun k => !k.dark)).map TePkt.gapc with
    | [] => some (start, stop)
    | g :: gs => some (start, start + s.cycles4 rate (gs.foldl min g))

/-- The drive-free parts of the drive periods of a port's last slots, oldest first, parts that touch as one: the drive period of a slot runs from 336
cycles after the next slot starts to 336 cycles after the one after that (R231, R319). -/
def State.freeParts (s : State) (p : Nat) : List (Nat × Nat) :=
  let rate := s.epCode p
  let d := s.cycles4 rate 336
  match (s.port p).slots with
  | l0 :: l1 :: rest =>
    let now_ := s.freePart rate l1 (4 * l0.at_ + d) (4 * l0.at_ + s.cycles4 rate l0.slotCyc + d)
    let old := match rest with
      | l2 :: _ => s.freePart rate l2 (4 * l1.at_ + d) (4 * l0.at_ + d)
      | [] => none
    match old, now_ with
    | some a, some b => if a.2 = b.1 then [(a.1, b.2)] else [a, b]
    | a, b => a.toList ++ b.toList
  | _ => []

/-- The drive-free interval of a port at an instant (R319): its start taken one cycle and 4 ns late, its end where it has one. -/
def State.freeAt (s : State) (p t : Nat) : Option (Nat × Option Nat) :=
  let late := tcyc4 (s.epCode p) + 16
  if s.epSt p ≠ 4 then (if s.lastDrive p ≤ t then some (s.lastDrive p + late, none) else none)
  else ((s.freeParts p).find? (fun e => decide (e.1 ≤ t) && decide (t < e.2))).map (fun e => (e.1 + late, some e.2))

/-- The test window of group g at an instant, if it is in one: all four ports are drive-free together. -/
def State.testWindow (s : State) (g t : Nat) : Option (Nat × Option Nat) :=
  (List.range 4).foldl (fun a i =>
    match a, s.freeAt (4 * g + i) t with
    | some x, some y => some (max x.1 y.1, match x.2, y.2 with | some b, some c => some (min b c) | some b, none => some b | none, c => c)
    | _, _ => none) (some (0, none))

/-- A test of a switch that fell due at an instant of Rook time may begin now (R320): in a window of at least TP_NS + 48 ns that
has not served this group, 16 ns after it opened, within the nanosecond; or in a window that was open as the switch fell due,
while TP_NS and the 32 ns for the re-closure are left of it. -/
def State.inWindow (s : State) (g due : Nat) : Option Nat :=
  match s.testWindow g (4 * s.now) with
  | some (a, b) =>
    let fits := fun (x n : Nat) => (match b with | some b => decide (x + 4 * (s.rp 0x90 2 + n) ≤ b) | none => true)
    let during := decide (4 * (s.rookNow - due) ≤ 4 * s.now - a) && fits (4 * s.now) 32
    if fits a 48 ∧ a + 64 ≤ 4 * s.now ∧ (4 * s.now < a + 68 ∨ during) ∧ (s.rgroup g).window ≠ some a then some a else none
  | none => none

/-- Rook may test in the forced refresh of a group (R322): not before SLOT_CYC + 352 cycles after it began, on every running
port of the group, and before it ends. -/
def State.inForced (s : State) (g : Nat) : Bool :=
  SMap.get s.rook.forced g 0 == 2 &&
  (List.range 4).all (fun i =>
    let p := 4 * g + i
    s.epSt p != 4 || decide (4 * SMap.get s.rook.forcedAt g 0 + s.cycles4 (s.epCode p) (s.slotCyc (s.epCode p) + 352) ≤ 4 * s.now))

/-- The gate of a switch goes off for a test. -/
def testBegin (g : Nat) (hs : Bool) (win : Option Nat) (s : State) : State :=
  let v := s.rgroup g
  let w := v.sw hs
  setGroup g { v.put hs { w with gate := false, since := s.rookNow, testing := true, redo := false } with lastHs := hs, window := win } s

/-- SWITCH_TEST (R320, R322): in a test window the switch that is due, in a forced refresh one that is overdue; one switch of
a group at a time. -/
def switchTestAt (g : Nat) (s : State) : State :=
  if (s.rgroup g).hs.testing ∨ (s.rgroup g).ls.testing then s
  else if s.inForced g then
    match (if s.testOverdue g (!(s.rgroup g).lastHs) then some (!(s.rgroup g).lastHs)
           else if s.testOverdue g (s.rgroup g).lastHs then some (s.rgroup g).lastHs else none) with
    | some hs => testBegin g hs (s.rgroup g).window s
    | none => s
  else match s.testDue g with
    | some hs => (match s.inWindow g (s.testDueAt g hs) with | some a => testBegin g hs (some a) s | none => s)
    | none => s

/-- SWITCH_TEST_END (R320): TP_NS later the gate goes on; a low readback passes; two failures in a row are a switch fault. -/
def switchTestEndAt (g : Nat) (rb : Bool) (s : State) : State :=
  let v := s.rgroup g
  let hs := v.hs.testing
  let w := v.sw hs
  if !w.testing ∨ !(s.rookSince w.since (s.rp 0x90 2)) then s
  else
    let w' := { w with gate := true, testing := false, since := s.rookNow, passed := if rb then w.passed else s.rookNow, fails := if rb then w.fails + 1 else 0 }
    let s := setGroup g (v.put hs w') s
    if w'.fails = 2 then singleFault (.switch g hs) s else s

end Sys2Proof.Machine
end

