-- ==== Sys2Proof/Machine/RookTap.lean ====
section
/-! DEFINITION. Rook's tap of the emitted stream (R323–R327), and its inputs, switches and states as commands. -/

namespace Sys2Proof.Machine

/-- The zone set of a port's tap. -/
def State.tapSet (s : State) (p : Nat) : Nat := SMap.get s.rook.portSet p 0

/-- Groups whose rows meet a zone (R324). -/
def Zone.groups (z : Zone) : BitVec 8 :=
  (List.range 8).foldl (fun (m : BitVec 8) k => if z.y0 ≤ 128 * k + 127 ∧ 128 * k ≤ z.y1 then m ||| BitVec.ofNat 8 (1 <<< k) else m) 0

/-- A zone is exceeded (R324): ZONE in its groups; ZONE_EXCEED where a group did not hold it. -/
def zoneExceed (z : Zone) (s : State) : State :=
  let gs := z.groups
  let new := s.newCause gs 6
  let s := latchCause gs 6 (modRook (fun r => { r with zoneHot := r.zoneHot ||| gs }) s)
  if new then raise .rook 5 { addr := gs.toNat } s else s

/-- The bins of a port and zone, the one in progress first. -/
def State.tapBins (s : State) (p z : Nat) : List TapBin := SMap.get s.rook.bins (16 * p + z) []

/-- Add to the bin in progress. -/
def addBin (p z a b full : Nat) (s : State) : State :=
  let l := s.tapBins p z
  let h := l.headD {}
  modRook (fun r => { r with bins := SMap.put r.bins (16 * p + z) (⟨h.a + a, h.b + b, h.full + full⟩ :: l.drop 1) }) s

/-- One word as both tap units see it (R323, R325). -/
def tapWord (p z c on st : Nat) (zn : Zone) (s : State) : State :=
  let w := zn.wp (c % 3)
  let v := w * on * (st + 1)
  let s := addBin p z v (w * (255 - on) * (st + 1)) (w * 255 * (st + 1)) s
  if zn.siteLim < v then zoneExceed zn s else s

/-- Whether a site lies in a zone. -/
def Zone.has (z : Zone) (x y : Nat) : Bool := decide (z.x0 ≤ x) && decide (x ≤ z.x1) && decide (z.y0 ≤ y) && decide (y ≤ z.y1)

/-- A ROW packet of tile n through the tap of port p. -/
def tapRow (p n : Nat) (k : TePkt) (s : State) : State :=
  forN 16 (fun z s =>
    let zn := s.rzone (s.tapSet p) z
    if !zn.en then s
    else forN 192 (fun c s =>
      let w := k.words.getD c 0
      if zn.has (64 * (n % 16) + c / 3) (64 * (n / 16) + k.row) then tapWord p z c (w / 16) (w % 16) zn s else s) s) s

/-- The armed zone set applies at a port's PARAM with FRAME_FIRST (R327): every bin of the new set starts at the largest
bin value of the old one. -/
def tapParam (p : Nat) (l : PSlot) (s : State) : State :=
  if l.slot ≠ 0 ∨ l.refresh ≠ 0 then s
  else match (s.rook.zoneArmed.filter (fun e => decide (e.1 ≤ l.frame))).getLast? with
    | none => s
    | some e =>
      if e.2 = s.tapSet p then s
      else
        let m := (List.range 16).foldl (fun m z => (s.tapBins p z).foldl (fun m b => max m b.a) m) 0
        let s := modRook (fun r => { r with portSet := SMap.put r.portSet p e.2 }) s
        forN 16 (fun z s => modRook (fun r => { r with bins := SMap.put r.bins (16 * p + z) (List.replicate 251 ⟨m, 0, m⟩) }) s) s

/-- Mark a position of the newest slot as dealt with. -/
def tapMark (p pos : Nat) (miss : Bool) (s : State) : State :=
  modPort p (fun v => { v with slots := match v.slots with
    | l :: t => { l with tap := l.tap ||| BitVec.ofNat 8 (1 <<< pos), miss := l.miss || miss } :: t
    | [] => [] }) s

/-- Consecutive slots with a missing packet (R326). -/
def tapStreak (p : Nat) (miss : Bool) (s : State) : State :=
  match (s.port p).slots with
  | l :: t =>
    let before : Bool := match t with | m :: _ => m.miss | [] => false
    let n := SMap.get s.rook.misses p 0
    let n' := if miss then (if l.miss then n else if before then n + 1 else 1) else if l.miss || before then n else 0
    modRook (fun r => { r with misses := SMap.store r.misses p n' 0 }) s
  | [] => s

/-- TAP_PACKET: the packet of a position in the newest slot of a port. -/
def tapPacketAt (p pos : Nat) (s : State) : State :=
  match (s.port p).slots with
  | [] => s
  | l :: _ =>
    if s.epSt p ≠ 4 ∨ l.tap.getLsbD pos then s
    else
      let s := if l.tap = 0 then tapParam p l s else s
      let s := tapMark p pos false (tapStreak p false s)
      let k := l.pkts.getD pos {}
      rookEval (if k.dark then s else tapRow p (8 * p + pos) k s)

/-- TAP_LOST (R326): counted as ON 255 at step 15 in every column; its row is unknown, so in every zone the rows of the
tile meet. 64 consecutive slots set TAP. -/
def tapLostAt (p pos : Nat) (s : State) : State :=
  match (s.port p).slots with
  | [] => s
  | l :: _ =>
    if s.epSt p ≠ 4 ∨ l.tap.getLsbD pos then s
    else
      let s := if l.tap = 0 then tapParam p l s else s
      let s := raise .rook 7 { addr := 8 * p + pos } (tapMark p pos true (tapStreak p true s))
      let n := 8 * p + pos
      let s := forN 16 (fun z s =>
        let zn := s.rzone (s.tapSet p) z
        if zn.en ∧ zn.y0 ≤ 64 * (n / 16) + 63 ∧ 64 * (n / 16) ≤ zn.y1 then
          forN 192 (fun c s =>
            let x := 64 * (n % 16) + c / 3
            if zn.x0 ≤ x ∧ x ≤ zn.x1 then tapWord p z c 255 15 zn s else s) s
        else s) s
      rookEval (if 64 ≤ SMap.get s.rook.misses p 0 then latchCause (BitVec.ofNat 8 (1 <<< (p / 4))) 8 s else s)

/-- Window sum of zone z over its last WIN_MS bins, all ports together (R323). -/
def State.winSum (s : State) (z win : Nat) : Nat :=
  (List.range 32).foldl (fun a p => ((s.tapBins p z).take win).foldl (fun a b => a + b.a) a) 0

/-- ZONE_BIN_CLOSE (R323, R325): the tap check, then the sums; new bins begin. -/
def binCloseAt (s : State) : State :=
  if !(s.rookSince s.rook.binAt 1000000) then s
  else
    let bad := (List.range 512).any (fun i =>
      let b := (SMap.get s.rook.bins i []).headD {}
      b.a + b.b != b.full)
    if bad then rookHalt (modRook (fun r => { r with binAt := s.rookNow }) s)
    else
      let s := modRook (fun r => { r with zoneHot := 0, binAt := s.rookNow }) s
      let sets := (List.range 8).filter (fun k => (List.range 32).any (fun p => s.tapSet p == k))
      let s := sets.foldl (fun s k => forN 16 (fun z s =>
        let zn := s.rzone k z
        if zn.en ∧ zn.sumLim < s.winSum z zn.winMs then zoneExceed zn s else s) s) s
      rookEval (modRook (fun r => { r with bins := r.bins.map (fun e => (e.1, ({} :: e.2).take 251)) }) s)

/-- The permitted zone set that matches the staged zones (R327): EN for every zone, the rest only where EN is 1. -/
def State.zoneMatch (s : State) : Option Nat :=
  (List.range 8).find? (fun k => (List.range 16).all (fun z =>
    let f := fun (x : Fld) => s.stg (x.at (16 * z))
    let e := s.rzone k z
    let en := f F.cmpZoneRectEN == 1
    en == e.en && (!en || ((f F.cmpZoneRectKEEPOUT == 1) == e.keepOut && f F.cmpZoneRectX0 == e.x0 && f F.cmpZoneRectX1 == e.x1 &&
      f F.cmpZoneRectY0 == e.y0 && f F.cmpZoneRectY1 == e.y1))))

/-- Refusals of ROOK (R341). -/
def State.rookCheck (s : State) : Option Nat :=
  if s.rookSt = 4 then some 0x901 else if s.rookSt = 0 then some 0x902 else if s.zoneMatch.isNone then some 0x900 else none

/-- The matching set is armed for frame F. -/
def rookArm (f : Nat) (s : State) : State :=
  match s.zoneMatch with
  | some k => modRook (fun r => { r with zoneArmed := (r.zoneArmed.filter (fun e => e.1 != f)) ++ [(f, k)] }) s
  | none => s

/-- FRAME_START(n) of a commit with ROOK in its group: the set in force; sets long applied are forgotten. -/
def rookApply (n : Nat) (s : State) : State :=
  match s.rook.zoneArmed.find? (fun e => e.1 == n) with
  | some e => modRook (fun r => { r with zoneArmed := r.zoneArmed.filter (fun x => decide (n ≤ x.1)) }) s |> setFld F.rookStatZONESET e.2 |> rookEval
  | none => s

/-- ROOK_POWER_ON. -/
def execRookPowerOn (s : State) : Host.Outcome State Fault Refusal := .next (rookPowerOnAt s)
/-- ROOK_INIT_COMPLETE. -/
def execRookInitComplete (t : RookInit) (s : State) : Host.Outcome State Fault Refusal := .next (rookInitDone t s)
/-- INPUT_FILTER_CHANGE. -/
def execInputFilterChange (ch : Fin 6) (run : FilterRun) (s : State) : Host.Outcome State Fault Refusal :=
  .next (filterChange ch.val run.high run.samples s)
/-- TPO_PULSE. -/
def execTpoPulse (src : Fin 2) (high : BitVec 10) (s : State) : Host.Outcome State Fault Refusal := .next (tpoPulseAt src.val high s)
/-- DISCREPANCY. -/
def execDiscrepancy (i : Fin 4) (s : State) : Host.Outcome State Fault Refusal := .next (discrepancyAt i.val s)
/-- HAND_ACTUATED. -/
def execHandActuated (h : HandRun) (s : State) : Host.Outcome State Fault Refusal := .next (handActuatedAt h.hand.val h.samples s)
/-- HAND_RELEASED. -/
def execHandReleased (h : HandRun) (s : State) : Host.Outcome State Fault Refusal := .next (handFreed h.hand.val h.samples s)
/-- PAIR_FAULT. -/
def execPairFault (h : HandRun) (s : State) : Host.Outcome State Fault Refusal := .next (pairFaultAt h.hand.val h.samples s)
/-- SACK_RELEASE. -/
def execSackRelease (heldUs : BitVec 32) (s : State) : Host.Outcome State Fault Refusal := .next (sackAt heldUs.toNat s)
/-- SACK_REARM. -/
def execSackRearm (s : State) : Host.Outcome State Fault Refusal := .next (sackRearmAt s)
/-- GROUP_CLOSE. -/
def execGroupClose (g : Fin 8) (s : State) : Host.Outcome State Fault Refusal := .next (groupCloseAt g.val s)
/-- GROUP_CLOSE_HS_ON. -/
def execGroupCloseHsOn (g : Fin 8) (s : State) : Host.Outcome State Fault Refusal := .next (groupHsOn g.val s)
/-- GROUP_SAFETY_OPEN. -/
def execGroupSafetyOpen (g : Fin 8) (s : State) : Host.Outcome State Fault Refusal := .next (groupSafety g.val s)
/-- GROUP_ORDERLY_OPEN. -/
def execGroupOrderlyOpen (g : Fin 8) (s : State) : Host.Outcome State Fault Refusal := .next (groupOrderly g.val s)
/-- GROUP_ORDERLY_LS_OFF. -/
def execGroupOrderlyLsOff (g : Fin 8) (s : State) : Host.Outcome State Fault Refusal := .next (groupLsOff g.val s)
/-- SWITCH_FAULT. -/
def execSwitchFault (g : Fin 8) (hs : Bool) (s : State) : Host.Outcome State Fault Refusal := .next (switchFaultAt g.val hs s)
/-- RAIL_OK_CHANGE. -/
def execRailOkChange (g : Fin 8) (s : State) : Host.Outcome State Fault Refusal := .next (railOkAt g.val s)
/-- RAIL_CAUSE_CLEAR. -/
def execRailCauseClear (g : Fin 8) (s : State) : Host.Outcome State Fault Refusal := .next (railClear g.val s)
/-- ROOK_CART_DETECT. -/
def execRookCartDetect (run : CartRun) (s : State) : Host.Outcome State Fault Refusal := .next (rookCart run.present run.samples.toNat s)
/-- SWITCH_TEST. -/
def execSwitchTest (g : Fin 8) (s : State) : Host.Outcome State Fault Refusal := .next (switchTestAt g.val s)
/-- SWITCH_TEST_END. -/
def execSwitchTestEnd (g : Fin 8) (rb : Bool) (s : State) : Host.Outcome State Fault Refusal := .next (switchTestEndAt g.val rb s)
/-- TEST_FORCED. -/
def execTestForced (g : Fin 8) (s : State) : Host.Outcome State Fault Refusal := .next (testForcedAt g.val s)
/-- TAP_PACKET. -/
def execTapPacket (p : Fin 32) (pos : Fin 8) (s : State) : Host.Outcome State Fault Refusal := .next (tapPacketAt p.val pos.val s)
/-- ZONE_BIN_CLOSE. -/
def execZoneBinClose (s : State) : Host.Outcome State Fault Refusal := .next (binCloseAt s)
/-- TAP_LOST. -/
def execTapLost (p : Fin 32) (pos : Fin 8) (s : State) : Host.Outcome State Fault Refusal := .next (tapLostAt p.val pos.val s)
/-- STUCK_LINE_ASSERT. -/
def execStuckLineAssert (k : Fin 8) (s : State) : Host.Outcome State Fault Refusal := .next (stuckLine k.val s)
/-- STUCK_LINE_DEASSERT. -/
def execStuckLineDeassert (k : Fin 8) (s : State) : Host.Outcome State Fault Refusal := .next (stuckLineEnd k.val s)
/-- STUCK_OVF_LINE. -/
def execStuckOvfLine (s : State) : Host.Outcome State Fault Refusal := .next (stuckLine 8 s)
/-- ENDGAME_EXPIRY. -/
def execEndgameExpiry (s : State) : Host.Outcome State Fault Refusal := .next (endgameExpire s)
/-- HALT. -/
def execHalt (s : State) : Host.Outcome State Fault Refusal := .next (rookHalt s)
/-- READBACK_CHANGE. -/
def execReadbackChange (g : Fin 8) (hs level : Bool) (s : State) : Host.Outcome State Fault Refusal := .next (readbackAt g.val hs level s)

end Sys2Proof.Machine
end

