-- ==== Sys2Proof/Machine/RookMail.lean ====
section
/-! DEFINITION. Rook's mailbox (R338–R342): the commands and their buffer. -/

namespace Sys2Proof.Machine

/-- Rook as an initiator (FLT_CAP_MSTR 224). -/
def rookWho : Who := { mstr := 224 }

/-- The command buffer. -/
def State.rookBuf (s : State) : Nat := s.fld F.rookAddrADDR * 64

/-- The buffer lies wholly in general scratch SRAM (R340). -/
def State.rookBufOk (s : State) (n : Nat) : Bool := decide (0x11800000 ≤ s.rookBuf) && decide (s.rookBuf + n ≤ 0x12800000)

/-- Run a mailbox command (R340): refused while BUSY, HALTED in HALT, and otherwise BUSY until it completes. -/
def rookCommand (seq : Nat) (act : State → Nat × State) (s : State) : State :=
  if s.inReset .rook then s
  else if s.fld F.rookResSTATE = 1 then raise .rook 1 { addr := 0x24000000, mstr := 255, typ := 2 } s
  else
    let r := if s.rookSt = 4 then (9, s) else act s
    modRook (fun x => { x with busy := some r.1 }) r.2 |> setFld F.rookResSTATE 1 |> setFld F.rookResSEQ seq

/-- A command that reads n bytes of the buffer. -/
def rookRead (n : Nat) (act : List Byte → State → Nat × State) (s : State) : Nat × State :=
  if !(s.rookBufOk n) then (7, s)
  else
    let r := memRead rookWho s.rookBuf n s
    match r.1 with
    | .error _ => (7, r.2)
    | .ok l => act l r.2

/-- A command that writes the buffer. -/
def rookWrite (n : Nat) (l : List Byte) (s : State) : Nat × State :=
  if !(s.rookBufOk n) then (7, s)
  else
    let r := memWrite rookWho s.rookBuf l s
    match r.1 with
    | some _ => (7, r.2)
    | none => (0, r.2)

/-- PARAM_DIGEST: SHA-384 of the block in force. -/
def State.rookDigest (s : State) : BitVec 384 := Config.sha384 s.rblock

/-- The bytes of a digest, first byte first. -/
def digestBytes (d : BitVec 384) : List Byte := beBytes 48 d.toNat

/-- REQ: the new REQ mask. -/
def reqAct (gs : BitVec 8) (s : State) : Nat × State := (0, rookEval (modRook (fun r => { r with req := gs }) s))

/-- RESTART: refused whole where a named group has latched causes that are all MANUAL_PANEL. -/
def restartAct (gs : BitVec 8) (s : State) : Nat × State :=
  let panel := fun (g : Nat) =>
    let l := (List.range 9).filter (fun j => (s.causes g).getLsbD (j + 3))
    !l.isEmpty && l.all (fun j => s.causeMode (j + 3) == 1)
  if (List.range 8).any (fun g => gs.getLsbD g && panel g) then (8, s) else (0, rookEval (restart gs [2] s))

/-- PARAM_LOAD (R338, R339). -/
def paramLoadAct (s : State) : Nat × State :=
  rookRead 4608 (fun b s =>
    if s.rook.waiting then
      match s.rook.lock with
      | some k =>
        if blockOk b ∧ Config.sha384 b = k.2 then
          (0, rookRun (adoptBlock b (modRook (fun r => { r with stored := some b }) s)))
        else (4, s)
      | none => (4, s)
    else if s.rook.lock.isSome then (2, s)
    else if !s.allOff then (3, s)
    else if !(blockOk b) then (4, s)
    else (0, rookEval (adoptBlock b (modRook (fun r => { r with stored := some b }) s)))) s

/-- PARAM_READ: the block in force, then PARAM_DIGEST. -/
def paramReadAct (s : State) : Nat × State := rookWrite 4656 (s.rblock ++ digestBytes s.rookDigest) s

/-- LOCK: the hash of the integrator's key and PARAM_DIGEST are recorded. -/
def lockAct (s : State) : Nat × State :=
  rookRead 48 (fun l s =>
    if s.rook.lock.isSome then (2, s)
    else (0, setFlag F.rookStatLOCKED true (modRook (fun r => { r with lock := some (BitVec.ofNat 384 (beNat l), s.rookDigest) }) s))) s

/-- NONCE: a 48-byte single-use nonce, which nothing determines (a free value). -/
def nonceAct (s : State) : Nat × State :=
  let r := (List.range 6).foldl (fun (a : List Byte × State) _ => (a.1 ++ leBytes 8 a.2.freeW.toNat, drawn a.2)) ([], s)
  let w := rookWrite 48 r.1 r.2
  if w.1 = 0 then (0, modRook (fun x => { x with nonce := some r.1 }) w.2) else w

/-- UNLOCK: the nonce is spent whatever the outcome. -/
def unlockAct (s : State) : Nat × State :=
  rookRead 193 (fun l s =>
    match s.rook.nonce with
    | none => (6, s)
    | some n =>
      let s := modRook (fun r => { r with nonce := none }) s
      match s.rook.lock with
      | none => (5, s)
      | some k =>
        let key := l.take 97
        if Config.sha384 key = k.1 ∧ Config.p384Verify key (Config.sha384 (n ++ digestBytes s.rookDigest)) (slice l 97 96) then
          (0, setFlag F.rookStatLOCKED false (modRook (fun r => { r with lock := none }) s))
        else (5, s)) s

/-- One event of the log as LOG_READ writes it. -/
def logBytes (e : REvent) : List Byte :=
  leBytes 8 e.gt ++ [Config.rookCode e.kind, BitVec.ofNat 8 e.groups, BitVec.ofNat 8 e.input, BitVec.ofNat 8 e.state] ++ List.replicate 4 0

/-- LOG_READ: the events held, oldest first. -/
def logReadAct (s : State) : Nat × State := rookWrite 4096 (s.rook.log.flatMap logBytes) s

/-- ROOK_CMD_COMPLETE. -/
def rookDone (s : State) : State :=
  match s.rook.busy with
  | none => s
  | some r => modRook (fun x => { x with busy := none }) s |> setFld F.rookResSTATE 2 |> setFld F.rookResRESULT r |> intr 621

/-- ROOK_CMD: OP, SEQ and GROUPS. -/
def rookOp (op seq groups : Nat) (s : State) : State :=
  match op with
  | 1 => rookCommand seq (reqAct (BitVec.ofNat 8 groups)) s
  | 2 => rookCommand seq (restartAct (BitVec.ofNat 8 groups)) s
  | 3 => rookCommand seq paramLoadAct s
  | 4 => rookCommand seq paramReadAct s
  | 5 => rookCommand seq lockAct s
  | 6 => rookCommand seq nonceAct s
  | 7 => rookCommand seq unlockAct s
  | 8 => rookCommand seq logReadAct s
  | _ => rookCommand seq (fun s => (1, s)) s

/-- REQ. -/
def execReq (groups : BitVec 8) (seq : BitVec 16) (s : State) : Host.Outcome State Fault Refusal := .next (rookOp 1 seq.toNat groups.toNat s)
/-- RESTART. -/
def execRookRestart (groups : BitVec 8) (seq : BitVec 16) (s : State) : Host.Outcome State Fault Refusal := .next (rookOp 2 seq.toNat groups.toNat s)
/-- PARAM_LOAD. -/
def execParamLoad (seq : BitVec 16) (s : State) : Host.Outcome State Fault Refusal := .next (rookOp 3 seq.toNat 0 s)
/-- PARAM_READ. -/
def execParamRead (seq : BitVec 16) (s : State) : Host.Outcome State Fault Refusal := .next (rookOp 4 seq.toNat 0 s)
/-- LOCK. -/
def execLock (seq : BitVec 16) (s : State) : Host.Outcome State Fault Refusal := .next (rookOp 5 seq.toNat 0 s)
/-- NONCE. -/
def execNonce (seq : BitVec 16) (s : State) : Host.Outcome State Fault Refusal := .next (rookOp 6 seq.toNat 0 s)
/-- UNLOCK. -/
def execUnlock (seq : BitVec 16) (s : State) : Host.Outcome State Fault Refusal := .next (rookOp 7 seq.toNat 0 s)
/-- LOG_READ. -/
def execLogRead (seq : BitVec 16) (s : State) : Host.Outcome State Fault Refusal := .next (rookOp 8 seq.toNat 0 s)
/-- ROOK_CMD_COMPLETE. -/
def execRookCmdComplete (s : State) : Host.Outcome State Fault Refusal := .next (rookDone s)

end Sys2Proof.Machine
end

