-- ==== Sys2Proof/Machine/Resets.lean ====
section
/-! DEFINITION. Reset kinds and pins (R416–R418), the end of a block reset and of its shadow (R422, R423), forced events
(R421), and the events of SYS (R424). -/

namespace Sys2Proof.Machine

/-- The device is off (R415): no reset but power-on acts. -/
def State.isOff (s : State) : Bool := decide (s.pwr.st = .off)

/-- A warm reset with its bit of SYS_RST_CAUSE (R418). One taken in S1 or during a power sequence returns the device to A
(assumption 27); S2 has no clocks to take it. -/
def warmReset (cause : Fld) (s : State) : State :=
  if s.isOff ∨ s.pwr.st = .s2 then s
  else
    let s := setFlag cause true (warmClear s)
    setFld F.pwrStatSTATE 0 { s with pwr := { s.pwr with st := .a, seq := none, stopped := [], domsOff := [] } }

/-- A system reset with its bit of SYS_RST_CAUSE. -/
def systemReset (cause : Fld) (s : State) : State := if s.isOff then s else setFlag cause true (systemClear s)

/-- SYSTEM_RESET (R416): RESET_N low for 1 µs; a stuck pin is not heard. -/
def resetPin (s : State) : State :=
  if s.isOff ∨ s.rst.rstStuck ∨ s.rst.held then s
  else
    let s := systemReset F.sysRstCausePIN s
    { s with rst := { s.rst with held := true, heldSince := s.now } }

/-- SYSTEM_RESET_END: RESET_N rises; what happened to the blocks while held is void. -/
def resetPinEnd (s : State) : State :=
  if s.rst.held then let s := systemClear s; { s with rst := { s.rst with held := false } } else s

/-- RST_PIN_STUCK: 10 s low leaves the reset. -/
def rstStuckAt (s : State) : State :=
  if s.rst.held ∧ s.rst.heldSince + 10000000000 ≤ s.now then
    let s := resetPinEnd s
    raise .sys 7 {} (setFlag F.sysRstCauseRSTSTUCK true { s with rst := { s.rst with rstStuck := true } })
  else s

/-- SVC_PIN_STUCK: SVC_N low for 30 s in operation. -/
def svcStuckAt (s : State) : State :=
  if s.isOff ∨ s.rst.svcStuck then s
  else raise .sys 8 {} (setFlag F.sysRstCauseSVCSTUCK true { s with rst := { s.rst with svcStuck := true } })

/-- WARM_RESET: a press of SVC_N of 50 ms to 2 s, at its release. -/
def svcWarm (s : State) : State := if s.rst.svcStuck ∨ s.rst.held then s else warmReset F.sysRstCauseWARMPIN s

/-- RST_CMD (R418): a write without the key is discarded. -/
def rstCmd (op key : Nat) (s : State) : State :=
  if key ≠ 0x5A5 ∨ s.rst.held then s
  else if op = 1 then systemReset F.sysRstCauseSYSCMD s
  else if op = 2 then warmReset F.sysRstCauseWARMCMD s
  else s

/-- CMP takes what a commit loaded for it (R149), or has it held while its block is. -/
def cmpTakes (l : CmpLoads) (s : State) : State :=
  if s.commitHeld .cmp then { s with lateLoads := some l } else { s with cmp := { s.cmp with loads := l } }

/-- A receive context whose setting changes abandons its frame and what it held for reordering (R133). -/
def rxRebound (old : RegFile) (s : State) : State :=
  forN 4 (fun r s =>
    let part := fun (m : RegFile) => m.filter (fun e => keyIn (0x20080100 + 0x40 * r) (0x20080110 + 0x40 * r) e.1)
    if part old = part s.inForce then s else setRx r {} s) s

/-- INFORCE_ID: SET_ID of the image in force, as it stands when a commit brings it in; free where it cannot be read
(assumption 82). -/
def showSetId (s : State) : State :=
  let r := corQuiet (s.inF F.corCalVaVA + 4) 4 s
  match r.1 with
  | some l => setFld F.corCartStatINFORCEID (leNat l) r.2
  | none => setFld F.corCartStatINFORCEID (r.2.freeW.toNat % 2 ^ 32) (drawn r.2)

/-- COR takes its pair (R174, R182): the pair in force is current, and correction may light, where it is the produced one as
it is applied; a pair that stays in force stays what it was. -/
def corApplied (old : Nat × Nat) (s : State) : State :=
  let cur := decide (s.cor.produced = some s.pairInForce) || (s.cor.current && decide (s.pairInForce = old))
  let s := modCor (fun x => { x with current := cur, dark := if cur then false else x.dark }) s
  if s.pairInForce.1 = old.1 then s else showSetId s

/-- A block leaves its hold: it loads its in-force state from the commits already applied (R34). -/
def loadLate (b : Blk) (s : State) : State :=
  let old := s.inForce
  let pair := s.pairInForce
  let mine := fun (k : Nat) => b.hasKey k && !(s.keyHeld k)
  let s := { s with inForce := old.merge (s.late.filter (fun e => mine e.1)), late := s.late.filter (fun e => !(mine e.1)) }
  match b with
  | .src => rxRebound old s
  | .cmp => (match s.lateLoads with | some l => { s with cmp := { s.cmp with loads := l }, lateLoads := none } | none => s)
  | .cor => if s.inForce = old then s else corApplied pair s
  | .rail k => if s.inForce = old then s else railCommitted k.val s
  | .thm => thmSwitch (SMap.get old F.thmCtrlEN.key F.thmCtrlEN.reset == 1) s
  | .ep p => if p.val = 0 ∧ s.inF F.epRateRATE ≠ SMap.get old F.epRateRATE.key F.epRateRATE.reset then forN 32 epRerate s else s
  | _ => s

/-- What a block does on leaving its reset (R422): it loads its in-force state and sets its staging copies to it (R34), a rail
starts if it can (R286), a port that was up runs BRINGUP, RIL runs the frames asked of it. SYS raises identifier 7, which the
manual names "reset events" and no more (assumption 78). -/
def blockRestart (b : Blk) (s : State) : State :=
  let s := restage b (loadLate b (intr 7 s))
  match b with
  | .rail k => railStartAt k.val s
  | .ep p => if (s.port p.val).restart then bringupAt p.val (modPort p.val (fun v => { v with restart := false }) s) else s
  | .ril => rilResume s
  | _ => s

/-- BLOCK_RESET_END: 16 µs (DDR 2,000 µs) after the reset began. -/
def blockResetEnd (b : Blk) (s : State) : State :=
  match SMap.find s.blkReset b.id with
  | some t => if t ≤ s.now then blockRestart b { s with blkReset := SMap.erase s.blkReset b.id } else s
  | none => s

/-- RESET_SHADOW_END: 64 µs after that. -/
def shadowEnd (b : Blk) (s : State) : State :=
  match SMap.find s.shadow b.id with
  | some t => if t ≤ s.now then { s with shadow := SMap.erase s.shadow b.id } else s
  | none => s

/-- One past the highest source of a block (Table: Default reactions). -/
def sourcesOf : Blk → Nat
  | .sys => 12 | .mel => 6 | .mmu => 7 | .qm => 7 | .crc => 3 | .ddr => 7 | .nvm => 6 | .src => 7 | .cmp => 12
  | .cor => 11 | .te n => if n.val = 0 then 8 else 7 | .ep _ => 11 | .ril => 4 | .diag => 10 | .rail _ => 10 | .thm => 8
  | .fan => 4 | .rook => 15 | .chn => 10 | .ptp => 7 | .sat => 6 | .upd => 11 | .dmx => 5 | .can => 5

/-- Whether a block has a source (bit 2 is reserved in SAT, DMX and CAN). -/
def hasSource (b : Blk) (i : Nat) : Bool :=
  decide (i < sourcesOf b) && !(i == 2 && (b == .sat || b == .dmx || b == .can))

/-- A forced event (R421): the reactions in full, captured with TYPE 7, no change of FLT_RAW and no substitution. -/
def forceEvent (b : Blk) (src : Nat) (s : State) : State :=
  let f := s.fltSet b
  let s' := setFlt b (f.event src { typ := 7 } s.gt) s
  if f.stat.getLsbD src then s' else takeReactions b src s'

/-- The sources named by FLT_FORCE, from the lowest, up to one that resets the chip. -/
def forceList (b : Blk) : List Nat → State → State
  | [], s => s
  | i :: l, s =>
    let chip := (s.react b i).getLsbD 3 && !((s.fltSet b).stat.getLsbD i)
    let s := forceEvent b i s
    if chip then s else forceList b l s

/-- FLT_FORCE. -/
def fltForce (b : Blk) (m : BitVec 32) (s : State) : State :=
  forceList b ((List.range 32).filter (fun i => m.getLsbD i && hasSource b i)) s

/-- FLT_CAP_CLR: the capture is zeroed and VALID cleared. -/
def capClear (b : Blk) (s : State) : State := setFlt b { s.fltSet b with cap := {} } s

/-- SYSTEM_RESET. -/
def execSystemReset (s : State) : Host.Outcome State Fault Refusal := .next (resetPin s)
/-- SYSTEM_RESET_END. -/
def execSystemResetEnd (s : State) : Host.Outcome State Fault Refusal := .next (resetPinEnd s)
/-- RST_PIN_STUCK. -/
def execRstPinStuck (s : State) : Host.Outcome State Fault Refusal := .next (rstStuckAt s)
/-- RESET_PIN_REARM. -/
def execResetPinRearm (s : State) : Host.Outcome State Fault Refusal := .next { s with rst := { s.rst with rstStuck := false } }
/-- WARM_RESET. -/
def execWarmReset (s : State) : Host.Outcome State Fault Refusal := .next (svcWarm s)
/-- SVC_PIN_STUCK. -/
def execSvcPinStuck (s : State) : Host.Outcome State Fault Refusal := .next (svcStuckAt s)
/-- SVC_PIN_REARM. -/
def execSvcPinRearm (s : State) : Host.Outcome State Fault Refusal := .next { s with rst := { s.rst with svcStuck := false } }
/-- RST_CMD_SYSTEM. -/
def execRstCmdSystem (key : BitVec 12) (s : State) : Host.Outcome State Fault Refusal := .next (rstCmd 1 key.toNat s)
/-- RST_CMD_WARM. -/
def execRstCmdWarm (key : BitVec 12) (s : State) : Host.Outcome State Fault Refusal := .next (rstCmd 2 key.toNat s)
/-- BLOCK_RESET_END. -/
def execBlockResetEnd (b : Blk) (s : State) : Host.Outcome State Fault Refusal := .next (blockResetEnd b s)
/-- RESET_SHADOW_END. -/
def execResetShadowEnd (b : Blk) (s : State) : Host.Outcome State Fault Refusal := .next (shadowEnd b s)
/-- FLT_FORCE. -/
def execFltForce (b : Blk) (bits : BitVec 32) (s : State) : Host.Outcome State Fault Refusal := .next (fltForce b bits s)
/-- FLT_CAP_CLR. -/
def execFltCapClr (b : Blk) (s : State) : Host.Outcome State Fault Refusal := .next (capClear b s)
/-- PLL_UNLOCK (R424). -/
def execPllUnlock (s : State) : Host.Outcome State Fault Refusal := .next (raise .sys 10 {} s)
/-- XTAL_FAIL (R424). -/
def execXtalFail (s : State) : Host.Outcome State Fault Refusal := .next (raise .sys 11 {} s)

end Sys2Proof.Machine
end

