-- ==== Sys2Proof/Machine/Accessory.lean ====
section
/-! DEFINITION. The DMX and RDM port (R375–R377) and the CAN ports (R378, R379). -/

namespace Sys2Proof.Machine

/-- Change DMX. -/
def modDmx (f : DmxState → DmxState) (s : State) : State := { s with dmx := f s.dmx }

/-- DMX acts. -/
def State.dmxOn (s : State) : Bool :=
  s.flag F.dmxCfgEN && !(s.inReset .dmx) && !(s.pwr.stopped.contains 10) && !s.isOff && !s.rst.held

/-- A NULL start-code packet (R375, R377): its slots replace DMX_SLOTS whole. -/
def dmxNull (slots : List Byte) (s : State) : State :=
  let p := slots ++ List.replicate (512 - slots.length) 0
  let s := forN 64 (fun i => setFld (F.dmxSlotsSLOTS.at (8 * i)) (leAt p (8 * i) 8)) s
  let s := modDmx (fun d => { d with last := s.now }) (countMod F.dmxStatPACKETS 1 (setFld F.dmxStatSLOTS slots.length s))
  if s.flag F.dmxStatLOSS then intr 750 (raise .dmx 3 {} (endCond .dmx 3 (setFlag F.dmxStatLOSS false s))) else s

/-- DMX_PACKET (R375): an alternate start code other than 0xCC goes to the queue. -/
def dmxPacketIn (code : Nat) (slots : List Byte) (s : State) : State :=
  if !s.dmxOn ∨ 512 < slots.length then s
  else if code = 0 then dmxNull slots s
  else if code = 0xCC then s
  else (hwPush (s.fld F.dmxCfgQUEUE) (BitVec.ofNat 8 code :: slots) s).2

/-- DMX_LOSS (R375). -/
def dmxLost (s : State) : State :=
  if s.dmxOn ∧ !(s.flag F.dmxStatLOSS) ∧ s.dmx.last + s.fld F.dmxCfgLOSSMS * 1000000 ≤ s.now then
    intr 750 (raiseCond .dmx 3 {} (setFlag F.dmxStatLOSS true s))
  else s

/-- The RDM checksum: the sum of the bytes before it, modulo 65,536. -/
def rdmSum (l : List Byte) : Nat := (l.map BitVec.toNat).foldl (· + ·) 0 % 65536

/-- A packet whose checksum, in its last two bytes, is right. -/
def rdmOk (l : List Byte) : Bool :=
  decide (26 ≤ l.length) && beAt l (l.length - 2) 2 == rdmSum (l.take (l.length - 2))

/-- The answer to DISC_UNIQUE_BRANCH: preamble, separator, and the encoded UID with its checksum (ANSI E1.20). -/
def rdmDiscovery (uid : Nat) : List Byte :=
  let e := fun (b : Byte) => [b ||| 0xAA, b ||| 0x55]
  let u := (beBytes 6 uid).flatMap e
  List.replicate 7 0xFE ++ [0xAA] ++ u ++ (beBytes 2 (rdmSum u)).flatMap e

/-- RDM_REQUEST (R376). -/
def rdmIn (l : List Byte) (s : State) : State :=
  if !s.dmxOn then s
  else if leAt l 0 1 ≠ 0xCC ∨ !(rdmOk l) then countSat F.dmxStatRDMBAD 1 s
  else
    let uid := s.fld F.dmxUidUID
    let dst := beAt l 3 6
    let all := dst = 0xFFFFFFFFFFFF ∨ (dst % 2 ^ 32 = 0xFFFFFFFF ∧ dst / 2 ^ 32 = uid / 2 ^ 32)
    if beAt l 20 1 = 0x10 ∧ beAt l 21 2 = 1 then
      if !(s.flag F.dmxCfgMUTED) ∧ beAt l 24 6 ≤ uid ∧ uid ≤ beAt l 30 6 then { s with out := s.out ++ [.rdm (rdmDiscovery uid)] }
      else s
    else if dst = uid ∨ all then
      let r := hwPush (s.fld F.dmxCfgQUEUE) l s
      if r.1 then intr 749 (modDmx (fun d => { d with req := some r.2.now, late := false }) r.2) else r.2
    else s

/-- RDM_SEND (R377): a write of DMX_RESP_LEN with SEND. -/
def rdmArm (len : Nat) (s : State) : State :=
  if s.inReset .dmx ∨ s.pwr.stopped.contains 10 ∨ s.rst.held then s
  else if len = 0 ∨ 257 < len ∨ s.flag F.dmxStatRESPBUSY ∨ s.dmx.req.isNone then
    raise .dmx 1 { addr := 0x27000020, typ := 2 } s
  else
    modDmx (fun d => { d with late := (match d.req with | some t => decide (t + 1800000 < s.now) | none => false) }) s |>
      setFld F.dmxRespLenLEN len |> setFlag F.dmxStatRESPBUSY true

/-- The bytes of DMX_RESP. -/
def State.dmxResp (s : State) : List Byte := (List.range 64).flatMap (fun i => leBytes 8 (s.fld (F.dmxRespBYTES.at (8 * i))))

/-- RDM_RESPONSE_SENT: no earlier than 176 µs after the request. -/
def rdmSent (s : State) : State :=
  match s.dmx.req with
  | some t =>
    if s.dmxOn ∧ s.flag F.dmxStatRESPBUSY ∧ !s.dmx.late ∧ t + 176000 ≤ s.now then
      let s := { s with out := s.out ++ [.rdm (s.dmxResp.take (s.fld F.dmxRespLenLEN))] }
      setFlag F.dmxStatRESPBUSY false (modDmx (fun d => { d with req := none }) s)
    else s
  | none => s

/-- RDM_LATE (R376): no response within 1.8 ms of the request, and none is sent. -/
def rdmMissed (s : State) : State :=
  match s.dmx.req with
  | some t =>
    if s.dmxOn ∧ t + 1800000 ≤ s.now ∧ (s.dmx.late ∨ !(s.flag F.dmxStatRESPBUSY)) then
      let s := setFlag F.dmxStatRESPBUSY false (modDmx (fun d => { d with req := none, late := false }) s)
      raise .dmx 4 {} (countSat F.dmxStatRDMLATE 1 s)
    else s
  | none => s

/-- A field of CAN port n. -/
def Fld.can (f : Fld) (n : Nat) : Fld := f.at (n * 0x800)

/-- A CAN port beside its registers. -/
def State.canPort (s : State) (n : Nat) : CanPort := SMap.get s.can n {}
def modCan (n : Nat) (f : CanPort → CanPort) (s : State) : State := { s with can := SMap.put s.can n (f (s.canPort n)) }

/-- A port acts. -/
def State.canOn (s : State) (n : Nat) : Bool :=
  s.flag (F.canPortCtrlEN.can n) && !(s.inReset .can) && !(s.pwr.stopped.contains 10) && !s.isOff && !s.rst.held

/-- STATE of a port: 0 error-active, 1 error-passive, 2 bus-off, 3 stopped. -/
def State.canSt (s : State) (n : Nat) : Nat := s.fld (F.canPortStatSTATE.can n)

/-- A port takes a state: identifier 753 + n at each change. -/
def canTo (n st : Nat) (s : State) : State :=
  if s.canSt n = st then s else intr (753 + n) (setFld (F.canPortStatSTATE.can n) st s)

/-- Error-active or error-passive by the counters (ISO 11898-1). -/
def canCounters (n : Nat) (s : State) : State :=
  canTo n (if 127 < s.fld (F.canPortStatTEC.can n) ∨ 127 < s.fld (F.canPortStatREC.can n) then 1 else 0) s

/-- Data bytes of a DLC. -/
def dlcLen (fd : Bool) (dlc : Nat) : Nat :=
  if dlc ≤ 8 then dlc
  else if !fd then 8
  else match dlc with | 9 => 12 | 10 => 16 | 11 => 20 | 12 => 24 | 13 => 32 | 14 => 48 | _ => 64

/-- The lowest filter that matches (R379). -/
def State.canFilter (s : State) (n : Nat) (ide : Bool) (id : Nat) : Option Nat :=
  (List.range 32).find? (fun f =>
    let g := fun (x : Fld) => s.fld ((x.can n).at (16 * f))
    g F.canPortFltIdEN == 1 && g F.canPortFltIdIDE == b2n ide && (id ^^^ g F.canPortFltIdID) &&& g F.canPortFltMaskMASK == 0)

/-- Bytes 0–7 of a CAN item. -/
def canWord (f : CanFrame) (filter : Nat) : Nat :=
  f.id.toNat + b2n f.ide * 2 ^ 29 + b2n f.rtr * 2 ^ 30 + b2n f.fdf * 2 ^ 31 + b2n f.brs * 2 ^ 32 + b2n f.esi * 2 ^ 33 +
    f.dlc.toNat * 2 ^ 36 + filter * 2 ^ 40

/-- An accepted frame is pushed (R379). -/
def canAccept (n : Nat) (f : CanFrame) (s : State) : State :=
  match s.canFilter n f.ide f.id.toNat with
  | none => s
  | some k =>
    let len := if f.rtr then 0 else dlcLen f.fdf f.dlc.toNat
    let r := hwPush (s.fld (F.canPortQueuesRXQ.can n)) (leBytes 8 (canWord f k) ++ leBytes 8 s.gt ++ f.data.take len) s
    if r.1 then countMod (F.canPortStatRXD.can n) 1 r.2
    else raise .can 4 { addr := n } (countMod (F.canPortCntRXLOST.can n) 1 r.2)

/-- CAN_FRAME_RX: a frame received without error (R378, R379); the receive counter falls as ISO 11898-1 says. -/
def canRx (n : Nat) (f : CanFrame) (s : State) : State :=
  if !(s.canOn n) ∨ 1 < s.canSt n ∨ s.flag (F.canPortCtrlLOOP.can n) ∨ (f.fdf ∧ !(s.flag (F.canPortCtrlFD.can n))) then s
  else
    let r := s.fld (F.canPortStatREC.can n)
    canAccept n f (canCounters n (setFld (F.canPortStatREC.can n) (if 127 < r then 127 else r - 1) s))

/-- A transmit item that must be discarded (R379). -/
def canItemBad (fd : Bool) (l : List Byte) : Bool :=
  let w := leAt l 0 8
  decide (l.length < 16) || bits w 35 33 != 0 || bits w 63 40 != 0 || leAt l 8 8 != 0 || (bit w 31 && !fd) || (bit w 30 && bit w 31) ||
    l.length != 16 + (if bit w 30 then 0 else dlcLen (bit w 31) (bits w 39 36))

/-- CAN_TX_ITEM: the port takes its next transmit item. -/
def canTake (n : Nat) (s : State) : State :=
  if !(s.canOn n) ∨ 1 < s.canSt n ∨ s.flag (F.canPortCtrlLISTEN.can n) ∨ (s.canPort n).cur.isSome then s
  else
    let r := hwPop (s.fld (F.canPortQueuesTXQ.can n)) s
    match r.1 with
    | none => r.2
    | some l =>
      if canItemBad (r.2.flag (F.canPortCtrlFD.can n)) l then intr (753 + n) (countMod (F.canPortCntTXBAD.can n) 1 r.2)
      else
        let s := modCan n (fun c => { c with cur := some l }) r.2
        if s.flag (F.canPortCtrlLOOP.can n) then s else { s with out := s.out ++ [.can n l] }

/-- The frame of a transmit item. -/
def canFrameOf (l : List Byte) : CanFrame :=
  let w := leAt l 0 8
  { id := BitVec.ofNat 29 w, ide := bit w 29, rtr := bit w 30, fdf := bit w 31, brs := bit w 32, esi := false,
    dlc := BitVec.ofNat 4 (bits w 39 36), data := l.drop 16 }

/-- CAN_TX_DONE: the frame in hand has succeeded; in loopback the port receives it. -/
def canSent (n : Nat) (s : State) : State :=
  match (s.canPort n).cur with
  | some l =>
    if s.canOn n ∧ s.canSt n ≤ 1 then
      let s := modCan n (fun c => { c with cur := none }) s
      let s := canCounters n (setFld (F.canPortStatTEC.can n) (s.fld (F.canPortStatTEC.can n) - 1) (countMod (F.canPortStatTXD.can n) 1 s))
      if s.flag (F.canPortCtrlLOOP.can n) then canAccept n (canFrameOf l) s else s
    else s
  | none => s

/-- CAN_BUS_ERROR: an error of a kind of LEC, with what ISO 11898-1 adds to a counter. A listening port counts nothing. -/
def canError (n : Nat) (transmit : Bool) (inc lec : Nat) (s : State) : State :=
  if !(s.canOn n) ∨ 1 < s.canSt n then s
  else
    let s := setFld (F.canPortStatLEC.can n) lec s
    if s.flag (F.canPortCtrlLISTEN.can n) then s
    else if transmit then
      let t := s.fld (F.canPortStatTEC.can n) + inc
      canCounters n (modCan n (fun c => { c with past255 := c.past255 || decide (255 < t) }) (setFld (F.canPortStatTEC.can n) (min t 255) s))
    else canCounters n (setFld (F.canPortStatREC.can n) (min (s.fld (F.canPortStatREC.can n) + inc) 255) s)

/-- BUS_OFF (R379): TEC has exceeded 255. -/
def canBusOff (n : Nat) (s : State) : State :=
  if s.canOn n ∧ s.canSt n ≤ 1 ∧ (s.canPort n).past255 then
    let s := modCan n (fun c => { c with past255 := false, off := true }) s
    raise .can 3 { addr := n } (countMod (F.canPortCntBUSOFFS.can n) 1 (canTo n 2 s))
  else s

/-- CAN_RESTART: in bus-off only. -/
def canRecover (n : Nat) (s : State) : State :=
  if s.canOn n ∧ s.canSt n = 2 then setFlag (F.canPortStatRECOVERING.can n) true s else s

/-- BUS_OFF_RECOVERY_END. -/
def canRecovered (n : Nat) (s : State) : State :=
  if s.canOn n ∧ s.canSt n = 2 ∧ s.flag (F.canPortStatRECOVERING.can n) then
    modCan n (fun c => { c with off := false }) s |> setFlag (F.canPortStatRECOVERING.can n) false |>
      setFld (F.canPortStatTEC.can n) 0 |> setFld (F.canPortStatREC.can n) 0 |> canTo n 0
  else s

/-- EN of a port changes: a port that went bus-off and has not recovered joins the bus as bus-off. -/
def canEnable (n : Nat) (on : Bool) (s : State) : State :=
  if s.flag (F.canPortCtrlEN.can n) = on then s
  else
    let s := setFlag (F.canPortStatRECOVERING.can n) false (setFlag (F.canPortCtrlEN.can n) on s)
    if !on then canTo n 3 s
    else if (s.canPort n).off then canTo n 2 s
    else canCounters n s

/-- DMX_PACKET. -/
def execDmxPacket (code : BitVec 8) (slots : List Byte) (s : State) : Host.Outcome State Fault Refusal :=
  .next (dmxPacketIn code.toNat slots s)
/-- DMX_LOSS. -/
def execDmxLoss (s : State) : Host.Outcome State Fault Refusal := .next (dmxLost s)
/-- RDM_REQUEST. -/
def execRdmRequest (packet : List Byte) (s : State) : Host.Outcome State Fault Refusal := .next (rdmIn packet s)
/-- RDM_SEND. -/
def execRdmSend (len : BitVec 9) (s : State) : Host.Outcome State Fault Refusal := .next (rdmArm len.toNat s)
/-- RDM_RESPONSE_SENT. -/
def execRdmResponseSent (s : State) : Host.Outcome State Fault Refusal := .next (rdmSent s)
/-- RDM_LATE. -/
def execRdmLate (s : State) : Host.Outcome State Fault Refusal := .next (rdmMissed s)
/-- CAN_FRAME_RX. -/
def execCanFrameRx (n : Fin 2) (f : CanFrame) (s : State) : Host.Outcome State Fault Refusal := .next (canRx n.val f s)
/-- CAN_TX_ITEM. -/
def execCanTxItem (n : Fin 2) (s : State) : Host.Outcome State Fault Refusal := .next (canTake n.val s)
/-- CAN_TX_DONE. -/
def execCanTxDone (n : Fin 2) (s : State) : Host.Outcome State Fault Refusal := .next (canSent n.val s)
/-- BUS_OFF. -/
def execBusOff (n : Fin 2) (s : State) : Host.Outcome State Fault Refusal := .next (canBusOff n.val s)
/-- CAN_RESTART. -/
def execCanRestart (n : Fin 2) (s : State) : Host.Outcome State Fault Refusal := .next (canRecover n.val s)
/-- BUS_OFF_RECOVERY_END. -/
def execBusOffRecoveryEnd (n : Fin 2) (s : State) : Host.Outcome State Fault Refusal := .next (canRecovered n.val s)
/-- CAN_BUS_ERROR. -/
def execCanBusError (n : Fin 2) (transmit : Bool) (inc : Fin 9) (lec : Fin 7) (s : State) : Host.Outcome State Fault Refusal :=
  .next (canError n.val transmit inc.val lec.val s)

end Sys2Proof.Machine
end

