-- ==== Sys2Proof/Machine/Dma.lean ====
section
/-! DEFINITION. DMA channels 8–63 (R90–R100). Channels 0–7 belong to Confluence and take no command. -/

namespace Sys2Proof.Machine

/-- A field of a channel. -/
def Fld.dma (f : Fld) (n : Nat) : Fld := f.at (n * 0x100)

/-- The hidden state of a channel. -/
def State.chan (s : State) (n : Nat) : DmaChan := SMap.get s.dma n {}

/-- Replace the hidden state of a channel. -/
def setChan (n : Nat) (c : DmaChan) (s : State) : State := { s with dma := SMap.put s.dma n c }

/-- A channel as an initiator. -/
def dmaWho (n : Nat) : Who := { mstr := 64 + n, rd := 4, wr := 4 }

/-- DMA_CHn_STAT.STATE. -/
def State.chSt (s : State) (n : Nat) : Nat := s.fld (F.dmaChStatSTATE.dma n)

/-- A channel event: EVT is set and identifier 81 + n raised (R105). -/
def chEvent (n : Nat) (s : State) : State := intr (81 + n) (setFlag (F.dmaChStatEVT.dma n) true s)

/-- A channel stops on a fault (R95): it parks on causes 2, 3 and 4, and enters ERROR on the others; the record, RESULT
and the event follow. -/
def chFault (n phase : Nat) (c : Cause) (va : Nat) (s : State) : State :=
  let park := c.code = 2 ∨ c.code = 3 ∨ c.code = 4
  let ws := frecWords (s.fld (F.dmaChCtrlASID.dma n)) phase 1 n c va (s.fld (F.dmaChPosROW.dma n))
    (s.fld (F.dmaChPosBYTE.dma n)) s.gt
  let s := s |> setFrec (F.dmaChFrecW.dma n) ws |> setFld (F.dmaChStatRESULT.dma n) c.code |>
    setFld (F.dmaChStatSTATE.dma n) (if park then 3 else 4) |> chEvent n |> fltqPush ws
  if park then s else raise .mmu 6 { addr := va, mstr := 64 + n, typ := 4 } s

/-- The phase a failed access records. -/
def phaseOf (e : VErr) (p : Nat) : Nat := if e.walkRead then 4 else p

/-- A descriptor from its 64 bytes (Descriptor — 64 bytes). -/
def parseDesc (l : List Byte) : DmaDesc :=
  let c := leAt l 0 4
  { kind := bits c 31 28, irq := bit c 27, last := bit c 26, physSrc := bit c 25, physDst := bit c 24,
    tag := BitVec.ofNat 16 c, src := BitVec.ofNat 64 (leAt l 8 8), dst := BitVec.ofNat 64 (leAt l 16 8),
    width := leAt l 0x18 4, rows := leAt l 0x1C 4, sstride := toInt 32 (leAt l 0x20 4),
    dstride := toInt 32 (leAt l 0x24 4), fill := BitVec.ofNat 64 (leAt l 0x28 8), next := BitVec.ofNat 64 (leAt l 0x30 8) }

/-- Lowest and highest byte address of a side over all rows (R92). -/
def extent (base : Nat) (stride : Int) (width rows : Nat) : Int × Int :=
  let d := stride * ((rows : Int) - 1)
  ((base : Int) + min 0 d, (base : Int) + max 0 d + (width : Int) - 1)

/-- A malformed descriptor (R92). The extents are compared as the numbers in SRC and DST, also where one side is physical
and the other virtual: the manual does not say otherwise (assumption 73). -/
def descBad (l : List Byte) (d : DmaDesc) (physOk : Bool) : Bool :=
  let ss := if d.kind = 1 then d.sstride else 0
  let ds := if d.kind = 0 then 0 else d.dstride
  let a := extent d.src.toNat ss d.width d.rows
  let b := extent d.dst.toNat ds d.width d.rows
  decide (2 < d.kind) || bits (leAt l 0 4) 23 16 != 0 || leAt l 4 4 != 0 || d.width == 0 || d.rows == 0 ||
  (d.kind == 0 && d.rows != 1) || (!d.last && d.next.toNat % 64 != 0) || ((d.physSrc || d.physDst) && !physOk) ||
  (d.kind != 2 && decide (a.1 ≤ b.2) && decide (b.1 ≤ a.2))

/-- Load the descriptor at DMA_CHn_DESC (R91, R92). An address that is not a multiple of 64, of which the manual says nothing
for the head of a chain, is used as it is (assumption 73). -/
def loadDesc (n : Nat) (s : State) : State :=
  let va := s.fld (F.dmaChDescADDR.dma n)
  let s := s |> setChan n { stage := .load, desc := none } |> setFld (F.dmaChPosROW.dma n) 0 |>
    setFld (F.dmaChPosBYTE.dma n) 0 |> setFld (F.dmaChStatSTATE.dma n) 1
  let r := ioRead (dmaWho n) .general false (s.fld (F.dmaChCtrlASID.dma n)) va 64 s
  match r.1 with
  | .error e => chFault n (phaseOf e 0) e.cause e.va r.2
  | .ok l =>
    let d := parseDesc l
    if descBad l d (r.2.flag F.mmuCtrlPHYSOK) then chFault n 0 ⟨0x40, 0⟩ va r.2
    else setChan n { stage := .data, desc := some d } r.2

/-- START (Table: Channel commands). -/
def startCh (n : Nat) (s : State) : State :=
  if n < 8 ∨ s.inReset .mmu then s
  else if s.chSt n = 0 ∨ s.chSt n = 4 then loadDesc n (setFld (F.dmaChStatCOUNT.dma n) 0 s)
  else raise .mmu 1 { addr := 0x20024000 + n * 0x100, mstr := 255, typ := 2 } s

/-- RESUME: a PARKED or PAUSED channel goes on where it stood (R96). -/
def resumeCh (n : Nat) (s : State) : State :=
  if n < 8 ∨ s.inReset .mmu then s
  else if s.chSt n = 2 ∨ s.chSt n = 3 then
    match (s.chan n).desc with
    | none => loadDesc n s
    | some _ => setFld (F.dmaChStatSTATE.dma n) 1 (setChan n { s.chan n with pausing := false } s)
  else s

/-- The address of byte `byte` of row `row` of a side, modulo 2⁶⁴: one below 0 is no address below 2⁴⁸ (R74). -/
def sideAddr (base : Word) (stride : Int) (row byte : Nat) : Nat :=
  (((base.toNat : Int) + stride * row + byte) % (2 ^ 64 : Int)).toNat

/-- The destination address at a position (R93). -/
def DmaDesc.dstAt (d : DmaDesc) (row byte : Nat) : Nat := sideAddr d.dst (if d.kind = 0 then 0 else d.dstride) row byte

/-- The source address at a position (R93). -/
def DmaDesc.srcAt (d : DmaDesc) (row byte : Nat) : Nat := sideAddr d.src (if d.kind = 1 then d.sstride else 0) row byte

/-- Whether a channel stands at a 64-byte destination boundary: it moves no data, or its next byte begins one. -/
def State.atBoundary (s : State) (n : Nat) : Bool :=
  match (s.chan n).stage, (s.chan n).desc with
  | .data, some d => d.dstAt (s.fld (F.dmaChPosROW.dma n)) (s.fld (F.dmaChPosBYTE.dma n)) % 64 == 0
  | _, _ => true

/-- A pause that was asked for takes effect at a boundary. -/
def pauseIf (n : Nat) (s : State) : State :=
  if (s.chan n).pausing ∧ s.chSt n = 1 ∧ s.atBoundary n then
    setFld (F.dmaChStatSTATE.dma n) 2 (setChan n { s.chan n with pausing := false } s)
  else s

/-- PAUSE: the channel stops at the next 64-byte destination boundary (R94, DMA_CHn_CTRL). -/
def pauseCh (n : Nat) (s : State) : State :=
  if n < 8 ∨ s.inReset .mmu then s
  else if s.chSt n = 1 then pauseIf n (setChan n { s.chan n with pausing := true } s) else s

/-- The STATUS word of a descriptor. -/
def statusWord (gt code : Nat) (tag : BitVec 16) : Nat := gt % 2 ^ 32 * 2 ^ 32 + 2 ^ 31 + code * 2 ^ 16 + tag.toNat

/-- ABORT: STATUS 0x41 where its page can be written and the descriptor was being worked on, but not after a fault of the
STATUS write itself; the channel becomes IDLE. -/
def abortCh (n : Nat) (s : State) : State :=
  if n < 8 ∨ s.inReset .mmu then s
  else if s.chSt n = 0 then s
  else
    let c := s.chan n
    let s1 := match c.desc with
      | none => s
      | some d =>
        if c.stage = .status ∧ (s.chSt n = 3 ∨ s.chSt n = 4) then s
        else (ioWrite (dmaWho n) .general false (s.fld (F.dmaChCtrlASID.dma n)) (s.fld (F.dmaChDescADDR.dma n) + 0x38)
                (leBytes 8 (statusWord s.gt 0x41 d.tag)) s).2
    s1 |> setFld (F.dmaChStatRESULT.dma n) 0x41 |> setFld (F.dmaChStatSTATE.dma n) 0 |> setChan n {}

/-- Whether another running channel of higher PRIO has data to move. -/
def State.outranked (s : State) (n : Nat) : Bool :=
  (List.range 64).any (fun m => decide (8 ≤ m) && s.chSt m == 1 && decide ((s.chan m).stage = .data) &&
    decide (s.fld (F.dmaChCtrlPRIO.dma n) < s.fld (F.dmaChCtrlPRIO.dma m)))

/-- Source bytes of a burst. -/
def burstBytes (n : Nat) (d : DmaDesc) (row byte k : Nat) (s : State) : Except VErr (List Byte) × State :=
  if d.kind = 2 then
    (.ok ((List.range k).map (fun j => BitVec.ofNat 8 (d.fill.toNat >>> (8 * ((byte + j) % 8))))), s)
  else
    ioRead (dmaWho n) .general d.physSrc (s.fld (F.dmaChCtrlASID.dma n)) (d.srcAt row byte) k s

/-- One burst (R93): rows in order, bytes in increasing order, up to the next 64-byte destination boundary. -/
def burstCh (n : Nat) (s : State) : State :=
  match s.chSt n, (s.chan n).stage, (s.chan n).desc with
  | 1, .data, some d =>
    if s.outranked n ∨ s.inReset .mmu ∨ n < 8 then s
    else
      let row := s.fld (F.dmaChPosROW.dma n)
      let byte := s.fld (F.dmaChPosBYTE.dma n)
      let a := d.dstAt row byte
      let k := min (64 - a % 64) (d.width - byte)
      let r := burstBytes n d row byte k s
      match r.1 with
      | .error e => chFault n (phaseOf e 1) e.cause e.va r.2
      | .ok l =>
        let w := ioWrite (dmaWho n) .general d.physDst (r.2.fld (F.dmaChCtrlASID.dma n)) a l r.2
        match w.1 with
        | some e => chFault n (phaseOf e 2) e.cause e.va w.2
        | none =>
          let endRow := d.width ≤ byte + k
          let row' := if endRow then row + 1 else row
          let s1 := w.2 |> setFld (F.dmaChPosROW.dma n) row' |>
            setFld (F.dmaChPosBYTE.dma n) (if endRow then 0 else byte + k)
          pauseIf n (if d.rows ≤ row' then setChan n { s1.chan n with stage := .status, desc := some d } s1 else s1)
  | _, _, _ => s

/-- Completion (R93): STATUS after all data, then the interrupt, then NEXT unless LAST. -/
def completeCh (n : Nat) (s : State) : State :=
  match s.chSt n, (s.chan n).stage, (s.chan n).desc with
  | 1, .status, some d =>
    if s.inReset .mmu ∨ n < 8 then s
    else
      let w := ioWrite (dmaWho n) .general false (s.fld (F.dmaChCtrlASID.dma n)) (s.fld (F.dmaChDescADDR.dma n) + 0x38)
        (leBytes 8 (statusWord s.gt 0 d.tag)) s
      match w.1 with
      | some e => chFault n (phaseOf e 3) e.cause e.va w.2
      | none =>
        let s1 := w.2 |> countMod (F.dmaChStatCOUNT.dma n) 1 |> setFld (F.dmaChStatRESULT.dma n) 0 |>
          whenB d.irq (chEvent n)
        if d.last then s1 |> setFld (F.dmaChStatSTATE.dma n) 0 |> setChan n {}
        else loadDesc n (setFld (F.dmaChDescADDR.dma n) d.next.toNat s1)
  | _, _, _ => s

/-- The access of a running channel ends in a handshake timeout (R19, R95): the phase and address of the access its stage
makes; `write` tells the source read and the destination write apart. -/
def chLate (n : Nat) (walk write : Bool) (s : State) : State :=
  if s.chSt n ≠ 1 ∨ n < 8 then s
  else
    let c := s.chan n
    let row := s.fld (F.dmaChPosROW.dma n)
    let byte := s.fld (F.dmaChPosBYTE.dma n)
    let desc := s.fld (F.dmaChDescADDR.dma n)
    let at_ := match c.stage, c.desc with
      | .data, some d => if write then (2, d.dstAt row byte) else (1, d.srcAt row byte)
      | .status, _ => (3, desc + 0x38)
      | _, _ => (0, desc)
    chFault n (if walk then 4 else at_.1) ⟨0x11, 0⟩ at_.2 s

/-- DMA_START. -/
def execDmaStart (n : Fin 64) (s : State) : Host.Outcome State Fault Refusal := .next (startCh n.val s)
/-- DMA_RESUME. -/
def execDmaResume (n : Fin 64) (s : State) : Host.Outcome State Fault Refusal := .next (resumeCh n.val s)
/-- DMA_PAUSE. -/
def execDmaPause (n : Fin 64) (s : State) : Host.Outcome State Fault Refusal := .next (pauseCh n.val s)
/-- DMA_ABORT. -/
def execDmaAbort (n : Fin 64) (s : State) : Host.Outcome State Fault Refusal := .next (abortCh n.val s)
/-- DMA_TRANSFER_BURST. -/
def execDmaTransferBurst (n : Fin 64) (s : State) : Host.Outcome State Fault Refusal := .next (burstCh n.val s)
/-- DESCRIPTOR_COMPLETE. -/
def execDescriptorComplete (n : Fin 64) (s : State) : Host.Outcome State Fault Refusal := .next (completeCh n.val s)

end Sys2Proof.Machine
end

