-- ==== Sys2Proof/Machine/Commit.lean ====
section
/-! DEFINITION. The commit unit (R29–R40): submission, window close with the members' validation, and apply. -/

namespace Sys2Proof.Machine

/-- FRAME_START(n) for any integer n (R27). -/
def State.startI (s : State) (n : Int) : Int :=
  toInt 64 (s.fld F.ptpFrameEpochEPOCH) + n * (s.inF F.ptpFramePeriodPERIOD : Nat) / 65536

/-- The last frame n with FRAME_START(n) ≤ t (R444). -/
def State.frameAt (s : State) (t : Int) : Int :=
  ((t - toInt 64 (s.fld F.ptpFrameEpochEPOCH) + 1) * 65536 - 1) / (s.inF F.ptpFramePeriodPERIOD : Nat)

/-- COMMIT_LEAD in ns. -/
def State.commitLead (s : State) : Int := (1000 * s.fld F.sysCommitLeadLEADUS : Nat)

/-- A group holds a pipeline member (R30). -/
def hasPipe (g : BitVec 10) : Bool := g.toNat % 32 != 0

/-- A group holds a display member. -/
def hasDisp (g : BitVec 10) : Bool := g.toNat / 32 != 0

/-- The closing instant of the window of a commit targeting f (R31), in GT. -/
def State.windowClose (s : State) (f : Nat) (g : BitVec 10) : Int :=
  s.startI ((f : Int) - (b2n (hasPipe g) : Nat)) - s.commitLead

/-- The earliest frame whose window is open (R35). -/
def State.earliestOpen (s : State) (g : BitVec 10) : Nat :=
  (s.frameAt ((s.gt : Int) + s.commitLead) + 1 + (b2n (hasPipe g) : Nat)).toNat

/-- SYS_COMMIT_STAT as the unit stands. -/
def showCommit (s : State) : State :=
  s |> setFlag F.sysCommitStatPENDING s.commit.pend.isSome |> setFlag F.sysCommitStatARMED (s.commit.armed != []) |>
    setFld F.sysCommitStatTARGETEFF (match s.commit.pend with | some p => p.target | none => s.commit.last)

/-- Replace the pending commit. -/
def setPend (p : Option PendCommit) (s : State) : State := showCommit { s with commit := { s.commit with pend := p } }

/-- A commit is refused (R32, R33, R40); EMPTY_GROUP names no member. -/
def commitRefused (member : Option Nat) (code : Nat) (s : State) : State :=
  let s := match member with | some m => setFld F.sysCommitStatREFUSEMEMBER m s | none => s
  s |> setFlag F.sysCommitStatREFUSED true |> setFld F.sysCommitCodeCODE code |> raise .sys 3 {} |> intr 5

/-- An entry of the scheduled-action table ends FAILED. -/
def satFail (e : Option Nat) (s : State) : State :=
  match e with
  | some e => intr (676 + e) (setFld (F.satECtrlSTATE.at (0x20 * e)) 4 s)
  | none => s

/-- A submission with a free slot (R35, R36): its effective target, and COMMIT_LATE where it moved. -/
def submit (target : Nat) (g : BitVec 10) (asap : Bool) (sat : Option Nat) (s : State) : State :=
  let open_ := decide ((s.gt : Int) < s.windowClose target g)
  let f := if !asap && open_ then target else s.earliestOpen g
  let s := setPend (some { target := f, group := g, sat := sat }) s
  if !asap && !open_ then s |> setFlag F.sysCommitStatCOMMITLATE true |> raise .sys 4 {} |> intr 4 else s

/-- GO (R36, R40). -/
def goAt (target : Nat) (g : BitVec 10) (asap : Bool) (s : State) : State :=
  if g = 0 then commitRefused none 2 s
  else if s.commit.pend.isSome then raise .sys 5 {} s
  else submit target g asap none s

/-- CANCEL (R36). -/
def cancelAt (s : State) : State :=
  match s.commit.pend with
  | some p => satFail p.sat (setPend none s)
  | none => s

/-- The member whose window holds a register-file key, by its GROUP bit (R39); ROOK holds no staged field of its own. -/
def memberOf (k : Nat) : Option Nat :=
  if keyIn 0x20080000 0x20090000 k then some 0
  else if keyIn 0x20100000 0x20110000 k then some 1
  else if keyIn 0x20200000 0x20210000 k then some 2
  else if keyIn 0x23100000 0x23110000 k then some 3
  else if keyIn 0x23000000 0x23018000 k then some 4
  else if keyIn 0x21000000 0x22000000 k then some 5
  else if keyIn 0x22000000 0x22020000 k then some 6
  else if keyIn 0x20300000 0x20310000 k then some 7
  else if keyIn 0x25100000 0x25110000 k then some 9
  else none

/-- Whether a key belongs to a member of a group. -/
def inGroup (g : BitVec 10) (k : Nat) : Bool := match memberOf k with | some m => g.getLsbD m | none => false

/-- The value a field will have when the commit of group g applies. -/
def State.willBe (s : State) (g : BitVec 10) (f : Fld) : Nat := if inGroup g f.key then s.stg f else s.inF f

/-- The source period of a stream in ns, as its surface tells it (assumption 28): PERIOD_NS under TIMED, EXPECT content
frames under NEWEST. -/
def State.streamPeriod (s : State) (g : BitVec 10) (d : SurfDesc) : Nat :=
  if d.timed then d.period else d.expect * s.willBe g F.ptpFramePeriodPERIOD / 65536

/-- Staged receive contexts that are enabled and name a LIVE handle, with KIND and descriptor. -/
def State.streams (s : State) : List (Nat × SurfDesc) :=
  (List.range 4).filterMap (fun r =>
    let v := s.handle (s.stg (F.srcRxCfgHANDLE.rx r))
    if s.stg (F.srcRxCfgEN.rx r) = 1 ∧ v.st = .live then v.desc.map (fun d => (s.stg (F.srcRxCfgKIND.rx r), d)) else none)

/-- RX_RATE (R134, Table: Stream limits); a period of whole ns is taken up to its rounding. -/
def State.rxRate (s : State) (g : BitVec 10) : Bool :=
  let fast := fun (p hz : Nat) => decide ((p + 1) * hz < 1000000000)
  let per := s.streamPeriod g
  (s.streams).any (fun e =>
    if e.1 = 0 then
      !((decide (e.2.width ≤ 1024) && decide (e.2.height ≤ 1024) && !(fast (per e.2) 120)) ||
        (decide (e.2.width ≤ 2048) && decide (e.2.height ≤ 1080) && !(fast (per e.2) 60)))
    else decide (2048 < e.2.width) || decide (2048 < e.2.height) || fast (per e.2) 120) ||
  decide (132710400 < ((s.streams.filter (fun e => e.1 == 0)).map (fun e => e.2.width * e.2.height * 1000000000 / (per e.2 + 1))).foldl (· + ·) 0)

/-- RX_HANDLE (R134). -/
def State.rxHandle (s : State) : Bool :=
  let on := (List.range 4).filter (fun r => s.stg (F.srcRxCfgEN.rx r) == 1)
  let hs := on.map (fun r => s.stg (F.srcRxCfgHANDLE.rx r))
  on.any (fun r =>
    let v := s.handle (s.stg (F.srcRxCfgHANDLE.rx r))
    let samp := s.stg (F.srcRxCfgSAMP.rx r)
    let kind := s.stg (F.srcRxCfgKIND.rx r)
    match v.st, v.desc with
    | .live, some d => !d.seq || samp == 3 || (kind == 1 && samp == 2) || d.format != 0x10 + samp
    | _, _ => true) || decide (hs.eraseDups.length ≠ hs.length)

/-- XS_LIMIT (R134): a -22 stream above 60 Hz takes both decoders. -/
def State.xsLimit (s : State) (g : BitVec 10) : Bool :=
  let xs := s.streams.filter (fun e => e.1 == 1)
  decide (2 < (xs.map (fun e => if (s.streamPeriod g e.2 + 1) * 60 < 1000000000 then 2 else 1)).foldl (· + ·) 0)

/-- TX_RATE (R138). -/
def State.txRate (s : State) (g : BitVec 10) : Bool :=
  s.stg F.srcTxCfgEN == 1 &&
  ((match (s.handle (s.stg F.srcTxCfgHANDLE)).desc with | some d => decide (1024 < d.width) || decide (1024 < d.height) | none => false) ||
   decide (60 * (s.stg F.srcTxCfgDIV + 1) * (s.willBe g F.ptpFramePeriodPERIOD + 1) < 1000000000 * 65536))

/-- Refusals of SRC. -/
def State.srcCheck (s : State) (g : BitVec 10) : Option Nat :=
  if s.rxRate g then some 0x100 else if s.rxHandle then some 0x101 else if s.xsLimit g then some 0x102
  else if s.txRate g then some 0x103 else none

/-- The staged zone registers differ from those in force (R159). -/
def State.zonesDiffer (s : State) : Bool :=
  (List.range 16).any (fun z => [F.cmpZoneRectEN, F.cmpZoneRectKEEPOUT, F.cmpZoneRectY1, F.cmpZoneRectX1, F.cmpZoneRectY0,
    F.cmpZoneRectX0, F.cmpZoneClampRED, F.cmpZoneClampGREEN, F.cmpZoneClampBLUE].any (fun f => s.stg (f.zone z) != s.inF (f.zone z)))

/-- BAD_ZONE (R159). -/
def State.badZone (s : State) : Bool :=
  (List.range 16).any (fun z => s.stg (F.cmpZoneRectEN.zone z) == 1 &&
    (decide (s.stg (F.cmpZoneRectX1.zone z) < s.stg (F.cmpZoneRectX0.zone z)) || decide (s.stg (F.cmpZoneRectY1.zone z) < s.stg (F.cmpZoneRectY0.zone z))))

/-- WB_HANDLE (R162). -/
def State.wbBad (s : State) (g : BitVec 10) : Bool :=
  let h := s.stg F.cmpWbCfgHANDLE
  s.stg F.cmpWbCfgEN == 1 &&
  ((List.range 4).any (fun r => s.willBe g (F.srcRxCfgEN.rx r) == 1 && s.willBe g (F.srcRxCfgHANDLE.rx r) == h) ||
   (match (s.handle h).st, (s.handle h).desc with
    | .live, some d =>
      let n := if s.stg F.cmpWbCfgQUARTER = 1 then 512 else 1024
      !d.seq || (d.format != 0x10 && d.format != 2) || d.width != n || d.height != n
    | _, _ => true))

/-- A load of CMP at a window close (R149): it reports no real-time fault. -/
def cmpLoad (va n : Nat) (s : State) : Except Nat (List Byte) × State :=
  if va % 64 ≠ 0 then (.error 0x202, raise .cmp 11 { addr := va, typ := 1 } s)
  else
    let r := ioRead { mstr := 255 } .rt false (s.fld F.mmuRtAsidASID) va n s
    match r.1 with
    | .ok l => (.ok l, r.2)
    | .error e => (.error 0x202, raise .cmp 11 { addr := e.va, typ := 1 } r.2)

/-- Load and check the staged list (R146, R149, R150, R139). -/
def loadList (s : State) : Except Nat (List Byte) × State :=
  let va := s.stg F.cmpListAddrVA
  if va % 64 ≠ 0 then (.error 0x201, raise .cmp 9 { addr := va } s)
  else
    let h := cmpLoad va 32 s
    match h.1 with
    | .error c => (.error c, h.2)
    | .ok l =>
      let n := layersOf l
      if 8 < n then (.error 0x201, raise .cmp 9 { addr := va } h.2)
      else
        let r := cmpLoad va (32 + 64 * n) h.2
        match r.1 with
        | .error c => (.error c, r.2)
        | .ok l =>
          if r.2.listBad l then (.error 0x201, raise .cmp 9 { addr := va } r.2)
          else if listShort l then (.error 0x200, raise .cmp 10 { addr := va } r.2)
          else (.ok l, r.2)

/-- MESH_RANGE (R160). -/
def meshBad (l : List Byte) : Bool :=
  (List.range 33).any (fun j => (List.range 33).any (fun i =>
    let y := toInt 16 (leAt l (4 * (33 * j + i) + 2) 2) - (512 * j : Nat)
    decide (1920 < y) || decide (y < -1920)))

/-- Load the mesh where WARP_EN is staged. -/
def loadMesh (s : State) : Except Nat (List Byte) × State :=
  let r := cmpLoad (s.stg F.cmpMeshAddrVA) 4356 s
  match r.1 with
  | .error c => (.error c, r.2)
  | .ok l => if meshBad l then (.error 0x203, r.2) else (.ok l, r.2)

/-- An optional load. -/
def loadIf (c : Bool) (f : State → Except Nat (List Byte) × State) (s : State) : Except Nat (Option (List Byte)) × State :=
  if c then
    let r := f s
    (match r.1 with | .ok l => .ok (some l) | .error e => .error e, r.2)
  else (.ok none, s)

/-- Validation by CMP (R149, R159, R160, R162, R168), with the data it loads. -/
def cmpCheck (g : BitVec 10) (s : State) : Except Nat CmpLoads × State :=
  if s.zonesDiffer && !(g.getLsbD 8) then (.error 0x204, s)
  else if s.badZone then (.error 0x206, s)
  else if s.wbBad g then (.error 0x205, s)
  else
    let a := loadIf (s.stg F.cmpCtrlLISTSRC == 1) loadList s
    let b := loadIf (s.stg F.cmpCtrlWARPEN == 1) loadMesh a.2
    let xa := s.stg F.cmpXferAddrVA
    let c := loadIf (xa != 0) (cmpLoad xa (576 * 7 + 514)) b.2
    match a.1, b.1, c.1 with
    | .ok l, .ok m, .ok x => (.ok { list := l, mesh := m, xfer := x }, c.2)
    | .error e, _, _ => (.error e, c.2)
    | _, .error e, _ => (.error e, c.2)
    | _, _, .error e => (.error e, c.2)

/-- The staged pair of COR (R182). -/
def State.stagedPair (s : State) : Nat × Nat := (s.stg F.corCalVaVA, s.stg F.corWgainVaVA)

/-- Validation by COR (R182, R190). -/
def corCheck (s : State) : Option Nat × State :=
  let p := s.stagedPair
  let same := decide (p = s.pairInForce)
  let made := decide (s.cor.produced = some p)
  let en := s.stg F.corCtrlEN == 1
  if en && s.fld F.corCartStatSTATE != 2 then (some 0x300, s)
  else if !same && !made then (some 0x301, s)
  else if en && !made && !(same && s.cor.current) then (some 0x301, s)
  else if same then (none, s)
  else
    let r := corQuiet p.1 4096 s
    (match r.1 with | some l => if headerBad l then some 0x302 else none | none => some 0x302, r.2)

/-- The lowest engine of a family in reset. -/
def State.someReset (s : State) (n : Nat) (b : Nat → Blk) : Option Nat := (List.range n).find? (fun i => s.inReset (b i))

/-- Validation by TE (R222, R33), showing the engine that refuses. -/
def teValidate (g : BitVec 10) (s : State) : Option Nat × State :=
  let r := match s.someReset 256 Blk.teN, s.tesCheck (g.getLsbD 6) with
    | some i, some c => if i ≤ c.2 then some (1, i) else some c
    | some i, none => some (1, i)
    | none, c => c
  match r with
  | some c => (some c.1, setFld F.teScanStatREFUSETE c.2 s)
  | none => (none, s)

/-- Validation by member m of a group (R32, R33): its code, and what CMP loaded. -/
def memberCheck (g : BitVec 10) (m : Nat) (s : State) : Option Nat × CmpLoads × State :=
  let plain := fun (b : Bool) (c : Option Nat) => (if b then some 1 else c, ({} : CmpLoads), s)
  match m with
  | 0 => plain (s.inReset .src) (s.srcCheck g)
  | 1 =>
    if s.inReset .cmp then (some 1, {}, s)
    else
      let r := cmpCheck g s
      (match r.1 with | .ok _ => none | .error c => some c, (match r.1 with | .ok l => l | .error _ => {}), r.2)
  | 2 => if s.inReset .cor then (some 1, {}, s) else let r := corCheck s; (r.1, {}, r.2)
  | 3 => plain (s.inReset .thm) s.thmCheck
  | 4 => plain (s.someReset 24 Blk.railN).isSome s.railsCheck
  | 5 => let r := teValidate g s; (r.1, {}, r.2)
  | 6 => plain (s.someReset 32 Blk.epN).isSome s.epCheck
  | 7 => plain (s.inReset .diag) s.diagCheck
  | 8 => plain false s.rookCheck
  | _ => plain (s.inReset .ptp) s.ptpCheck

/-- Every member validates; the lowest-numbered refusal counts (R32). -/
def validate (g : BitVec 10) (s : State) : Option (Nat × Nat) × CmpLoads × State :=
  (List.range 10).foldl (fun a m =>
    if g.getLsbD m then
      let r := memberCheck g m a.2.2
      let first := match a.1 with | some x => some x | none => r.1.map (fun c => (m, c))
      (first, if m = 1 then r.2.1 else a.2.1, r.2.2)
    else a) (none, {}, s)

/-- A window that closes while two armed commits are outstanding cannot arm a third (R36): the manual gives the commit
unit no other place, and the model moves the commit to the earliest frame whose window is open, as R35 does
(assumption 77). -/
def closeFull (p : PendCommit) (s : State) : State :=
  setPend (some { p with target := s.earliestOpen p.group }) s |> setFlag F.sysCommitStatCOMMITLATE true |> raise .sys 4 {} |> intr 4

/-- The window closes (R32): the pending commit is armed whole, or refused whole. -/
def closeWindow (p : PendCommit) (s : State) : State :=
  if 2 ≤ s.commit.armed.length then closeFull p s else
  let r := validate p.group s
  let s := setPend none r.2.2
  match r.1 with
  | some c => satFail p.sat (commitRefused (some c.1) c.2 s)
  | none =>
    let a : ArmedCommit :=
      { target := p.target, group := p.group, values := s.staged.filter (fun e => inGroup p.group e.1), loads := r.2.1,
        pipeDone := !(hasPipe p.group), dispDone := !(hasDisp p.group), sat := p.sat }
    let s := { s with commit := { s.commit with armed := s.commit.armed ++ [a], last := p.target } }
    intr 2 (showCommit (if p.group.getLsbD 8 then rookArm p.target s else s))

/-- COMMIT_WINDOW_CLOSE, at its instant or after it. -/
def closeAt (s : State) : State :=
  match s.commit.pend with
  | some p => if s.windowClose p.target p.group ≤ s.gt then closeWindow p s else s
  | none => s

/-- What applying an armed commit brings about in its pipeline members (R30). -/
def pipeApply (c : ArmedCommit) (s : State) : State :=
  let old := s.inForce
  let pair := s.pairInForce
  let en := s.inFlag F.thmCtrlEN
  let has := fun (m : Nat) => c.group.getLsbD m
  let s := intoForce (c.values.filter (fun e => match memberOf e.1 with | some m => decide (m < 5) | none => false)) s
  let s := whenB (has 0) (rxRebound old) s
  let s := whenB (has 1) (cmpTakes c.loads) s
  let s := whenB (has 2 && !(s.commitHeld .cor)) (corApplied pair) s
  let s := thmSwitch en s
  whenB (has 4) (forN 24 (fun k s => whenB (!(s.commitHeld (Blk.railN k))) (railCommitted k) s)) s

/-- PTP re-bases FRAME_EPOCH when FRAME_PERIOD changes (R38): FRAME_START(f) keeps its time, f being the target. -/
def rebase (f : Nat) (old new : State) : State :=
  if old.inF F.ptpFramePeriodPERIOD = new.inF F.ptpFramePeriodPERIOD then new
  else setFld F.ptpFrameEpochEPOCH (ofInt 64 (old.startI f - (f * new.inF F.ptpFramePeriodPERIOD / 65536 : Nat))) new

/-- And in its display members, at FRAME_START of its target. -/
def dispApply (c : ArmedCommit) (s : State) : State :=
  let has := fun (m : Nat) => c.group.getLsbD m
  let t := intoForce (c.values.filter (fun e => match memberOf e.1 with | some m => decide (5 ≤ m) | none => false)) s
  let t := whenB (has 9) (rebase c.target s) t
  let cls := fun (s : State) => SMap.get (s.inForce.merge s.late) F.teScanCfgREFRESH.key F.teScanCfgREFRESH.reset
  let t := whenB (cls s != cls t) (classChange c.target) t
  let t := whenB (has 6 && s.inF F.epRateRATE != t.inF F.epRateRATE) (forN 32 epRerate) t
  whenB (has 8) (rookApply c.target) t

/-- Apply one armed commit at a point. -/
def applyOne (disp : Bool) (n : Nat) (c : ArmedCommit) (s : State) : State :=
  if disp then (if !c.dispDone && decide (c.target ≤ n) then dispApply c s else s)
  else if !c.pipeDone && decide (c.target ≤ n + 1) then pipeApply c s else s

/-- Commits whose last apply point has passed leave the store: identifier 3. -/
def retireCommits (n : Nat) (s : State) : State :=
  let l := s.commit.armed.map (fun c => { c with dispDone := c.dispDone || decide (c.target ≤ n), pipeDone := c.pipeDone || decide (c.target ≤ n + 1) })
  let gone := l.any (fun c => c.dispDone && c.pipeDone)
  let s := showCommit { s with commit := { s.commit with armed := l.filter (fun c => !(c.dispDone && c.pipeDone)) } }
  if gone then intr 3 s else s

/-- The apply points at FRAME_START(n) (R30): display members of commits up to n, then, with the keep-out zones of frame n
taken for DIAG (R264), pipeline members of commits up to n + 1. -/
def applyCommits (n : Nat) (s : State) : State :=
  let s := s.commit.armed.foldl (fun s c => applyOne true n c s) s
  let ko := s.koZones
  let s := s.commit.armed.foldl (fun s c => applyOne false n c s) s
  retireCommits n (diagZones ko s)

/-- GO: SYS_COMMIT_TGT and SYS_COMMIT_CTRL as written, then the submission. -/
def execGo (target : BitVec 48) (group : BitVec 10) (asap : Bool) (s : State) : Host.Outcome State Fault Refusal :=
  .next (s |> setFld F.sysCommitTgtTARGET target.toNat |> setFld F.sysCommitCtrlGROUP group.toNat |> setFlag F.sysCommitCtrlASAP asap |>
    goAt target.toNat group asap)
/-- CANCEL. -/
def execCancel (s : State) : Host.Outcome State Fault Refusal := .next (cancelAt s)
/-- COMMIT_WINDOW_CLOSE. -/
def execCommitWindowClose (s : State) : Host.Outcome State Fault Refusal := .next (closeAt s)

end Sys2Proof.Machine
end

