-- ==== Sys2Proof/Machine/Update.lean ====
section
/-! DEFINITION. The update engine (R381–R403): headers, blocks, banks, arbitration, sessions on the chain and from
firmware, forwarding, and the boot ROM with its recovery. -/

namespace Sys2Proof.Machine

/-- Change what UPD holds. -/
def modUpd (f : UpdState → UpdState) (s : State) : State := { s with upd := f s.upd }

/-- UPD acts. -/
def State.updOn (s : State) : Bool := !(s.inReset .upd) && !(s.pwr.stopped.contains 8) && !s.isOff && !s.rst.held

/-- Length of a bank (R381), and the physical address of its first byte. -/
def bankLen : Nat := Config.flashKib.toNat * 512
def bankBase (b : Nat) : Nat := 0x40000000 + b * bankLen

/-- Fields of a ULF header. -/
def hdrFlags (h : List Byte) : Nat := leAt h 6 2
def hdrEpoch (h : List Byte) : Nat := leAt h 0x0C 4
def hdrSerial (h : List Byte) : Nat := leAt h 0x10 4
def hdrFloor (h : List Byte) : Nat := leAt h 0x14 4
def hdrLen (h : List Byte) : Nat := leAt h 0x18 4
def hdrBlocks (h : List Byte) : Nat := leAt h 0x1C 2
def hdrDigest (h : List Byte) : List Byte := slice h 0x30 48
def hdrBase (h : List Byte) : List Byte := slice h 0x60 48
def hdrSalt (h : List Byte) : List Byte := slice h 0x90 8
def hdrKey (h : List Byte) : List Byte := slice h 0xC8 97

/-- Check 1: fixed and zero fields, NBLOCKS against IMAGE_LEN, FLOOR against EPOCH. A key or signer slot above 3 names no
slot. -/
def hdrBad (h : List Byte) : Bool :=
  h.length != 512 || leAt h 0 4 != 0x55464C55 || leAt h 4 2 != 1 || decide (1 < hdrFlags h) ||
  decide (3 < leAt h 0x1E 1) || decide (3 < leAt h 0x1F 1) || decide (hdrLen h = 0) ||
  hdrBlocks h != (hdrLen h + 65535) / 65536 || decide (1024 < hdrBlocks h) || decide (hdrEpoch h < hdrFloor h) ||
  (hdrFlags h == 0 && (hdrBase h).any (fun x => x != 0)) || (slice h 0x129 119).any (fun x => x != 0)

/-- Checks 1–5 of Table: Header checks: 0, or the result code. -/
def headerCode (floor : Nat) (h : List Byte) : Nat :=
  let k := leAt h 0x1F 1
  if hdrBad h then 1
  else if leAt h 8 4 ≠ Config.otpDevice.toNat then 2
  else if Config.otpRevoked k ∨ Config.sha384 (hdrKey h) ≠ Config.otpImageRoot k then 4
  else if !(Config.p384Verify (hdrKey h) (Config.sha384 (h.take 0x1A0)) (slice h 0x1A0 96)) then 3
  else if hdrEpoch h < floor then 5
  else 0

/-- The image key of a header (check 9). -/
def imageKey (h : List Byte) : Option (List Byte) :=
  Config.gcmOpen (Config.otpFleetKey (leAt h 0x1E 1)) (hdrSalt h ++ leBytes 4 0xFFFFFFFF) (h.take 0x98) (slice h 0x98 48)

/-- The bank record of b. -/
def State.bank (s : State) (b : Nat) : BankRec := SMap.get s.upd.recs.bank b {}

/-- Write a bank record: a state change raises identifier 743. -/
def setBank (b : Nat) (r : BankRec) (s : State) : State :=
  let old := s.bank b
  let s := modUpd (fun u => { u with recs := { u.recs with bank := SMap.put u.recs.bank b r } }) s
  if old.st = r.st then s else intr 743 s

/-- A bank takes a state. -/
def setBankSt (b st : Nat) (s : State) : State := setBank b { s.bank b with st := st } s

/-- The stored header of a bank. -/
def State.bankHdr (s : State) (b : Nat) : List Byte := s.bytes (bankBase b) 512

/-- The bank that a session writes: the one that is not running, in recovery the one that is not the boot bank (R391, R397). -/
def State.target (s : State) : Nat := 1 - s.upd.running.getD s.upd.recs.boot

/-- Erase the units of a bank. -/
def eraseBank (b : Nat) (s : State) : State :=
  let s := { s with mem := s.mem.filter (fun e => !(decide (bankBase b ≤ e.1) && decide (e.1 < bankBase b + bankLen))) }
  countMod F.nvmFlStatERASES (bankLen / 2 ^ Config.flashErase.toNat) s

/-- First block not accepted. -/
def UpdSess.first (x : UpdSess) : Nat :=
  ((List.range (hdrBlocks x.header)).find? (fun i => (SMap.find x.plain i).isNone)).getD (hdrBlocks x.header)

/-- Every block has been accepted. -/
def UpdSess.full (x : UpdSess) : Bool := x.first == hdrBlocks x.header

/-- The session in progress. -/
def State.live (s : State) : Option UpdSess := s.upd.sess.filter (fun x => !x.ended)

/-- Show the session in UPD_SESS and the flash in NVM_FL_STAT; a change of SRC or FWD raises identifier 742. -/
def showSess (s : State) : State :=
  let fwd := if s.upd.fwd.isEmpty then 0 else if s.upd.fwd.any (fun f => !f.ended) then 1 else 2
  let src := match s.live with | some x => x.src | none => 0
  let same := s.fld F.updSessSRC == src && s.fld F.updSessFWD == fwd
  let s := s |> setFld F.updSessSRC src |> setFld F.updSessFWD fwd |>
    setFld F.updSessNEXT (match s.live with | some x => x.first | none => 0) |>
    setFld F.updSessNBLOCKS (match s.live with | some x => hdrBlocks x.header | none => 0) |>
    setFlag F.nvmFlStatBUSY (match s.upd.sess with | some x => !x.writing.isEmpty | none => false)
  if same then s else intr 742 s

/-- Note the last code given or received. -/
def lastCode (c : Nat) (s : State) : State := setFld F.updSessLASTCODE c s

/-- Change the session. -/
def modSess (f : UpdSess → UpdSess) (s : State) : State := modUpd (fun u => { u with sess := u.sess.map f }) s

/-- An update frame to the neighbour on port c. -/
def sendUpd (c ty : Nat) (body : List Byte) (s : State) : State :=
  sendBl c true ty (s.flag F.chnAddrVALID && s.fld F.chnAddrUPSTREAM != c) body s

/-- An update frame with SESSION, a code and zeros. -/
def sendCode (c ty id code : Nat) (s : State) : State :=
  sendUpd c ty (beBytes 4 id ++ [BitVec.ofNat 8 code, 0, 0, 0]) (lastCode code s)

/-- End every forward session that runs: ABORT goes to its neighbour. -/
def abortFwd (code : Nat) (s : State) : State :=
  let s := (s.upd.fwd.filter (fun f => !f.ended)).foldl (fun s f => sendCode f.port 0x16 f.id code s) s
  modUpd (fun u => { u with fwd := u.fwd.map (fun f => { f with ended := true }) }) s

/-- The result of LOCAL_DONE, once the session it ended is over. -/
def localResult (x : UpdSess) (code : Nat) (s : State) : State :=
  if x.src = 3 ∧ x.done ∧ s.upd.busy = some none then modUpd (fun u => { u with busy := some (some code) }) s else s

/-- Abort the session in progress and its forward sessions (R387, R395, R399). `tell`: ABORT goes upstream. A session that
ends with TIMEOUT keeps its resume state (R398). -/
def abortSess (code : Nat) (tell : Bool) (s : State) : State :=
  match s.live with
  | none => modUpd (fun u => { u with sess := none }) (abortFwd code s)
  | some x =>
    let s := whenB (tell && decide (x.src ≤ 2)) (sendCode (x.src - 1) 0x16 x.id code) s
    let s := localResult x code (lastCode code (abortFwd code s))
    let t := s.target
    let s := if code = 0x13 then modUpd (fun u => { u with recs := { u.recs with resume := some x } }) s
      else if (s.bank t).st = 1 then setBankSt t 0 s else s
    showSess (modUpd (fun u => { u with sess := none }) s)

/-- A key of an image: EPOCH, then SERIAL. -/
def imageId (h : List Byte) : Nat := hdrEpoch h * 2 ^ 32 + hdrSerial h

/-- Headers of one image (R395). -/
def sameImage (h k : List Byte) : Bool := imageId h == imageId k && hdrDigest h == hdrDigest k

/-- Headers of one identity with different digests. -/
def clash (h k : List Byte) : Bool := imageId h == imageId k && hdrDigest h != hdrDigest k

/-- An ARMED IMAGE_ACTIVATE entry (R393), naming a bank that satisfies `p`. -/
def State.activationArmed (s : State) (p : Nat → Bool) : Bool :=
  (List.range 64).any (fun e => s.fld (F.satECtrlSTATE.at (0x20 * e)) == 1 && s.fld (F.satECtrlKIND.at (0x20 * e)) == 2 &&
    p (s.fld (F.satEArgARG.at (0x20 * e)) % 2))

/-- Headers of the running image and of a STAGED bank. -/
def State.runHdr (s : State) : Option (List Byte) := s.upd.running.map s.bankHdr
def State.stagedHdr (s : State) : Option (List Byte) := if (s.bank s.target).st = 2 then some (s.bankHdr s.target) else none

/-- Judgements of an offer. -/
inductive Verdict where
  | accept | resume (x : UpdSess) | refuse (code : Nat)
  deriving DecidableEq, Repr

/-- A header, if there is one, satisfies `f`. -/
def has (o : Option (List Byte)) (f : List Byte → Bool) : Bool := match o with | some k => f k | none => false

/-- Table: Arbitration (R395). -/
def arbitrate (src : Nat) (h : List Byte) (s : State) : Verdict :=
  let cur := s.live.map UpdSess.header
  if has s.runHdr (clash h) ∨ has s.stagedHdr (clash h) ∨ has cur (clash h) then .refuse 0x0C
  else if has s.runHdr (sameImage h) ∨ has s.stagedHdr (sameImage h) then .refuse 9
  else match s.live with
    | some x =>
      if sameImage h x.header then (if x.src = src then .resume x else .refuse 0x0A)
      else if imageId x.header < imageId h then .accept else .refuse 0x0B
    | none =>
      if has s.stagedHdr (fun k => decide (imageId h < imageId k)) then .refuse 0x0B
      else match s.upd.recs.resume with
        | some x => if x.src = src ∧ sameImage h x.header then .resume x else .accept
        | none => .accept

/-- The bank whose image is the base of a DELTA header (check 8). -/
def State.baseBank (s : State) (h : List Byte) : Option Nat :=
  [0, 1].find? (fun b => ((s.bank b).st == 3 || (s.bank b).st == 4) && hdrDigest (s.bankHdr b) == hdrBase h)

/-- Checks 7–9. -/
def lateChecks (h : List Byte) (s : State) : Nat :=
  if bankLen < 0x10000 * (hdrBlocks h + 1) then 7
  else if hdrFlags h = 1 ∧ (s.baseBank h).isNone then 6
  else if (imageKey h).isNone then 8
  else 0

/-- Check 6 (R391, R393, R395, R397). -/
def judge6 (src : Nat) (h : List Byte) (s : State) : Verdict :=
  if s.rst.recovery then (if s.live.isSome then .refuse 0x15 else .accept)
  else if (match s.upd.running with | some b => (s.bank b).st == 3 | none => false) then .refuse 0x16
  else if s.activationArmed (fun b => (s.bank b).st == 2) then .refuse 0x0D
  else arbitrate src h s

/-- The judgement of an offer (R385). -/
def judgeOffer (src : Nat) (h : List Byte) (s : State) : Verdict :=
  if !s.flag F.updCtrlEN ∧ !s.rst.recovery then .refuse 0x14
  else
    let c := headerCode s.upd.recs.floor h
    if c ≠ 0 then .refuse c
    else match judge6 src h s with
      | .accept => let c := lateChecks h s; if c = 0 then .accept else .refuse c
      | v => v

/-- Offer a header to the neighbour on port c (R399). -/
def offerTo (h : List Byte) (c : Nat) (s : State) : State :=
  let id := s.freeW.toNat % 2 ^ 32
  let s := sendUpd c 0x10 (beBytes 4 id ++ h) (drawn s)
  modUpd (fun u => { u with fwd := u.fwd ++ [{ port := c, id := id, heard := s.now }] }) s

/-- Forwarding of a session that has been accepted (R399); the ROM forwards nothing (R397). -/
def forward (src : Nat) (h : List Byte) (s : State) : State :=
  if !s.flag F.updCtrlFORWARD ∨ s.rst.recovery then s
  else ((if src = 1 then [1] else if src = 2 then [0] else [0, 1]) : List Nat).foldl (fun s c => offerTo h c s) s

/-- Begin a session: the bank is erased, its header written, and forwarding begins. -/
def startSess (src id : Nat) (h : List Byte) (s : State) : State :=
  let s := if s.upd.sess.isSome ∨ s.upd.fwd.any (fun f => !f.ended) then abortSess 0x0B true s else s
  let t := s.target
  let s := setBank t { st := 1, serial := hdrSerial h, epoch := hdrEpoch h } (putBytes (bankBase t) h (eraseBank t s))
  let x : UpdSess := { src := src, id := id, header := h, key := (imageKey h).getD [], heard := s.now }
  modUpd (fun u => { u with sess := some x, fwd := [], recs := { u.recs with resume := none } }) s |> forward src h

/-- Resume a session (R395, R398). -/
def resumeSess (src id : Nat) (x : UpdSess) (s : State) : State :=
  let x' := { x with src := src, id := id, parts := [], done := false, heard := s.now }
  let again := s.live.isNone
  let s := modUpd (fun u => { u with sess := some x', recs := { u.recs with resume := none } }) s
  if again then modUpd (fun u => { u with fwd := [] }) s |> forward src x.header else s

/-- Judge an offer and act on it: the code to answer, NEXT, and the state. -/
def offered (src id : Nat) (h : List Byte) (s : State) : Nat × Nat × State :=
  match judgeOffer src h s with
  | .accept => let s := showSess (lastCode 0 (startSess src id h s)); (0, 0, s)
  | .resume x => let s := showSess (lastCode 0 (resumeSess src id x s)); (0, x.first, s)
  | .refuse c =>
    let s := if c = 0x0C then
        let s := if (match s.live with | some x => clash h x.header | none => false) then abortSess 0x0C true s else s
        raise .upd 6 {} s
      else if 1 ≤ c ∧ c ≤ 8 then raise .upd 3 {} s else s
    (c, 0, lastCode c s)

/-- UPD hears a frame of port c. -/
def State.updHears (s : State) (c : Nat) : Bool := s.updOn && s.chnOn && s.linkUp c

/-- OFFER (R398). -/
def offerAct (c id : Nat) (h : List Byte) (s : State) : State :=
  if !s.updHears c then s
  else
    let r := offered (c + 1) id h s
    sendUpd c 0x11 (beBytes 4 id ++ [BitVec.ofNat 8 r.1, 0] ++ beBytes 2 r.2.1) r.2.2

/-- Output of a Delta stream over a base (R388). -/
def deltaRun (base : List Byte) : Nat → List Byte → Option (List Byte)
  | 0, _ => none
  | n + 1, l =>
    let len := fun (x : Nat) => if x = 0 then 65536 else x
    match leAt l 0 1, l with
    | _, [] => none
    | 0, _ => if l.length = 1 then some [] else none
    | 1, _ =>
      let o := leAt l 1 4
      let k := len (leAt l 5 2)
      if l.length < 7 ∨ base.length < o + k then none else (deltaRun base n (l.drop 7)).map (fun r => slice base o k ++ r)
    | 2, _ =>
      let o := leAt l 1 4
      let k := len (leAt l 5 2)
      if l.length < 7 + k ∨ base.length < o + k then none
      else (deltaRun base n (l.drop (7 + k))).map (fun r => List.zipWith (fun a b => a + b) (slice base o k) (slice l 7 k) ++ r)
    | 3, _ =>
      let k := len (leAt l 1 2)
      if l.length < 3 + k then none else (deltaRun base n (l.drop (3 + k))).map (fun r => slice l 3 k ++ r)
    | _, _ => none

/-- A stored block of a bank in plain (R389). -/
def State.storedBlock (s : State) (b : Nat) (h key : List Byte) (i : Nat) : Option (List Byte) :=
  let e := s.bytes (bankBase b + 0x1000 + 32 * i) 32
  let ct := s.bytes (bankBase b + 0x10000 * (i + 1)) (leAt e 8 4 % 65537)
  Config.gcmOpen key (hdrSalt h ++ leBytes 4 (i + 0x80000000)) (e.take 16) (ct ++ slice e 16 16)

/-- The plain image of a bank, where every tag verifies. -/
def State.bankPlain (s : State) (b : Nat) (h key : List Byte) : Option (List Byte) :=
  (List.range (hdrBlocks h)).foldl (fun acc i =>
    acc.bind (fun l => (s.storedBlock b h key i).map (fun p => l ++ p))) (some [])

/-- The plain base image of a DELTA session. -/
def State.basePlain (s : State) (h : List Byte) : Option (List Byte) :=
  (s.baseBank h).bind (fun b => (imageKey (s.bankHdr b)).bind (fun k => s.bankPlain b (s.bankHdr b) k))

/-- What a block that passed its CRC comes to (R386–R388): its plain contents, or the code that aborts the session. -/
def blockPlain (x : UpdSess) (i : Nat) (l : List Byte) (s : State) : Except Nat (List Byte) :=
  let plen := leAt l 4 4
  match Config.gcmOpen x.key (hdrSalt x.header ++ leBytes 4 i) (l.take 16) (l.drop 32 ++ slice l 16 16) with
  | none => .error 0x0F
  | some p =>
    match leAt l 2 1 with
    | 0 => .ok p
    | 1 =>
      match (s.basePlain x.header).bind (fun b => deltaRun b (p.length + 1) p) with
      | some q => if q.length = plen then .ok q else .error 0x10
      | none => .error 0x10
    | 2 => .ok (List.replicate plen 0)
    | _ => .error 0x10

/-- A block as stored in the bank: block header and ciphertext (R389). -/
def sealBlock (x : UpdSess) (i : Nat) (p : List Byte) : List Byte × List Byte :=
  let nonce := hdrSalt x.header ++ leBytes 4 (i + 0x80000000)
  let ct := Config.gcmEnc x.key nonce p
  let h := leBytes 2 i ++ [0, 0] ++ leBytes 4 p.length ++ leBytes 4 p.length ++ leBytes 4 (crc32c ct)
  (h ++ Config.gcmTag x.key nonce h ct, ct)

/-- A block passes: it is stored and may be forwarded. -/
def acceptBlock (x : UpdSess) (i : Nat) (l p : List Byte) : UpdSess :=
  { x with raw := SMap.put x.raw i l, plain := SMap.put x.plain i p, parts := SMap.erase x.parts i,
           writing := if x.writeFail then x.writing else SMap.put x.writing i (sealBlock x i p) }

/-- BLOCK_RESULT to the source of a session. -/
def sendResult (x : UpdSess) (i code : Nat) (s : State) : State :=
  if x.src ≤ 2 then sendUpd (x.src - 1) 0x13 (beBytes 4 x.id ++ beBytes 2 i ++ [BitVec.ofNat 8 code, 0]) (lastCode code s)
  else lastCode code s

/-- Judge a block whose bytes have all arrived (R387): the code it ends with. -/
def judgeBlock (x : UpdSess) (i : Nat) (l : List Byte) (s : State) : Nat × State :=
  if crc32c (l.drop 32) ≠ leAt l 12 4 then
    let k := SMap.get x.crcBad i 0 + 1
    let s := raise .upd 4 {} (modSess (fun x => { x with crcBad := SMap.put x.crcBad i k, parts := SMap.erase x.parts i }) s)
    if 4 ≤ k then (0x0E, abortSess 0x0E true s)
    else (0x0E, showSess (sendResult x i 0x0E (countMod F.updSessCRCRETRY 1 s)))
  else
    match blockPlain x i l s with
    | .ok p => (0, showSess (sendResult x i 0 (modSess (fun x => acceptBlock x i l p) s)))
    | .error c => (c, abortSess c true (if c = 0x0F then raise .upd 5 {} s else s))

/-- Slices of at most 1,440 bytes. -/
def slices : Nat → Nat → List Byte → List (Nat × List Byte)
  | 0, _, _ => []
  | n + 1, off, l => if l.isEmpty then [] else (off, l.take 1440) :: slices n (off + 1440) (l.drop 1440)

/-- Send a block downstream. -/
def sendBlock (f : FwdSess) (i : Nat) (l : List Byte) (s : State) : State :=
  (slices (l.length / 1440 + 1) 0 l).foldl (fun s p =>
    sendUpd f.port 0x12 (beBytes 4 f.id ++ beBytes 2 i ++ beBytes 4 p.1 ++ beBytes 2 p.2.length ++ p.2) s) s

/-- What a forward session can send now: up to four blocks in flight, then DONE (R398, R399). -/
def pumpOne (x : UpdSess) : Nat → FwdSess → State → FwdSess × State
  | 0, f, s => (f, s)
  | n + 1, f, s =>
    if !f.open_ ∨ f.ended ∨ 4 ≤ f.flight.length then (f, s)
    else match SMap.find x.raw f.next with
      | some l => pumpOne x n { f with next := f.next + 1, flight := f.flight ++ [f.next] } (sendBlock f f.next l s)
      | none =>
        if f.next = hdrBlocks x.header ∧ f.flight = [] ∧ !f.doneSent then
          ({ f with doneSent := true }, sendUpd f.port 0x14 (beBytes 4 f.id) s)
        else (f, s)

/-- Run the forward sessions; what is left of a session that is over goes with the last of them. -/
def pump (s : State) : State :=
  match s.upd.sess with
  | none => showSess s
  | some x =>
    let r := s.upd.fwd.foldl (fun r f => let p := pumpOne x 5 f r.2; (r.1 ++ [p.1], p.2)) (([], s) : List FwdSess × State)
    let allEnded := x.ended && r.1.all (fun f => f.ended)
    showSess (modUpd (fun u => { u with fwd := r.1, sess := if allEnded then none else u.sess }) r.2)

/-- Bytes of a block that have arrived without a gap. -/
def joined (parts : SMap (List Byte)) : Nat → List Byte → List Byte
  | 0, acc => acc
  | n + 1, acc =>
    match parts.find? (fun e => decide (e.1 ≤ acc.length) && decide (acc.length < e.1 + e.2.length)) with
    | some e => joined parts n (acc ++ e.2.drop (acc.length - e.1))
    | none => acc

/-- DATA (R387, R398). -/
def dataAct (c id i off : Nat) (l : List Byte) (s : State) : State :=
  match s.live with
  | none => s
  | some x =>
    if !s.updHears c ∨ x.src ≠ c + 1 ∨ x.id ≠ id ∨ 1440 < l.length then s
    else
      let s := modSess (fun x => { x with heard := s.now }) s
      if hdrBlocks x.header ≤ i ∨ (SMap.find x.plain i).isSome then s
      else
        let m := SMap.put (SMap.get x.parts i []) off l
        let s := modSess (fun x => { x with parts := SMap.put x.parts i m }) s
        let b := joined m m.length []
        if b.length < 32 ∨ b.length < 32 + leAt b 8 4 then s
        else if leAt b 0 2 ≠ i then modSess (fun x => { x with parts := SMap.erase x.parts i }) s
        else pump (judgeBlock x i (b.take (32 + leAt b 8 4)) s).2

/-- FINAL, once DONE has come and R390 has run. -/
def finish (s : State) : State :=
  match s.live with
  | some x =>
    (match x.result, x.done with
     | some r, true =>
       let s := if x.src ≤ 2 then sendCode (x.src - 1) 0x15 x.id r s else localResult x r (lastCode r s)
       pump (modSess (fun x => { x with ended := true }) s)
     | _, _ => s)
  | none => s

/-- DONE. -/
def doneAct (c id : Nat) (s : State) : State :=
  match s.live with
  | some x =>
    if s.updHears c ∧ x.src = c + 1 ∧ x.id = id then finish (modSess (fun x => { x with done := true, heard := s.now }) s) else s
  | none => s

/-- Change the forward session on a port. -/
def modFwd (c : Nat) (f : FwdSess → FwdSess) (s : State) : State :=
  modUpd (fun u => { u with fwd := u.fwd.map (fun w => if w.port = c then f w else w) }) s

/-- The forward session that runs on a port under a SESSION number. -/
def State.fwdOf (s : State) (c id : Nat) : Option FwdSess :=
  if s.updHears c then s.upd.fwd.find? (fun f => f.port == c && f.id == id && !f.ended) else none

/-- ANSWER: a refusal ends only the forwarding. -/
def answerAct (c id code next : Nat) (s : State) : State :=
  match s.fwdOf c id with
  | some f =>
    if f.open_ then s
    else
      let s := modFwd c (fun f => { f with open_ := code == 0, ended := code != 0, next := next, heard := s.now }) s
      pump (lastCode code s)
  | none => s

/-- BLOCK_RESULT: the block is answered, or asked for again. -/
def blockResultAct (c id i code : Nat) (s : State) : State :=
  match s.fwdOf c id, s.upd.sess with
  | some f, some x =>
    let s := lastCode code (modFwd c (fun f => { f with heard := s.now }) s)
    if !f.flight.contains i then s
    else if code = 0 then pump (modFwd c (fun f => { f with flight := f.flight.filter (fun k => k != i) }) s)
    else sendBlock f i (SMap.get x.raw i []) s
  | _, _ => s

/-- FINAL from downstream. -/
def finalAct (c id code : Nat) (s : State) : State :=
  match s.fwdOf c id with
  | some _ => pump (lastCode code (modFwd c (fun f => { f with ended := true }) s))
  | none => s

/-- ABORT (R398, R399): of the session, or of a forward session. -/
def abortAct (c id code : Nat) (s : State) : State :=
  if !s.updHears c then s
  else if (match s.live with | some x => x.src == c + 1 && x.id == id | none => false) then abortSess code false s
  else match s.fwdOf c id with
    | some _ => pump (lastCode code (modFwd c (fun f => { f with ended := true }) s))
    | none => s

/-- A session silent for 2 s (R398): the session itself, or the forward session on a port. -/
def timeoutAct (fwd : Option Nat) (s : State) : State :=
  let due := fun (t : Nat) => decide (t + 2000000000 ≤ s.now)
  if !s.updOn then s
  else match fwd with
    | none =>
      (match s.live with
       | some x => if due x.heard then raise .upd 7 {} (abortSess 0x13 true s) else s
       | none => s)
    | some c =>
      (match s.upd.fwd.find? (fun f => f.port == c && !f.ended) with
       | some f =>
         if due f.heard then
           raise .upd 7 {} (pump (sendCode c 0x16 f.id 0x13 (modFwd c (fun f => { f with ended := true }) s)))
         else s
       | none => s)

/-- The flash program of an accepted block ends (R389): 0 verified, 1 the read-back differs, 2 the operation failed. -/
def writeDone (i res : Nat) (s : State) : State :=
  match s.upd.sess with
  | none => s
  | some x =>
    match SMap.find x.writing i, s.updOn && !(s.inReset .nvm) with
    | some w, true =>
      let t := s.target
      if res = 0 then
        let s := putBytes (bankBase t + 0x1000 + 32 * i) w.1 (putBytes (bankBase t + 0x10000 * (i + 1)) w.2 s)
        showSess (modSess (fun x => { x with writing := SMap.erase x.writing i }) s)
      else
        let s := if res = 2 then raise .nvm 5 {} (countMod F.nvmFlStatERRORS 1 s) else s
        let s := setBankSt t 0 (raise .upd 8 {} s)
        showSess (modSess (fun x => { x with writing := [], writeFail := true }) s)
    | _, _ => s

/-- Warm reset requested by UPD (R392, R394). -/
def updReset (s : State) : State := warmReset F.sysRstCauseWARMUPD s

/-- Bank b becomes TRIAL and is the boot bank (R392). -/
def trialBank (b : Nat) (s : State) : State :=
  modUpd (fun u => { u with recs := { u.recs with boot := b } }) (setBank b { s.bank b with st := 3, boots := 0 } s)

/-- Activation (R392). -/
def activateBank (b : Nat) (s : State) : State := updReset (trialBank b s)

/-- Whether the bank other than b can be fallen back to (R394, R396). -/
def State.fallback (s : State) (b : Nat) : Bool :=
  (s.bank (1 - b)).st == 4 && decide (s.upd.recs.floor ≤ (s.bank (1 - b)).epoch)

/-- Rollback from bank b (R394): it is FAILED and the other bank is the boot bank. -/
def rollFrom (b : Nat) (s : State) : State :=
  raise .upd 10 {} (modUpd (fun u => { u with recs := { u.recs with boot := 1 - b } }) (setBankSt b 5 s))

/-- A command of UPD_CMD (R402): `act` gives its result, where it has one yet. -/
def updCmd (act : State → Option Nat × State) (s : State) : State :=
  if !s.updOn then s
  else if s.upd.busy.isSome then raise .upd 1 {} s
  else
    let s := setFld F.updCmdSTATE 1 (modUpd (fun u => { u with busy := some none }) s)
    let r := act s
    match r.1 with
    | some c => modUpd (fun u => { u with busy := some (some c) }) r.2
    | none => r.2

/-- A result that the manual does not name: a free value. -/
def openResult (s : State) : Option Nat × State := (some (s.freeW.toNat % 256), drawn s)

/-- n bytes at UPD_ADDR, in DRAM or general scratch. -/
def updRead (off n : Nat) (s : State) : Option (List Byte) × State :=
  let a := s.fld F.updAddrADDR + off
  let inside := match s.region a, s.region (a + n - 1) with
    | .dram, .dram => true
    | .scratch, .scratch => true
    | _, _ => n == 0
  if !inside then (none, s)
  else if n = 0 then (some [], s)
  else
    let r := memRead { mstr := 255 } a n s
    match r.1 with
    | .ok l => (some l, r.2)
    | .error _ => (none, r.2)

/-- LOCAL_OFFER (R400). -/
def localOffer (s : State) : Option Nat × State :=
  let r := updRead 0 512 s
  match r.1 with
  | some h => let o := offered 3 (r.2.freeW.toNat % 2 ^ 32) h (drawn r.2); (some o.1, o.2.2)
  | none => openResult r.2

/-- LOCAL_BLOCK (R400). -/
def localBlock (s : State) : Option Nat × State :=
  match s.live with
  | some x =>
    if x.src ≠ 3 then openResult s
    else
      let r := updRead 0 32 (modSess (fun x => { x with heard := s.now }) s)
      let h := r.1.getD []
      let d := updRead 32 (leAt h 8 4) r.2
      let i := leAt h 0 2
      (match r.1, d.1 with
       | some h, some l =>
         if hdrBlocks x.header ≤ i ∨ (SMap.find x.plain i).isSome then openResult d.2
         else let j := judgeBlock x i (h ++ l) d.2; (some j.1, pump j.2)
       | _, _ => openResult d.2)
  | none => openResult s

/-- LOCAL_DONE (R400): it ends as the session does. -/
def localDone (s : State) : Option Nat × State :=
  match s.live with
  | some x =>
    if x.src ≠ 3 then openResult s
    else
      let s := finish (modSess (fun x => { x with done := true, heard := s.now }) s)
      (s.upd.busy.getD none, s)
  | none => openResult s

/-- ABANDON. -/
def abandonAct (s : State) : Option Nat × State := (some 0, abortSess 0x0B true s)

/-- CONFIRM (R394). -/
def confirmAct (s : State) : Option Nat × State :=
  match s.upd.running with
  | some b =>
    if (s.bank b).st = 3 ∨ (s.bank b).st = 4 then
      let fl := hdrFloor (s.bankHdr b)
      (some 0, setBankSt b 4 (modUpd (fun u => { u with recs := { u.recs with floor := Nat.max u.recs.floor fl } }) s))
    else openResult s
  | none => openResult s

/-- ROLLBACK (R394). -/
def rollbackAct (s : State) : Option Nat × State :=
  match s.upd.running with
  | some b => if s.fallback b then (none, updReset (rollFrom b s)) else (some 0x18, s)
  | none => (some 0x18, s)

/-- ACTIVATE (R392, R402). -/
def activateAct (b : Nat) (s : State) : Option Nat × State :=
  if s.activationArmed (fun _ => true) then (some 0x0D, s)
  else if (s.bank b).st = 2 then (none, activateBank b s)
  else (some 0x17, s)

/-- ERASE (R393, R402). A bank that a session writes is not erased under it. -/
def eraseAct (b : Nat) (s : State) : Option Nat × State :=
  if s.upd.running = some b then (some 0x19, s)
  else if (s.bank b).st = 2 ∧ s.activationArmed (fun k => k == b) then (some 0x0D, s)
  else if (s.bank b).st = 1 ∧ s.live.isSome then (some 0x15, s)
  else (some 0, setBank b {} (modUpd (fun u => { u with recs := { u.recs with resume := none } }) (eraseBank b s)))

/-- HASH. -/
def hashAct (s : State) : Option Nat × State :=
  let r := updRead 0 (s.fld F.updLenLEN) s
  match r.1 with
  | some l =>
    let d := beBytes 48 (Config.sha384 l).toNat
    (some 0, forN 6 (fun i => setFld (F.updHashH.at (8 * i)) (leAt d (8 * i) 8)) r.2)
  | none => openResult r.2

/-- UPD_CMD_COMPLETE. -/
def updComplete (s : State) : State :=
  match s.upd.busy with
  | some (some r) =>
    if s.updOn then
      intr 741 (modUpd (fun u => { u with busy := none }) s |> setFld F.updCmdSTATE 2 |> setFld F.updCmdRESULT r)
    else s
  | _ => s

/-- TRIAL_EXPIRED (R394). -/
def trialExpired (s : State) : State :=
  match s.upd.running with
  | some b =>
    if s.updOn ∧ (s.bank b).st = 3 ∧ s.upd.bootAt + s.fld F.updCtrlTRIALS * 1000000000 ≤ s.now then
      updReset (rollFrom b (raise .upd 9 {} s))
    else s
  | none => s

/-- A write of UPD_CTRL (R401). -/
def updCtrlWrite (v : Nat) (s : State) : State :=
  if !s.updOn then s
  else
    let s := modUpd (fun u => { u with recs := { u.recs with trialBoots := Nat.max 1 (bits v 19 16), trialS := Nat.max 1 (bits v 15 0) } }) s
    loadTrial s |> setFlag F.updCtrlEN (bit v 31) |> setFlag F.updCtrlFORWARD (bit v 30)

/-- The checks of a bank at boot (Boot, 1–4): its plain image. -/
def bootCheck (b : Nat) (s : State) : Option (List Byte) :=
  let h := s.bankHdr b
  if headerCode s.upd.recs.floor h ≠ 0 then none
  else (imageKey h).bind (fun k => (s.bankPlain b h k).bind (fun p =>
    if beBytes 48 (Config.sha384 p).toNat = hdrDigest h ∧ p.length = hdrLen h ∧ s.region (leAt h 0x20 8) = .dram ∧
        s.region (leAt h 0x20 8 + p.length - 1) = .dram then some p else none))

/-- Jump to the image of bank b at monitor level. -/
def enterImage (b : Nat) (p : List Byte) (s : State) : State :=
  let h := s.bankHdr b
  let s := putBytes (leAt h 0x20 8) p s
  let t := SMap.get s.mel.harts 0 {}
  { s with mel := { s.mel with harts := SMap.put s.mel.harts 0 { t with pc := BitVec.ofNat 64 (leAt h 0x28 8) } },
           rst := { s.rst with romWait := false, recovery := false },
           upd := { s.upd with running := some b, bootAt := s.now } }

/-- ROM recovery begins (R397). -/
def enterRecovery (s : State) : State :=
  let s := (List.range 64).foldl (fun s e =>
    if s.fld (F.satECtrlSTATE.at (0x20 * e)) = 1 ∧ s.fld (F.satECtrlKIND.at (0x20 * e)) = 2 then satFail (some e) s else s) s
  let s := forN 2 (fun c s => s |> setFlag (F.chnPortCfgEN.cn c) true |> setFld (F.chnPortCfgRATE.cn c) 2) s
  setFlag F.sysRstCauseRECOVERY true { s with rst := { s.rst with romWait := false, recovery := true } }

/-- Load the boot bank, at most twice (R396). -/
def bootFrom : Nat → State → State
  | 0, s => enterRecovery s
  | n + 1, s =>
    let b := s.upd.recs.boot
    let r := s.bank b
    let s := if r.st = 3 then setBank b { r with boots := r.boots + 1 } s else s
    let late := decide (r.st = 3) && decide (s.upd.recs.trialBoots < r.boots + 1)
    let img := if late ∨ (r.st ≠ 3 ∧ r.st ≠ 4) then none else bootCheck b s
    match img with
    | some p => enterImage b p s
    | none =>
      let s := setBankSt b 5 s
      if s.fallback b then bootFrom n (rollFrom b s) else enterRecovery s

/-- The ROM configures the DRAM controller from OTP and locks it. -/
def ddrConfigure (s : State) : State :=
  let v := Config.otpDdr.toNat
  let rate := bits v 47 40
  s |> setFld F.ddrCfgRATE (if 32 ≤ rate ∧ rate ≤ 64 then rate else 32) |> setFld F.ddrCfgRANKS (bits v 29 29) |>
    setFld F.ddrCfgSIZE (bits v 23 16) |> setFlag F.ddrCfgLOCK true |> setFld F.ddrStatSTATE 1

/-- ROM_BOOT (R45, R396, R397, R417): the ROM trains DRAM first, and goes on at a later ROM_BOOT once it is READY. -/
def romBoot (svcHeld : Bool) (s : State) : State :=
  if !s.rst.romWait ∨ s.rst.held ∨ s.isOff ∨ !s.updOn ∨ s.inReset .mel ∨ s.pwr.stopped.contains 6 then s
  else if s.fld F.ddrStatSTATE = 0 then ddrConfigure s
  else if s.fld F.ddrStatSTATE ≠ 2 then s
  else
    let s := s |> setFld F.nvmFlInfoSIZEKIB Config.flashKib.toNat |> setFld F.nvmFlInfoERASELOG2 Config.flashErase.toNat |>
      setFld F.nvmFlInfoPAGELOG2 Config.flashPage.toNat
    if svcHeld ∧ !s.rst.svcStuck then enterRecovery s else bootFrom 2 s

/-- IMAGE_COMPLETE (R390); in recovery the ROM boots the image (R397). -/
def imageComplete (s : State) : State :=
  match s.live with
  | some x =>
    if !s.updOn ∨ !x.full ∨ x.result.isSome ∨ !x.writing.isEmpty then s
    else
      let t := s.target
      let p := (List.range (hdrBlocks x.header)).flatMap (fun i => SMap.get x.plain i [])
      let r := if x.writeFail then 0x12 else if beBytes 48 (Config.sha384 p).toNat = hdrDigest x.header then 0 else 0x11
      let s := if r = 0 then setBankSt t 2 s else if r = 0x11 then setBankSt t 0 s else s
      let s := finish (lastCode r (modSess (fun x => { x with result := some r }) s))
      if r = 0 ∧ s.rst.recovery then bootFrom 2 (modUpd (fun u => { u with sess := none }) (trialBank t s)) else s
  | none => s

/-- OFFER. -/
def execOffer (c : Fin 2) (session : BitVec 32) (header : List Byte) (s : State) : Host.Outcome State Fault Refusal :=
  .next (offerAct c.val session.toNat header s)
/-- ANSWER. -/
def execAnswer (c : Fin 2) (session : BitVec 32) (code : BitVec 8) (next : BitVec 16) (s : State) :
    Host.Outcome State Fault Refusal := .next (answerAct c.val session.toNat code.toNat next.toNat s)
/-- DATA. -/
def execData (c : Fin 2) (session : BitVec 32) (index : BitVec 16) (off : BitVec 32) (bytes : List Byte) (s : State) :
    Host.Outcome State Fault Refusal := .next (dataAct c.val session.toNat index.toNat off.toNat bytes s)
/-- BLOCK_RESULT. -/
def execBlockResult (c : Fin 2) (session : BitVec 32) (index : BitVec 16) (code : BitVec 8) (s : State) :
    Host.Outcome State Fault Refusal := .next (blockResultAct c.val session.toNat index.toNat code.toNat s)
/-- DONE. -/
def execDone (c : Fin 2) (session : BitVec 32) (s : State) : Host.Outcome State Fault Refusal :=
  .next (doneAct c.val session.toNat s)
/-- FINAL. -/
def execFinal (c : Fin 2) (session : BitVec 32) (code : BitVec 8) (s : State) : Host.Outcome State Fault Refusal :=
  .next (finalAct c.val session.toNat code.toNat s)
/-- ABORT_FRAME. -/
def execAbortFrame (c : Fin 2) (session : BitVec 32) (code : BitVec 8) (s : State) : Host.Outcome State Fault Refusal :=
  .next (abortAct c.val session.toNat code.toNat s)
/-- IMAGE_COMPLETE. -/
def execImageComplete (s : State) : Host.Outcome State Fault Refusal := .next (imageComplete s)
/-- SESSION_TIMEOUT. -/
def execSessionTimeout (fwd : Option (Fin 2)) (s : State) : Host.Outcome State Fault Refusal :=
  .next (timeoutAct (fwd.map Fin.val) s)
/-- LOCAL_OFFER. -/
def execLocalOffer (s : State) : Host.Outcome State Fault Refusal := .next (updCmd localOffer s)
/-- LOCAL_BLOCK. -/
def execLocalBlock (s : State) : Host.Outcome State Fault Refusal := .next (updCmd localBlock s)
/-- LOCAL_DONE. -/
def execLocalDone (s : State) : Host.Outcome State Fault Refusal := .next (updCmd localDone s)
/-- ABANDON. -/
def execAbandon (s : State) : Host.Outcome State Fault Refusal := .next (updCmd abandonAct s)
/-- CONFIRM. -/
def execConfirm (s : State) : Host.Outcome State Fault Refusal := .next (updCmd confirmAct s)
/-- ROLLBACK. -/
def execRollback (s : State) : Host.Outcome State Fault Refusal := .next (updCmd rollbackAct s)
/-- ACTIVATE. -/
def execActivate (bank : Fin 2) (s : State) : Host.Outcome State Fault Refusal := .next (updCmd (activateAct bank.val) s)
/-- ERASE. -/
def execErase (bank : Fin 2) (s : State) : Host.Outcome State Fault Refusal := .next (updCmd (eraseAct bank.val) s)
/-- HASH. -/
def execHash (s : State) : Host.Outcome State Fault Refusal := .next (updCmd hashAct s)
/-- UPD_CMD_COMPLETE. -/
def execUpdCmdComplete (s : State) : Host.Outcome State Fault Refusal := .next (updComplete s)
/-- TRIAL_EXPIRED. -/
def execTrialExpired (s : State) : Host.Outcome State Fault Refusal := .next (trialExpired s)
/-- UPD_CTRL_WRITE. -/
def execUpdCtrlWrite (v : BitVec 32) (s : State) : Host.Outcome State Fault Refusal := .next (updCtrlWrite v.toNat s)
/-- ROM_BOOT. -/
def execRomBoot (svcHeld : Bool) (s : State) : Host.Outcome State Fault Refusal := .next (romBoot svcHeld s)
/-- BLOCK_WRITE_DONE. -/
def execBlockWriteDone (index : BitVec 16) (res : Fin 3) (s : State) : Host.Outcome State Fault Refusal :=
  .next (writeDone index.toNat res.val s)

end Sys2Proof.Machine
end

