-- ==== Sys2Proof/Machine/Power.lean ====
section
/-! DEFINITION. Power states (R404–R415, R431): the sequence and its reverse, wake sources, time across sleep, the orderly
shutdown, and the DRAM controller's events (R437). -/

namespace Sys2Proof.Machine

/-- Change the power controller. -/
def modPwr (f : PwrState → PwrState) (s : State) : State := { s with pwr := f s.pwr }

/-- Delay of a step in ns (Table: Power sequence). -/
def stepDelay : Nat → Nat
  | 1 => 2000000 | 2 => 1000000 | 3 => 100000 | 4 => 100000 | 5 => 50000 | 6 => 20000 | 7 => 20000 | 8 => 50000
  | 9 => 10000 | 10 => 20000 | _ => 10000

/-- The last step of an entry. -/
def lastStep : PwrSt → Nat
  | .s1 => 6 | .s2 => 11 | _ => 4

/-- The domains in the order of R406: PD_PIX 0, PD_SERDES, PD_MEDIA, PD_CL3, PD_CL2, PD_CL1, PD_CL0, PD_NET, PD_ROOK 8,
PD_DDR, PD_MAIN. -/
def allDoms : List Nat := List.range 11

/-- The listed refusal reason of a step, as its islands stand; 0 for a step that lists none. -/
def State.stepReason (s : State) : Nat → Nat
  | 1 => 1 | 2 => 0x0C | 3 => 2 | 4 => 3 | 6 => 4
  | 7 => if (List.range 64).any (fun n => decide (8 ≤ n) && (s.chSt n == 1 || s.chSt n == 2 || s.chSt n == 3)) then 5 else 6
  | 8 => if s.live.isSome then 7 else 8
  | 9 => if s.commit.pend.isSome ∨ s.commit.armed ≠ [] then 9 else 0x0A
  | _ => 0

/-- Whether a step agrees (Table: Power sequence). The AON crystal counts as running while SYS shows no XTAL_FAIL. -/
def State.stepAgrees (s : State) : Nat → Bool
  | 1 => s.allOff
  | 2 => s.railsStopped
  | 3 => s.ril.isEmpty
  | 4 => s.cor.busy.isNone && s.cor.ckpt.isNone && s.diag.busy.isNone
  | 6 => s.mel.harts.all (fun e => e.1 == 64 || e.2.st == .stopped || e.2.st == .waiting || e.2.st == .dead)
  | 7 => s.stepReason 7 == 6 && s.qm.parks.isEmpty
  | 8 => s.live.isNone && !(s.flag F.nvmFlStatBUSY)
  | 9 => s.commit.pend.isNone && s.commit.armed.isEmpty && !((s.fltSet .sys).stat.getLsbD 11)
  | _ => true

/-- What asking a step starts in its islands. -/
def askIslands (off : Bool) (k : Nat) (s : State) : State :=
  match k with
  | 2 => railsStop s
  | 3 => forN 32 downAt s
  | 4 => if off ∧ s.fld F.corCartStatSTATE = 2 ∧ s.fld F.corCartStatAUTH = 1 ∧ s.cor.busy.isNone then shutdownAct s else s
  | _ => s

/-- Something of the sequence in progress, if there is one. -/
def State.seqIs (s : State) (f : PwrSeq → Bool) : Bool := match s.pwr.seq with | some q => f q | none => false

/-- Change the sequence in progress. -/
def modSeq (f : PwrSeq → PwrSeq) (s : State) : State := modPwr (fun p => { p with seq := p.seq.map f }) s

/-- What stopping a step does: PTP stores GT and PWR_AON_CNT together, DRAM enters self-refresh. -/
def stopStep (k : Nat) (s : State) : State :=
  let s := modPwr (fun p => { p with stopped := insertN k p.stopped }) s
  match k with
  | 10 => modPwr (fun p => { p with gtEntry := s.gt, cntEntry := s.fld F.pwrAonCntCNT }) s
  | 11 => setFld F.ddrStatSTATE 3 s
  | _ => s

/-- GT after S2 (R413): the ticks counted since the entry, at RATIO. -/
def State.wakeGt (s : State) : Nat :=
  s.pwr.gtEntry + (s.fld F.pwrAonCntCNT - s.pwr.cntEntry) * s.fld F.pwrAonRatioRATIO / 2 ^ 32

/-- The first frame after an instant of GT by at least 100 µs (R414, R444). -/
def State.firstFrame (s : State) (t : Int) : Nat :=
  let n := s.frameAt (t + 100000)
  (if s.startI n = t + 100000 then n else n + 1).toNat

/-- PTP_FRAME_NUM: the frame displayed, or the reckoned one while no frame has started (R444). -/
def State.frameNum (s : State) : Nat := if s.tl.running then s.tl.frame else (s.frameAt (s.gt : Nat)).toNat % 2 ^ 48

/-- PTP wakes from S2 (R413, R414). -/
def gtRestore (s : State) : State :=
  let s := setGt ((s.wakeGt * 1000000000 : Nat) : Int) s
  let s := if 2 ≤ s.domSt s.active then domTo s.active 4 s else s
  let s := gtShow { s with ptp := { s.ptp with wake := true } }
  let s := modPwr (fun p => { p with calBad := true }) s
  if s.flag F.ptpCtrlTLEN then { s with tl := { s.tl with running := false, base := none, first := some (s.firstFrame s.gt) } } else s

/-- A step's islands start again. -/
def restartStep (s2 : Bool) (k : Nat) (s : State) : State :=
  let s := modPwr (fun p => { p with stopped := p.stopped.filter (fun j => j != k) }) s
  let s := (Blk.all.filter (fun b => stepOf b == k)).foldl (fun s b => loadLate b s) s
  match k with
  | 2 => forN 24 railStartAt s
  | 3 => if s.scan.blankTo.isSome then setFlag F.teScanStatBLANKED true s else s
  | 10 => if s2 then gtRestore s else s
  | 11 => setFld F.ddrStatSTATE 2 s
  | _ => s

/-- A request completes: RESULT and identifier 6 (R408). -/
def pwrResult (r : Nat) (s : State) : State := intr 6 (setFld F.pwrStatRESULT r s)

/-- A refused sequence is over (R408). -/
def seqRefused (q : PwrSeq) (s : State) : State :=
  let s := modPwr (fun p => { p with seq := none }) s |> setFld F.pwrStatSTATE (if s.pwr.st = .s1 then 1 else 0)
  satFail q.sat (raise .sys 9 {} (pwrResult 1 s))

/-- Back in A. -/
def seqInA (s : State) : State := intr 6 (setFld F.pwrStatSTATE 0 (modPwr (fun p => { p with st := .a, seq := none, wakeLatch := none }) s))

/-- The restarts of a sequence that leaves or unwinds begin, or it is over. -/
def seqRestart (s : State) : State :=
  match s.pwr.seq with
  | none => s
  | some q =>
    match (s.pwr.stopped.filter (fun j => decide (q.lo ≤ j))).foldl Nat.max 0 with
    | 0 => if q.refused then seqRefused q s else seqInA s
    | k => modSeq (fun q => { q with step := k, agreed := true, since := s.now }) (restartStep (q.target == .s2 && !q.refused) k s)

/-- Power the domains of a sequence that leaves or unwinds, then lock the PLLs (R407). -/
def seqBack (s : State) : State :=
  if s.pwr.domsOff.isEmpty ∨ s.seqIs (fun q => decide (6 < q.lo)) then seqRestart s
  else modSeq (fun q => { q with doms := s.pwr.domsOff.reverse, domAt := s.now, agreed := false }) s

/-- A step refuses (R408). -/
def seqRefuse (k reason : Nat) (s : State) : State :=
  let s := s |> setFld F.pwrStatSTEP k |> setFld F.pwrStatREASON reason |> setFld F.pwrStatSTATE 3
  let s := if k ≤ 2 ∧ s.seqIs (fun q => decide (q.lo ≤ k)) then restartStep false k s else s
  seqBack (modSeq (fun q => { q with dir := .unwind, refused := true, agreed := false, doms := [] }) s)

/-- Ask a step. -/
def askStep (k : Nat) (s : State) : State :=
  let off := s.seqIs (fun q => q.dir == .off)
  askIslands off k (modSeq (fun q => { q with step := k, agreed := false, since := s.now }) s)

/-- The numbers of Table: Wake sources that a state hears. -/
def hears : PwrSt → Nat → Bool
  | .s1, b => b != 1 && decide (b < 8)
  | .s2, b => decide (1 ≤ b) && decide (b ≤ 6)
  | _, _ => false

/-- A wake source is heard in a state and enabled for it (R411). -/
def State.wakeOn (s : State) (t : PwrSt) (b : Nat) : Bool :=
  hears t b && bit (if t = .s1 then s.fld F.pwrWakeEnS1 else s.fld F.pwrWakeEnS2) b

/-- Begin leaving S1 or S2 (R407). -/
def seqLeave (b : Nat) (s : State) : State :=
  let s := setFld F.pwrStatWAKE (s.fld F.pwrStatWAKE ||| 2 ^ b) s
  let s := if s.pwr.st = .s2 then setFlag F.sysRstCauseS2WAKE true s else s
  let q : PwrSeq := { target := s.pwr.st, dir := .leave, step := 0 }
  seqBack (setFld F.pwrStatSTATE 3 (modPwr (fun p => { p with seq := some q, wakeLatch := none }) s))

/-- A wake event (R409, R411). -/
def wakeReq (b : Nat) (s : State) : State :=
  match s.pwr.seq with
  | none => if s.wakeOn s.pwr.st b then seqLeave b s else s
  | some q =>
    if q.dir ≠ .enter ∨ !(s.wakeOn q.target b) then s
    else if q.step = lastStep q.target ∧ q.agreed then
      modPwr (fun p => { p with wakeLatch := some (p.wakeLatch.getD b) }) s
    else seqRefuse (if q.agreed then q.step + 1 else q.step) 0x0B s

/-- The state of an entry has been reached: the request completes, and a latched wake begins leaving. -/
def seqReached (q : PwrSeq) (s : State) : State :=
  let w := s.pwr.wakeLatch
  let s := pwrResult 0 (modPwr (fun p => { p with st := q.target, seq := none, wakeLatch := none }) s)
  let s := if q.target = .s1 then setFld F.pwrStatSTATE 1 s else s
  match w with
  | some b => seqLeave b s
  | none => s

/-- A request for S1 or S2 (R406, R408): 0 launched or already there, else its result. Rook refuses S2 in ENDGAME, LOCKOUT and
HALT (R337), also where the request comes in S1 and step 1 has stopped. -/
def seqEnter (t : PwrSt) (sat : Option Nat) (s : State) : Nat × State :=
  if s.isOff then (0, s)
  else if s.pwr.seq.isSome then (2, pwrResult 2 s)
  else if s.pwr.st = t then (0, pwrResult 0 s)
  else if s.pwr.st = .s2 then (0, s)
  else
    let lo := if s.pwr.st = .s1 then 7 else 1
    let q : PwrSeq := { target := t, dir := .enter, step := lo, lo := lo, sat := sat }
    let s := setFld F.pwrStatSTATE 2 (modPwr (fun p => { p with seq := some q }) s)
    (0, if t = .s2 ∧ 2 ≤ s.rookSt then seqRefuse 1 1 s else askStep lo s)

/-- A request for A: in S1 it is wake source 7 (R407). -/
def seqWake (s : State) : Nat × State :=
  if s.isOff then (0, s)
  else if s.pwr.seq.isSome then (2, pwrResult 2 s)
  else if s.pwr.st = .s1 then (0, wakeReq 7 s)
  else (0, pwrResult 0 s)

/-- OFF: everything is dark and nothing acts until a power-on reset. -/
def goOff (s : State) : State :=
  rookPowerOnAt (modPwr (fun p =>
    { p with st := .off, seq := none, stopped := (List.range 12).drop 1, domsOff := allDoms, wakeLatch := none, supplyEn := false, supplySince := s.now }) s)

/-- OFF is asked for (R415): it cannot be refused; from S2 nothing is left to stop. -/
def seqOff (s : State) : State :=
  if s.isOff ∨ s.seqIs (fun q => q.dir == .off) then s
  else if s.pwr.st = .s2 then goOff s
  else askStep 1 (setFld F.pwrStatSTATE 2 (modPwr (fun p => { p with seq := some { target := .off, dir := .off, step := 1 } }) s))

/-- A write of PWR_CTRL. -/
def pwrCtrl (op : Nat) (s : State) : Nat × State :=
  if op = 1 then seqEnter .s1 none s
  else if op = 2 then seqEnter .s2 none s
  else if op = 3 then seqWake s
  else if op = 4 then (0, seqOff s)
  else if s.isOff then (0, s) else (3, pwrResult 3 s)

/-- POWER_STEP_AGREE: the islands of the step being asked agree and stop. -/
def stepAgree (s : State) : State :=
  match s.pwr.seq with
  | some q =>
    if q.dir = .enter ∧ !q.agreed ∧ s.stepAgrees q.step then
      modSeq (fun q => { q with agreed := true, since := s.now }) (stopStep q.step s)
    else s
  | none => s

/-- POWER_STEP_TIMEOUT: 1 ms after it was asked. -/
def stepTimeout (s : State) : State :=
  match s.pwr.seq with
  | some q =>
    if q.dir = .enter ∧ !q.agreed ∧ q.since + 1000000 ≤ s.now then seqRefuse q.step (s.stepReason q.step) s else s
  | none => s

/-- The delay of a step of an entry is over: the next is asked, domains are switched, or the state is reached. -/
def enterNext (q : PwrSeq) (s : State) : State :=
  let s := if q.target = .s1 ∧ q.step = 5 then rookEval (modPwr (fun p => { p with domsOff := [0, 1, 2] }) s) else s
  if q.step < lastStep q.target then askStep (q.step + 1) s
  else if q.target = .s1 then seqReached q s
  else modSeq (fun q => { q with doms := allDoms.filter (fun d => !(s.pwr.domsOff.contains d)), domAt := s.now }) s

/-- The delay of a step of an orderly shutdown is over (R415): after step 4 the checkpoint may take until SUPPLY_EN must fall,
1.1 s after the request. -/
def offNext (q : PwrSeq) (s : State) : State :=
  if q.step < 4 then askStep (q.step + 1) (stopStep q.step s)
  else if s.cor.busy.isNone ∨ q.since + 1096900000 ≤ s.now then goOff s
  else s

/-- POWER_STEP_DELAY_END. -/
def delayEnd (s : State) : State :=
  match s.pwr.seq with
  | some q =>
    let due := decide (q.since + stepDelay q.step ≤ s.now)
    (match q.dir with
     | .enter => if q.agreed ∧ q.doms = [] ∧ due then enterNext q s else s
     | .off => if due then offNext q s else s
     | _ =>
       if q.doms ≠ [] then s
       else if q.agreed then (if due then seqRestart s else s)
       else if q.since + 200000 ≤ s.now then seqRestart s
       else s)
  | none => s

/-- Switch one domain: off in the order of an entry, on in the reverse; Rook is off without retention, and starts INIT. -/
def switchDom (s : State) : State :=
  match s.pwr.seq with
  | some q =>
    (match q.doms with
     | d :: rest =>
       if s.now < q.domAt then s
       else
         let off := q.dir == .enter
         let s := if d = 8 then rookPowerOnAt s else s
         let s := modPwr (fun p => { p with domsOff := if off then p.domsOff ++ [d] else p.domsOff.filter (fun e => e != d) }) s
         let s := if d = 0 then rookEval s else s
         let q' := { q with doms := rest, domAt := s.now + 120000, since := s.now }
         let s := modPwr (fun p => { p with seq := some q' }) s
         if off ∧ rest = [] then seqReached q' s else s
     | [] => s)
  | none => s

/-- WAKE_EVENT: the condition of a source of R411 has come about. -/
def wakeEvent (b : Nat) (s : State) : State :=
  if b = 3 ∧ s.fld F.pwrAonCntCNT < s.fld F.pwrRtcAlarmALARM then s else wakeReq b s

/-- AON_RATIO_CALIBRATE (R412): the end of a window of 32,768 ticks. -/
def ratioCalibrate (s : State) : State :=
  let c := s.fld F.pwrAonCntCNT
  if c < s.pwr.calCnt + 32768 ∨ !s.ptpOn then s
  else
    let ok := !s.pwr.calBad && c == s.pwr.calCnt + 32768 && s.fld F.ptpCtrlGTSTATE == 2
    let s := if ok then setFld F.pwrAonRatioRATIO ((s.gt - s.pwr.calGt) * 2 ^ 32 / 32768) s else s
    modPwr (fun p => { p with calCnt := c, calGt := s.gt, calBad := s.fld F.ptpCtrlGTSTATE != 2 }) s

/-- SUPPLY_EN_RISE (R431): from OFF, or 500 ms after a failed attempt. -/
def supplyRise (s : State) : State :=
  if s.isOff ∧ !s.pwr.supplyEn ∧ (s.pwr.supplyOk ∨ s.pwr.supplySince + 500000000 ≤ s.now) then
    modPwr (fun p => { p with supplyEn := true, supplyOk := false, supplySince := s.now }) s
  else s

/-- SUPPLY_RETRY: not all in range within 50 ms. -/
def supplyRetry (s : State) : State :=
  if s.isOff ∧ s.pwr.supplyEn ∧ s.pwr.supplySince + 50000000 ≤ s.now then
    modPwr (fun p => { p with supplyEn := false, supplySince := s.now }) s
  else s

/-- POWER_ON_RESET_END (R418, R431): everything but MRAM, OTP and flash is cleared; SAT reloads its table, the first-error
record is gone (R442), and Rook resets by its own monitor. -/
def powerOn (s : State) : State :=
  if s.isOff ∧ s.pwr.supplyEn ∧ s.pwr.supplySince + 2200000 ≤ s.now then
    loadTrial { ({} : State) with
      pending := s.pending, free := s.free, now := s.now, mel := { cycle := s.mel.cycle.filter (fun e => e.1 == 16) },
      mem := s.mem.filter (fun e => isNvm e.1 && !(decide (0x8010000 ≤ e.1) && decide (e.1 < 0x8010030))),
      ue := s.ue.filter (fun w => isNvm (16 * w)), ce := s.ce.filter (fun w => isNvm (16 * w)),
      regs := s.regs.filter (fun e => keyIn 0x24000000 0x24010000 e.1 || keyIn 0x25110100 0x25120000 e.1),
      cor := { cart := s.cor.cart }, rook := s.rook, swc := s.swc, satArm := s.satArm, out := s.out,
      upd := { recs := s.upd.recs }, rst := { rstStuck := s.rst.rstStuck, svcStuck := s.rst.svcStuck } }
  else s

/-- A patrol scrub read of a word of DRAM (R437): `err` 1 and 2 say that its check bits now show a correctable or an
uncorrectable error. -/
def scrubRead (word err : Nat) (s : State) : State :=
  let a := 0x800000000 + 16 * word
  if !(s.flag F.ddrScrubEN) ∨ s.inReset .ddr ∨ s.fld F.ddrStatSTATE ≠ 2 ∨ s.region a ≠ .dram then s
  else
    let s := if err = 1 ∧ !(s.ue.contains (a / 16)) then { s with ce := insertN (a / 16) s.ce }
      else if err = 2 then { s with ue := insertN (a / 16) s.ue } else s
    (eccRead { mstr := 255 } 1 a 16 s).2

/-- DDR_TRAINING_END (R437). -/
def trainingEnd (ok : Bool) (s : State) : State :=
  if s.fld F.ddrStatSTATE ≠ 1 ∨ s.inReset .ddr ∨ s.isOff then s
  else if ok then setFld F.ddrStatSTATE 2 (countMod F.ddrStatTRAININGS 1 s)
  else raise .ddr 5 {} (setFld F.ddrStatSTATE 4 s)

/-- DDR_THERM (R437): a channel reports its refresh-rate code, above nominal or not. -/
def ddrThermAt (ch code : Nat) (above : Bool) (s : State) : State :=
  if s.inReset .ddr ∨ s.isOff ∨ s.fld F.ddrStatSTATE ≠ 2 then s
  else
    let s := setFld (if ch = 0 then F.ddrStatTEMP0 else F.ddrStatTEMP1) code { s with ddrHot := BitVec.ofNat 2 (setBit s.ddrHot.toNat ch above) }
    if s.ddrHot = 0 then endCond .ddr 6 s else raiseCond .ddr 6 {} s

/-- POWER_REQUEST_S1. -/
def execPowerRequestS1 (s : State) : Host.Outcome State Fault Refusal := .next (pwrCtrl 1 s).2
/-- POWER_REQUEST_S2. -/
def execPowerRequestS2 (s : State) : Host.Outcome State Fault Refusal := .next (pwrCtrl 2 s).2
/-- POWER_REQUEST_A. -/
def execPowerRequestA (s : State) : Host.Outcome State Fault Refusal := .next (pwrCtrl 3 s).2
/-- POWER_REQUEST_OFF. -/
def execPowerRequestOff (s : State) : Host.Outcome State Fault Refusal := .next (pwrCtrl 4 s).2
/-- POWER_STEP_AGREE. -/
def execPowerStepAgree (s : State) : Host.Outcome State Fault Refusal := .next (stepAgree s)
/-- POWER_STEP_DELAY_END. -/
def execPowerStepDelayEnd (s : State) : Host.Outcome State Fault Refusal := .next (delayEnd s)
/-- POWER_STEP_TIMEOUT. -/
def execPowerStepTimeout (s : State) : Host.Outcome State Fault Refusal := .next (stepTimeout s)
/-- DOMAIN_SWITCH. -/
def execDomainSwitch (s : State) : Host.Outcome State Fault Refusal := .next (switchDom s)
/-- WAKE_EVENT. -/
def execWakeEvent (src : Fin 8) (s : State) : Host.Outcome State Fault Refusal := .next (wakeEvent src.val s)
/-- PFAIL. -/
def execPfail (s : State) : Host.Outcome State Fault Refusal := .next (seqOff s)
/-- AON_RATIO_CALIBRATE. -/
def execAonRatioCalibrate (s : State) : Host.Outcome State Fault Refusal := .next (ratioCalibrate s)
/-- SUPPLY_EN_RISE. -/
def execSupplyEnRise (s : State) : Host.Outcome State Fault Refusal := .next (supplyRise s)
/-- SUPPLY_RETRY. -/
def execSupplyRetry (s : State) : Host.Outcome State Fault Refusal := .next (supplyRetry s)
/-- POWER_ON_RESET_END. -/
def execPowerOnResetEnd (s : State) : Host.Outcome State Fault Refusal := .next (powerOn s)
/-- SCRUB_READ. -/
def execScrubRead (word : BitVec 32) (err : Fin 3) (s : State) : Host.Outcome State Fault Refusal :=
  .next (scrubRead word.toNat err.val s)
/-- DDR_TRAINING_END. -/
def execDdrTrainingEnd (ok : Bool) (s : State) : Host.Outcome State Fault Refusal := .next (trainingEnd ok s)
/-- DDR_THERM. -/
def execDdrTherm (ch : Fin 2) (code : BitVec 8) (above : Bool) (s : State) : Host.Outcome State Fault Refusal :=
  .next (ddrThermAt ch.val code.toNat above s)

end Sys2Proof.Machine
end

