-- ==== Sys2Proof/Machine/Chain.lean ====
section
/-! DEFINITION. Chain ports, the switch and its HOST side, and Berranlink (R343–R349, R368–R374). -/

namespace Sys2Proof.Machine

/-- Change CHN. -/
def modChn (f : ChnState → ChnState) (s : State) : State := { s with chn := f s.chn }

/-- The link of a port goes up or down: identifier 631 + c. -/
def linkTo (c v : Nat) (s : State) : State :=
  if s.fld (F.chnPortCfgLINK.cn c) = v then s else intr (631 + c) (setFld (F.chnPortCfgLINK.cn c) v s)

/-- MODULE_INSERT (R344): the nominal rate its identity gives, in MBd; none where it cannot be read. -/
def moduleIn (c : Nat) (rate : Option Nat) (s : State) : State :=
  if !s.chnOn then s
  else
    let s := intr 633 (setFlag (F.chnPortCfgMOD.cn c) true (modChn (fun x => { x with mods := SMap.put x.mods c rate }) s))
    if rate.isNone ∧ s.fld (F.chnPortCfgRATE.cn c) = 2 then raise .chn 3 { addr := c } s else s

/-- MODULE_REMOVAL. -/
def moduleOut (c : Nat) (s : State) : State :=
  if !s.chnOn then s
  else intr 633 (linkTo c 0 (setFlag (F.chnPortCfgMOD.cn c) false (modChn (fun x => { x with mods := SMap.erase x.mods c }) s)))

/-- The rate a port runs at (R343, R344): LINK 1 at 10 Gbit/s, 2 at 25 Gbit/s. -/
def State.linkRate (s : State) (c : Nat) : Nat :=
  match s.fld (F.chnPortCfgRATE.cn c) with
  | 0 => 1
  | 1 => 2
  | _ => match SMap.get s.chn.mods c none with | some r => if 25000 ≤ r then 2 else 1 | none => 1

/-- LINK_CHANGE. -/
def linkChange (c : Nat) (up : Bool) (s : State) : State :=
  if !s.chnOn then s
  else linkTo c (if up && s.flag (F.chnPortCfgEN.cn c) then s.linkRate c else 0) s

/-- A multicast destination that CHN delivers (Table: Forwarding). -/
def State.mcast (s : State) (f : List Byte) : Bool :=
  (List.range 64).any (fun i => s.flag (F.chnMcEN.at (8 * i)) && s.fld (F.chnMcMAC.at (8 * i)) == beAt f 0 6)

/-- An sACN packet of a listed universe, or to the fixture (R374). -/
def State.sacnFor (s : State) (f : List Byte) : Bool :=
  frPort f == 5568 && (frIp f == Config.fixtureIp.toNat ||
    (frIp f / 65536 == 0xEFFF && (List.range 64).any (fun u =>
      let v := s.fld (F.chnSacnUNIVERSE.at (8 * u))
      s.flag (F.chnSacnEN.at (8 * u)) && v == frIp f % 65536 && decide (1 ≤ v) && decide (v ≤ 63999))))

/-- Whether a received frame goes to the other port, and to HOST (R345, R347). -/
def State.route (s : State) (f : List Byte) : Bool × Bool :=
  let d := beAt f 0 6
  let own := decide (d / 16 = 0x0180C200000) || f.take 6 == blHop || d == Config.fixtureMac.toNat
  let both := d == 0xFFFFFFFFFFFF || f.take 6 == blChain ||
    (bit (d / 2 ^ 40) 0 && (s.mcast f || s.srcFlow f || s.sacnFor f))
  let tag := !(frTagged f) || frVid f == 0 || (List.range 16).any (fun i => s.flag (F.chnVidEN.at (8 * i)) && s.fld (F.chnVidVID.at (8 * i)) == frVid f)
  (!own, (own || both) && (tag || s.srcFlow f))

/-- Add to the correctionField of an event message of an enabled domain the residence time, which is the network's (a free
value), and set the UDP checksum of a modified message to zero (R349). -/
def transparent (f : List Byte) (s : State) : List Byte × State :=
  match frPtp f with
  | some o =>
    if beAt f o 1 % 16 < 4 ∧ (List.range 2).any (fun d => s.flag (F.ptpDomCfgEN.dom d) && s.fld (F.ptpDomCfgDOMAIN.dom d) == beAt f (o + 4) 1) then
      let g := f.take (o + 8) ++ beBytes 8 (beAt f (o + 8) 8 + s.freeW.toNat % 2 ^ 48) ++ f.drop (o + 16)
      let g := match frUdp f with | some u => g.take (u + 6) ++ [0, 0] ++ g.drop (u + 8) | none => g
      (g, drawn s)
    else (f, s)
  | none => (f, s)

/-- A frame for HOST as an item (Table: Host items). -/
def State.hostItem (s : State) (c : Nat) (f : List Byte) : List Byte :=
  BitVec.ofNat 8 c :: List.replicate 7 0 ++ leBytes 8 (s.ingressGt c) ++ f

/-- HOST receives a frame (R373, R374): sACN and other frames are pushed; PTP, SRC flows and the Berranlink types that have
commands of their own are taken by those. -/
def hostRx (c : Nat) (f : List Byte) (s : State) : State :=
  let bl := frType f == 0x88B5
  let ty := beAt f 15 1
  if bl ∧ (!(blOk f) ∨ ty = 0 ∨ (5 < ty ∧ ty < 0x10) ∨ 0x16 < ty) then chnCount 6 s
  else if (bl ∧ ty ≠ 2) ∨ (frPtp f).isSome ∨ s.srcFlow f then s
  else if s.sacnFor f then
    if !(s.flag F.chnQueuesSACNEN) ∨ 3568 < f.length then chnCount 5 s
    else let r := hwPush (s.fld F.chnQueuesSACN) (s.hostItem c f) s; if r.1 then r.2 else chnCount 9 r.2
  else if !(s.flag F.chnQueuesHOSTEN) ∨ 3568 < f.length then chnCount 5 s
  else let r := hwPush (s.fld F.chnQueuesHOST) (s.hostItem c f) s; if r.1 then r.2 else chnCount 5 r.2

/-- CHAIN_FRAME_RX (R345–R349): a frame with its FCS right or not; `cut`: it passes by cut-through; `room`: its egress queue
has room. -/
def frameRx (c : Nat) (f : List Byte) (fcsOk cut room : Bool) (s : State) : State :=
  if !s.chnOn ∨ !(s.linkUp c) ∨ f.length < 14 then s
  else
    let r := s.route f
    let s :=
      if !r.1 ∨ !(s.linkUp (1 - c)) then s
      else if !fcsOk then (if cut then chnCount 4 s else s)
      else if !room then chnCount 5 s
      else let t := transparent f s; send (1 - c) t.1 t.2
    if fcsOk && r.2 then hostRx c f s else s

/-- HOST_TX (R373). -/
def hostSend (s : State) : State :=
  if !s.chnOn ∨ !(s.flag F.chnQueuesTXEN) then s
  else
    let r := hwPop (s.fld F.chnQueuesTX) s
    match r.1 with
    | none => r.2
    | some l =>
      let p := leAt l 0 1
      if p = 0 ∨ 3 < p ∨ l.length < 30 ∨ leAt l 1 15 ≠ 0 then chnCount 5 r.2
      else r.2 |> whenB (bit p 0) (sendUp 0 (l.drop 16)) |> whenB (bit p 1) (sendUp 1 (l.drop 16))

/-- ASSIGN received on port c (R369). -/
def assignIn (c next : Nat) (s : State) : State :=
  if !s.chnOn ∨ !(s.linkUp c) then s
  else if next ≤ 1023 then
    let s := intr 629 (s |> setFld F.chnAddrADDR next |> setFlag F.chnAddrVALID true |> setFld F.chnAddrUPSTREAM c)
    sendBl (1 - c) true 1 true (beBytes 2 (next + 1)) s
  else sendBl (1 - c) true 1 true (beBytes 2 next) (chnCount 7 (setFlag F.chnAddrVALID false s))

/-- SHOW_DIGEST as 16 bytes. -/
def State.showDigest (s : State) : List Byte := leBytes 8 (s.fld F.chnDigestBYTES) ++ leBytes 8 (s.fld (F.chnDigestBYTES.at 8))

/-- PWR_STAT.STATE and ROOK_STAT.STATE as STATUS shows them. -/
def State.statusBody (s : State) : List Byte :=
  beBytes 2 s.blSrc ++ s.showDigest ++ beBytes 6 s.frameNum ++
    [BitVec.ofNat 8 (s.fld F.ptpCtrlGTSTATE), BitVec.ofNat 8 (s.fld F.pwrStatSTATE), BitVec.ofNat 8 s.rookSt, 0] ++
    beBytes 8 (s.fld F.chnStatusFwFW)

/-- STATUS_SEND (R372): towards the head, or on both ports while no ASSIGN has said where it is. -/
def statusSend (s : State) : State :=
  let p := s.fld F.chnStatusPERIOD
  if !s.chnOn ∨ p = 0 ∨ s.now < s.chn.statusAt + p * 1000000 then s
  else
    let s := modChn (fun x => { x with statusAt := s.now }) s
    if s.flag F.chnAddrVALID then sendBl (s.fld F.chnAddrUPSTREAM) false 2 false s.statusBody s
    else sendBl 1 false 2 false s.statusBody (sendBl 0 false 2 false s.statusBody s)

/-- The body of a walk. -/
def walkBody (w : Walk) : List Byte :=
  w.ref.take 16 ++ beBytes 4 w.epoch.toNat ++ beBytes 2 w.mismatch.toNat ++ [BitVec.ofNat 8 w.addrs.length, BitVec.ofNat 8 (b2n w.overflow)] ++
    w.addrs.flatMap (fun a => beBytes 2 a.toNat)

/-- DIGEST_WALK (R371). -/
def walkIn (c : Nat) (down : Bool) (w : Walk) (s : State) : State :=
  if !s.chnOn ∨ !(s.linkUp c) ∨ !down ∨ s.fld F.chnAddrUPSTREAM ≠ c then s
  else if s.chn.walked ∧ s.fld F.chnWalkEPOCH = w.epoch.toNat then
    chnCount 8 (countMod F.chnWalkWALKDUP 1 s)
  else
    let same := w.ref.take 16 == s.showDigest
    let a := BitVec.ofNat 16 s.blSrc
    let w := if same then w
      else
        let w := { w with mismatch := if w.mismatch = 0xFFFF then w.mismatch else w.mismatch + 1 }
        if w.addrs.length < 64 then { w with addrs := w.addrs ++ [a] } else { w with overflow := true }
    let s := intr 630 (modChn (fun x => { x with walked := true }) s |> setFld F.chnWalkEPOCH w.epoch.toNat |> setFlag F.chnWalkMATCH same)
    if s.linkUp (1 - c) then sendBl (1 - c) true 3 true (walkBody w) s else sendBl c true 4 false (walkBody w) s

/-- DIGEST_RESULT from downstream goes on upstream unchanged. -/
def resultIn (c : Nat) (f : List Byte) (s : State) : State :=
  if s.chnOn ∧ s.linkUp c ∧ s.fld F.chnAddrUPSTREAM ≠ c then sendUp (s.fld F.chnAddrUPSTREAM) f s else s

/-- WAKE (R372): FIRST and LAST, or a magic packet. -/
def wakeIn (c : Nat) (r : Option (Nat × Nat)) (s : State) : State :=
  let me : Bool := match r with
    | some p => !(s.flag F.chnAddrVALID) || (decide (p.1 ≤ s.fld F.chnAddrADDR) && decide (s.fld F.chnAddrADDR ≤ p.2))
    | none => true
  if s.chnOn ∧ s.linkUp c ∧ me then wakeReq 0 (intr 634 s) else s

/-- MODULE_INSERT. -/
def execModuleInsert (c : Fin 2) (rateMBd : Option (BitVec 16)) (s : State) : Host.Outcome State Fault Refusal :=
  .next (moduleIn c.val (rateMBd.map BitVec.toNat) s)
/-- MODULE_REMOVAL. -/
def execModuleRemoval (c : Fin 2) (s : State) : Host.Outcome State Fault Refusal := .next (moduleOut c.val s)
/-- LINK_CHANGE. -/
def execLinkChange (c : Fin 2) (up : Bool) (s : State) : Host.Outcome State Fault Refusal := .next (linkChange c.val up s)
/-- CHAIN_FRAME_RX. -/
def execChainFrameRx (c : Fin 2) (frame : List Byte) (fcsOk cut room : Bool) (s : State) : Host.Outcome State Fault Refusal :=
  .next (frameRx c.val frame fcsOk cut room s)
/-- HOST_TX. -/
def execHostTx (s : State) : Host.Outcome State Fault Refusal := .next (hostSend s)
/-- ASSIGN. -/
def execChainAssign (c : Fin 2) (next : BitVec 16) (s : State) : Host.Outcome State Fault Refusal := .next (assignIn c.val next.toNat s)
/-- STATUS_SEND. -/
def execStatusSend (s : State) : Host.Outcome State Fault Refusal := .next (statusSend s)
/-- DIGEST_WALK. -/
def execDigestWalk (c : Fin 2) (down : Bool) (w : Walk) (s : State) : Host.Outcome State Fault Refusal := .next (walkIn c.val down w s)
/-- DIGEST_RESULT. -/
def execDigestResult (c : Fin 2) (frame : List Byte) (s : State) : Host.Outcome State Fault Refusal := .next (resultIn c.val frame s)
/-- WAKE. -/
def execWake (c : Fin 2) (range : Option (BitVec 16 × BitVec 16)) (s : State) : Host.Outcome State Fault Refusal :=
  .next (wakeIn c.val (range.map (fun p => (p.1.toNat, p.2.toNat))) s)

end Sys2Proof.Machine
end

