-- ==== Sys2Proof/Machine/Melfy.lean ====
section
/-! DEFINITION. Hardware contexts: registers, levels, trap entry and return (R41–R45, R60–R67), instruction words
(R46), and the checks around one instruction (R47, R54, R64). -/

namespace Sys2Proof.Machine

/-- Whether a context is Rook's (R72). -/
def isRook (h : Hart) : Bool := h.val == 64

/-- A context. -/
def State.hart (s : State) (h : Hart) : HartState := if isRook h then s.rook.cpu else SMap.get s.mel.harts h.val {}

/-- Replace a context. -/
def setHart (h : Hart) (v : HartState) (s : State) : State :=
  { s with mel := if isRook h then s.mel else { s.mel with harts := SMap.put s.mel.harts h.val v },
           rook := if isRook h then { s.rook with cpu := v } else s.rook }

/-- A general register: g0 reads zero (R42). -/
def State.g (s : State) (h : Hart) (r : Fin 32) : Word := if r = 0 then 0 else SMap.get (s.hart h).g r.val 0

/-- Write a general register: writes to g0 are discarded (R42). -/
def setG (h : Hart) (r : Fin 32) (v : Word) (s : State) : State :=
  if r = 0 then s else setHart h { s.hart h with g := SMap.put (s.hart h).g r.val v } s

/-- A predicate register: p0 reads all ones (R42). -/
def State.p (s : State) (h : Hart) (r : Fin 8) : Word := if r = 0 then BitVec.allOnes 64 else SMap.get (s.hart h).p r.val 0

/-- Write a predicate register: writes to p0 are discarded (R42). -/
def setP (h : Hart) (r : Fin 8) (v : Word) (s : State) : State :=
  if r = 0 then s else setHart h { s.hart h with p := SMap.put (s.hart h).p r.val v } s

/-- A vector register. -/
def State.v (s : State) (h : Hart) (r : Fin 16) : Vec := SMap.get (s.hart h).v r.val 0

/-- Write a vector register. -/
def setV (h : Hart) (r : Fin 16) (v : Vec) (s : State) : State := setHart h { s.hart h with v := SMap.put (s.hart h).v r.val v } s

/-- The pc of a context. -/
def State.pc (s : State) (h : Hart) : Word := (s.hart h).pc

/-- Set the pc. -/
def setPc (h : Hart) (v : Word) (s : State) : State := setHart h { s.hart h with pc := v } s

/-- Go on to the next instruction. -/
def advance (h : Hart) (s : State) : State := setPc h (s.pc h + 4) s

/-- A bit of .status. -/
def HartState.sb (t : HartState) (i : Nat) : Bool := t.status.getLsbD i

/-- The level PL. -/
def HartState.pl (t : HartState) : Nat := bits t.status.toNat 1 0

/-- Replace bits hi..lo of a word. -/
def putBits (w : Word) (hi lo v : Nat) : Word :=
  (w &&& ~~~(BitVec.ofNat 64 ((2 ^ (hi - lo + 1) - 1) <<< lo))) ||| BitVec.ofNat 64 ((v % 2 ^ (hi - lo + 1)) <<< lo)

/-- Core of a context, and its number within the core. -/
def coreOf (h : Hart) : Nat := h.val / 4

/-- A trap: cause code, subcause, .tval and the return address. -/
structure Trap where
  code : Nat
  sub : Nat := 0
  tval : Word := 0
  deriving DecidableEq, Repr

/-- .cause of an exception: [15:8] subcause, [7:0] code. -/
def Trap.cause (t : Trap) : Word := BitVec.ofNat 64 (t.sub * 256 + t.code)

/-- Entry to the kernel bank (R61). -/
def HartState.enterKernel (t : HartState) (cause tval epc : Word) : HartState :=
  let st := putBits (putBits (putBits (putBits (putBits t.status 3 2 t.pl) 5 5 (b2n (t.sb 4))) 4 4 0) 6 6 1) 1 0 1
  { t with epc := epc, cause := cause, tval := tval, status := st, pc := t.ivec, st := .running }

/-- Entry to the monitor bank (R61). -/
def HartState.enterMonitor (t : HartState) (cause tval epc : Word) : HartState :=
  let st := putBits (putBits (putBits (putBits (putBits t.status 11 10 t.pl) 12 12 (b2n (t.sb 4))) 4 4 0) 13 13 1) 1 0 2
  { t with mepc := epc, mcause := cause, mtval := tval, status := st, pc := t.mivec, st := .running }

/-- A monitor-bank trap while MT is 1: the context becomes DEAD and MEL raises CTX_DEAD (R62), which counts MEL's contexts
and not Rook's (assumption 70). -/
def monitorTrap (h : Hart) (cause tval epc : Word) (s : State) : State :=
  let t := s.hart h
  if t.sb 13 then
    whenB (!(isRook h)) (raise .mel 3 { addr := epc.toNat, mstr := h.val, typ := 0 }) (setHart h { t with st := .dead } s)
  else setHart h (t.enterMonitor cause tval epc) s

/-- A trap enters the kernel bank from task or kernel level unless KT is 1; else the monitor bank (R61). -/
def enterTrap (h : Hart) (cause tval epc : Word) (s : State) : State :=
  let t := s.hart h
  if t.pl < 2 ∧ !(t.sb 6) then setHart h (t.enterKernel cause tval epc) s
  else monitorTrap h cause tval epc s

/-- A page fault that parks the context while FPK is 1 at task level (R65): 1, 2 or 3, or 7 with one of these. -/
def parks (t : HartState) (x : Trap) : Bool :=
  t.pl == 0 && t.sb 15 && ([1, 2, 3].contains x.code || (x.code == 7 && [1, 2, 3].contains x.sub))

/-- Park a context: the kernel bank records the fault, the level and pc stay, identifier 17 + core is raised (R65). -/
def parkCtx (h : Hart) (x : Trap) (s : State) : State :=
  let t := s.hart h
  intr (17 + coreOf h) (setHart h { t with epc := t.pc, cause := x.cause, tval := x.tval, st := .parked } s)

/-- An instruction raises an exception: it parks, or traps with .epc at the instruction (R60, R61, R65). -/
def except (h : Hart) (x : Trap) (s : State) : State :=
  let t := s.hart h
  if parks t x then parkCtx h x s else enterTrap h x.cause x.tval t.pc s

/-- ERET through the bank of the current level (R62). -/
def HartState.eret (t : HartState) : HartState :=
  if t.pl = 2 then
    { t with status := putBits (putBits (putBits t.status 1 0 (bits t.status.toNat 11 10)) 4 4 (b2n (t.sb 12))) 13 13 0,
             pc := t.mepc }
  else
    { t with status := putBits (putBits (putBits t.status 1 0 (bits t.status.toNat 3 2)) 4 4 (b2n (t.sb 5))) 6 6 0,
             pc := t.epc }

/-- Whether the cores run: MEL is not in reset and its clocks are not stopped (R406). -/
def State.coresOn (s : State) : Bool := !(s.inReset .mel) && !(s.pwr.stopped.contains 6) && decide (s.pwr.st ≠ .off) && !s.rst.held

/-- Whether a context's core runs: Rook's cores run on their own supply and oscillator, but for S2 (R304). -/
def State.coreRuns (s : State) (h : Hart) : Bool :=
  if isRook h then !(s.pwr.domsOff.contains 8) else s.coresOn

/-- A core as an initiator, at the level of its context. -/
def hartWho (h : Hart) (s : State) : Who := { mstr := h.val, mon := (s.hart h).pl == 2 }

/-- The level-1 table of a context, from .ptroot[39:17]. -/
def ptRoot (h : Hart) (s : State) : Except VErr Nat × State := (.ok (bits (s.hart h).ptroot.toNat 39 17 * 0x20000), s)

/-- Translate an address of a context (R74, R80): at monitor level and while .ptroot[0] is 0 it is physical, and on Rook
always (R72). -/
def hartXlate (h : Hart) (k : Acc3) (va : Nat) (s : State) : Except VErr Nat × State :=
  let t := s.hart h
  if t.pl = 2 ∨ !(t.ptroot.getLsbD 0) ∨ isRook h then (.ok va, s)
  else
    let r := xlate (hartWho h s) (if t.pl = 0 then .task else .kernel) k (bits t.asid.toNat 15 0) va (ptRoot h) s
    match r.1 with
    | .error e => (.error e, r.2)
    | .ok p => (.ok p.1, r.2)

/-- Whether a physical address can be fetched: the boot ROM at monitor level, and DRAM (Table: Physical address map). -/
def fetchRegion (h : Hart) (pa : Nat) (s : State) : Option Cause × State :=
  let w := hartWho h s
  match s.region pa with
  | .rom => if w.mon then eccRead w 3 pa 4 s else (some ⟨4, 2⟩, s)
  | .dram => eccRead w 3 pa 4 s
  | .pool => (some ⟨4, 3⟩, s)
  | _ => if s.unclaimed pa then badAddr w 3 pa s else (some ⟨4, 2⟩, s)

/-- The fetch of an instruction at the pc: translation and permission; the word itself comes with the command. Rook fetches
from its own memory, of which the manual gives no map (assumption 70). -/
def fetchCheck (h : Hart) (s : State) : Option Trap × State :=
  if isRook h then (none, s) else
  let pc := (s.pc h).toNat
  let r := hartXlate h .fetch pc s
  match r.1 with
  | .error e => (some ⟨e.cause.code, e.cause.sub, s.pc h⟩, r.2)
  | .ok pa =>
    let f := fetchRegion h pa r.2
    match f.1 with
    | some c => (some ⟨c.code, c.sub, s.pc h⟩, f.2)
    | none => (none, f.2)

/-- An opcode that Rook's cores do not have: 0x3B–0x3E, the vector and pixel instructions (R72). -/
def rookIll (h : Hart) (word : Nat) : Bool := isRook h && decide (0x3B ≤ bits word 31 26) && decide (bits word 31 26 ≤ 0x3E)

/-- One instruction of a context, in the order of R64: fetch faults, illegal encodings and disabled vectors, level,
then the instruction's own effect, which answers an exception or the state after it. -/
def issue (h : Hart) (word : Nat) (ill : HartState → Option Nat) (level : Nat)
    (body : State → Option Trap × State) (s : State) : State :=
  if (s.hart h).st = .running ∧ s.coreRuns h then
    let f := fetchCheck h s
    match f.1 with
    | some x => except h x f.2
    | none =>
      let t := f.2.hart h
      match if rookIll h word then some 0 else ill t with
      | some sub => except h ⟨6, sub, BitVec.ofNat 64 word⟩ f.2
      | none =>
        if t.pl < level then except h ⟨4, 0, BitVec.ofNat 64 word⟩ f.2
        else
          let r := body f.2
          match r.1 with
          | some x => except h x r.2
          | none => r.2
  else s

/-- An instruction that raises nothing of its own. -/
def plain (f : State → State) (s : State) : Option Trap × State := (none, f s)

/-- No condition makes the encoding illegal. -/
def legal (_ : HartState) : Option Nat := none

/-- A field shown as 0 must be zero: subcause 0x02 (R47). -/
def zeroField (z : Nat) (_ : HartState) : Option Nat := if z = 0 then none else some 2

/-- A word that no table of opcodes or functions lists, the word of zeros among them: cause 0x06 subcause 0x00 (R47). -/
def illegalWord (h : Hart) (word : Nat) (s : State) : State := issue h word (fun _ => some 0) 0 (plain id) s

/-- Instruction words (R46): form R. -/
def wordR (op fn : Nat) (d a b : Fin 32) : Nat := op * 2 ^ 26 + d.val * 2 ^ 21 + a.val * 2 ^ 16 + b.val * 2 ^ 11 + fn

/-- Form I. -/
def wordI (op : Nat) (f : IForm) : Nat := op * 2 ^ 26 + f.d.val * 2 ^ 21 + f.a.val * 2 ^ 16 + f.imm.toNat

/-- Form B. -/
def wordB (op : Nat) (f : BForm) : Nat := op * 2 ^ 26 + f.a.val * 2 ^ 21 + f.b.val * 2 ^ 16 + f.off.toNat

/-- Form P. -/
def wordP (op : Nat) (f : PForm) : Nat := op * 2 ^ 26 + f.p.val * 2 ^ 23 + f.z.toNat * 2 ^ 16 + f.off.toNat

/-- Form J. -/
def wordJ (op : Nat) (f : JForm) : Nat := op * 2 ^ 26 + f.off.toNat

/-- Form H. -/
def wordH (op : Nat) (f : HForm) : Nat :=
  op * 2 ^ 26 + f.d.val * 2 ^ 21 + f.z.toNat * 2 ^ 18 + f.h.val * 2 ^ 16 + f.imm.toNat

/-- Form S. -/
def wordS (op : Nat) (f : SForm) : Nat :=
  op * 2 ^ 26 + f.d.val * 2 ^ 21 + f.a.val * 2 ^ 16 + f.kind.val * 2 ^ 14 + b2n f.w * 2 ^ 13 + f.z.toNat * 2 ^ 6 + f.sh.val

/-- Form Q. -/
def wordQ (fn : Nat) (f : QForm) : Nat :=
  0x39 * 2 ^ 26 + f.pd.val * 2 ^ 23 + f.pa.val * 2 ^ 20 + f.pb.val * 2 ^ 17 + f.g.val * 2 ^ 12 + fn * 2 ^ 8 + f.z.toNat

/-- Form V. -/
def wordV (op fn : Nat) (f : VForm) : Nat :=
  op * 2 ^ 26 + f.vd.val * 2 ^ 22 + f.va.val * 2 ^ 18 + f.vb.val * 2 ^ 14 + f.pg.val * 2 ^ 11 + f.esz.val * 2 ^ 9 +
    fn * 2 ^ 5 + f.ga.val

/-- Form VM. -/
def wordVM (store : Bool) (f : VmForm) : Nat :=
  0x3D * 2 ^ 26 + f.vt.val * 2 ^ 22 + f.ga.val * 2 ^ 17 + f.bx.val * 2 ^ 12 + f.pg.val * 2 ^ 9 + f.esz.val * 2 ^ 7 +
    f.mode.val * 2 ^ 5 + b2n store * 2 ^ 4 + f.z.toNat

end Sys2Proof.Machine
end

