-- ==== Sys2Proof/Machine/Sat.lean ====
section
/-! DEFINITION. Scheduled actions (R361–R367, R447). -/

namespace Sys2Proof.Machine

/-- A field of entry e. -/
def Fld.sat (f : Fld) (e : Nat) : Fld := f.at (0x20 * e)

/-- STATE and KIND of an entry. -/
def State.satSt (s : State) (e : Nat) : Nat := s.fld (F.satECtrlSTATE.sat e)
def State.satKind (s : State) (e : Nat) : Nat := s.fld (F.satECtrlKIND.sat e)

/-- TIME and ARG of an entry. -/
def State.satTime (s : State) (e : Nat) : Nat := s.fld (F.satETimeTIME.sat e)
def State.satArg (s : State) (e : Nat) : Nat := s.fld (F.satEArgARG.sat e)

/-- SAT acts. -/
def State.satOn (s : State) : Bool := s.flag F.satCtrlEN && !(s.inReset .sat) && !(s.pwr.stopped.contains 10) && !s.rst.held

/-- An entry takes a state: each change raises 676 + e. -/
def satTo (e st : Nat) (s : State) : State :=
  if s.satSt e = st then s else intr (676 + e) (setFld (F.satECtrlSTATE.sat e) st s)

/-- The tolerance of an entry (R361, Table: Action kinds). -/
def State.satTol (s : State) (e : Nat) : Int :=
  if s.fld (F.satECtrlDEF.sat e) = 1 then (if s.satKind e = 2 then 0 else 2) else (s.fld (F.satECtrlTOL.sat e) : Nat)

/-- The due frame (R361). -/
def State.dueFrame (s : State) (e : Nat) : Int :=
  let n := s.frameAt (s.satTime e)
  if s.startI n = (s.satTime e : Int) then n else n + 1

/-- λ at the boundary of frame b (R361). -/
def State.lateness (s : State) (e : Nat) (b : Int) : Int :=
  (s.startI b - (s.satTime e : Int)) * 65536 / (s.inF F.ptpFramePeriodPERIOD : Nat)

/-- Show a lateness, saturating. -/
def showLate (e : Nat) (l : Int) (s : State) : State := setFld (F.satECtrlLAMBDA.sat e) (clampI 0 255 l).toNat s

/-- An entry becomes PAST. -/
def satPast (e : Nat) (l : Int) (s : State) : State := raise .sat 4 { addr := e } (satTo e 3 (showLate e l s))

/-- The lateness that ARM judges (R362). -/
def State.armLate (s : State) (e : Nat) : Int :=
  let f := s.dueFrame e
  if s.satKind e = 1 then max 0 ((s.earliestOpen (BitVec.ofNat 10 (s.satArg e)) : Int) - f)
  else s.lateness e (max f (s.frameAt (s.gt : Nat) + 1))

/-- ARM. -/
def armAct (e : Nat) (s : State) : State :=
  if s.inReset .sat ∨ s.pwr.stopped.contains 10 ∨ s.rst.held then s
  else if !s.satOn ∨ s.satKind e = 0 ∨ 5 < s.satKind e ∨ s.satSt e = 1 then raise .sat 1 { addr := 0x25110110 + 0x20 * e, typ := 2 } s
  else
    let l := s.armLate e
    if s.satTol e < l then satPast e l s
    else satTo e 1 { s with satArm := SMap.put s.satArm e s.gt }

/-- DISARM (R362, R367). -/
def disarmAct (e : Nat) (s : State) : State :=
  if s.inReset .sat ∨ s.pwr.stopped.contains 10 ∨ s.rst.held then s
  else if s.satSt e = 1 then
    (if s.satKind e = 2 then raise .sat 3 { addr := 0x25110110 + 0x20 * e, typ := 2 } s
     else satTo e 0 s)
  else if s.satSt e = 0 then s
  else
    let drop := fun (x : Option Nat) => if x = some e then none else x
    let c := s.commit
    let s := { s with commit := { c with pend := c.pend.map (fun p => { p with sat := drop p.sat }),
                                         armed := c.armed.map (fun a => { a with sat := drop a.sat }) } }
    let s := modSeq (fun q => { q with sat := drop q.sat }) s
    s |> setFlag (F.satECtrlLATE.sat e) false |> setFlag (F.satECtrlMISSED.sat e) false |> setFld (F.satECtrlLAMBDA.sat e) 0 |> satTo e 0

/-- A COMMIT entry whose submission is due (R364). -/
def State.satDue (s : State) (e : Nat) : Bool :=
  s.satSt e == 1 && s.satKind e == 1 && decide (s.startI (s.dueFrame e - 2) + 16000 ≤ (s.gt : Int))

/-- SAT_COMMIT_SUBMIT (R364): entries that wait for the slot go in entry order. A submission after its window is late as any
other is (R35, R37). -/
def satSubmit (e : Nat) (s : State) : State :=
  if !s.satOn ∨ !(s.satDue e) ∨ s.commit.pend.isSome ∨
      (List.range e).any (fun i => s.satDue i && s.dueFrame i == s.dueFrame e) then s
  else
    let g := BitVec.ofNat 10 (s.satArg e)
    let f := s.dueFrame e
    let f' : Int := max f (s.earliestOpen g : Nat)
    let l := f' - f
    if s.satTol e < l then satPast e l s
    else
      let s := satTo e 2 (setFlag (F.satECtrlLATE.sat e) (decide (0 < l)) (showLate e l s))
      if g = 0 then satFail (some e) (commitRefused none 2 s) else submit f.toNat g false (some e) s

/-- The item of an EVENT entry (R447). -/
def eventItem (time arg n : Nat) : List Byte :=
  leBytes 8 time ++ leBytes 6 (bits arg 63 16) ++ [0, 0] ++ leBytes 6 n ++ [0, 0] ++ List.replicate 32 0

/-- The action of an entry at frame n: whether it went through (R365). -/
def satAct (n e : Nat) (s : State) : Bool × State :=
  let a := s.satArg e
  match s.satKind e with
  | 2 => if (s.bank (a % 2)).st = 2 then (true, activateBank (a % 2) s) else (false, lastCode 0x17 s)
  | 3 => if s.active = a % 2 then (true, s) else castleReq s
  | 4 =>
    let r := match a % 4 with
      | 0 => seqWake s
      | 1 => seqEnter .s1 (some e) s
      | 2 => seqEnter .s2 (some e) s
      | _ => pwrCtrl 0 s
    (r.1 == 0, r.2)
  | _ => hwPush (a % 1024) (eventItem (s.satTime e) a n) s

/-- An entry at the boundary of frame n (R363): DONE stands before its action. -/
def satEntry (n e : Nat) (s : State) : State :=
  let b := s.startI n
  if !s.satOn ∨ s.satSt e ≠ 1 ∨ s.satKind e < 2 ∨ b < (s.satTime e : Int) ∨ b ≤ ((SMap.get s.satArm e 0 : Nat) : Int) then s
  else
    let l := s.lateness e n
    if s.satTol e < l then satPast e l s
    else
      let r := satAct n e (satTo e 2 (setFlag (F.satECtrlLATE.sat e) (decide (0 < l)) (showLate e l s)))
      if r.1 then r.2 else satTo e 4 r.2

/-- Every entry at the boundary of frame n. -/
def satBoundary (n : Nat) (s : State) : State := forN 64 (satEntry n) s

/-- ARM. -/
def execArm (e : Fin 64) (s : State) : Host.Outcome State Fault Refusal := .next (armAct e.val s)
/-- DISARM. -/
def execDisarm (e : Fin 64) (s : State) : Host.Outcome State Fault Refusal := .next (disarmAct e.val s)
/-- SAT_COMMIT_SUBMIT. -/
def execSatCommitSubmit (e : Fin 64) (s : State) : Host.Outcome State Fault Refusal := .next (satSubmit e.val s)

end Sys2Proof.Machine
end

