-- ==== Sys2Proof/Machine/Frame.lean ====
section
/-! DEFINITION. The frame timeline (R27, R28, R358, R444): FRAME_START, steps of GT, TL_EN and FRAME_EPOCH, and handshake
timeouts between islands (R19, R20). -/

namespace Sys2Proof.Machine

/-- The timeline is reckoned or runs: PTP is clocked. -/
def State.timeOn (s : State) : Bool := !s.isOff && !s.rst.held && !(s.pwr.stopped.contains 10)

/-- What the start of frame n does beside the boundary itself (R28, R30, R192, R282, R358). -/
def frameBegins (n : Nat) (s : State) : State :=
  let s := applyCommits n s
  let s := if s.pwr.stopped.contains 3 then s else scanFrame n s
  forN 24 (fun k s => railFall k n s) s

/-- What a reckoned boundary does (R444): commits apply, and a refresh class due governs. -/
def boundaryAt (n : Nat) (s : State) : State :=
  let s := applyCommits n s
  if s.pwr.stopped.contains 3 then s else scanClass n s

/-- FRAME_START. With TL_EN 1 frame n follows the one displayed, or is the first; with TL_EN 0 the boundary is reckoned:
commits apply and SAT acts (R444). -/
def frameStartAt (n : Nat) (s : State) : State :=
  if !s.timeOn ∨ (s.gt : Int) < s.startI n then s
  else if s.flag F.ptpCtrlTLEN then
    let next := if s.tl.running then some (s.tl.frame + 1) else s.tl.first
    if next ≠ some n then s
    else
      let step := s.ptp.step.map (fun p => { p with n := p.n.orElse (fun _ => some n) })
      let s := { s with tl := { running := true, frame := n, reached := some n }, ptp := { s.ptp with step := step } }
      satBoundary n (frameBegins n (intr 1 s))
  else if s.frameAt (s.gt : Nat) = n ∧ s.tl.reached ≠ some n then
    let s := { s with tl := { s.tl with reached := some n } }
    satBoundary n (boundaryAt n s)
  else s

/-- TIME_STEP (R358, R359): a commit window that the step moves into the past closes at the step. -/
def timeStepAt (s : State) : State :=
  match s.ptp.step with
  | some p =>
    (match p.n with
     | some n => if s.timeOn ∧ s.startI n + 100000 ≤ (s.gt : Int) then closeAt (applyStep n p.s s) else s
     | none => s)
  | none => s

/-- A write of TL_EN (R444). -/
def tlEnable (en : Bool) (s : State) : State :=
  if !s.timeOn ∨ s.flag F.ptpCtrlTLEN = en then s
  else
    let s := setFlag F.ptpCtrlTLEN en s
    if en then { s with tl := { s.tl with running := false, base := none, first := some (s.firstFrame s.gt) } }
    else
      let s := { s with tl := { s.tl with running := false, base := none, first := none } }
      match s.ptp.step with
      | some p => applyStep s.tl.frame p.s s
      | none => s

/-- A write of FRAME_EPOCH (R360, R444): window closes and apply points that it moves into the past are reached at the write,
in the order of the instants. -/
def epochWrite (v : Nat) (s : State) : State :=
  if !s.timeOn then s
  else if s.flag F.ptpCtrlTLEN then
    (if v = s.fld F.ptpFrameEpochEPOCH then s else raise .ptp 1 { addr := 0x25100018, typ := 2 } s)
  else
    let s := setFld F.ptpFrameEpochEPOCH v s
    let n := s.frameAt (s.gt : Nat)
    let close := match s.commit.pend with | some p => s.frameAt (s.windowClose p.target p.group) | none => n
    if 0 ≤ n then boundaryAt n.toNat (closeAt (if 0 ≤ close then boundaryAt (min n close).toNat s else s))
    else closeAt s

/-- The MSTR number of the initiator that waits on a crossing; 255 where none does, and for Rook's context, which has no
number. -/
def waiterMstr : Waiter → Nat
  | .none | .te _ => 255
  | .hart h => if isRook h then 255 else h.val
  | .dma n _ _ => 64 + n.val
  | .slot _ _ => 128
  | .rt u _ => 144 + u.val

/-- HS_TIMEOUT (R19, R20): the block records the crossing, and the initiator that waits receives cause 0x11: a context and
a general channel at once, a queue operation and a real-time initiator at the access they make next (assumption 71). A slot
that an engine could not hand over goes dark and counts SLOT_MISS (R223); in other real-time crossings the data that did
not come is late, and its own late-data entry follows at its own instant (assumption 60). -/
def hsTimeout (x : Crossing) (s : State) : State :=
  let s := raise x.blk 0 { addr := x.addr.toNat, mstr := waiterMstr x.waiter, into := some x.into } s
  match x.waiter with
  | .none => s
  | .hart h => if (s.hart h).st = .running ∧ s.coreRuns h then except h ⟨0x11, 0, BitVec.ofNat 64 x.addr.toNat⟩ s else s
  | .dma n walk write => chLate n.val walk write s
  | .slot k walk => { s with hsLate := SMap.put s.hsLate (256 + k.val) walk }
  | .rt u walk => { s with hsLate := SMap.put s.hsLate (144 + u.val) walk }
  | .te i => (match x.blk with | .te n => slotMiss n.val (slotDark n.val i.val s) | _ => s)

/-- FRAME_START. -/
def execFrameStart (n : BitVec 48) (s : State) : Host.Outcome State Fault Refusal := .next (frameStartAt n.toNat s)
/-- TIME_STEP. -/
def execTimeStep (s : State) : Host.Outcome State Fault Refusal := .next (timeStepAt s)
/-- TL_EN_WRITE. -/
def execTlEnWrite (en : Bool) (s : State) : Host.Outcome State Fault Refusal := .next (tlEnable en s)
/-- FRAME_EPOCH_WRITE. -/
def execFrameEpochWrite (epoch : BitVec 64) (s : State) : Host.Outcome State Fault Refusal := .next (epochWrite epoch.toNat s)
/-- HS_TIMEOUT. -/
def execHsTimeout (x : Crossing) (s : State) : Host.Outcome State Fault Refusal := .next (hsTimeout x s)

end Sys2Proof.Machine
end

