-- ==== Sys2Proof/Machine/MelfyAlu.lean ====
section
/-! DEFINITION. Integer instructions, immediates, branches and jumps (R46–R48). -/

namespace Sys2Proof.Machine

/-- The integer functions (Table: Integer functions). -/
inductive AluOp where
  | add | sub | and | or | xor | sll | srl | sra | slt | sltu | mul | mulh | mulhu | div | divu | rem | remu | min | max | minu | maxu | clz | ctz | popc | ror
  deriving DecidableEq, Repr

/-- fn[7:0] of a function. -/
def AluOp.fn : AluOp → Nat
  | .add => 0x0
  | .sub => 0x1
  | .and => 0x2
  | .or => 0x3
  | .xor => 0x4
  | .sll => 0x5
  | .srl => 0x6
  | .sra => 0x7
  | .slt => 0x8
  | .sltu => 0x9
  | .mul => 0xa
  | .mulh => 0xb
  | .mulhu => 0xc
  | .div => 0xd
  | .divu => 0xe
  | .rem => 0xf
  | .remu => 0x10
  | .min => 0x11
  | .max => 0x12
  | .minu => 0x13
  | .maxu => 0x14
  | .clz => 0x15
  | .ctz => 0x16
  | .popc => 0x17
  | .ror => 0x18

/-- Whether W = 1 is a listed function. -/
def AluOp.wOk : AluOp → Bool
  | .add | .sub | .sll | .srl | .sra | .mul | .div | .divu | .rem | .remu => true
  | _ => false

/-- Signed quotient rounded toward zero; all ones on division by zero (R48). -/
def sdivR {n : Nat} (a b : BitVec n) : BitVec n := if b = 0 then BitVec.allOnes n else BitVec.sdiv a b

/-- Remainder with the sign of a; a on division by zero (R48). -/
def sremR {n : Nat} (a b : BitVec n) : BitVec n := if b = 0 then a else BitVec.srem a b

/-- Unsigned quotient; all ones on division by zero (R48). -/
def udivR {n : Nat} (a b : BitVec n) : BitVec n := if b = 0 then BitVec.allOnes n else a / b

/-- Unsigned remainder; a on division by zero (R48). -/
def uremR {n : Nat} (a b : BitVec n) : BitVec n := if b = 0 then a else a % b

/-- Leading zeros of a 64-bit number. -/
def clz64 (x : Nat) : Nat := if x = 0 then 64 else 63 - Nat.log2 x

/-- Trailing zeros of a 64-bit number. -/
def ctz64 (x : Nat) : Nat := if x = 0 then 64 else ((List.range 64).find? (fun i => bit x i)).getD 64

/-- Set bits of a 64-bit number. -/
def popc64 (x : Nat) : Nat := ((List.range 64).filter (fun i => bit x i)).length

/-- A 64-bit result. -/
def alu64 (o : AluOp) (a b : Word) : Word :=
  let k := bits b.toNat 5 0
  match o with
  | .add => a + b | .sub => a - b | .and => a &&& b | .or => a ||| b | .xor => a ^^^ b
  | .sll => a <<< k | .srl => a >>> k | .sra => a.sshiftRight k
  | .slt => if a.slt b then 1 else 0
  | .sltu => if a.ult b then 1 else 0
  | .mul => a * b
  | .mulh => BitVec.ofInt 64 ((a.toInt * b.toInt) / (2 ^ 64 : Int))
  | .mulhu => BitVec.ofNat 64 ((a.toNat * b.toNat) / 2 ^ 64)
  | .div => sdivR a b | .divu => udivR a b | .rem => sremR a b | .remu => uremR a b
  | .min => if b.slt a then b else a
  | .max => if a.slt b then b else a
  | .minu => if b.ult a then b else a
  | .maxu => if a.ult b then b else a
  | .clz => BitVec.ofNat 64 (clz64 a.toNat)
  | .ctz => BitVec.ofNat 64 (ctz64 a.toNat)
  | .popc => BitVec.ofNat 64 (popc64 a.toNat)
  | .ror => (a >>> k) ||| (a <<< ((64 - k) % 64))

/-- A W = 1 result: the low 32 bits of the operands, sign-extended. -/
def alu32 (o : AluOp) (a b : Word) : Word :=
  let x : BitVec 32 := a.setWidth 32
  let y : BitVec 32 := b.setWidth 32
  let k := bits b.toNat 4 0
  let r : BitVec 32 := match o with
    | .add => x + y | .sub => x - y | .mul => x * y
    | .sll => x <<< k | .srl => x >>> k | .sra => x.sshiftRight k
    | .div => sdivR x y | .divu => udivR x y | .rem => sremR x y | .remu => uremR x y
    | .ror => (x >>> k) ||| (x <<< ((32 - k) % 32))
    | _ => x
  r.signExtend 64

/-- The result of an integer function. -/
def alu (o : AluOp) (w : Bool) (a b : Word) : Word := if w then alu32 o a b else alu64 o a b

/-- Register operations (opcode 0x01): fn[10:9] must be zero, and W must be listed for the function. -/
def intIll (o : AluOp) (f : RForm) (_ : HartState) : Option Nat :=
  if f.z ≠ 0 then some 2 else if f.w && !o.wOk then some 0 else none

/-- An integer register operation. -/
def intR (o : AluOp) (h : Hart) (f : RForm) (s : State) : State :=
  issue h (wordR 1 (f.z.toNat * 512 + b2n f.w * 256 + o.fn) f.d f.a f.b) (intIll o f) 0
    (plain (fun s => advance h (setG h f.d (alu o f.w (s.g h f.a) (s.g h f.b)) s))) s

/-- Sign-extended imm16. -/
def sx16 (i : BitVec 16) : Word := i.signExtend 64

/-- Zero-extended imm16. -/
def zx16 (i : BitVec 16) : Word := i.setWidth 64

/-- An operation with an immediate (opcodes 0x02–0x07). -/
def intI (op : Nat) (o : AluOp) (imm : Word) (h : Hart) (f : IForm) (s : State) : State :=
  issue h (wordI op f) legal 0 (plain (fun s => advance h (setG h f.d (alu64 o (s.g h f.a) imm) s))) s

/-- ga must be 0 (LUI, AUIPC). -/
def gaZero (f : IForm) (_ : HartState) : Option Nat := if f.a = 0 then none else some 2

/-- LUI: gd := sext(imm16) << 16. -/
def lui (h : Hart) (f : IForm) (s : State) : State :=
  issue h (wordI 8 f) (gaZero f) 0 (plain (fun s => advance h (setG h f.d (sx16 f.imm <<< 16) s))) s

/-- AUIPC: gd := pc + (sext(imm16) << 16). -/
def auipc (h : Hart) (f : IForm) (s : State) : State :=
  issue h (wordI 10 f) (gaZero f) 0 (plain (fun s => advance h (setG h f.d (s.pc h + (sx16 f.imm <<< 16)) s))) s

/-- INSH: halfword h of gd := imm16. -/
def insh (h : Hart) (f : HForm) (s : State) : State :=
  issue h (wordH 9 f) (zeroField f.z.toNat) 0
    (plain (fun s => advance h (setG h f.d (putBits (s.g h f.d) (16 * f.h.val + 15) (16 * f.h.val) f.imm.toNat) s))) s

/-- The kinds of SHI. -/
def shiOp (k : Fin 4) : AluOp := match k.val with | 0 => .sll | 1 => .srl | 2 => .sra | _ => .ror

/-- SHI: shift or rotate by sh; a W = 1 shift takes sh[4:0], and kind 11 with W = 1 rotates the low 32 bits, though the
register form of ROR does not allow W (assumption 13). -/
def shi (h : Hart) (f : SForm) (s : State) : State :=
  issue h (wordS 11 f) (zeroField f.z.toNat) 0
    (plain (fun s => advance h (setG h f.d (alu (shiOp f.kind) f.w (s.g h f.a) (BitVec.ofNat 64 f.sh.val)) s))) s

/-- Branch target: offsets count words from the branch. -/
def target (pc : Word) (off : Word) : Word := pc + (off <<< 2)

/-- A conditional branch on two registers (opcodes 0x20–0x25). -/
def branch (op : Nat) (c : Word → Word → Bool) (h : Hart) (f : BForm) (s : State) : State :=
  issue h (wordB op f) legal 0
    (plain (fun s => if c (s.g h f.a) (s.g h f.b) then setPc h (target (s.pc h) (sx16 f.off)) s else advance h s)) s

/-- A branch on a predicate. -/
def branchP (op : Nat) (any : Bool) (h : Hart) (f : PForm) (s : State) : State :=
  issue h (wordP op f) (zeroField f.z.toNat) 0
    (plain (fun s => if decide (s.p h f.p ≠ 0) = any then setPc h (target (s.pc h) (sx16 f.off)) s else advance h s)) s

/-- J: pc := pc + 4 × off26. -/
def jump (link : Bool) (h : Hart) (f : JForm) (s : State) : State :=
  issue h (wordJ (if link then 0x27 else 0x26) f) legal 0
    (plain (fun s => setPc h (target (s.pc h) (f.off.signExtend 64)) (if link then setG h 31 (s.pc h + 4) s else s))) s

/-- JLR: target := (g[ga] + imm16) with [1:0] cleared; gd := pc + 4; pc := target. -/
def jlr (h : Hart) (f : IForm) (s : State) : State :=
  issue h (wordI 0x28 f) legal 0
    (plain (fun s => setPc h (putBits (s.g h f.a + sx16 f.imm) 1 0 0) (setG h f.d (s.pc h + 4) s))) s

/-- ADD. -/
def execAdd (h : Hart) (f : RForm) (s : State) : Host.Outcome State Fault Refusal := .next (intR .add h f s)
/-- SUB. -/
def execSub (h : Hart) (f : RForm) (s : State) : Host.Outcome State Fault Refusal := .next (intR .sub h f s)
/-- AND. -/
def execAnd (h : Hart) (f : RForm) (s : State) : Host.Outcome State Fault Refusal := .next (intR .and h f s)
/-- OR. -/
def execOr (h : Hart) (f : RForm) (s : State) : Host.Outcome State Fault Refusal := .next (intR .or h f s)
/-- XOR. -/
def execXor (h : Hart) (f : RForm) (s : State) : Host.Outcome State Fault Refusal := .next (intR .xor h f s)
/-- SLL. -/
def execSll (h : Hart) (f : RForm) (s : State) : Host.Outcome State Fault Refusal := .next (intR .sll h f s)
/-- SRL. -/
def execSrl (h : Hart) (f : RForm) (s : State) : Host.Outcome State Fault Refusal := .next (intR .srl h f s)
/-- SRA. -/
def execSra (h : Hart) (f : RForm) (s : State) : Host.Outcome State Fault Refusal := .next (intR .sra h f s)
/-- SLT. -/
def execSlt (h : Hart) (f : RForm) (s : State) : Host.Outcome State Fault Refusal := .next (intR .slt h f s)
/-- SLTU. -/
def execSltu (h : Hart) (f : RForm) (s : State) : Host.Outcome State Fault Refusal := .next (intR .sltu h f s)
/-- MUL. -/
def execMul (h : Hart) (f : RForm) (s : State) : Host.Outcome State Fault Refusal := .next (intR .mul h f s)
/-- MULH. -/
def execMulh (h : Hart) (f : RForm) (s : State) : Host.Outcome State Fault Refusal := .next (intR .mulh h f s)
/-- MULHU. -/
def execMulhu (h : Hart) (f : RForm) (s : State) : Host.Outcome State Fault Refusal := .next (intR .mulhu h f s)
/-- DIV. -/
def execDiv (h : Hart) (f : RForm) (s : State) : Host.Outcome State Fault Refusal := .next (intR .div h f s)
/-- DIVU. -/
def execDivu (h : Hart) (f : RForm) (s : State) : Host.Outcome State Fault Refusal := .next (intR .divu h f s)
/-- REM. -/
def execRem (h : Hart) (f : RForm) (s : State) : Host.Outcome State Fault Refusal := .next (intR .rem h f s)
/-- REMU. -/
def execRemu (h : Hart) (f : RForm) (s : State) : Host.Outcome State Fault Refusal := .next (intR .remu h f s)
/-- MIN. -/
def execMin (h : Hart) (f : RForm) (s : State) : Host.Outcome State Fault Refusal := .next (intR .min h f s)
/-- MAX. -/
def execMax (h : Hart) (f : RForm) (s : State) : Host.Outcome State Fault Refusal := .next (intR .max h f s)
/-- MINU. -/
def execMinu (h : Hart) (f : RForm) (s : State) : Host.Outcome State Fault Refusal := .next (intR .minu h f s)
/-- MAXU. -/
def execMaxu (h : Hart) (f : RForm) (s : State) : Host.Outcome State Fault Refusal := .next (intR .maxu h f s)
/-- CLZ. -/
def execClz (h : Hart) (f : RForm) (s : State) : Host.Outcome State Fault Refusal := .next (intR .clz h f s)
/-- CTZ. -/
def execCtz (h : Hart) (f : RForm) (s : State) : Host.Outcome State Fault Refusal := .next (intR .ctz h f s)
/-- POPC. -/
def execPopc (h : Hart) (f : RForm) (s : State) : Host.Outcome State Fault Refusal := .next (intR .popc h f s)
/-- ROR. -/
def execRor (h : Hart) (f : RForm) (s : State) : Host.Outcome State Fault Refusal := .next (intR .ror h f s)
/-- ADDI. -/
def execAddi (h : Hart) (f : IForm) (s : State) : Host.Outcome State Fault Refusal := .next (intI 2 .add (sx16 f.imm) h f s)
/-- ANDI. -/
def execAndi (h : Hart) (f : IForm) (s : State) : Host.Outcome State Fault Refusal := .next (intI 3 .and (zx16 f.imm) h f s)
/-- ORI. -/
def execOri (h : Hart) (f : IForm) (s : State) : Host.Outcome State Fault Refusal := .next (intI 4 .or (zx16 f.imm) h f s)
/-- XORI. -/
def execXori (h : Hart) (f : IForm) (s : State) : Host.Outcome State Fault Refusal := .next (intI 5 .xor (zx16 f.imm) h f s)
/-- SLTI. -/
def execSlti (h : Hart) (f : IForm) (s : State) : Host.Outcome State Fault Refusal := .next (intI 6 .slt (sx16 f.imm) h f s)
/-- SLTIU. -/
def execSltiu (h : Hart) (f : IForm) (s : State) : Host.Outcome State Fault Refusal := .next (intI 7 .sltu (sx16 f.imm) h f s)
/-- LUI. -/
def execLui (h : Hart) (f : IForm) (s : State) : Host.Outcome State Fault Refusal := .next (lui h f s)
/-- AUIPC. -/
def execAuipc (h : Hart) (f : IForm) (s : State) : Host.Outcome State Fault Refusal := .next (auipc h f s)
/-- INSH. -/
def execInsh (h : Hart) (f : HForm) (s : State) : Host.Outcome State Fault Refusal := .next (insh h f s)
/-- SHI. -/
def execShi (h : Hart) (f : SForm) (s : State) : Host.Outcome State Fault Refusal := .next (shi h f s)
/-- BEQ. -/
def execBeq (h : Hart) (f : BForm) (s : State) : Host.Outcome State Fault Refusal := .next (branch 0x20 (fun a b => a == b) h f s)
/-- BNE. -/
def execBne (h : Hart) (f : BForm) (s : State) : Host.Outcome State Fault Refusal := .next (branch 0x21 (fun a b => a != b) h f s)
/-- BLT. -/
def execBlt (h : Hart) (f : BForm) (s : State) : Host.Outcome State Fault Refusal := .next (branch 0x22 (fun a b => a.slt b) h f s)
/-- BGE. -/
def execBge (h : Hart) (f : BForm) (s : State) : Host.Outcome State Fault Refusal := .next (branch 0x23 (fun a b => !(a.slt b)) h f s)
/-- BLTU. -/
def execBltu (h : Hart) (f : BForm) (s : State) : Host.Outcome State Fault Refusal := .next (branch 0x24 (fun a b => a.ult b) h f s)
/-- BGEU. -/
def execBgeu (h : Hart) (f : BForm) (s : State) : Host.Outcome State Fault Refusal := .next (branch 0x25 (fun a b => !(a.ult b)) h f s)
/-- J. -/
def execJ (h : Hart) (f : JForm) (s : State) : Host.Outcome State Fault Refusal := .next (jump false h f s)
/-- JL: g31 := pc + 4, then as J. -/
def execJl (h : Hart) (f : JForm) (s : State) : Host.Outcome State Fault Refusal := .next (jump true h f s)
/-- JLR. -/
def execJlr (h : Hart) (f : IForm) (s : State) : Host.Outcome State Fault Refusal := .next (jlr h f s)
/-- BPA: branch if any bit of p is set. -/
def execBpa (h : Hart) (f : PForm) (s : State) : Host.Outcome State Fault Refusal := .next (branchP 0x29 true h f s)
/-- BPZ: branch if no bit of p is set. -/
def execBpz (h : Hart) (f : PForm) (s : State) : Host.Outcome State Fault Refusal := .next (branchP 0x2A false h f s)

end Sys2Proof.Machine
end

