-- ==== Sys2Proof/Machine/RegRead.lean ====
section
/-! DEFINITION. Reads of the register space (R11–R14): what each register shows, from its fields and from the state that
its fields report. -/

namespace Sys2Proof.Machine

/-- Handle states as CMP_HSTATh shows them. -/
def HSt.code : HSt → Nat
  | .free => 0 | .live => 1 | .releasing => 2 | .registering => 3

/-- Queue states as QM_Qq_STAT shows them. -/
def QSt.code : QSt → Nat
  | .ok => 0 | .broken => 1 | .resetting => 2

/-- Bits 0–3 of a mask by a test. -/
def mask4 (f : Nat → Bool) : Nat := (List.range 4).foldl (fun a i => a + (if f i then 2 ^ i else 0)) 0

/-- The contexts that are PARKED (MEL_PARKED). -/
def State.parkedMask (s : State) : Nat :=
  s.mel.harts.foldl (fun a e => a + (if e.2.st = .parked then 2 ^ e.1 else 0)) 0

/-- The fields of CMP_HSTATh. -/
def State.hstat (s : State) (h lo : Nat) : Option Nat :=
  let v := s.handle h
  match lo with
  | 62 => some v.st.code
  | 61 => some (b2n (s.bound h))
  | 52 => some (mask4 (fun b => s.held h b))
  | 50 => some (v.latest.getD 0)
  | 40 => some v.takes
  | 32 => some (mask4 (fun b => (v.buf b).pub))
  | 0 => some v.count
  | _ => none

/-- The fields of QM_Qq_STAT that the queue's pointers give. -/
def State.qstat (s : State) (q lo : Nat) : Option Nat :=
  let v := s.queue q
  match lo with
  | 62 => some v.st.code
  | 61 => some (b2n v.a.marked)
  | 31 => some v.a.cells
  | 0 => some v.a.items
  | _ => none

/-- The fields of UPD_BANKb. -/
def State.bankStat (s : State) (b lo : Nat) : Option Nat :=
  match lo with
  | 61 => some (s.bank b).st
  | 60 => some (b2n (s.upd.recs.boot == b))
  | 56 => some (s.bank b).boots
  | 0 => some (s.bank b).serial
  | _ => none

/-- DIAG_CNTs: subpixels in a state; those the state does not list are UNVERIFIED. -/
def State.diagCount (s : State) (st : Nat) : Nat :=
  if st = 4 then subpixels - (s.diag.sub.length - s.subCount 4) else s.subCount st

/-- The value of a field that the block reports from its state, by register address and lowest bit; none for a field
that is stored. -/
def State.live? (s : State) (d : RegDesc) (ix : List Nat) (lo : Nat) : Option Nat :=
  let i := ix.getD 0 0
  match d.addr with
  | 0x20010020 => some s.parkedMask
  | 0x20016048 => some (b2n !(s.flag (F.melMbxCtrlCLAIMED.mbx i)))
  | 0x20030000 => if lo = 0 then some s.freeCells else none
  | 0x20038008 => s.qstat i lo
  | 0x20040020 => some (crcRes i (ix.getD 1 0) s)
  | 0x20050008 => some (s.usable / 0x200000)
  | 0x20104000 => s.hstat i lo
  | 0x22000008 => if lo = 35 then some (if s.epSt i = 4 then s.slotCyc (s.epCode i) else 0) else none
  | 0x20300030 => some (s.diagCount i)
  | 0x21000008 => if lo = 62 then some (s.inF (F.teCtrlEN.te i)) else none
  | 0x23000030 => if lo = 16 then some (s.railTarget i) else none
  | 0x23100040 => if lo = 8 then some s.holdLeft else none
  | 0x24000018 => if lo = 16 then some s.egLeft else none
  | 0x25100000 => some (s.gt % 2 ^ 32)
  | 0x25100028 => some s.frameNum
  | 0x25100110 => if lo = 32 then some (ofInt 24 (clampI (-0x800000) 0x7FFFFF (s.domDiff i / 1000))) else none
  | 0x26000040 => s.bankStat i lo
  | 0x26000048 => some (s.bank i).epoch
  | 0x26000060 => some s.upd.recs.floor
  | _ => none

/-- What a read of a field returns (Table: Register access codes, R14). -/
def State.fieldRead (s : State) (d : RegDesc) (ix : List Nat) (a : Nat) (f : FieldDesc) : Nat :=
  let x := fldAt d ix a f
  match f.acc with
  | .wo => 0
  | .st => s.stg x
  | _ => (s.live? d ix f.lo).getD (s.fld x)

/-- What a read of a whole register returns; reserved bits read zero (R13). -/
def State.regRead (s : State) (d : RegDesc) (ix : List Nat) (a : Nat) : Nat :=
  d.fields.foldl (fun r f => r + s.fieldRead d ix a f % 2 ^ (f.hi - f.lo + 1) * 2 ^ f.lo) 0

/-- The common fault register set (R17, offset 0xF00): 32 bits at an offset from 0xF00. -/
def State.fltRead (s : State) (b : Blk) (off : Nat) : Nat :=
  let f := s.fltSet b
  match off with
  | 0x00 => f.stat.toNat
  | 0x08 => f.raw.toNat
  | 0x18 => f.cap.addr.toNat % 2 ^ 32
  | 0x1C => f.cap.addr.toNat / 2 ^ 32
  | 0x20 => f.cap.mstr.toNat
  | 0x28 => f.cap.typeWord
  | 0x30 => f.cap.time.toNat % 2 ^ 32
  | 0x34 => f.cap.time.toNat / 2 ^ 32
  | 0x60 => b2n f.lock * 2 ^ 31 + f.conseq.toNat
  | _ =>
    if 0x40 ≤ off ∧ off < 0x60 then
      (List.range 4).foldl (fun r j => r + (s.react b ((off - 0x40) + j)).toNat * 2 ^ (8 * j)) 0
    else 0

/-- The 32 bits at an aligned address of a block's window; what no table lists reads zero. -/
def State.unitRead (s : State) (b : Blk) (a : Nat) : Nat :=
  let off := a - b.window.1
  if 0xF00 ≤ off ∧ off < 0xF80 then s.fltRead b (off - 0xF00)
  else match lookupReg a with
    | some (d, ix) => s.regRead d ix a % 2 ^ 32
    | none => match lookupReg (a - 4) with
      | some (d, ix) => if d.width = 64 then s.regRead d ix (a - 4) / 2 ^ 32 else 0
      | none => 0

/-- The core of an initiator, where it is a hardware context. -/
def initiatorCore (mstr : Nat) : Option Nat := if mstr < 64 then some (mstr / 4) else none

/-- What a read does beside answering: MBX_CLAIM claims (R119), and a read of PTP_GT_LO latches the high half. -/
def readEffect (mstr a n : Nat) (s : State) : State :=
  if a = 0x25100000 ∧ n = 4 then setFld F.ptpGtHiHI (s.gt / 2 ^ 32) s
  else match lookupReg a with
    | some (d, ix) =>
      if d.addr = 0x20016048 then (match initiatorCore mstr with | some c => claimMbx (ix.getD 0 0) c s | none => s) else s
    | none => s

/-- What a read has a block measure or count before it answers: the converters of a rail (R287), the bits checked in a loopback
(R244). -/
def readSample (a : Nat) (s : State) : State :=
  match lookupReg (a / 8 * 8) with
  | some (d, ix) =>
    let i := ix.getD 0 0
    if d.addr = 0x23000030 ∨ d.addr = 0x23000080 then railSample i s
    else if d.addr = 0x22000018 ∧ s.epSt i = 5 then prbsCount i s
    else s
  | none => s

/-- The check of R11 and R21 on an access to the register space: the block, or the cause. -/
def regCheck (w : Who) (typ a n : Nat) (s : State) : Except Cause Blk × State :=
  match Blk.ofAddr a with
  | some b => if (n = 4 ∨ n = 8) ∧ a % n = 0 then (.ok b, s) else let r := regRefuse w typ a s; (.error r.1, r.2)
  | none => let r := regRefuse w typ a s; (.error r.1, r.2)

/-- A read of n bytes of the register space. A 64-bit read of PTP_GT_LO returns all of GT. -/
def regLoad (w : Who) (a n : Nat) (s : State) : Except Cause (List Byte) × State :=
  let c := regCheck w w.rd a n s
  match c.1 with
  | .error e => (.error e, c.2)
  | .ok b =>
    let s := readSample a c.2
    let v := if n = 8 then
        (if a = 0x25100000 then s.gt else s.unitRead b a + s.unitRead b (a + 4) * 2 ^ 32)
      else s.unitRead b a
    (.ok (leBytes n v), readEffect w.mstr a n s)

end Sys2Proof.Machine
end

