-- ==== Sys2Proof/Machine/RegWrite.lean ====
section
/-! DEFINITION. Writes of the register space (R11–R16, R29): the refusals of R15 and R16, what each access code stores,
and the command that a write of a command register gives. -/

namespace Sys2Proof.Machine

/-- A write as it meets one register: the register, its indexes and address, the bits given in their places, and a mask
of the bits that the access covers (a 32-bit write covers half of a 64-bit register). -/
structure RegWr where
  d : RegDesc
  ix : List Nat
  a : Nat
  v : Nat
  sel : Nat

/-- The register that holds the 32 bits at an address. -/
def halfWr (a v : Nat) : Option RegWr :=
  match lookupReg a with
  | some (d, ix) => some ⟨d, ix, a, v % 2 ^ 32, 2 ^ 32 - 1⟩
  | none => match lookupReg (a - 4) with
    | some (d, ix) => if d.width = 64 then some ⟨d, ix, a - 4, v % 2 ^ 32 * 2 ^ 32, (2 ^ 32 - 1) * 2 ^ 32⟩ else none
    | none => none

/-- The registers that a write of n bytes meets. -/
def regWrs (a n v : Nat) : List RegWr :=
  let halves := (halfWr a v).toList ++ (halfWr (a + 4) (v / 2 ^ 32)).toList
  if n = 8 then
    (match lookupReg a with
     | some (d, ix) => if d.width = 64 then [⟨d, ix, a, v % 2 ^ 64, 2 ^ 64 - 1⟩] else halves
     | none => halves)
  else (halfWr a v).toList

/-- Whether the access covers any bit of a field. -/
def RegWr.covers (w : RegWr) (f : FieldDesc) : Bool := bits w.sel f.hi f.lo != 0

/-- What a chapter stores for a value written. -/
def Norm.apply : Norm → Nat → Nat
  | .keep, v => v
  | .clamp lo hi, v => clampN lo hi v
  | .outside lo hi d, v => if v < lo ∨ hi < v then d else v

/-- The value a field holds: staged for ST fields. -/
def RegWr.old (w : RegWr) (f : FieldDesc) (s : State) : Nat :=
  let x := fldAt w.d w.ix w.a f
  if f.acc = .st then s.stg x else s.fld x

/-- The value the write gives a field: the bits it covers, the others kept, stored as the chapter says; WEIR_CRIT, which its
register stores after WEIR, stays below it (R142). -/
def RegWr.new (w : RegWr) (f : FieldDesc) (s : State) : Nat :=
  let m := bits w.sel f.hi f.lo
  let o := w.old f s
  let v := f.norm.apply (o - (o &&& m) + (bits w.v f.hi f.lo &&& m))
  if w.d.addr = F.cmpLfWeirWEIRCRIT.addr ∧ f.lo = F.cmpLfWeirWEIRCRIT.lo then min v (s.stg (F.cmpLfWeirWEIR.ly (w.ix.getD 0 0)) - 1) else v

/-- Whether the write would change a field. -/
def RegWr.changes (w : RegWr) (s : State) (f : FieldDesc) : Bool := w.covers f && w.new f s != w.old f s

/-- Whether a queue holds cells or a parked operation (R115). -/
def State.queueUsed (s : State) (q : Nat) : Bool :=
  decide (0 < (s.queue q).a.cells) || s.qm.parks.any (fun e => e.2.queue == q)

/-- Whether the owner of a field is active for R15, by register address and lowest bit of the field. DESIGN CHOICE
(assumption 80): where no chapter names the registers that R15 holds, this list settles them; COR is idle for MMU_RT_ASID
while EN in force is 0, also during a cartridge-manager command. -/
def State.governed (s : State) (d : RegDesc) (ix : List Nat) (lo : Nat) : Bool :=
  let i := ix.getD 0 0
  match d.addr with
  | 0x20000110 => s.commit.pend.isSome
  | 0x20020008 => (List.range 64).any (fun n => s.chSt n == 1 || s.chSt n == 2 || s.chSt n == 3)
  | 0x20020010 => s.cmpActive || s.corActive
  | 0x20024000 => s.chSt i != 0 && s.chSt i != 4
  | 0x20024010 => s.chSt i != 0 && s.chSt i != 4
  | 0x20038000 => lo == 31 && s.flag (F.qmQCfgEN.q i) && s.queueUsed i
  | 0x20014000 => s.flag (F.melTmrCtrlEN.tmr i)
  | 0x20014008 => s.flag (F.melTmrCtrlEN.tmr i)
  | 0x20014010 => lo == 0 && s.flag (F.melTmrCtrlEN.tmr i)
  | 0x20100800 => s.handles.any (fun e => decide (e.2.st ≠ .free))
  | 0x20200018 => s.corActive
  | 0x20200040 => s.fld F.corCmdSTATE == 1
  | 0x20200048 => s.fld F.corCmdSTATE == 1
  | 0x22000020 => s.epSt i != 0
  | 0x22000028 => s.epSt i != 0
  | 0x22000808 => (List.range 32).any (fun p => s.epSt p != 0)
  | 0x22020100 => bit (s.fld F.rilStatBUSY) (i / 8)
  | 0x20300008 => lo != 31 && s.inFlag F.diagCtrlEN
  | 0x20300010 => s.inFlag F.diagCtrlEN
  | 0x20300018 => s.inFlag F.diagCtrlEN
  | 0x20300020 => s.inFlag F.diagCtrlEN
  | 0x23000028 => s.railOn i
  | 0x23100020 => s.inFlag F.thmCtrlEN
  | 0x23100100 => s.inFlag F.thmCtrlEN
  | 0x23110000 => lo != 30 && s.fld (F.fanChCfgMODE.fan i) != 0
  | 0x23110008 => s.fld (F.fanChCfgMODE.fan i) != 0
  | 0x25000000 => (lo == 28 || lo == 29) && s.flag (F.chnPortCfgEN.cn i)
  | 0x25000838 => (lo == 0 && s.flag F.chnQueuesSACNEN) || (lo == 16 && s.flag F.chnQueuesHOSTEN) || (lo == 32 && s.flag F.chnQueuesTXEN)
  | 0x25100018 => s.flag F.ptpCtrlTLEN
  | 0x25100100 => lo != 31 && s.flag (F.ptpDomCfgEN.dom i)
  | 0x25100108 => s.flag (F.ptpDomCfgEN.dom i)
  | 0x25100200 => s.flag (F.ptpDomCfgEN.dom 0) || s.flag (F.ptpDomCfgEN.dom 1)
  | 0x25110100 => s.satSt i == 1
  | 0x25110108 => s.satSt i == 1
  | 0x25110110 => s.satSt i == 1
  | 0x27000020 => s.flag F.dmxStatRESPBUSY
  | 0x27000400 => s.flag F.dmxStatRESPBUSY
  | 0x27010000 => lo != 31 && s.flag (F.canPortCtrlEN.can i)
  | 0x27010008 => s.flag (F.canPortCtrlEN.can i)
  | 0x27010010 => s.flag (F.canPortCtrlEN.can i)
  | 0x27010018 => s.flag (F.canPortCtrlEN.can i)
  | 0x27010100 => s.flag (F.canPortCtrlEN.can i)
  | 0x27010108 => s.flag (F.canPortCtrlEN.can i)
  | _ => false

/-- Whether R15 refuses the write: it would change a field whose owner is active. A field that a lock already holds is
judged by its lock. -/
def RegWr.refused (w : RegWr) (b : Blk) (s : State) : Bool :=
  w.d.fields.any (fun f =>
    (f.acc == .rw || (f.acc == .wl && !(s.locked b))) && s.governed w.d w.ix f.lo && w.changes s f)

/-- The counters that a write of any non-zero value clears whole. -/
def clearsWhole (a : Nat) : Bool := a == 0x20014010 || a == 0x20100400

/-- Store one field of a write under its access code (Table: Register access codes). -/
def RegWr.storeField (w : RegWr) (locked : Bool) (f : FieldDesc) (s : State) : State :=
  let x := fldAt w.d w.ix w.a f
  if !(w.covers f) then s
  else match f.acc with
    | .ro | .wo => s
    | .rw => setFld x (w.new f s) s
    | .wl => if locked then s else setFld x (w.new f s) s
    | .st => setStg x (w.new f s) s
    | .w1c =>
      let g := bits w.v f.hi f.lo
      let o := s.fld x
      if g = 0 then s else setFld x (if clearsWhole w.d.addr && f.hi != f.lo then 0 else o - (o &&& g)) s

/-- Store the fields of a write. -/
def RegWr.store (w : RegWr) (b : Blk) (s : State) : State :=
  w.d.fields.foldl (fun t f => w.storeField (s.locked b) f t) s

/-- The bits a write gives a command field. -/
def RegWr.given (w : RegWr) (hi lo : Nat) : Nat := bits w.v hi lo

/-- Whether the access covers a command's OP field. -/
def RegWr.hits (w : RegWr) (lo : Nat) : Bool := bit w.sel lo

/-- A write of QM_SLOTs_OP (R108). -/
def slotWrite (slot v : Nat) (s : State) : State :=
  let op : QmOp := ⟨Fin.ofNat 64 slot, BitVec.ofNat 16 (bits v 47 32), BitVec.ofNat 16 (bits v 31 16), Fin.ofNat 1024 (bits v 9 0),
    BitVec.ofNat 18 (bits v 59 48 * 64 + bits v 15 10)⟩
  match bits v 63 60 with
  | 1 => queueCmd op true false false (pushAct op) s
  | 2 => queueCmd op false true false (popAct op) s
  | 3 => queueCmd op false false false (pushIdleAct op) s
  | 4 => queueCmd op false false false (flushAct op) s
  | 5 => queueCmd op false false false (markAct op) s
  | 6 => queueCmd op false false false (rewindAct op) s
  | 7 => queueCmd op false false false (unmarkAct op) s
  | 8 => queueCmd op false false true (resetAct op) s
  | _ => queueCmd { op with rsv := 1 } false false false (markAct op) s

/-- A write of CMP_HCMD: an unknown OP ends with BADOP. -/
def hcmdWrite (v : Nat) (s : State) : State :=
  let h := bits v 9 0
  let b := bits v 11 10
  match bits v 63 60 with
  | 1 => hcmd (registerAct h) s
  | 2 => hcmd (publishAct h b) s
  | 3 => hcmd (releaseAct h) s
  | 4 => hcmd (acquireAct h b) s
  | _ => hcmd (hcmdBusy ⟨h, 6, none, false⟩) s

/-- A write of COR_CMD. -/
def corCmdWrite (v : Nat) (s : State) : State :=
  match bits v 31 28 with
  | 1 => corCommand attachAct s
  | 2 => corReady (prepareAct (bit v 26)) s
  | 3 => corReady exportAct s
  | 4 => corReady (calWriteAct (bit v 27)) s
  | 5 => corReady (checkpointAct false) s
  | 6 => corReady shutdownAct s
  | _ => corCommand (corFinish 7) s

/-- A write of UPD_CMD: what an unknown OP ends with is not stated. -/
def updCmdWrite (v : Nat) (s : State) : State :=
  let b := bits v 24 24
  match bits v 31 28 with
  | 1 => updCmd localOffer s
  | 2 => updCmd localBlock s
  | 3 => updCmd localDone s
  | 4 => updCmd abandonAct s
  | 5 => updCmd confirmAct s
  | 6 => updCmd rollbackAct s
  | 7 => updCmd (activateAct b) s
  | 8 => updCmd (eraseAct b) s
  | 9 => updCmd hashAct s
  | _ => updCmd openResult s

/-- Channel commands of DMA_CHn_CTRL, from the highest bit. -/
def dmaCmds (n v : Nat) (s : State) : State :=
  s |> whenB (bit v 31) (startCh n) |> whenB (bit v 30) (resumeCh n) |> whenB (bit v 29) (abortCh n) |> whenB (bit v 28) (pauseCh n)

/-- A park slot takes ABORT alone where both bits are set (R116). -/
def parkCmds (k v : Nat) (s : State) : State :=
  if bit v 30 then abortPark k s else if bit v 31 then resumePark k s else s

/-- Mailbox commands (R119): from an initiator that is no core, SEND is denied and ACK is not accepted. -/
def mbxCmds (mstr c v : Nat) (s : State) : State :=
  match initiatorCore mstr with
  | some k => s |> whenB (bit v 31) (sendMbx c k) |> whenB (bit v 30) (ackMbx c k)
  | none => whenB (bit v 31) (raise .mel 4 { addr := 0x20016040 + c * 0x80, mstr := mstr, typ := 2 }) s

/-- EOI (R68, R70, R71): the identifier leaves service, a route written meanwhile takes effect, and a software interrupt
is no longer asserted. -/
def eoiAct (id : Nat) (s : State) : State :=
  if s.inReset .mel then s
  else
    let m := s.mel
    let swi := if 33 ≤ id ∧ id < 49 then m.swi &&& ~~~(BitVec.ofNat 16 (1 <<< (id - 33))) else m.swi
    { s with mel := { m with inService := m.inService.filter (fun i => i != id), held := SMap.erase m.held id, swi := swi } }

/-- SWI (R70). -/
def swiAct (mask : Nat) (s : State) : State :=
  if s.inReset .mel then s
  else { s with mel := { s.mel with swi := s.mel.swi ||| BitVec.ofNat 16 mask } }

/-- The refusal of an ARM (R362), with the fields as written. -/
def State.armRefused (s : State) (e : Nat) : Bool :=
  !s.satOn || s.satKind e == 0 || decide (5 < s.satKind e) || s.satSt e == 1

/-- SAT_Ee_CTRL.CMD: an ARM that is refused leaves the register as it was. -/
def satCmd (mstr e cmd : Nat) (s0 s : State) : State :=
  if cmd = 1 then
    (if s.armRefused e then raise .sat 1 { addr := 0x25110110 + 0x20 * e, mstr := mstr, typ := 2 } s0 else armAct e s)
  else if cmd = 2 then disarmAct e s
  else s

/-- What a write does beyond storing its fields. `s0` is the state before the write. -/
def RegWr.act (w : RegWr) (mstr : Nat) (s0 s : State) : State :=
  let i := w.ix.getD 0 0
  match w.d.addr with
  | 0x20000108 =>
    s |> whenB (bit w.v 30) cancelAt |>
      whenB (bit w.v 31) (goAt (s.fld F.sysCommitTgtTARGET) (BitVec.ofNat 10 (s.fld F.sysCommitCtrlGROUP)) (s.flag F.sysCommitCtrlASAP))
  | 0x20000200 => (pwrCtrl (w.given 31 28) s).2
  | 0x20000300 => rstCmd (w.given 31 28) (w.given 27 16) s
  | 0x20010010 => eoiAct (w.given 9 0) s
  | 0x20010018 => swiAct (w.given 15 0) s
  | 0x20011000 =>
    if s.mel.inService.contains i ∧ (SMap.find s.mel.held i).isNone then
      { s with mel := { s.mel with held := SMap.put s.mel.held i (BitVec.ofNat 32 (s0.regRead w.d w.ix w.a)) } }
    else s
  | 0x20016000 =>
    (match initiatorCore mstr with
     | some k => if s.mbxOwned i k then s else raise .mel 4 { addr := w.a, mstr := mstr, typ := 2 } s0
     | none => raise .mel 4 { addr := w.a, mstr := mstr, typ := 2 } s0)
  | 0x20016040 => mbxCmds mstr i w.v s
  | 0x20024000 => dmaCmds i w.v s
  | 0x20031008 => whenB (w.hits 60) (slotWrite i w.v) s
  | 0x20032000 => parkCmds i w.v s
  | 0x20040000 => crcSelect i (w.ix.getD 1 0) (w.given 2 0) s
  | 0x20040008 => crcFeed i (w.ix.getD 1 0) 1 w.v s
  | 0x20040010 => crcFeed i (w.ix.getD 1 0) 2 w.v s
  | 0x20040018 => crcFeed i (w.ix.getD 1 0) 4 w.v s
  | 0x20100808 => whenB (w.hits 60) (hcmdWrite w.v) s
  | 0x20200050 => corCmdWrite w.v s
  | 0x20300028 =>
    whenB (w.hits 60) (diagOp (w.given 63 60) (w.given 21 14) (w.given 13 12) (w.given 11 6) (w.given 5 0)) s
  | 0x22000000 => epOp i (w.given 31 28) (w.given 27 27) (w.given 26 24) s
  | 0x22020000 => rilSendAt (BitVec.ofNat 32 w.v) s
  | 0x23000000 => whenB (bit w.v 29) (railRestartAt i) s
  | 0x23110000 => fanMode i (w.given 31 30) s
  | 0x24000000 => whenB (w.hits 60) (rookOp (w.given 63 60) (w.given 47 32) (w.given 7 0)) s
  | 0x25100010 =>
    let s := tlEnable (bit w.v 31) (setFlag F.ptpCtrlTLEN (s0.flag F.ptpCtrlTLEN) s)
    s |> whenB (bit w.v 30) castleAt |> whenB (bit w.v 29) castleStepAt
  | 0x25100018 => epochWrite (s.fld F.ptpFrameEpochEPOCH) (setFld F.ptpFrameEpochEPOCH (s0.fld F.ptpFrameEpochEPOCH) s)
  | 0x25100100 => domEnable i (bit w.v 31) (setFlag (F.ptpDomCfgEN.dom i) (s0.flag (F.ptpDomCfgEN.dom i)) s)
  | 0x25110110 => satCmd mstr i (w.given 31 28) s0 s
  | 0x26000000 => updCtrlWrite w.v s0
  | 0x26000008 => updCmdWrite w.v s
  | 0x27000000 => if s.flag F.dmxCfgEN ∧ !(s0.flag F.dmxCfgEN) then modDmx (fun x => { x with last := s.now }) s else s
  | 0x27000020 => if bit w.v 31 then rdmArm (w.given 8 0) s0 else s
  | 0x27010000 =>
    canEnable i (bit w.v 31) (setFlag (F.canPortCtrlEN.can i) (s0.flag (F.canPortCtrlEN.can i)) s) |> whenB (bit w.v 30) (canRecover i)
  | _ => s

/-- Whether a block takes register writes: it is not in a reset, which leaves the cartridge manager alone, not stopped and not
off. -/
def State.answers (s : State) (b : Blk) (manager : Bool) : Bool :=
  (!(s.inReset b) || manager) && !(s.pwr.stopped.contains (stepOf b)) && !s.isOff && !s.rst.held

/-- Registers of the cartridge manager, which lies outside COR's block-reset domain (R446). -/
def RegWr.ofManager (w : RegWr) : Bool := decide (0x20200018 ≤ w.a) && decide (w.a < 0x20200080) && w.a != F.corUnderrunN.addr

/-- Whether a register is one of DMA channels 0–7, every field of which is RO to firmware (R93). -/
def RegWr.rtChannel (w : RegWr) : Bool := decide (0x20024000 ≤ w.a) && decide (w.a < 0x20024800)

/-- One register of a write: refused whole under R15, or stored field by field and acted on, with WRITE_LOCKED where a
locked field would have changed (R16). -/
def RegWr.perform (b : Blk) (mstr : Nat) (s : State) (w : RegWr) : State :=
  let e : Ev := { addr := w.a, mstr := mstr, typ := 2 }
  if !(s.answers b w.ofManager) ∨ w.rtChannel then s
  else if w.refused b s then
    (match b with
     | .sat => raise b (if s.satKind (w.ix.getD 0 0) = 2 ∧ w.d.addr ≠ 0x25110000 then 3 else 1) e s
     | _ => raise b 1 e s)
  else
    let bad := s.locked b && w.d.fields.any (fun f => f.acc == .wl && w.changes s f)
    w.act mstr s (w.store b s) |> whenB bad (raise b 2 e)

/-- The masks of four sources (FLT_REACTi, half of it). -/
def reactWrite (b : Blk) (src v : Nat) (f : FltSet) : FltSet :=
  (List.range 4).foldl (fun f j =>
    let m := BitVec.ofNat 5 (bits v (8 * j + 4) (8 * j))
    { f with react := SMap.store f.react (src + j) (if noBlockReset b then m &&& 0b11011 else m) (defaultReact b (src + j)) }) f

/-- Whether a write of FLT_REACTi would change a mask. -/
def reactChanges (b : Blk) (src v : Nat) (s : State) : Bool :=
  (List.range 4).any (fun j =>
    let m := BitVec.ofNat 5 (bits v (8 * j + 4) (8 * j))
    (if noBlockReset b then m &&& 0b11011 else m) != s.react b (src + j))

/-- A write of 32 bits of the common fault register set, at an offset from 0xF00. -/
def fltWrite (b : Blk) (mstr off v : Nat) (s : State) : State :=
  let f := s.fltSet b
  let e : Ev := { addr := b.window.1 + 0xF00 + off, mstr := mstr, typ := 2 }
  match off with
  | 0x00 => setFlt b { f with stat := f.stat &&& ~~~(BitVec.ofNat 32 v) } s
  | 0x10 => fltForce b (BitVec.ofNat 32 v) s
  | 0x38 => capClear b s
  | 0x60 => if f.lock then whenB (!(bit v 31)) (raise b 2 e) s else setFlt b { f with lock := bit v 31 } s
  | _ =>
    if 0x40 ≤ off ∧ off < 0x60 then
      (if f.lock then whenB (reactChanges b (off - 0x40) v s) (raise b 2 e) s else setFlt b (reactWrite b (off - 0x40) v f) s)
    else s

/-- A capture that the write's own refusal filled names the initiator. -/
def nameInitiator (b : Blk) (mstr : Nat) (s0 s : State) : State :=
  let f := s.fltSet b
  if !((s0.fltSet b).cap.valid) ∧ f.cap.valid ∧ f.cap.mstr = 255 ∧ f.cap.typ = 2 then
    setFlt b { f with cap := { f.cap with mstr := BitVec.ofNat 8 mstr } } s
  else s

/-- A write of n bytes in a block's window. What no table lists is discarded. -/
def blkWrite (b : Blk) (mstr a n v : Nat) (s : State) : State :=
  let off := a - b.window.1
  let t :=
    if 0xF00 ≤ off ∧ off < 0xF80 then
      (if s.isOff ∨ s.rst.held then s
       else
        let t := fltWrite b mstr (off - 0xF00) (v % 2 ^ 32) s
        if n = 8 then fltWrite b mstr (off - 0xF00 + 4) (v / 2 ^ 32 % 2 ^ 32) t else t)
    else (regWrs a n v).foldl (RegWr.perform b mstr) s
  nameInitiator b mstr s t

/-- A write to TE0 offset 0x8000 + a is performed at offset a in every engine (R220). -/
def teBroadcast (mstr a n v : Nat) (s : State) : State :=
  if a < 0x600 then forN 256 (fun i s => blkWrite (Blk.teN i) mstr (0x21000000 + i * 0x10000 + a) n v s) s else s

/-- A write of n bytes of the register space: not performed without alignment and a width of R11, nor outside every
window (R21). -/
def regStore (w : Who) (a n v : Nat) (s : State) : Option Cause × State :=
  let c := regCheck w w.wr a n s
  match c.1 with
  | .error e => (some e, c.2)
  | .ok b =>
    (none, if b = .te 0 ∧ 0x21008000 ≤ a then teBroadcast w.mstr (a - 0x21008000) n v c.2 else blkWrite b w.mstr a n v c.2)

/-- REGISTER_WRITE: the initiator, the address, the width in bits and the value. -/
def execRegisterWrite (mstr : BitVec 8) (addr : BitVec 40) (bits : Nat) (value : BitVec 64) (s : State) : Host.Outcome State Fault Refusal :=
  .next (if 0x20000000 ≤ addr.toNat ∧ addr.toNat < 0x30000000 then
    (regStore { mstr := mstr.toNat } addr.toNat (if bits % 8 = 0 then bits / 8 else 0) (value.toNat % 2 ^ min bits 64) s).2 else s)

/-- TE_BROADCAST_WRITE. -/
def execTeBroadcastWrite (mstr : BitVec 8) (a : BitVec 16) (bits : Nat) (value : BitVec 64) (s : State) : Host.Outcome State Fault Refusal :=
  .next (regStore { mstr := mstr.toNat } (0x21008000 + a.toNat % 0x8000) (if bits % 8 = 0 then bits / 8 else 0) (value.toNat % 2 ^ min bits 64) s).2

end Sys2Proof.Machine
end

