-- ==== Sys2Proof/Machine/MelfyMem.lean ====
section
/-! DEFINITION. Data accesses of the cores: scalar loads and stores (R49, R50) and atomics (R51), to memory and to the
register space, with the lines a core's caches hold (R90). -/

namespace Sys2Proof.Machine

/-- Translate a data address (R74, R80), with whether the page is cached: not translated, an address counts as cached. -/
def dataXlate (h : Hart) (k : Acc3) (va : Nat) (s : State) : Except VErr (Nat × Bool) × State :=
  let t := s.hart h
  if t.pl = 2 ∨ !(t.ptroot.getLsbD 0) ∨ isRook h then (.ok (va, true), s)
  else
    let r := xlate (hartWho h s) (if t.pl = 0 then .task else .kernel) k (bits t.asid.toNat 15 0) va (ptRoot h) s
    match r.1 with
    | .error e => (.error e, r.2)
    | .ok p => (.ok (p.1, !(p.2.perm.getLsbD 9) && !(p.2.perm.getLsbD 10)), r.2)

/-- A cause at a data address. -/
def Cause.at (c : Cause) (va : Nat) : Trap := ⟨c.code, c.sub, BitVec.ofNat 64 va⟩

/-- A misaligned access: cause 0x05 before anything else (R64), captured by the block whose register window it would have
met (R11). -/
def misaligned (h : Hart) (k : Acc3) (va : Nat) (s : State) : Trap × State :=
  ((⟨5, 0⟩ : Cause).at va,
   match (dataXlate h k va s).1 with
   | .ok p =>
     (match s.region p.1, Blk.ofAddr p.1, isRook h with
      | .regs, some b, false => captureOnly b h.val (if k = .write then 2 else 1) p.1 s
      | _, _, _ => s)
   | .error _ => s)

/-- The bytes of Rook's own memory, flat from address 0, unlisted bytes 0 (assumption 70). -/
def State.rookBytes (s : State) (a n : Nat) : List Byte := (List.range n).map (fun i => SMap.get s.rook.sram (a + i) 0)

/-- Write bytes of Rook's own memory. -/
def rookStore (a : Nat) (l : List Byte) (s : State) : State :=
  { s with rook := { s.rook with sram := (List.range l.length).foldl (fun m i => SMap.store m (a + i) (l.getD i 0) 0) s.rook.sram } }

/-- A read of memory by a core: a cached read may find the bytes from before a real-time write (R90). -/
def coreRead (w : Who) (cached : Bool) (pa n : Nat) (s : State) : Except Cause (List Byte) × State :=
  let r := memRead w pa n s
  match r.1 with
  | .error c => (.error c, r.2)
  | .ok l =>
    if cached && anyBytes r.2.cached pa n then (.ok (r.2.coreBytes r.2.freeB pa l), drawn r.2) else (.ok l, r.2)

/-- Load n bytes at a virtual address: alignment, translation, then the access (R64). -/
def hartLoad (h : Hart) (va n : Nat) (s : State) : Except Trap (List Byte) × State :=
  if va % n ≠ 0 then let m := misaligned h .read va s; (.error m.1, m.2)
  else if isRook h then (.ok (s.rookBytes va n), s)
  else
    let x := dataXlate h .read va s
    match x.1 with
    | .error e => (.error (e.cause.at va), x.2)
    | .ok p =>
      let w := hartWho h s
      let r := if x.2.region p.1 = .regs then regLoad w p.1 n x.2 else coreRead w p.2 p.1 n x.2
      match r.1 with
      | .error c => (.error (c.at va), r.2)
      | .ok l => (.ok l, r.2)

/-- Store bytes at a physical address: to a register, or to memory; a cached store leaves the old bytes in DRAM until
the line is written back. -/
def physStore (w : Who) (cached : Bool) (pa : Nat) (l : List Byte) (s : State) : Option Cause × State :=
  match s.region pa with
  | .regs => regStore w pa l.length (leNat l) s
  | .dram =>
    let s := if cached then settleLines pa l.length s else s
    let r := memWrite w pa l s
    (match r.1 with
     | some c => (some c, r.2)
     | none =>
       (none, if cached then { r.2 with stale := (markStale pa l.length s).stale } else unstale pa l.length r.2))
  | _ => memWrite w pa l s

/-- Store bytes at a virtual address. -/
def hartStore (h : Hart) (va : Nat) (l : List Byte) (s : State) : Option Trap × State :=
  if va % l.length ≠ 0 then let m := misaligned h .write va s; (some m.1, m.2)
  else if isRook h then (none, rookStore va l s)
  else
    let x := dataXlate h .write va s
    match x.1 with
    | .error e => (some (e.cause.at va), x.2)
    | .ok p =>
      let r := physStore (hartWho h s) p.2 p.1 l x.2
      match r.1 with
      | some c => (some (c.at va), r.2)
      | none => (none, r.2)

/-- The address of a scalar access (R49). -/
def State.ea (s : State) (h : Hart) (f : IForm) : Nat := (s.g h f.a + sx16 f.imm).toNat

/-- A scalar load of n bytes (R49, R50). -/
def loadI (op n : Nat) (signed : Bool) (h : Hart) (f : IForm) (s : State) : State :=
  issue h (wordI op f) legal 0 (fun s =>
    let r := hartLoad h (s.ea h f) n s
    match r.1 with
    | .error x => (some x, r.2)
    | .ok l =>
      let v := leNat l
      let d := if signed then BitVec.ofInt 64 (toInt (8 * n) v) else BitVec.ofNat 64 v
      (none, advance h (setG h f.d d r.2))) s

/-- A scalar store of n bytes. -/
def storeI (op n : Nat) (h : Hart) (f : IForm) (s : State) : State :=
  issue h (wordI op f) legal 0 (fun s =>
    let r := hartStore h (s.ea h f) (leBytes n (s.g h f.d).toNat) s
    match r.1 with
    | some x => (some x, r.2)
    | none => (none, advance h r.2)) s

/-- The atomic functions (Table: Atomic functions). -/
inductive AtomOp where
  | swap | add | and | or | xor | min | max | minu | maxu | cas
  deriving DecidableEq, Repr

/-- fn[3:0]. -/
def AtomOp.fn : AtomOp → Nat
  | .swap => 0 | .add => 1 | .and => 2 | .or => 3 | .xor => 4 | .min => 5 | .max => 6 | .minu => 7 | .maxu => 8 | .cas => 9

/-- The value an atomic stores: from the old value, the operand and the compare value. -/
def AtomOp.result {n : Nat} (o : AtomOp) (old b cmp : BitVec n) : BitVec n :=
  match o with
  | .swap => b | .add => old + b | .and => old &&& b | .or => old ||| b | .xor => old ^^^ b
  | .min => if b.slt old then b else old
  | .max => if old.slt b then b else old
  | .minu => if b.ult old then b else old
  | .maxu => if old.ult b then b else old
  | .cas => if old = cmp then b else old

/-- The instruction word of an atomic. -/
def wordA (o : AtomOp) (f : AForm) : Nat :=
  wordR 0x30 (f.z.toNat * 128 + b2n f.rel * 64 + b2n f.acq * 32 + b2n f.wide * 16 + o.fn) f.d f.a f.b

/-- The value an atomic instruction stores, from the registers of its context. -/
def atomNew (o : AtomOp) (h : Hart) (f : AForm) (old : Nat) (s : State) : Nat :=
  let b := s.g h f.b
  let cmp := s.g h f.d
  if f.wide then (o.result (BitVec.ofNat 64 old) b cmp).toNat
  else (o.result (BitVec.ofNat 32 old) (b.setWidth 32) (cmp.setWidth 32)).toNat

/-- An atomic of Rook, on its own memory. -/
def atomRook (o : AtomOp) (h : Hart) (f : AForm) (va : Nat) (s : State) : State :=
  let n := if f.wide then 8 else 4
  let old := leNat (s.rookBytes va n)
  advance h (setG h f.d (BitVec.ofInt 64 (toInt (8 * n) old)) (rookStore va (leBytes n (atomNew o h f old s)) s))

/-- The read, the write and gd of an atomic at a physical address (R51). -/
def atomAt (o : AtomOp) (h : Hart) (f : AForm) (va pa : Nat) (cached : Bool) (s : State) : Option Trap × State :=
  let n := if f.wide then 8 else 4
  let w := hartWho h s
  let r := coreRead w cached pa n s
  match r.1 with
  | .error c => (some (c.at va), r.2)
  | .ok l =>
    let s1 := r.2
    let old := leNat l
    let new := atomNew o h f old s1
    let st := physStore w cached pa (leBytes n new) s1
    match st.1 with
    | some c => (some (c.at va), st.2)
    | none => (none, advance h (setG h f.d (BitVec.ofInt 64 (toInt (8 * n) old)) st.2))

/-- An atomic (R50, R51): aligned, judged as a read and as a write, on DRAM and general scratch SRAM only. ACQ and REL
order accesses that this machine performs in program order (R52). -/
def atomic (o : AtomOp) (h : Hart) (f : AForm) (s : State) : State :=
  issue h (wordA o f) (zeroField f.z.toNat) 0 (fun s =>
    let va := (s.g h f.a).toNat
    if va % (if f.wide then 8 else 4) ≠ 0 then let m := misaligned h .read va s; (some m.1, m.2)
    else if isRook h then (none, atomRook o h f va s)
    else
      let x := dataXlate h .read va s
      match x.1 with
      | .error e => (some (e.cause.at va), x.2)
      | .ok _ =>
        let y := dataXlate h .write va x.2
        match y.1 with
        | .error e => (some (e.cause.at va), y.2)
        | .ok p =>
          match y.2.region p.1 with
          | .dram | .scratch => atomAt o h f va p.1 p.2 y.2
          | _ => (some ((⟨4, 2⟩ : Cause).at va),
                  if y.2.unclaimed p.1 then (badAddr (hartWho h s) 1 p.1 y.2).2 else y.2)) s

/-- LB. -/
def execLb (h : Hart) (f : IForm) (s : State) : Host.Outcome State Fault Refusal := .next (loadI 0x10 1 true h f s)
/-- LBU. -/
def execLbu (h : Hart) (f : IForm) (s : State) : Host.Outcome State Fault Refusal := .next (loadI 0x11 1 false h f s)
/-- LH. -/
def execLh (h : Hart) (f : IForm) (s : State) : Host.Outcome State Fault Refusal := .next (loadI 0x12 2 true h f s)
/-- LHU. -/
def execLhu (h : Hart) (f : IForm) (s : State) : Host.Outcome State Fault Refusal := .next (loadI 0x13 2 false h f s)
/-- LW. -/
def execLw (h : Hart) (f : IForm) (s : State) : Host.Outcome State Fault Refusal := .next (loadI 0x14 4 true h f s)
/-- LWU. -/
def execLwu (h : Hart) (f : IForm) (s : State) : Host.Outcome State Fault Refusal := .next (loadI 0x15 4 false h f s)
/-- LD. -/
def execLd (h : Hart) (f : IForm) (s : State) : Host.Outcome State Fault Refusal := .next (loadI 0x16 8 false h f s)
/-- SB. -/
def execSb (h : Hart) (f : IForm) (s : State) : Host.Outcome State Fault Refusal := .next (storeI 0x18 1 h f s)
/-- SH. -/
def execSh (h : Hart) (f : IForm) (s : State) : Host.Outcome State Fault Refusal := .next (storeI 0x19 2 h f s)
/-- SW. -/
def execSw (h : Hart) (f : IForm) (s : State) : Host.Outcome State Fault Refusal := .next (storeI 0x1A 4 h f s)
/-- SD. -/
def execSd (h : Hart) (f : IForm) (s : State) : Host.Outcome State Fault Refusal := .next (storeI 0x1B 8 h f s)
/-- SWAP. -/
def execAtomicSwap (h : Hart) (f : AForm) (s : State) : Host.Outcome State Fault Refusal := .next (atomic .swap h f s)
/-- ADD to memory. -/
def execAtomicAdd (h : Hart) (f : AForm) (s : State) : Host.Outcome State Fault Refusal := .next (atomic .add h f s)
/-- AND to memory. -/
def execAtomicAnd (h : Hart) (f : AForm) (s : State) : Host.Outcome State Fault Refusal := .next (atomic .and h f s)
/-- OR to memory. -/
def execAtomicOr (h : Hart) (f : AForm) (s : State) : Host.Outcome State Fault Refusal := .next (atomic .or h f s)
/-- XOR to memory. -/
def execAtomicXor (h : Hart) (f : AForm) (s : State) : Host.Outcome State Fault Refusal := .next (atomic .xor h f s)
/-- MIN to memory. -/
def execAtomicMin (h : Hart) (f : AForm) (s : State) : Host.Outcome State Fault Refusal := .next (atomic .min h f s)
/-- MAX to memory. -/
def execAtomicMax (h : Hart) (f : AForm) (s : State) : Host.Outcome State Fault Refusal := .next (atomic .max h f s)
/-- MINU to memory. -/
def execAtomicMinu (h : Hart) (f : AForm) (s : State) : Host.Outcome State Fault Refusal := .next (atomic .minu h f s)
/-- MAXU to memory. -/
def execAtomicMaxu (h : Hart) (f : AForm) (s : State) : Host.Outcome State Fault Refusal := .next (atomic .maxu h f s)
/-- CAS. -/
def execAtomicCas (h : Hart) (f : AForm) (s : State) : Host.Outcome State Fault Refusal := .next (atomic .cas h f s)

end Sys2Proof.Machine
end

