-- ==== Sys2Proof/Machine/MelfySys.lean ====
section
/-! DEFINITION. System and context instructions (R43, R44, R52, R53, R61–R66, R82). -/

namespace Sys2Proof.Machine

/-- The instruction word of a system function. -/
def wordX (fn : Nat) (f : XForm) : Nat := wordR 0x38 fn f.d f.a f.b

/-- A control register (Table: Control registers): the level of reads, and of writes (none: read-only). -/
def crInfo : Nat → Option (Nat × Option Nat)
  | 0 => some (0, some 1)
  | 4 => some (0, some 0)
  | 5 => some (0, none)
  | 11 => some (0, none)
  | 1 | 2 | 3 | 6 | 7 | 8 | 9 | 10 | 12 => some (1, some 1)
  | 16 | 17 | 18 | 19 | 20 => some (2, some 2)
  | _ => none

/-- The value of a control register. .cycle is held by core. -/
def HartState.cr (t : HartState) (h : Hart) (cycle : Word) (n : Nat) : Word :=
  match n with
  | 0 => t.status | 1 => t.cause | 2 => t.epc | 3 => t.tval | 4 => t.vstart
  | 5 => BitVec.ofNat 64 (coreOf h * 16 + coreOf h / 4 * 4 + h.val % 4)
  | 6 => t.asid | 7 => t.ivec | 8 => t.scratch | 9 => t.tmr | 10 => t.tcnt | 11 => cycle | 12 => t.ptroot
  | 16 => t.mcause | 17 => t.mepc | 18 => t.mtval | 19 => t.mivec | 20 => t.mscratch
  | _ => 0

/-- Write .status: PL and reserved bits keep (R43). -/
def HartState.putStatus (t : HartState) (v : Word) : HartState := { t with status := (v &&& 0xFD7C) ||| (t.status &&& 3) }

/-- Write a control register: the bits its content names. .cause and .mcause keep all 64 bits, also those that their
content does not name (assumption 32). -/
def HartState.putCr (t : HartState) (n : Nat) (v : Word) : HartState :=
  match n with
  | 0 => t.putStatus v
  | 1 => { t with cause := v }
  | 2 => { t with epc := v }
  | 3 => { t with tval := v }
  | 4 => { t with vstart := v &&& 0x7F }
  | 6 => { t with asid := v &&& 0xFFFF }
  | 7 => { t with ivec := putBits v 7 0 0 }
  | 8 => { t with scratch := v }
  | 9 => { t with tmr := v &&& 0xFFFFFFFF }
  | 10 => { t with tcnt := v &&& 0xFFFFFFFF }
  | 12 => { t with ptroot := v &&& 0xFFFFFFF001 }
  | 16 => { t with mcause := v }
  | 17 => { t with mepc := v }
  | 18 => { t with mtval := v }
  | 19 => { t with mivec := putBits v 7 0 0 }
  | 20 => { t with mscratch := v }
  | _ => t

/-- A core's cycle count advances between reads by an amount the manual leaves open: any value not below the last one
read (assumption 3). -/
def readCycle (h : Hart) (s : State) : State :=
  let last := SMap.get s.mel.cycle (coreOf h) 0
  let v := if last.ule s.freeW then s.freeW else last
  drawn { s with mel := { s.mel with cycle := SMap.put s.mel.cycle (coreOf h) v } }

/-- Read a control register of a context. What .ctx reads on Rook's cores is not stated, and free. -/
def crRead (h : Hart) (n : Nat) (s : State) : Word × State :=
  if n = 5 ∧ isRook h then (s.freeW, drawn s) else
  let s := if n = 11 then readCycle h s else s
  ((s.hart h).cr h (SMap.get s.mel.cycle (coreOf h) 0) n, s)

/-- An unlisted control register makes the instruction illegal, subcause 0x03 (R44); 4, 6 and 12 do not exist on Rook
(R72). -/
def crIll (h : Hart) (n : Fin 32) (_ : HartState) : Option Nat :=
  if (crInfo n.val).isNone || (isRook h && [4, 6, 12].contains n.val) then some 3 else none

/-- Whether a level may read, or write, a control register. -/
def crMay (write : Bool) (pl n : Nat) : Bool :=
  match crInfo n with
  | some (r, w) => if write then (match w with | some k => decide (k ≤ pl) | none => false) else decide (r ≤ pl)
  | none => false

/-- A control-register instruction: what it returns in gd, and what it writes from the old value and g[ga]. -/
def crOp (fn : Nat) (rd wr : Bool) (new : Word → Word → Word) (h : Hart) (f : XForm) (s : State) : State :=
  issue h (wordX fn f) (crIll h f.b) 0 (fun s =>
    let n := f.b.val
    let pl := (s.hart h).pl
    let deny : Trap := ⟨4, 0, BitVec.ofNat 64 (wordX fn f)⟩
    if (rd && !(crMay false pl n)) || (wr && !(crMay true pl n)) then (some deny, s)
    else
      let a := s.g h f.a
      let r := crRead h n s
      let s1 := if wr then setHart h ((r.2.hart h).putCr n (new r.1 a)) r.2 else r.2
      (none, advance h (if rd then setG h f.d r.1 s1 else s1))) s

/-- A context of the same core, named by the low two bits of a register; Rook's cores have one (R72). -/
def peer (h : Hart) (v : Word) : Hart := if isRook h then h else Fin.ofNat 65 (4 * coreOf h + bits v.toNat 1 0)

/-- Whether a context may be worked on by CTX instructions (R53). -/
def HartState.idle (t : HartState) : Bool := t.st == .stopped || t.st == .parked

/-- A context instruction on a peer (R53): a DEAD one raises cause 0x04, a RUNNING or WAITING one is left alone. -/
def ctxOp (fn : Nat) (ill : HartState → Option Nat) (act : Hart → State → Option Trap × State) (h : Hart) (f : XForm)
    (s : State) : State :=
  issue h (wordX fn f) ill 1 (fun s =>
    let p := peer h (s.g h f.a)
    let t := s.hart p
    if t.st = .dead then (some ⟨4, 4, BitVec.ofNat 64 (p.val % 4)⟩, s)
    else if t.idle then
      let r := act p s
      (match r.1 with
       | some x => (some x, r.2)
       | none => (none, advance h r.2))
    else (none, advance h s)) s

/-- CTXSTART (R53, R66): a parked fault is resumed, or delivered to the kernel bank with the recorded values. A STOPPED
context has no fault to deliver, and runs whatever gb holds (assumption 31). -/
def ctxStartAct (b : Nat) (p : Hart) (s : State) : Option Trap × State :=
  let t := s.hart p
  let deliver := t.st == .parked && (b == 1 || (b != 0 && s.freeB))
  let s := if b = 0 ∨ b = 1 then s else drawn s
  (none, setHart p (if deliver then t.enterKernel t.cause t.tval t.epc else { t with st := .running }) s)

/-- CTXSTOP: a context that is not DEAD becomes STOPPED. -/
def ctxStop (h : Hart) (f : XForm) (s : State) : State :=
  issue h (wordX 0x11 f) legal 1 (plain (fun s =>
    let s := advance h s
    let p := peer h (s.g h f.a)
    let t := s.hart p
    if t.st = .dead then s else setHart p { t with st := .stopped } s)) s

/-- CTXCRD: a read with the levels of Table: Control registers. -/
def ctxCrdAct (h : Hart) (f : XForm) (p : Hart) (s : State) : Option Trap × State :=
  if crMay false (s.hart h).pl f.b.val then
    let r := crRead p f.b.val s
    (none, setG h f.d r.1 r.2)
  else (some ⟨4, 0, BitVec.ofNat 64 (wordX 0x12 f)⟩, s)

/-- CTXCWR (R53): with monitor-level rights; .status takes PL up to the writer's level, and .epc is where the context
goes on from. -/
def ctxCwrAct (h : Hart) (f : XForm) (p : Hart) (s : State) : Option Trap × State :=
  let n := f.b.val
  let v := s.g h f.d
  let own := (s.hart h).pl
  if crMay true 2 n then
    let t := (s.hart p).putCr n v
    let t := if n = 0 then { t with status := putBits t.status 1 0 (min (bits v.toNat 1 0) own) } else t
    let t := if n = 2 then { t with pc := v } else t
    (none, setHart p t s)
  else (some ⟨4, 0, BitVec.ofNat 64 (wordX 0x13 f)⟩, s)

/-- The 64-byte line that holds a physical address. -/
def lineOf (pa : Nat) : Nat := pa / 64 * 64

/-- DCLEAN, DINV: the line at g[ga], whose address is translated as a load. No other initiator sees Rook's memory, so that
there it only advances. -/
def lineOp (fn level : Nat) (act : Nat → State → State) (h : Hart) (f : XForm) (s : State) : State :=
  issue h (wordX fn f) legal level (fun s =>
    if isRook h then (none, advance h s) else
    let va := (s.g h f.a).toNat
    let x := dataXlate h .read va s
    match x.1 with
    | .error e => (some (e.cause.at va), x.2)
    | .ok p => (none, advance h (act (lineOf p.1) x.2))) s

/-- DINV drops a line without writing it back: where the cache still held it, DRAM keeps its old bytes (assumption 10). -/
def dinvLine (a : Nat) (s : State) : State :=
  if s.anyStale a 64 then unstale a 64 (drawn (if s.freeB then putBytes a (s.rtBytes true a 64) s else s)) else unstale a 64 s

/-- DCLEAN writes back a line that a core has written: DRAM holds its bytes. A clean line is not written. -/
def dcleanLine (a : Nat) (s : State) : State := if s.anyStale a 64 then unstale a 64 s else s

/-- Whether TLBINV selects an entry (Table: TLBINV operands). -/
def tlbSel (a b : Word) (e : TlbEntry) : Bool :=
  (a.getLsbD 16 || e.global || e.asid == bits a.toNat 15 0) &&
  (b.getLsbD 0 || (decide (e.va ≤ bits b.toNat 47 12 * 4096) && decide (bits b.toNat 47 12 * 4096 < e.va + e.size)))

/-- TLBINV (R82, R83). -/
def tlbInv (a b : Word) (s : State) : State :=
  { s with mel := { s.mel with tlb := s.mel.tlb.filter (fun e => !(tlbSel a b e)) } }

/-- SYSCALL: cause 0x20. -/
def execSyscall (h : Hart) (f : XForm) (s : State) : Host.Outcome State Fault Refusal :=
  .next (issue h (wordX 0x000 f) legal 0 (fun s => (some ⟨0x20, 0, 0⟩, s)) s)
/-- BREAK: cause 0x21. -/
def execBreakI (h : Hart) (f : XForm) (s : State) : Host.Outcome State Fault Refusal :=
  .next (issue h (wordX 0x001 f) legal 0 (fun s => (some ⟨0x21, 0, 0⟩, s)) s)
/-- ERET (R62). -/
def execEret (h : Hart) (f : XForm) (s : State) : Host.Outcome State Fault Refusal :=
  .next (issue h (wordX 0x002 f) legal 1 (plain (fun s => setHart h (s.hart h).eret s)) s)
/-- WFI: the context enters WAITING. -/
def execWfi (h : Hart) (f : XForm) (s : State) : Host.Outcome State Fault Refusal :=
  .next (issue h (wordX 0x003 f) legal 1 (plain (fun s => let s := advance h s; setHart h { s.hart h with st := .waiting } s)) s)
/-- YIELD: cause 0x31 at task level; above, the issue slots it gives away are timing. -/
def execYield (h : Hart) (f : XForm) (s : State) : Host.Outcome State Fault Refusal :=
  .next (issue h (wordX 0x004 f) legal 0 (fun s => if (s.hart h).pl = 0 then (some ⟨0x31, 0, 0⟩, s) else (none, advance h s)) s)
/-- CRD. -/
def execCrd (h : Hart) (f : XForm) (s : State) : Host.Outcome State Fault Refusal := .next (crOp 0x008 true false (fun o _ => o) h f s)
/-- CWR. -/
def execCwr (h : Hart) (f : XForm) (s : State) : Host.Outcome State Fault Refusal := .next (crOp 0x009 false true (fun _ a => a) h f s)
/-- CSWP. -/
def execCswp (h : Hart) (f : XForm) (s : State) : Host.Outcome State Fault Refusal := .next (crOp 0x00A true true (fun _ a => a) h f s)
/-- CSET. -/
def execCset (h : Hart) (f : XForm) (s : State) : Host.Outcome State Fault Refusal := .next (crOp 0x00B true true (fun o a => o ||| a) h f s)
/-- CCLR. -/
def execCclr (h : Hart) (f : XForm) (s : State) : Host.Outcome State Fault Refusal := .next (crOp 0x00C true true (fun o a => o &&& ~~~a) h f s)
/-- CTXSTART. -/
def execCtxstart (h : Hart) (f : XForm) (s : State) : Host.Outcome State Fault Refusal :=
  .next (ctxOp 0x010 legal (ctxStartAct f.b.val) h f s)
/-- CTXSTOP. -/
def execCtxstop (h : Hart) (f : XForm) (s : State) : Host.Outcome State Fault Refusal := .next (ctxStop h f s)
/-- CTXCRD. -/
def execCtxcrd (h : Hart) (f : XForm) (s : State) : Host.Outcome State Fault Refusal :=
  .next (ctxOp 0x012 (crIll h f.b) (ctxCrdAct h f) h f s)
/-- CTXCWR. -/
def execCtxcwr (h : Hart) (f : XForm) (s : State) : Host.Outcome State Fault Refusal :=
  .next (ctxOp 0x013 (crIll h f.b) (ctxCwrAct h f) h f s)
/-- CTXGRD. -/
def execCtxgrd (h : Hart) (f : XForm) (s : State) : Host.Outcome State Fault Refusal :=
  .next (ctxOp 0x014 legal (fun p s => (none, setG h f.d (s.g p f.b) s)) h f s)
/-- CTXGWR. -/
def execCtxgwr (h : Hart) (f : XForm) (s : State) : Host.Outcome State Fault Refusal :=
  .next (ctxOp 0x015 legal (fun p s => (none, setG p f.b (s.g h f.d) s)) h f s)
/-- FENCE: this machine performs accesses in program order (R52). -/
def execFence (h : Hart) (f : XForm) (s : State) : Host.Outcome State Fault Refusal := .next (issue h (wordX 0x018 f) legal 0 (plain (advance h)) s)
/-- FENCE.I. -/
def execFenceI (h : Hart) (f : XForm) (s : State) : Host.Outcome State Fault Refusal := .next (issue h (wordX 0x019 f) legal 0 (plain (advance h)) s)
/-- DCLEAN: DRAM holds the line's bytes. -/
def execDclean (h : Hart) (f : XForm) (s : State) : Host.Outcome State Fault Refusal := .next (lineOp 0x01A 0 dcleanLine h f s)
/-- DINV. -/
def execDinv (h : Hart) (f : XForm) (s : State) : Host.Outcome State Fault Refusal := .next (lineOp 0x01B 1 dinvLine h f s)
/-- IINV: instruction words come with the commands, so no state holds a line. -/
def execIinv (h : Hart) (f : XForm) (s : State) : Host.Outcome State Fault Refusal := .next (issue h (wordX 0x01C f) legal 1 (plain (advance h)) s)
/-- TLBINV; Rook translates nothing. -/
def execTlbinv (h : Hart) (f : XForm) (s : State) : Host.Outcome State Fault Refusal :=
  .next (issue h (wordX 0x01D f) legal 1 (plain (fun s => advance h (if isRook h then s else tlbInv (s.g h f.a) (s.g h f.b) s))) s)

end Sys2Proof.Machine
end

