-- ==== Sys2Proof/Machine/MelfyVec.lean ====
section
/-! DEFINITION. Predicate, vector and pixel instructions (R54–R59, R63). -/

namespace Sys2Proof.Machine

/-- A predicate operation on pa and pb. -/
def predOp (fn : Nat) (op : Word → Word → Word) (h : Hart) (f : QForm) (s : State) : State :=
  issue h (wordQ fn f) (zeroField f.z.toNat) 0
    (plain (fun s => advance h (setP h f.pd (op (s.p h f.pa) (s.p h f.pb)) s))) s

/-- The lowest set bit only, or zero. -/
def lowestSet (x : Word) : Word := if x = 0 then 0 else BitVec.ofNat 64 (2 ^ ctz64 x.toNat)

/-- PFROMG, PSETN: a predicate from a general register. -/
def predG (fn : Nat) (op : Word → Word) (h : Hart) (f : QForm) (s : State) : State :=
  issue h (wordQ fn f) (zeroField f.z.toNat) 0 (plain (fun s => advance h (setP h f.pd (op (s.g h f.g)) s))) s

/-- PTOG. -/
def pToG (h : Hart) (f : QForm) (s : State) : State :=
  issue h (wordQ 6 f) (zeroField f.z.toNat) 0 (plain (fun s => advance h (setG h f.g (s.p h f.pa) s))) s

/-- The low k bits set, for k up to 64. -/
def onesTo (k : Nat) : Word := BitVec.ofNat 64 (2 ^ min k 64 - 1)

/-- Bits of an element (R55). -/
def eszBits (e : Fin 4) : Nat := 8 * 2 ^ e.val

/-- Elements of a register (R55). -/
def eCount (e : Fin 4) : Nat := 512 / eszBits e

/-- Element i of a vector. -/
def elem (w : Nat) (v : Vec) (i : Nat) : Nat := bits v.toNat (w * i + w - 1) (w * i)

/-- Replace element i. -/
def putElem (w : Nat) (v : Vec) (i x : Nat) : Vec :=
  (v &&& ~~~(BitVec.ofNat 512 ((2 ^ w - 1) <<< (w * i)))) ||| BitVec.ofNat 512 ((x % 2 ^ w) <<< (w * i))

/-- Vector conditions: VE must be 1 (R54), and element size 0b11 is illegal (R47). -/
def vecIll (esz : Fin 4) (t : HartState) : Option Nat :=
  if !(t.sb 8) then some 1 else if esz = 3 then some 0 else none

/-- Pixel instructions need esz = 0b01 (R58); with another the model raises cause 0x06 subcause 0x00, the encoding being
none that the table lists (assumption 75). -/
def pixIll (esz : Fin 4) (t : HartState) : Option Nat :=
  if !(t.sb 8) then some 1 else if esz ≠ 1 then some 0 else none

/-- .vstart of a context. -/
def State.vstart (s : State) (h : Hart) : Nat := bits (s.hart h).vstart.toNat 6 0

/-- Set .vstart. -/
def setVstart (h : Hart) (n : Nat) (s : State) : State := setHart h { s.hart h with vstart := BitVec.ofNat 64 n } s

/-- The active elements (R56), in increasing order. -/
def State.activeElems (s : State) (h : Hart) (pg : Fin 8) (n : Nat) : List Nat :=
  (List.range n).filter (fun i => (s.p h pg).getLsbD i && decide (s.vstart h ≤ i))

/-- A vector instruction that has completed: .vstart is 0 (R56). -/
def vecDone (h : Hart) (s : State) : State := advance h (setVstart h 0 s)

/-- Element results over a list of elements; the others of vd are unchanged. -/
def mapElems (w : Nat) (l : List Nat) (g : Nat → Nat) (d : Vec) : Vec := l.foldl (fun v i => putElem w v i (g i)) d

/-- An instruction of element results from a, b and the old element of vd (Table: Vector group A, Pixel functions). -/
def vecOp (op fn : Nat) (ill : HartState → Option Nat) (g : Nat → Nat → Nat → Nat → Nat) (h : Hart) (f : VForm) (s : State) : State :=
  issue h (wordV op fn f) ill 0 (plain (fun s =>
    let w := eszBits f.esz
    let r := mapElems w (s.activeElems h f.pg (eCount f.esz))
      (fun i => g w (elem w (s.v h f.va) i) (elem w (s.v h f.vb) i) (elem w (s.v h f.vd) i)) (s.v h f.vd)
    vecDone h (setV h f.vd r s))) s

/-- A group A instruction. -/
def vecA (fn : Nat) (g : Nat → Nat → Nat → Nat) (h : Hart) (f : VForm) (s : State) : State :=
  vecOp 0x3C fn (vecIll f.esz) (fun w a b _ => g w a b) h f s

/-- Shift distance: the low log₂ of the element width bits of b. -/
def shAmt (w b : Nat) : Nat := b % w

/-- VSEL: p[pg] selects a or b over all elements. -/
def vSel (h : Hart) (f : VForm) (s : State) : State :=
  issue h (wordV 0x3C 14 f) (vecIll f.esz) 0 (plain (fun s =>
    let w := eszBits f.esz
    let r := mapElems w (List.range (eCount f.esz))
      (fun i => elem w (if (s.p h f.pg).getLsbD i then s.v h f.va else s.v h f.vb) i) (s.v h f.vd)
    vecDone h (setV h f.vd r s))) s

/-- A compare writes a predicate: vd[3] must be 0. -/
def cmpIll (f : VForm) (t : HartState) : Option Nat :=
  match vecIll f.esz t with
  | some n => some n
  | none => if 8 ≤ f.vd.val then some 2 else none

/-- The predicate named by vd[2:0]. -/
def cmpPd (f : VForm) : Fin 8 := Fin.ofNat 8 f.vd.val

/-- VCMPEQ, VCMPLTU, VCMPLT. -/
def vCmp (fn : Nat) (c : Nat → Nat → Nat → Bool) (h : Hart) (f : VForm) (s : State) : State :=
  issue h (wordV 0x3B fn f) (cmpIll f) 0 (plain (fun s =>
    let w := eszBits f.esz
    let n := eCount f.esz
    let old := (s.p h (cmpPd f)).toNat % 2 ^ n
    let r := (s.activeElems h f.pg n).foldl (fun a i => setBit a i (c w (elem w (s.v h f.va) i) (elem w (s.v h f.vb) i))) old
    vecDone h (setP h (cmpPd f) (BitVec.ofNat 64 r) s))) s

/-- A group B instruction whose elements come from a, g[ga] and the index. -/
def vecB (fn : Nat) (g : Nat → Nat → Nat → Nat) (h : Hart) (f : VForm) (s : State) : State :=
  issue h (wordV 0x3B fn f) (vecIll f.esz) 0 (plain (fun s =>
    let w := eszBits f.esz
    let r := mapElems w (s.activeElems h f.pg (eCount f.esz)) (fun i => g (elem w (s.v h f.va) i) (s.g h f.ga).toNat i) (s.v h f.vd)
    vecDone h (setV h f.vd r s))) s

/-- A group B instruction that writes g[ga]. -/
def vecToG (fn : Nat) (r : Nat → List Nat → State → Nat) (h : Hart) (f : VForm) (s : State) : State :=
  issue h (wordV 0x3B fn f) (vecIll f.esz) 0 (plain (fun s =>
    let v := r (eszBits f.esz) (s.activeElems h f.pg (eCount f.esz)) s
    vecDone h (setG h f.ga (BitVec.ofNat 64 v) s))) s

/-- Vector access modes: 0b11 is illegal; an index register is named by four bits. -/
def vmIll (f : VmForm) (t : HartState) : Option Nat :=
  if !(t.sb 8) then some 1
  else if f.esz = 3 ∨ f.mode = 3 then some 0
  else if f.z ≠ 0 ∨ (f.mode = 2 ∧ 16 ≤ f.bx.val) then some 2
  else none

/-- The address of element i (unit stride, strided, indexed). -/
def State.vaddr (s : State) (h : Hart) (f : VmForm) (i : Nat) : Nat :=
  let n := 2 ^ f.esz.val
  let base := (s.g h f.ga).toNat
  (match f.mode.val with
   | 0 => base + i * n
   | 1 => base + i * (s.g h f.bx).toNat
   | _ => base + elem (8 * n) (s.v h (Fin.ofNat 16 f.bx.val)) i * n) % 2 ^ 64

/-- An element's fault: cause 0x07 with the element's own cause, .vstart at the element (R63). -/
def partialFault (h : Hart) (i : Nat) (x : Trap) (s : State) : Option Trap × State :=
  (some ⟨7, x.code, x.tval⟩, setVstart h i s)

/-- Elements one at a time, in increasing order, up to the first that faults (R57, R63). -/
def eachElem (h : Hart) (act : Nat → State → Option Trap × State) : List Nat → State → Option Trap × State
  | [], s => (none, vecDone h s)
  | i :: l, s =>
    let r := act i s
    match r.1 with
    | some x => partialFault h i x r.2
    | none => eachElem h act l r.2

/-- Write one element of vd. -/
def setElem (h : Hart) (d : Fin 16) (w i x : Nat) (s : State) : State := setV h d (putElem w (s.v h d) i x) s

/-- VLD. The addresses are those before the instruction, whatever it loads into the index register. -/
def vLoad (h : Hart) (f : VmForm) (s : State) : State :=
  issue h (wordVM false f) (vmIll f) 0 (fun s0 =>
    eachElem h (fun i s =>
      let r := hartLoad h (s0.vaddr h f i) (2 ^ f.esz.val) s
      match r.1 with
      | .error x => (some x, r.2)
      | .ok l => (none, setElem h f.vt (eszBits f.esz) i (leNat l) r.2)) (s0.activeElems h f.pg (eCount f.esz)) s0) s

/-- VST. -/
def vStore (h : Hart) (f : VmForm) (s : State) : State :=
  issue h (wordVM true f) (vmIll f) 0 (fun s0 =>
    eachElem h (fun i s =>
      hartStore h (s0.vaddr h f i) (leBytes (2 ^ f.esz.val) (elem (eszBits f.esz) (s0.v h f.vt) i)) s)
      (s0.activeElems h f.pg (eCount f.esz)) s0) s

/-- A pixel instruction of element results. -/
def pix (fn : Nat) (g : Nat → Nat → Nat → Nat) (h : Hart) (f : VForm) (s : State) : State :=
  vecOp 0x3E fn (pixIll f.esz) (fun _ a b d => g a b d) h f s

/-- PLERP: a + (((b − a) × d + 0x8000) >> 16). -/
def plerpVal (a b d : Nat) : Nat := ((a : Int) + (((b : Int) - a) * d + 0x8000) / 65536).toNat

/-- PLUT: T[j] + (((T[j+1] − T[j]) × f + 0x80) >> 8). -/
def plutVal (t0 t1 f : Nat) : Nat := ((t0 : Int) + (((t1 : Int) - t0) * f + 0x80) / 256).toNat

/-- One element of PLUT: two table entries are read (R59). -/
def plutElem (h : Hart) (base a : Nat) (s : State) : Except Trap Nat × State :=
  let at_ := (base + 2 * (a / 256)) % 2 ^ 64
  let r := hartLoad h at_ 2 s
  match r.1 with
  | .error x => (.error x, r.2)
  | .ok l0 =>
    let q := hartLoad h ((at_ + 2) % 2 ^ 64) 2 r.2
    match q.1 with
    | .error x => (.error x, q.2)
    | .ok l1 => (.ok (plutVal (leNat l0) (leNat l1) (a % 256)), q.2)

/-- PLUT. -/
def pLut (h : Hart) (f : VForm) (s : State) : State :=
  issue h (wordV 0x3E 5 f) (pixIll f.esz) 0 (fun s0 =>
    eachElem h (fun i s =>
      let r := plutElem h (s0.g h f.ga).toNat (elem 16 (s0.v h f.va) i) s
      match r.1 with
      | .error x => (some x, r.2)
      | .ok v => (none, setElem h f.vd 16 i v r.2)) (s0.activeElems h f.pg 32) s0) s

/-- A source of PMAT: where va exceeds 13 the register does not exist, and its elements are free (assumption 3). -/
def State.matSrc (s : State) (h : Hart) (va k : Nat) : Vec :=
  if va + k < 16 then s.v h (Fin.ofNat 16 (va + k))
  else (List.range 8).foldl (fun v j => v ||| BitVec.ofNat 512 ((Config.freeWord (s.free + 8 * k + j)).toNat <<< (64 * j))) 0

/-- PMAT: clamp(((c0 × x0 + c1 × x1 + c2 × x2 + 0x800) >> 12) + o, 0, 0xFFFF). -/
def pmatVal (c : Nat) (x0 x1 x2 : Nat) : Nat :=
  let k := fun (j : Nat) => toInt 16 (bits c (16 * j + 15) (16 * j))
  (clampI 0 0xFFFF ((k 0 * x0 + k 1 * x1 + k 2 * x2 + 0x800) / 4096 + k 3)).toNat

/-- PMAT. -/
def pMat (h : Hart) (f : VForm) (s : State) : State :=
  issue h (wordV 0x3E 6 f) (pixIll f.esz) 0 (plain (fun s =>
    let x := fun (k i : Nat) => elem 16 (s.matSrc h f.va.val k) i
    let r := mapElems 16 (s.activeElems h f.pg 32) (fun i => pmatVal (s.g h f.ga).toNat (x 0 i) (x 1 i) (x 2 i)) (s.v h f.vd)
    let s := if f.va.val ≤ 13 then s else { s with free := s.free + 24 }
    vecDone h (setV h f.vd r s))) s

/-- PAND. -/
def execPand (h : Hart) (f : QForm) (s : State) : Host.Outcome State Fault Refusal := .next (predOp 0 (fun a b => a &&& b) h f s)
/-- POR. -/
def execPor (h : Hart) (f : QForm) (s : State) : Host.Outcome State Fault Refusal := .next (predOp 1 (fun a b => a ||| b) h f s)
/-- PXOR. -/
def execPxor (h : Hart) (f : QForm) (s : State) : Host.Outcome State Fault Refusal := .next (predOp 2 (fun a b => a ^^^ b) h f s)
/-- PANDN. -/
def execPandn (h : Hart) (f : QForm) (s : State) : Host.Outcome State Fault Refusal := .next (predOp 3 (fun a b => a &&& ~~~b) h f s)
/-- PNOT. -/
def execPnot (h : Hart) (f : QForm) (s : State) : Host.Outcome State Fault Refusal := .next (predOp 4 (fun a _ => ~~~a) h f s)
/-- PFROMG. -/
def execPfromg (h : Hart) (f : QForm) (s : State) : Host.Outcome State Fault Refusal := .next (predG 5 (fun g => g) h f s)
/-- PTOG. -/
def execPtog (h : Hart) (f : QForm) (s : State) : Host.Outcome State Fault Refusal := .next (pToG h f s)
/-- PFIRST. -/
def execPfirst (h : Hart) (f : QForm) (s : State) : Host.Outcome State Fault Refusal := .next (predOp 7 (fun a _ => lowestSet a) h f s)
/-- PSETN. -/
def execPsetn (h : Hart) (f : QForm) (s : State) : Host.Outcome State Fault Refusal := .next (predG 8 (fun g => onesTo g.toNat) h f s)
/-- VADD. -/
def execVadd (h : Hart) (f : VForm) (s : State) : Host.Outcome State Fault Refusal := .next (vecA 0 (fun _ a b => a + b) h f s)
/-- VSUB. -/
def execVsub (h : Hart) (f : VForm) (s : State) : Host.Outcome State Fault Refusal := .next (vecA 1 (fun w a b => a + 2 ^ w - b) h f s)
/-- VMUL. -/
def execVmul (h : Hart) (f : VForm) (s : State) : Host.Outcome State Fault Refusal := .next (vecA 2 (fun _ a b => a * b) h f s)
/-- VMULHU. -/
def execVmulhu (h : Hart) (f : VForm) (s : State) : Host.Outcome State Fault Refusal := .next (vecA 3 (fun w a b => a * b / 2 ^ w) h f s)
/-- VAND. -/
def execVand (h : Hart) (f : VForm) (s : State) : Host.Outcome State Fault Refusal := .next (vecA 4 (fun _ a b => a &&& b) h f s)
/-- VOR. -/
def execVor (h : Hart) (f : VForm) (s : State) : Host.Outcome State Fault Refusal := .next (vecA 5 (fun _ a b => a ||| b) h f s)
/-- VXOR. -/
def execVxor (h : Hart) (f : VForm) (s : State) : Host.Outcome State Fault Refusal := .next (vecA 6 (fun _ a b => a ^^^ b) h f s)
/-- VSLL. -/
def execVsll (h : Hart) (f : VForm) (s : State) : Host.Outcome State Fault Refusal := .next (vecA 7 (fun w a b => a * 2 ^ shAmt w b) h f s)
/-- VSRL. -/
def execVsrl (h : Hart) (f : VForm) (s : State) : Host.Outcome State Fault Refusal := .next (vecA 8 (fun w a b => a / 2 ^ shAmt w b) h f s)
/-- VSRA. -/
def execVsra (h : Hart) (f : VForm) (s : State) : Host.Outcome State Fault Refusal := .next (vecA 9 (fun w a b => ofInt w (toInt w a / 2 ^ shAmt w b)) h f s)
/-- VMINU. -/
def execVminu (h : Hart) (f : VForm) (s : State) : Host.Outcome State Fault Refusal := .next (vecA 10 (fun _ a b => min a b) h f s)
/-- VMAXU. -/
def execVmaxu (h : Hart) (f : VForm) (s : State) : Host.Outcome State Fault Refusal := .next (vecA 11 (fun _ a b => max a b) h f s)
/-- VMIN. -/
def execVmin (h : Hart) (f : VForm) (s : State) : Host.Outcome State Fault Refusal := .next (vecA 12 (fun w a b => if toInt w b < toInt w a then b else a) h f s)
/-- VMAX. -/
def execVmax (h : Hart) (f : VForm) (s : State) : Host.Outcome State Fault Refusal := .next (vecA 13 (fun w a b => if toInt w a < toInt w b then b else a) h f s)
/-- VSEL. -/
def execVsel (h : Hart) (f : VForm) (s : State) : Host.Outcome State Fault Refusal := .next (vSel h f s)
/-- VCMPEQ. -/
def execVcmpeq (h : Hart) (f : VForm) (s : State) : Host.Outcome State Fault Refusal := .next (vCmp 0 (fun _ a b => a == b) h f s)
/-- VCMPLTU. -/
def execVcmpltu (h : Hart) (f : VForm) (s : State) : Host.Outcome State Fault Refusal := .next (vCmp 1 (fun _ a b => decide (a < b)) h f s)
/-- VCMPLT. -/
def execVcmplt (h : Hart) (f : VForm) (s : State) : Host.Outcome State Fault Refusal := .next (vCmp 2 (fun w a b => decide (toInt w a < toInt w b)) h f s)
/-- VSPLAT. -/
def execVsplat (h : Hart) (f : VForm) (s : State) : Host.Outcome State Fault Refusal := .next (vecB 3 (fun _ g _ => g) h f s)
/-- VEXTR: element (g[ga] mod n) of va. -/
def execVextr (h : Hart) (f : VForm) (s : State) : Host.Outcome State Fault Refusal := .next (vecToG 4 (fun w _ s => elem w (s.v h f.va) ((s.g h f.ga).toNat % (512 / w))) h f s)
/-- VREDADD. -/
def execVredadd (h : Hart) (f : VForm) (s : State) : Host.Outcome State Fault Refusal := .next (vecToG 5 (fun w l s => (l.map (elem w (s.v h f.va))).foldl (· + ·) 0) h f s)
/-- VREDMAXU. -/
def execVredmaxu (h : Hart) (f : VForm) (s : State) : Host.Outcome State Fault Refusal := .next (vecToG 6 (fun w l s => (l.map (elem w (s.v h f.va))).foldl max 0) h f s)
/-- VMOV. -/
def execVmov (h : Hart) (f : VForm) (s : State) : Host.Outcome State Fault Refusal := .next (vecB 7 (fun a _ _ => a) h f s)
/-- VIDX. -/
def execVidx (h : Hart) (f : VForm) (s : State) : Host.Outcome State Fault Refusal := .next (vecB 8 (fun _ _ i => i) h f s)
/-- VADDS. -/
def execVadds (h : Hart) (f : VForm) (s : State) : Host.Outcome State Fault Refusal := .next (vecB 9 (fun a g _ => a + g) h f s)
/-- VMULS. -/
def execVmuls (h : Hart) (f : VForm) (s : State) : Host.Outcome State Fault Refusal := .next (vecB 10 (fun a g _ => a * g) h f s)
/-- PCNT: set bits among the low n of the predicate. -/
def execPcnt (h : Hart) (f : VForm) (s : State) : Host.Outcome State Fault Refusal := .next (vecToG 11 (fun w _ s => popc64 ((s.p h (cmpPd f)).toNat % 2 ^ (512 / w))) h f s)
/-- VLD. -/
def execVld (h : Hart) (f : VmForm) (s : State) : Host.Outcome State Fault Refusal := .next (vLoad h f s)
/-- VST. -/
def execVst (h : Hart) (f : VmForm) (s : State) : Host.Outcome State Fault Refusal := .next (vStore h f s)
/-- PADDS. -/
def execPadds (h : Hart) (f : VForm) (s : State) : Host.Outcome State Fault Refusal := .next (pix 0 (fun a b _ => min (a + b) 0xFFFF) h f s)
/-- PSUBS. -/
def execPsubs (h : Hart) (f : VForm) (s : State) : Host.Outcome State Fault Refusal := .next (pix 1 (fun a b _ => a - b) h f s)
/-- PMULQ. -/
def execPmulq (h : Hart) (f : VForm) (s : State) : Host.Outcome State Fault Refusal := .next (pix 2 (fun a b _ => (a * b + 0x8000) / 65536) h f s)
/-- PMULG. -/
def execPmulg (h : Hart) (f : VForm) (s : State) : Host.Outcome State Fault Refusal := .next (pix 3 (fun a b _ => min ((a * b + 0x2000) / 16384) 0xFFFF) h f s)
/-- PLERP. -/
def execPlerp (h : Hart) (f : VForm) (s : State) : Host.Outcome State Fault Refusal := .next (pix 4 (plerpVal) h f s)
/-- PLUT. -/
def execPlut (h : Hart) (f : VForm) (s : State) : Host.Outcome State Fault Refusal := .next (pLut h f s)
/-- PMAT. -/
def execPmat (h : Hart) (f : VForm) (s : State) : Host.Outcome State Fault Refusal := .next (pMat h f s)
/-- PPACK. -/
def execPpack (h : Hart) (f : VForm) (s : State) : Host.Outcome State Fault Refusal := .next (pix 7 (fun a b _ => min a 255 * 16 + min b 15) h f s)
/-- PUNPKON: a[11:4]. -/
def execPunpkon (h : Hart) (f : VForm) (s : State) : Host.Outcome State Fault Refusal := .next (pix 8 (fun a _ _ => bits a 11 4) h f s)
/-- PUNPKI: a[3:0]. -/
def execPunpki (h : Hart) (f : VForm) (s : State) : Host.Outcome State Fault Refusal := .next (pix 9 (fun a _ _ => bits a 3 0) h f s)

end Sys2Proof.Machine
end

