-- ==== Sys2Proof/Machine/MelfyInt.lean ====
section
/-! DEFINITION. Interrupts, NMIs, waking and the pre-emption timer (R67–R71). -/

namespace Sys2Proof.Machine

/-- The notification groups of QM that are asserted (Table: QM interrupt identifiers). -/
def State.notifyOn (s : State) (g : Nat) : Bool :=
  s.qm.queues.any (fun e => decide (0 < e.2.a.items) && s.flag (F.qmQCfgNOTIFYEN.q e.1) && s.fld (F.qmQCfgNOTIFYGRP.q e.1) == g)

/-- The identifiers that their sources assert: event interrupts not yet taken, fault interrupts whose INT reaction holds,
notification groups, and software interrupts (R23, R68, R70, R420). -/
def State.pendingIds (s : State) : List Nat :=
  s.evt ++
  (s.flt.filter (fun e => match Blk.ofId e.1 with | some b => s.fltInt b | none => false)).map (fun e => e.1) ++
  ((List.range 8).filter s.notifyOn).map (fun g => 177 + g) ++
  ((List.range 16).filter (fun c => s.mel.swi.getLsbD c)).map (fun c => 33 + c)

/-- The route of an identifier in force: EN 31, PRIO 30–28, CORE 5–2, CTX 1–0 (R71). -/
def State.irqRoute (s : State) (id : Nat) : Nat :=
  match SMap.find s.mel.held id with
  | some w => w.toNat
  | none =>
    let o := 4 * id
    s.fld (F.melIrqRouteEN.at o) * 2 ^ 31 + s.fld (F.melIrqRoutePRIO.at o) * 2 ^ 28 + s.fld (F.melIrqRouteCORE.at o) * 4 +
      s.fld (F.melIrqRouteCTX.at o)

/-- The context a route names: 4 × CORE + CTX. -/
def routeHart (w : Nat) : Hart := Fin.ofNat 65 (bits w 5 0)

/-- The identifiers presented to a context (R68). -/
def State.presented (s : State) (h : Hart) : List Nat :=
  s.pendingIds.filter (fun i => bit (s.irqRoute i) 31 && decide (routeHart (s.irqRoute i) = h) && !(s.mel.inService.contains i))

/-- The better of two identifiers: higher PRIO, then lower number. -/
def State.better (s : State) (a b : Nat) : Nat :=
  let p := fun i => bits (s.irqRoute i) 30 28
  if p b < p a ∨ (p a = p b ∧ a < b) then a else b

/-- The identifier a context takes next. -/
def State.bestId (s : State) (h : Hart) : Option Nat :=
  match s.presented h with
  | [] => none
  | a :: l => some (l.foldl s.better a)

/-- The target of a pending NMI: the route of the fault identifier, or context 0 of core 0 where that is DEAD (R70). -/
def State.nmiHart (s : State) (id : Nat) : Hart :=
  let h := routeHart (s.irqRoute id)
  if (s.hart h).st = .dead then 0 else h

/-- Whether the target of a pending NMI can take it: a PARKED or DEAD context does not. -/
def State.nmiCan (s : State) (id : Nat) : Bool :=
  decide ((s.hart (s.nmiHart id)).st ≠ .dead) && decide ((s.hart (s.nmiHart id)).st ≠ .parked)

/-- The oldest NMI whose target can take it. -/
def State.nmiNext (s : State) : Option Nat := s.nmi.find? s.nmiCan

/-- .cause of an interrupt: [63] interrupt, [62] NMI, [9:0] the identifier. -/
def intCause (nmi : Bool) (id : Nat) : Word := BitVec.ofNat 64 (2 ^ 63 + b2n nmi * 2 ^ 62 + id % 1024)

/-- Whether an NMI is pending that a context can take (R64: it is taken before an interrupt). -/
def State.nmiDue (s : State) (h : Hart) : Bool := s.nmi.any (fun i => s.nmiCan i && decide (s.nmiHart i = h))

/-- INTERRUPT_TAKE: at an instruction boundary, with IE 1 and no NMI due. What .tval becomes is not stated. -/
def interruptTake (h : Hart) (s : State) : State :=
  let t := s.hart h
  if !(s.coreRuns h) ∨ !(t.sb 4) ∨ (t.st ≠ .running ∧ t.st ≠ .waiting) ∨ s.nmiDue h then s
  else match s.bestId h with
    | none => s
    | some id =>
      let s1 := { s with evt := s.evt.filter (fun i => i != id), mel := { s.mel with inService := insertN id s.mel.inService } }
      enterTrap h (intCause false id) s1.freeW t.pc (drawn s1)

/-- NMI_DELIVERY. -/
def nmiDeliver (s : State) : State :=
  if !(s.coresOn) then s
  else match s.nmiNext with
    | none => s
    | some id =>
      let h := s.nmiHart id
      let s1 := { s with nmi := s.nmi.filter (fun i => i != id) }
      monitorTrap h (intCause true id) s1.freeW (s.hart h).pc (drawn s1)

/-- WFI_WAKE (R69): an interrupt is pending that the context would be presented with, its route enabled (EN 1) and its
identifier not in service (assumption 35). -/
def wfiWake (h : Hart) (s : State) : State :=
  let t := s.hart h
  if t.st = .waiting ∧ s.coreRuns h ∧ (s.bestId h).isSome then setHart h { t with st := .running } s else s

/-- PREEMPTION_TIMER_EXPIRY (R67): .tcnt has reached 0. -/
def timerOut (h : Hart) (s : State) : State :=
  let t := s.hart h
  if t.sb 14 ∧ t.pl = 0 ∧ (t.st = .running ∨ t.st = .parked) ∧ t.tcnt = 0 ∧ s.coreRuns h then
    setHart h { t with tcnt := t.tmr, tmrPending := true } s
  else s

/-- PREEMPTION_TRAP (R67): at task level, after an NMI and an interrupt of the same boundary. -/
def timerTrap (h : Hart) (s : State) : State :=
  let t := s.hart h
  if t.tmrPending ∧ t.pl = 0 ∧ t.st = .running ∧ s.coreRuns h ∧ !(s.nmiDue h) ∧ !(t.sb 4 && (s.bestId h).isSome) then
    enterTrap h 0x30 0 t.pc (setHart h { t with tmrPending := false } s)
  else s

/-- INTERRUPT_TAKE. -/
def execInterruptTake (h : Hart) (s : State) : Host.Outcome State Fault Refusal := .next (interruptTake h s)
/-- NMI_DELIVERY. -/
def execNmiDelivery (s : State) : Host.Outcome State Fault Refusal := .next (nmiDeliver s)
/-- WFI_WAKE. -/
def execWfiWake (h : Hart) (s : State) : Host.Outcome State Fault Refusal := .next (wfiWake h s)
/-- PREEMPTION_TIMER_EXPIRY. -/
def execPreemptionTimerExpiry (h : Hart) (s : State) : Host.Outcome State Fault Refusal := .next (timerOut h s)
/-- PREEMPTION_TRAP. -/
def execPreemptionTrap (h : Hart) (s : State) : Host.Outcome State Fault Refusal := .next (timerTrap h s)
/-- EOI: a write of MEL_EOI. -/
def execEoi (id : BitVec 10) (s : State) : Host.Outcome State Fault Refusal := .next (eoiAct id.toNat s)
/-- SOFTWARE_INTERRUPT: a write of MEL_SWI. -/
def execSoftwareInterrupt (raise : BitVec 16) (s : State) : Host.Outcome State Fault Refusal := .next (swiAct raise.toNat s)

end Sys2Proof.Machine
end

