-- ==== Sys2Proof/Machine/Dispatch.lean ====
section
/-! DEFINITION. One arm per command; each arm is one call of the command's meaning. -/

namespace Sys2Proof.Machine

/-- The effect of a command on everything but the queue of waiting commands. -/
def exec (i : Instr) (s : State) : Host.Outcome State Fault Refusal :=
  match i with
  | .registerWrite mstr addr bits value => Sys2Proof.Machine.execRegisterWrite mstr addr bits value s
  | .hsTimeout x => Sys2Proof.Machine.execHsTimeout x s
  | .frameStart n => Sys2Proof.Machine.execFrameStart n s
  | .listTake n => Sys2Proof.Machine.execListTake n s
  | .layerFetchBurst k va len => Sys2Proof.Machine.execLayerFetchBurst k va len s
  | .correctionLine y => Sys2Proof.Machine.execCorrectionLine y s
  | .correctionDeadline n => Sys2Proof.Machine.execCorrectionDeadline n s
  | .writebackPublish n => Sys2Proof.Machine.execWritebackPublish n s
  | .railRaise n => Sys2Proof.Machine.execRailRaise n s
  | .commitWindowClose => Sys2Proof.Machine.execCommitWindowClose s
  | .go target group asap => Sys2Proof.Machine.execGo target group asap s
  | .cancel => Sys2Proof.Machine.execCancel s
  | .add h f => Sys2Proof.Machine.execAdd h f s
  | .sub h f => Sys2Proof.Machine.execSub h f s
  | .and h f => Sys2Proof.Machine.execAnd h f s
  | .or h f => Sys2Proof.Machine.execOr h f s
  | .xor h f => Sys2Proof.Machine.execXor h f s
  | .sll h f => Sys2Proof.Machine.execSll h f s
  | .srl h f => Sys2Proof.Machine.execSrl h f s
  | .sra h f => Sys2Proof.Machine.execSra h f s
  | .slt h f => Sys2Proof.Machine.execSlt h f s
  | .sltu h f => Sys2Proof.Machine.execSltu h f s
  | .mul h f => Sys2Proof.Machine.execMul h f s
  | .mulh h f => Sys2Proof.Machine.execMulh h f s
  | .mulhu h f => Sys2Proof.Machine.execMulhu h f s
  | .div h f => Sys2Proof.Machine.execDiv h f s
  | .divu h f => Sys2Proof.Machine.execDivu h f s
  | .rem h f => Sys2Proof.Machine.execRem h f s
  | .remu h f => Sys2Proof.Machine.execRemu h f s
  | .min h f => Sys2Proof.Machine.execMin h f s
  | .max h f => Sys2Proof.Machine.execMax h f s
  | .minu h f => Sys2Proof.Machine.execMinu h f s
  | .maxu h f => Sys2Proof.Machine.execMaxu h f s
  | .clz h f => Sys2Proof.Machine.execClz h f s
  | .ctz h f => Sys2Proof.Machine.execCtz h f s
  | .popc h f => Sys2Proof.Machine.execPopc h f s
  | .ror h f => Sys2Proof.Machine.execRor h f s
  | .addi h f => Sys2Proof.Machine.execAddi h f s
  | .andi h f => Sys2Proof.Machine.execAndi h f s
  | .ori h f => Sys2Proof.Machine.execOri h f s
  | .xori h f => Sys2Proof.Machine.execXori h f s
  | .slti h f => Sys2Proof.Machine.execSlti h f s
  | .sltiu h f => Sys2Proof.Machine.execSltiu h f s
  | .lui h f => Sys2Proof.Machine.execLui h f s
  | .insh h f => Sys2Proof.Machine.execInsh h f s
  | .auipc h f => Sys2Proof.Machine.execAuipc h f s
  | .shi h f => Sys2Proof.Machine.execShi h f s
  | .lb h f => Sys2Proof.Machine.execLb h f s
  | .lbu h f => Sys2Proof.Machine.execLbu h f s
  | .lh h f => Sys2Proof.Machine.execLh h f s
  | .lhu h f => Sys2Proof.Machine.execLhu h f s
  | .lw h f => Sys2Proof.Machine.execLw h f s
  | .lwu h f => Sys2Proof.Machine.execLwu h f s
  | .ld h f => Sys2Proof.Machine.execLd h f s
  | .sb h f => Sys2Proof.Machine.execSb h f s
  | .sh h f => Sys2Proof.Machine.execSh h f s
  | .sw h f => Sys2Proof.Machine.execSw h f s
  | .sd h f => Sys2Proof.Machine.execSd h f s
  | .beq h f => Sys2Proof.Machine.execBeq h f s
  | .bne h f => Sys2Proof.Machine.execBne h f s
  | .blt h f => Sys2Proof.Machine.execBlt h f s
  | .bge h f => Sys2Proof.Machine.execBge h f s
  | .bltu h f => Sys2Proof.Machine.execBltu h f s
  | .bgeu h f => Sys2Proof.Machine.execBgeu h f s
  | .j h f => Sys2Proof.Machine.execJ h f s
  | .jl h f => Sys2Proof.Machine.execJl h f s
  | .jlr h f => Sys2Proof.Machine.execJlr h f s
  | .bpa h f => Sys2Proof.Machine.execBpa h f s
  | .bpz h f => Sys2Proof.Machine.execBpz h f s
  | .atomicSwap h f => Sys2Proof.Machine.execAtomicSwap h f s
  | .atomicAdd h f => Sys2Proof.Machine.execAtomicAdd h f s
  | .atomicAnd h f => Sys2Proof.Machine.execAtomicAnd h f s
  | .atomicOr h f => Sys2Proof.Machine.execAtomicOr h f s
  | .atomicXor h f => Sys2Proof.Machine.execAtomicXor h f s
  | .atomicMin h f => Sys2Proof.Machine.execAtomicMin h f s
  | .atomicMax h f => Sys2Proof.Machine.execAtomicMax h f s
  | .atomicMinu h f => Sys2Proof.Machine.execAtomicMinu h f s
  | .atomicMaxu h f => Sys2Proof.Machine.execAtomicMaxu h f s
  | .atomicCas h f => Sys2Proof.Machine.execAtomicCas h f s
  | .syscall h f => Sys2Proof.Machine.execSyscall h f s
  | .breakI h f => Sys2Proof.Machine.execBreakI h f s
  | .eret h f => Sys2Proof.Machine.execEret h f s
  | .wfi h f => Sys2Proof.Machine.execWfi h f s
  | .yield h f => Sys2Proof.Machine.execYield h f s
  | .crd h f => Sys2Proof.Machine.execCrd h f s
  | .cwr h f => Sys2Proof.Machine.execCwr h f s
  | .cswp h f => Sys2Proof.Machine.execCswp h f s
  | .cset h f => Sys2Proof.Machine.execCset h f s
  | .cclr h f => Sys2Proof.Machine.execCclr h f s
  | .ctxstart h f => Sys2Proof.Machine.execCtxstart h f s
  | .ctxstop h f => Sys2Proof.Machine.execCtxstop h f s
  | .ctxcrd h f => Sys2Proof.Machine.execCtxcrd h f s
  | .ctxcwr h f => Sys2Proof.Machine.execCtxcwr h f s
  | .ctxgrd h f => Sys2Proof.Machine.execCtxgrd h f s
  | .ctxgwr h f => Sys2Proof.Machine.execCtxgwr h f s
  | .fence h f => Sys2Proof.Machine.execFence h f s
  | .fenceI h f => Sys2Proof.Machine.execFenceI h f s
  | .dclean h f => Sys2Proof.Machine.execDclean h f s
  | .dinv h f => Sys2Proof.Machine.execDinv h f s
  | .iinv h f => Sys2Proof.Machine.execIinv h f s
  | .tlbinv h f => Sys2Proof.Machine.execTlbinv h f s
  | .pand h f => Sys2Proof.Machine.execPand h f s
  | .por h f => Sys2Proof.Machine.execPor h f s
  | .pxor h f => Sys2Proof.Machine.execPxor h f s
  | .pandn h f => Sys2Proof.Machine.execPandn h f s
  | .pnot h f => Sys2Proof.Machine.execPnot h f s
  | .pfromg h f => Sys2Proof.Machine.execPfromg h f s
  | .ptog h f => Sys2Proof.Machine.execPtog h f s
  | .pfirst h f => Sys2Proof.Machine.execPfirst h f s
  | .psetn h f => Sys2Proof.Machine.execPsetn h f s
  | .vadd h f => Sys2Proof.Machine.execVadd h f s
  | .vsub h f => Sys2Proof.Machine.execVsub h f s
  | .vmul h f => Sys2Proof.Machine.execVmul h f s
  | .vmulhu h f => Sys2Proof.Machine.execVmulhu h f s
  | .vand h f => Sys2Proof.Machine.execVand h f s
  | .vor h f => Sys2Proof.Machine.execVor h f s
  | .vxor h f => Sys2Proof.Machine.execVxor h f s
  | .vsll h f => Sys2Proof.Machine.execVsll h f s
  | .vsrl h f => Sys2Proof.Machine.execVsrl h f s
  | .vsra h f => Sys2Proof.Machine.execVsra h f s
  | .vminu h f => Sys2Proof.Machine.execVminu h f s
  | .vmaxu h f => Sys2Proof.Machine.execVmaxu h f s
  | .vmin h f => Sys2Proof.Machine.execVmin h f s
  | .vmax h f => Sys2Proof.Machine.execVmax h f s
  | .vsel h f => Sys2Proof.Machine.execVsel h f s
  | .vcmpeq h f => Sys2Proof.Machine.execVcmpeq h f s
  | .vcmpltu h f => Sys2Proof.Machine.execVcmpltu h f s
  | .vcmplt h f => Sys2Proof.Machine.execVcmplt h f s
  | .vsplat h f => Sys2Proof.Machine.execVsplat h f s
  | .vextr h f => Sys2Proof.Machine.execVextr h f s
  | .vredadd h f => Sys2Proof.Machine.execVredadd h f s
  | .vredmaxu h f => Sys2Proof.Machine.execVredmaxu h f s
  | .vmov h f => Sys2Proof.Machine.execVmov h f s
  | .vidx h f => Sys2Proof.Machine.execVidx h f s
  | .vadds h f => Sys2Proof.Machine.execVadds h f s
  | .vmuls h f => Sys2Proof.Machine.execVmuls h f s
  | .pcnt h f => Sys2Proof.Machine.execPcnt h f s
  | .vld h f => Sys2Proof.Machine.execVld h f s
  | .vst h f => Sys2Proof.Machine.execVst h f s
  | .padds h f => Sys2Proof.Machine.execPadds h f s
  | .psubs h f => Sys2Proof.Machine.execPsubs h f s
  | .pmulq h f => Sys2Proof.Machine.execPmulq h f s
  | .pmulg h f => Sys2Proof.Machine.execPmulg h f s
  | .plerp h f => Sys2Proof.Machine.execPlerp h f s
  | .plut h f => Sys2Proof.Machine.execPlut h f s
  | .pmat h f => Sys2Proof.Machine.execPmat h f s
  | .ppack h f => Sys2Proof.Machine.execPpack h f s
  | .punpkon h f => Sys2Proof.Machine.execPunpkon h f s
  | .punpki h f => Sys2Proof.Machine.execPunpki h f s
  | .interruptTake h => Sys2Proof.Machine.execInterruptTake h s
  | .nmiDelivery => Sys2Proof.Machine.execNmiDelivery s
  | .wfiWake h => Sys2Proof.Machine.execWfiWake h s
  | .preemptionTimerExpiry h => Sys2Proof.Machine.execPreemptionTimerExpiry h s
  | .preemptionTrap h => Sys2Proof.Machine.execPreemptionTrap h s
  | .eoi id => Sys2Proof.Machine.execEoi id s
  | .softwareInterrupt raise => Sys2Proof.Machine.execSoftwareInterrupt raise s
  | .dmaStart n => Sys2Proof.Machine.execDmaStart n s
  | .dmaResume n => Sys2Proof.Machine.execDmaResume n s
  | .dmaPause n => Sys2Proof.Machine.execDmaPause n s
  | .dmaAbort n => Sys2Proof.Machine.execDmaAbort n s
  | .dmaTransferBurst n => Sys2Proof.Machine.execDmaTransferBurst n s
  | .descriptorComplete n => Sys2Proof.Machine.execDescriptorComplete n s
  | .push op => Sys2Proof.Machine.execPush op s
  | .pop op => Sys2Proof.Machine.execPop op s
  | .pushIdle op => Sys2Proof.Machine.execPushIdle op s
  | .flush op => Sys2Proof.Machine.execFlush op s
  | .mark op => Sys2Proof.Machine.execMark op s
  | .rewind op => Sys2Proof.Machine.execRewind op s
  | .unmark op => Sys2Proof.Machine.execUnmark op s
  | .queueReset op => Sys2Proof.Machine.execQueueReset op s
  | .queueResetScanEnd q => Sys2Proof.Machine.execQueueResetScanEnd q s
  | .queueCmdComplete slot => Sys2Proof.Machine.execQueueCmdComplete slot s
  | .parkResume k => Sys2Proof.Machine.execParkResume k s
  | .parkAbort k => Sys2Proof.Machine.execParkAbort k s
  | .crcAlgWrite c st alg => Sys2Proof.Machine.execCrcAlgWrite c st alg s
  | .crcDin c st n word => Sys2Proof.Machine.execCrcDin c st n word s
  | .timerExpiry t => Sys2Proof.Machine.execTimerExpiry t s
  | .mbxClaim c reader => Sys2Proof.Machine.execMbxClaim c reader s
  | .mbxSend c sender => Sys2Proof.Machine.execMbxSend c sender s
  | .mbxAck c receiver => Sys2Proof.Machine.execMbxAck c receiver s
  | .register h => Sys2Proof.Machine.execRegister h s
  | .publish h b => Sys2Proof.Machine.execPublish h b s
  | .acquire h b => Sys2Proof.Machine.execAcquire h b s
  | .release h => Sys2Proof.Machine.execRelease h s
  | .handleCmdComplete => Sys2Proof.Machine.execHandleCmdComplete s
  | .handleFreed h => Sys2Proof.Machine.execHandleFreed h s
  | .rxPacket r p => Sys2Proof.Machine.execRxPacket r p s
  | .previewFrameSent n => Sys2Proof.Machine.execPreviewFrameSent n s
  | .cartPresence c => Sys2Proof.Machine.execCartPresence c s
  | .cartRemoval => Sys2Proof.Machine.execCartRemoval s
  | .attach => Sys2Proof.Machine.execAttach s
  | .authTimeout => Sys2Proof.Machine.execAuthTimeout s
  | .prepare rebase => Sys2Proof.Machine.execPrepare rebase s
  | .exportCal => Sys2Proof.Machine.execExportCal s
  | .calWrite overwrite => Sys2Proof.Machine.execCalWrite overwrite s
  | .checkpoint => Sys2Proof.Machine.execCheckpoint s
  | .shutdownCkpt => Sys2Proof.Machine.execShutdownCkpt s
  | .cartCmdComplete => Sys2Proof.Machine.execCartCmdComplete s
  | .ckptDue => Sys2Proof.Machine.execCkptDue s
  | .ckptDeferredStart => Sys2Proof.Machine.execCkptDeferredStart s
  | .refreshStart k => Sys2Proof.Machine.execRefreshStart k s
  | .line n => Sys2Proof.Machine.execLine n s
  | .scanLoop n => Sys2Proof.Machine.execScanLoop n s
  | .setc n => Sys2Proof.Machine.execSetc n s
  | .jmp n => Sys2Proof.Machine.execJmp n s
  | .brref n => Sys2Proof.Machine.execBrref n s
  | .scanEnd n => Sys2Proof.Machine.execScanEnd n s
  | .teBroadcastWrite mstr a bits value => Sys2Proof.Machine.execTeBroadcastWrite mstr a bits value s
  | .slotStart p idx => Sys2Proof.Machine.execSlotStart p idx s
  | .retReceived p r => Sys2Proof.Machine.execRetReceived p r s
  | .bringup p => Sys2Proof.Machine.execBringup p s
  | .retrain p => Sys2Proof.Machine.execRetrain p s
  | .down p => Sys2Proof.Machine.execDown p s
  | .loopNes p lane => Sys2Proof.Machine.execLoopNes p lane s
  | .loopNep p lane => Sys2Proof.Machine.execLoopNep p lane s
  | .loopFar p pos => Sys2Proof.Machine.execLoopFar p pos s
  | .loopEnd p => Sys2Proof.Machine.execLoopEnd p s
  | .trainStart p => Sys2Proof.Machine.execTrainStart p s
  | .trainSuccess p => Sys2Proof.Machine.execTrainSuccess p s
  | .trainTimeout p => Sys2Proof.Machine.execTrainTimeout p s
  | .capAnswer p pos cap => Sys2Proof.Machine.execCapAnswer p pos cap s
  | .capTimeout p => Sys2Proof.Machine.execCapTimeout p s
  | .errWindowClose p => Sys2Proof.Machine.execErrWindowClose p s
  | .returnLockLoss p => Sys2Proof.Machine.execReturnLockLoss p s
  | .rilSend ports => Sys2Proof.Machine.execRilSend ports s
  | .rillLatchReport p => Sys2Proof.Machine.execRillLatchReport p s
  | .diagSweep => Sys2Proof.Machine.execDiagSweep s
  | .sweepComplete => Sys2Proof.Machine.execSweepComplete s
  | .diagInit => Sys2Proof.Machine.execDiagInit s
  | .diagMask tile prim yl xl => Sys2Proof.Machine.execDiagMask tile prim yl xl s
  | .diagUnmask tile prim yl xl => Sys2Proof.Machine.execDiagUnmask tile prim yl xl s
  | .diagClear tile prim yl xl => Sys2Proof.Machine.execDiagClear tile prim yl xl s
  | .diagCmdComplete => Sys2Proof.Machine.execDiagCmdComplete s
  | .railRestart k => Sys2Proof.Machine.execRailRestart k s
  | .railStart k => Sys2Proof.Machine.execRailStart k s
  | .railHoldEntry k vsense => Sys2Proof.Machine.execRailHoldEntry k vsense s
  | .startFail k => Sys2Proof.Machine.execStartFail k s
  | .railTrackEntry k => Sys2Proof.Machine.execRailTrackEntry k s
  | .railTrackExit k => Sys2Proof.Machine.execRailTrackExit k s
  | .railSlewOff k => Sys2Proof.Machine.execRailSlewOff k s
  | .ov k vsense => Sys2Proof.Machine.execOv k vsense s
  | .uv k vsense => Sys2Proof.Machine.execUv k vsense s
  | .oc k => Sys2Proof.Machine.execOc k s
  | .senseFail k vsense => Sys2Proof.Machine.execSenseFail k vsense s
  | .phaseFail k ix => Sys2Proof.Machine.execPhaseFail k ix s
  | .phaseCurrentLimit k ix => Sys2Proof.Machine.execPhaseCurrentLimit k ix s
  | .thmSample es die => Sys2Proof.Machine.execThmSample es die s
  | .throttleHoldEnd => Sys2Proof.Machine.execThrottleHoldEnd s
  | .fanTachWindow c pulses => Sys2Proof.Machine.execFanTachWindow c pulses s
  | .fanSpinupEnd c => Sys2Proof.Machine.execFanSpinupEnd c s
  | .fanModeWrite c mode => Sys2Proof.Machine.execFanModeWrite c mode s
  | .rookPowerOn => Sys2Proof.Machine.execRookPowerOn s
  | .rookInitComplete t => Sys2Proof.Machine.execRookInitComplete t s
  | .inputFilterChange ch run => Sys2Proof.Machine.execInputFilterChange ch run s
  | .tpoPulse src high => Sys2Proof.Machine.execTpoPulse src high s
  | .discrepancy ix => Sys2Proof.Machine.execDiscrepancy ix s
  | .handActuated h => Sys2Proof.Machine.execHandActuated h s
  | .handReleased h => Sys2Proof.Machine.execHandReleased h s
  | .pairFault h => Sys2Proof.Machine.execPairFault h s
  | .sackRelease heldUs => Sys2Proof.Machine.execSackRelease heldUs s
  | .sackRearm => Sys2Proof.Machine.execSackRearm s
  | .groupClose g => Sys2Proof.Machine.execGroupClose g s
  | .groupCloseHsOn g => Sys2Proof.Machine.execGroupCloseHsOn g s
  | .groupSafetyOpen g => Sys2Proof.Machine.execGroupSafetyOpen g s
  | .groupOrderlyOpen g => Sys2Proof.Machine.execGroupOrderlyOpen g s
  | .groupOrderlyLsOff g => Sys2Proof.Machine.execGroupOrderlyLsOff g s
  | .switchFault g hs => Sys2Proof.Machine.execSwitchFault g hs s
  | .railOkChange g => Sys2Proof.Machine.execRailOkChange g s
  | .railCauseClear g => Sys2Proof.Machine.execRailCauseClear g s
  | .rookCartDetect run => Sys2Proof.Machine.execRookCartDetect run s
  | .switchTest g => Sys2Proof.Machine.execSwitchTest g s
  | .switchTestEnd g rb => Sys2Proof.Machine.execSwitchTestEnd g rb s
  | .testForced g => Sys2Proof.Machine.execTestForced g s
  | .tapPacket p pos => Sys2Proof.Machine.execTapPacket p pos s
  | .zoneBinClose => Sys2Proof.Machine.execZoneBinClose s
  | .tapLost p pos => Sys2Proof.Machine.execTapLost p pos s
  | .stuckLineAssert k => Sys2Proof.Machine.execStuckLineAssert k s
  | .stuckLineDeassert k => Sys2Proof.Machine.execStuckLineDeassert k s
  | .stuckOvfLine => Sys2Proof.Machine.execStuckOvfLine s
  | .endgameExpiry => Sys2Proof.Machine.execEndgameExpiry s
  | .halt => Sys2Proof.Machine.execHalt s
  | .req groups seq => Sys2Proof.Machine.execReq groups seq s
  | .rookRestart groups seq => Sys2Proof.Machine.execRookRestart groups seq s
  | .paramLoad seq => Sys2Proof.Machine.execParamLoad seq s
  | .paramRead seq => Sys2Proof.Machine.execParamRead seq s
  | .lock seq => Sys2Proof.Machine.execLock seq s
  | .nonce seq => Sys2Proof.Machine.execNonce seq s
  | .unlock seq => Sys2Proof.Machine.execUnlock seq s
  | .logRead seq => Sys2Proof.Machine.execLogRead seq s
  | .rookCmdComplete => Sys2Proof.Machine.execRookCmdComplete s
  | .moduleInsert c rateMBd => Sys2Proof.Machine.execModuleInsert c rateMBd s
  | .chainFrameRx c frame fcsOk cut room => Sys2Proof.Machine.execChainFrameRx c frame fcsOk cut room s
  | .hostTx => Sys2Proof.Machine.execHostTx s
  | .ptpSyncSample d t1 corr => Sys2Proof.Machine.execPtpSyncSample d t1 corr s
  | .ptpMessage d res => Sys2Proof.Machine.execPtpMessage d res s
  | .holdoverEntry d => Sys2Proof.Machine.execHoldoverEntry d s
  | .castle => Sys2Proof.Machine.execCastle s
  | .castleStep => Sys2Proof.Machine.execCastleStep s
  | .timeStep => Sys2Proof.Machine.execTimeStep s
  | .tlEnWrite en => Sys2Proof.Machine.execTlEnWrite en s
  | .frameEpochWrite epoch => Sys2Proof.Machine.execFrameEpochWrite epoch s
  | .aonRatioCalibrate => Sys2Proof.Machine.execAonRatioCalibrate s
  | .arm e => Sys2Proof.Machine.execArm e s
  | .disarm e => Sys2Proof.Machine.execDisarm e s
  | .satCommitSubmit e => Sys2Proof.Machine.execSatCommitSubmit e s
  | .chainAssign c next => Sys2Proof.Machine.execChainAssign c next s
  | .statusSend => Sys2Proof.Machine.execStatusSend s
  | .digestWalk c down w => Sys2Proof.Machine.execDigestWalk c down w s
  | .digestResult c frame => Sys2Proof.Machine.execDigestResult c frame s
  | .wake c range => Sys2Proof.Machine.execWake c range s
  | .dmxPacket code slots => Sys2Proof.Machine.execDmxPacket code slots s
  | .dmxLoss => Sys2Proof.Machine.execDmxLoss s
  | .rdmRequest packet => Sys2Proof.Machine.execRdmRequest packet s
  | .rdmSend len => Sys2Proof.Machine.execRdmSend len s
  | .rdmResponseSent => Sys2Proof.Machine.execRdmResponseSent s
  | .rdmLate => Sys2Proof.Machine.execRdmLate s
  | .canFrameRx n f => Sys2Proof.Machine.execCanFrameRx n f s
  | .canTxItem n => Sys2Proof.Machine.execCanTxItem n s
  | .canTxDone n => Sys2Proof.Machine.execCanTxDone n s
  | .busOff n => Sys2Proof.Machine.execBusOff n s
  | .canRestart n => Sys2Proof.Machine.execCanRestart n s
  | .busOffRecoveryEnd n => Sys2Proof.Machine.execBusOffRecoveryEnd n s
  | .offer c session header => Sys2Proof.Machine.execOffer c session header s
  | .answer c session code next => Sys2Proof.Machine.execAnswer c session code next s
  | .data c session index off bytes => Sys2Proof.Machine.execData c session index off bytes s
  | .blockResult c session index code => Sys2Proof.Machine.execBlockResult c session index code s
  | .done c session => Sys2Proof.Machine.execDone c session s
  | .final c session code => Sys2Proof.Machine.execFinal c session code s
  | .abortFrame c session code => Sys2Proof.Machine.execAbortFrame c session code s
  | .imageComplete => Sys2Proof.Machine.execImageComplete s
  | .sessionTimeout fwd => Sys2Proof.Machine.execSessionTimeout fwd s
  | .localOffer => Sys2Proof.Machine.execLocalOffer s
  | .localBlock => Sys2Proof.Machine.execLocalBlock s
  | .localDone => Sys2Proof.Machine.execLocalDone s
  | .abandon => Sys2Proof.Machine.execAbandon s
  | .confirm => Sys2Proof.Machine.execConfirm s
  | .rollback => Sys2Proof.Machine.execRollback s
  | .activate bank => Sys2Proof.Machine.execActivate bank s
  | .erase bank => Sys2Proof.Machine.execErase bank s
  | .hash => Sys2Proof.Machine.execHash s
  | .updCmdComplete => Sys2Proof.Machine.execUpdCmdComplete s
  | .trialExpired => Sys2Proof.Machine.execTrialExpired s
  | .updCtrlWrite v => Sys2Proof.Machine.execUpdCtrlWrite v s
  | .romBoot svcHeld => Sys2Proof.Machine.execRomBoot svcHeld s
  | .powerRequestS1 => Sys2Proof.Machine.execPowerRequestS1 s
  | .powerRequestS2 => Sys2Proof.Machine.execPowerRequestS2 s
  | .powerRequestA => Sys2Proof.Machine.execPowerRequestA s
  | .powerRequestOff => Sys2Proof.Machine.execPowerRequestOff s
  | .powerStepAgree => Sys2Proof.Machine.execPowerStepAgree s
  | .powerStepDelayEnd => Sys2Proof.Machine.execPowerStepDelayEnd s
  | .powerStepTimeout => Sys2Proof.Machine.execPowerStepTimeout s
  | .domainSwitch => Sys2Proof.Machine.execDomainSwitch s
  | .wakeEvent src => Sys2Proof.Machine.execWakeEvent src s
  | .pfail => Sys2Proof.Machine.execPfail s
  | .supplyEnRise => Sys2Proof.Machine.execSupplyEnRise s
  | .supplyRetry => Sys2Proof.Machine.execSupplyRetry s
  | .powerOnResetEnd => Sys2Proof.Machine.execPowerOnResetEnd s
  | .systemReset => Sys2Proof.Machine.execSystemReset s
  | .rstPinStuck => Sys2Proof.Machine.execRstPinStuck s
  | .resetPinRearm => Sys2Proof.Machine.execResetPinRearm s
  | .warmReset => Sys2Proof.Machine.execWarmReset s
  | .svcPinStuck => Sys2Proof.Machine.execSvcPinStuck s
  | .svcPinRearm => Sys2Proof.Machine.execSvcPinRearm s
  | .rstCmdSystem key => Sys2Proof.Machine.execRstCmdSystem key s
  | .rstCmdWarm key => Sys2Proof.Machine.execRstCmdWarm key s
  | .blockResetEnd b => Sys2Proof.Machine.execBlockResetEnd b s
  | .resetShadowEnd b => Sys2Proof.Machine.execResetShadowEnd b s
  | .fltForce b bits => Sys2Proof.Machine.execFltForce b bits s
  | .fltCapClr b => Sys2Proof.Machine.execFltCapClr b s
  | .scrubRead word err => Sys2Proof.Machine.execScrubRead word err s
  | .ddrTrainingEnd ok => Sys2Proof.Machine.execDdrTrainingEnd ok s
  | .systemResetEnd => Sys2Proof.Machine.execSystemResetEnd s
  | .linkChange c up => Sys2Proof.Machine.execLinkChange c up s
  | .moduleRemoval c => Sys2Proof.Machine.execModuleRemoval c s
  | .pllUnlock => Sys2Proof.Machine.execPllUnlock s
  | .xtalFail => Sys2Proof.Machine.execXtalFail s
  | .ddrTherm ch code above => Sys2Proof.Machine.execDdrTherm ch code above s
  | .canBusError n transmit inc lec => Sys2Proof.Machine.execCanBusError n transmit inc lec s
  | .readbackChange g hs level => Sys2Proof.Machine.execReadbackChange g hs level s
  | .returnBlockLock p => Sys2Proof.Machine.execReturnBlockLock p s
  | .checkpointWritten => Sys2Proof.Machine.execCheckpointWritten s
  | .blockWriteDone index res => Sys2Proof.Machine.execBlockWriteDone index res s

end Sys2Proof.Machine
end

