-- ==== Sys2Proof/Machine/Tick.lean ====
section
/-! DEFINITION. One nanosecond of true time, which is what a step with no command waiting lets pass (assumption 6):
the domain clocks and GT (R352, R357), XTAL_32K ticks, and the pre-emption counts (R67). What happens at an instant of
the timeline is a command of its own, which checks that its instant has come. -/

namespace Sys2Proof.Machine

/-- Domain clocks run r ppb slower than true time (R352). -/
def tickDomain (d : Nat) (s : State) : State := modDom d (fun v => { v with dt := v.dt + 1000000000 - v.r }) s

/-- GT runs with the active domain's clock and slews towards it by at most 500 ppm (R352, R357). -/
def tickGt (s : State) : State :=
  let v := s.dom s.active
  setGt ((s.gtFine : Int) + 1000000000 - v.r + clampI (-500000) 500000 (v.dt - s.gtFine)) s

/-- The count of XTAL_32K ticks. -/
def tickAon (s : State) : State :=
  let t := s.pwr.tickFine + 32768
  if t < 1000000000 then { s with pwr := { s.pwr with tickFine := t } }
  else setFld F.pwrAonCntCNT (s.fld F.pwrAonCntCNT + 1) { s with pwr := { s.pwr with tickFine := t - 1000000000 } }

/-- .tcnt counts down at each microsecond of GT at task level with TE set, while RUNNING or PARKED (R67). -/
def HartState.count (t : HartState) : HartState :=
  if t.sb 14 ∧ t.pl = 0 ∧ (t.st = .running ∨ t.st = .parked) ∧ t.tcnt ≠ 0 then { t with tcnt := t.tcnt - 1 } else t

/-- A microsecond of GT for every context. -/
def tickHarts (s : State) : State := { s with mel := { s.mel with harts := s.mel.harts.map (fun e => (e.1, e.2.count)) } }

/-- And for Rook's. -/
def tickRook (s : State) : State := { s with rook := { s.rook with cpu := s.rook.cpu.count } }

/-- ROOK_OSC runs while Rook has its supply. -/
def tickOsc (s : State) : State :=
  if s.isOff ∨ s.pwr.domsOff.contains 8 then s else { s with rook := s.rook.count s.now }

/-- Whether PTP's clocks run. -/
def State.clocksRun (s : State) : Bool := !s.isOff && !s.rst.held && !(s.pwr.domsOff.contains 7)

/-- One nanosecond. -/
def tick (s : State) : State :=
  let s1 := tickOsc (tickAon { s with now := s.now + 1 })
  if s.clocksRun then
    let s2 := tickDomain 1 (tickDomain 0 (tickGt s1))
    if s2.gt / 1000 ≠ s.gt / 1000 then s2 |> whenB s.coresOn tickHarts |> whenB (s.coreRuns 64) tickRook else s2
  else s1

end Sys2Proof.Machine
end

