-- ==== Sys2Proof/Machine/RunWord.lean ====
section
/-! DEFINITION. What a context does with an instruction word (R46, R47, R64): it runs the instruction that the word spells, and
raises cause 0x06 where no table lists it. -/

namespace Sys2Proof.Machine

/-- A word met by a context. -/
def runWord (h : Hart) (w : Nat) (s : State) : Host.Outcome State Fault Refusal :=
  match Sys2Proof.decodeMelfy h w with
  | some c => exec c s
  | none => .next (illegalWord h w s)

end Sys2Proof.Machine
end

