-- ==== Sys2Proof/WellFormed.lean ====
section
/-! DEFINITION. Well-formed commands: the operand shapes that the manual gives and the types of Syntax do not fix. -/

namespace Sys2Proof

/-- A register access width in bits, with a value that fits it (R11 refuses the widths that are not 32 or 64). -/
def widthOk (bits : Nat) (value : BitVec 64) : Bool := [8, 16, 32, 64].contains bits && decide (value.toNat < 2 ^ bits)

/-- A cartridge: identity copies of 4 KiB, a calibration area of one image, four checkpoint slots (R171, R175). -/
def cartOk (c : Cartridge) : Bool :=
  decide (c.idA.length = 4096) && decide (c.idB.length = 4096) && c.cal.all (fun e => decide (e.1 < 0x3601000)) &&
    c.worn.all (fun e => decide (e.1 < 0x3601000)) && c.slots.all (fun e => decide (e.1 < 4)) && c.badSlots.all (fun i => decide (i < 4))

/-- Whether a command is well formed. -/
def wellFormed (i : Instr) : Bool :=
  match i with
  | .registerWrite _ addr bits value => decide (0x20000000 ≤ addr.toNat) && decide (addr.toNat < 0x30000000) && widthOk bits value
  | .hsTimeout x => decide (x.blk ≠ x.into)
  | .frameStart _ | .listTake _ => true
  | .layerFetchBurst _ _ len => decide (0 < len) && decide (len ≤ 64)
  | .correctionLine _ | .correctionDeadline _ | .writebackPublish _ | .railRaise _ | .commitWindowClose | .go _ _ _
  | .cancel | .add _ _ | .sub _ _ | .and _ _ | .or _ _ | .xor _ _ | .sll _ _ | .srl _ _ | .sra _ _ | .slt _ _
  | .sltu _ _ | .mul _ _ | .mulh _ _ | .mulhu _ _ | .div _ _ | .divu _ _ | .rem _ _ | .remu _ _ | .min _ _ | .max _ _
  | .minu _ _ | .maxu _ _ | .clz _ _ | .ctz _ _ | .popc _ _ | .ror _ _ | .addi _ _ | .andi _ _ | .ori _ _ | .xori _ _
  | .slti _ _ | .sltiu _ _ | .lui _ _ | .insh _ _ | .auipc _ _ | .shi _ _ | .lb _ _ | .lbu _ _ | .lh _ _ | .lhu _ _
  | .lw _ _ | .lwu _ _ | .ld _ _ | .sb _ _ | .sh _ _ | .sw _ _ | .sd _ _ | .beq _ _ | .bne _ _ | .blt _ _ | .bge _ _
  | .bltu _ _ | .bgeu _ _ | .j _ _ | .jl _ _ | .jlr _ _ | .bpa _ _ | .bpz _ _ | .atomicSwap _ _ | .atomicAdd _ _
  | .atomicAnd _ _ | .atomicOr _ _ | .atomicXor _ _ | .atomicMin _ _ | .atomicMax _ _ | .atomicMinu _ _
  | .atomicMaxu _ _ | .atomicCas _ _ | .syscall _ _ | .breakI _ _ | .eret _ _ | .wfi _ _ | .yield _ _ | .crd _ _
  | .cwr _ _ | .cswp _ _ | .cset _ _ | .cclr _ _ | .ctxstart _ _ | .ctxstop _ _ | .ctxcrd _ _ | .ctxcwr _ _
  | .ctxgrd _ _ | .ctxgwr _ _ | .fence _ _ | .fenceI _ _ | .dclean _ _ | .dinv _ _ | .iinv _ _ | .tlbinv _ _
  | .pand _ _ | .por _ _ | .pxor _ _ | .pandn _ _ | .pnot _ _ | .pfromg _ _ | .ptog _ _ | .pfirst _ _ | .psetn _ _
  | .vadd _ _ | .vsub _ _ | .vmul _ _ | .vmulhu _ _ | .vand _ _ | .vor _ _ | .vxor _ _ | .vsll _ _ | .vsrl _ _
  | .vsra _ _ | .vminu _ _ | .vmaxu _ _ | .vmin _ _ | .vmax _ _ | .vsel _ _ | .vcmpeq _ _ | .vcmpltu _ _
  | .vcmplt _ _ | .vsplat _ _ | .vextr _ _ | .vredadd _ _ | .vredmaxu _ _ | .vmov _ _ | .vidx _ _ | .vadds _ _
  | .vmuls _ _ | .pcnt _ _ | .vld _ _ | .vst _ _ | .padds _ _ | .psubs _ _ | .pmulq _ _ | .pmulg _ _ | .plerp _ _
  | .plut _ _ | .pmat _ _ | .ppack _ _ | .punpkon _ _ | .punpki _ _ | .interruptTake _ | .nmiDelivery | .wfiWake _
  | .preemptionTimerExpiry _ | .preemptionTrap _ | .eoi _ | .softwareInterrupt _ | .dmaStart _ | .dmaResume _
  | .dmaPause _ | .dmaAbort _ | .dmaTransferBurst _ | .descriptorComplete _ | .push _ | .pop _ | .pushIdle _
  | .flush _ | .mark _ | .rewind _ | .unmark _ | .queueReset _ | .queueResetScanEnd _ | .queueCmdComplete _
  | .parkResume _ | .parkAbort _ | .crcAlgWrite _ _ _ | .crcDin _ _ _ _ | .timerExpiry _ | .mbxClaim _ _
  | .mbxSend _ _ | .mbxAck _ _ | .register _ | .publish _ _ | .acquire _ _ | .release _ | .handleCmdComplete
  | .handleFreed _ => true
  | .rxPacket _ p => p.samples.all (fun x => decide (x < 4096))
  | .previewFrameSent _ => true
  | .cartPresence c => cartOk c
  | .cartRemoval | .attach | .authTimeout | .prepare _ | .exportCal | .calWrite _ | .checkpoint | .shutdownCkpt
  | .cartCmdComplete | .ckptDue | .ckptDeferredStart | .refreshStart _ | .line _ | .scanLoop _ | .setc _ | .jmp _
  | .brref _ | .scanEnd _ => true
  | .teBroadcastWrite _ a bits value => decide (a.toNat < 0x8000) && widthOk bits value
  | .slotStart _ _ => true
  | .retReceived _ r => decide (r.codes.length = 192)
  | .bringup _ | .retrain _ | .down _ | .loopNes _ _ | .loopNep _ _ | .loopFar _ _ | .loopEnd _ | .trainStart _
  | .trainSuccess _ | .trainTimeout _ | .capAnswer _ _ _ | .capTimeout _ | .errWindowClose _ | .returnLockLoss _
  | .rilSend _ | .rillLatchReport _ | .diagSweep | .sweepComplete | .diagInit | .diagMask _ _ _ _
  | .diagUnmask _ _ _ _ | .diagClear _ _ _ _ | .diagCmdComplete | .railRestart _ | .railStart _ | .railHoldEntry _ _
  | .startFail _ | .railTrackEntry _ | .railTrackExit _ | .railSlewOff _ | .ov _ _ | .uv _ _ | .oc _ | .senseFail _ _
  | .phaseFail _ _ | .phaseCurrentLimit _ _ => true
  | .thmSample es die => decide (es.length = 16) && decide (die.length = 12)
  | .throttleHoldEnd | .fanTachWindow _ _ | .fanSpinupEnd _ | .fanModeWrite _ _ | .rookPowerOn | .rookInitComplete _
  | .inputFilterChange _ _ | .tpoPulse _ _ | .discrepancy _ | .handActuated _ | .handReleased _ | .pairFault _
  | .sackRelease _ | .sackRearm | .groupClose _ | .groupCloseHsOn _ | .groupSafetyOpen _ | .groupOrderlyOpen _
  | .groupOrderlyLsOff _ | .switchFault _ _ | .railOkChange _ | .railCauseClear _ | .rookCartDetect _ | .switchTest _
  | .switchTestEnd _ _ | .testForced _ | .tapPacket _ _ | .zoneBinClose | .tapLost _ _ | .stuckLineAssert _
  | .stuckLineDeassert _ | .stuckOvfLine | .endgameExpiry | .halt | .req _ _ | .rookRestart _ _ | .paramLoad _
  | .paramRead _ | .lock _ | .nonce _ | .unlock _ | .logRead _ | .rookCmdComplete | .moduleInsert _ _ => true
  | .chainFrameRx _ frame _ _ _ => decide (14 ≤ frame.length)
  | .hostTx | .ptpSyncSample _ _ _ | .ptpMessage _ _ | .holdoverEntry _ | .castle | .castleStep | .timeStep
  | .tlEnWrite _ | .frameEpochWrite _ | .aonRatioCalibrate | .arm _ | .disarm _ | .satCommitSubmit _
  | .chainAssign _ _ | .statusSend => true
  | .digestWalk _ _ w => decide (w.ref.length = 16)
  | .digestResult _ frame => decide (14 ≤ frame.length)
  | .wake _ _ => true
  | .dmxPacket _ slots => decide (slots.length ≤ 512)
  | .dmxLoss => true
  | .rdmRequest packet => decide (packet.length ≤ 257)
  | .rdmSend _ | .rdmResponseSent | .rdmLate => true
  | .canFrameRx _ f => decide (f.data.length ≤ 64)
  | .canTxItem _ | .canTxDone _ | .busOff _ | .canRestart _ | .busOffRecoveryEnd _ => true
  | .offer _ _ header => decide (header.length = 512)
  | .answer _ _ _ _ | .data _ _ _ _ _ | .blockResult _ _ _ _ | .done _ _ | .final _ _ _ | .abortFrame _ _ _
  | .imageComplete | .sessionTimeout _ | .localOffer | .localBlock | .localDone | .abandon | .confirm | .rollback
  | .activate _ | .erase _ | .hash | .updCmdComplete | .trialExpired | .updCtrlWrite _ | .romBoot _ | .powerRequestS1
  | .powerRequestS2 | .powerRequestA | .powerRequestOff | .powerStepAgree | .powerStepDelayEnd | .powerStepTimeout
  | .domainSwitch | .wakeEvent _ | .pfail | .supplyEnRise | .supplyRetry | .powerOnResetEnd | .systemReset
  | .rstPinStuck | .resetPinRearm | .warmReset | .svcPinStuck | .svcPinRearm | .rstCmdSystem _ | .rstCmdWarm _
  | .blockResetEnd _ | .resetShadowEnd _ | .fltForce _ _ | .fltCapClr _ | .scrubRead _ _ | .ddrTrainingEnd _
  | .systemResetEnd | .linkChange _ _ | .moduleRemoval _ | .pllUnlock | .xtalFail | .ddrTherm _ _ _
  | .canBusError _ _ _ _ | .readbackChange _ _ _ | .returnBlockLock _ | .checkpointWritten | .blockWriteDone _ _ => true

/-- Well-formed commands. -/
abbrev WellFormed (i : Instr) : Prop := wellFormed i = true

end Sys2Proof
end

