-- ==== Sys2Proof/Safety.lean ====
section
/-! DEFINITION. The terms in which claims speak of a state: the canonical forms of memory and of the tables, and a queue of well-formed commands. -/

namespace Sys2Proof.Machine

/-- The canonical form of memory: addresses strictly rising, and no entry equal to what an unlisted address reads as. -/
def Memory.wf (m : List Host.Cell) : Bool := SMap.wf m 0

/-- Every waiting command is well formed. -/
def State.queueOk (s : State) : Prop := ∀ c ∈ s.pending, WellFormed c

/-- Every gate of Rook's switches is off (R305). -/
def State.gatesOff (s : State) : Prop := ∀ g, ((s.rgroup g).hs.gate = false ∧ (s.rgroup g).ls.gate = false)

/-- An instruction of context h is issued and its fetch meets no fault: the context is RUNNING, its core runs, and `u`
is the state once the fetch has been translated. -/
def State.ready (s : State) (h : Hart) (u : State) : Prop :=
  (s.hart h).st = .running ∧ s.coreRuns h = true ∧ fetchCheck h s = (none, u)

/-- Between u and t, context h went on to its next instruction and its general register d took the value v (g0 keeps reading
zero); nothing else changed. -/
def wroteG (h : Hart) (d : Fin 32) (v : Word) (u t : State) : Prop :=
  (∃ m, t = setHart h { u.hart h with g := m, pc := (u.hart h).pc + 4 } u) ∧
  ∀ r : Fin 32, t.g h r = if r = d ∧ r ≠ 0 then v else u.g h r

/-- The same for a predicate register (p0 keeps reading all ones). -/
def wroteP (h : Hart) (d : Fin 8) (v : Word) (u t : State) : Prop :=
  (∃ m, t = setHart h { u.hart h with p := m, pc := (u.hart h).pc + 4 } u) ∧
  ∀ r : Fin 8, t.p h r = if r = d ∧ r ≠ 0 then v else u.p h r

/-- A vector instruction completed: .vstart is 0, element i of vd is `g i` where `act i`, and the old element elsewhere; the other
vector registers and everything else are as before. -/
def wroteV (h : Hart) (d : Fin 16) (w : Nat) (act : Nat → Prop) (g : Nat → Nat) (u t : State) : Prop :=
  (∃ m, t = setHart h { u.hart h with v := m, vstart := 0, pc := (u.hart h).pc + 4 } u) ∧
  (∀ r : Fin 16, r ≠ d → t.v h r = u.v h r) ∧
  ∀ i, i < 512 / w → (act i → elem w (t.v h d) i = g i % 2 ^ w) ∧ (¬ act i → elem w (t.v h d) i = elem w (u.v h d) i)

/-- A vector instruction completed whose result is a general register. -/
def wroteVG (h : Hart) (d : Fin 32) (v : Word) (u t : State) : Prop :=
  (∃ m, t = setHart h { u.hart h with g := m, vstart := 0, pc := (u.hart h).pc + 4 } u) ∧
  ∀ r : Fin 32, t.g h r = if r = d ∧ r ≠ 0 then v else u.g h r

/-- Element i is active (R56): its predicate bit is set and it is not below .vstart. -/
abbrev State.actE (u : State) (h : Hart) (pg : Fin 8) (i : Nat) : Prop := (u.p h pg).getLsbD i = true ∧ u.vstart h ≤ i

/-- The low 32 bits of a word, sign-extended: a result under W = 1. -/
def sx32 (x : Word) : Word := (x.setWidth 32).signExtend 64

/-- Quotients and remainders of R48: rounded toward zero; a division by zero gives all ones and the dividend. -/
def quotS {n : Nat} (a b : BitVec n) : BitVec n := if b = 0 then BitVec.allOnes n else BitVec.ofInt n (a.toInt.tdiv b.toInt)
def quotU {n : Nat} (a b : BitVec n) : BitVec n := if b = 0 then BitVec.allOnes n else BitVec.ofNat n (a.toNat / b.toNat)
def remS {n : Nat} (a b : BitVec n) : BitVec n := if b = 0 then a else BitVec.ofInt n (a.toInt.tmod b.toInt)
def remU {n : Nat} (a b : BitVec n) : BitVec n := if b = 0 then a else BitVec.ofNat n (a.toNat % b.toNat)

/-- n bytes of DRAM or general scratch with no error mark in the 128-bit words that hold them. -/
def State.plainMem (u : State) (pa n : Nat) : Prop :=
  (u.region pa = .dram ∨ u.region pa = .scratch) ∧ u.region (pa + n - 1) ≠ .none ∧
  ∀ x ∈ wordsOf pa n, x ∉ u.ue ∧ x ∉ u.ce

/-- No cache holds, under the lines of an access, a byte from before a real-time write (R90). -/
def State.fresh (u : State) (pa n : Nat) : Prop := anyBytes u.cached (lineBase pa) (linesLen pa n) = false

/-- Between u and v nothing but fault register sets changed. -/
def sameButFlt (u v : State) : Prop := v = { u with flt := v.flt }

/-- A sign-extended load value. -/
def sxBytes (l : List Byte) : Word := BitVec.ofInt 64 (toInt (8 * l.length) (leNat l))

/-- A zero-extended load value. -/
def zxBytes (l : List Byte) : Word := BitVec.ofNat 64 (leNat l)

/-- Bytes pa … pa + n − 1 of memory hold the low n bytes of v, least significant first, every other byte is as before, context h
stands as `k`, and no register of any other context and no device register changed. -/
def stored (h : Hart) (k : HartState) (pa n v : Nat) (u t : State) : Prop :=
  (∀ x, t.byte x = if pa ≤ x ∧ x < pa + n then BitVec.ofNat 8 (v / 256 ^ (x - pa)) else u.byte x) ∧
  t.hart h = k ∧ (∀ j, j ≠ h → t.hart j = u.hart j) ∧
  t.regs = u.regs ∧ t.staged = u.staged ∧ t.inForce = u.inForce ∧ t.flt = u.flt ∧ t.qm = u.qm

/-- A queue command may act: QM is not in reset, its slot is free, its reserved bits are zero, its queue is enabled, OK, with both
copies of its pointers alike and no parked pop. -/
def State.qmReady (s : State) (op : QmOp) : Prop :=
  s.inReset .qm = false ∧ s.fld (F.qmSlotResSTATE.slot op.slot.val) ≠ 1 ∧ s.fld (F.qmSlotResSTATE.slot op.slot.val) ≠ 3 ∧
  op.rsv = 0 ∧ s.flag (F.qmQCfgEN.q op.queue.val) = true ∧ (s.queue op.queue.val).st = .ok ∧
  (s.queue op.queue.val).a = (s.queue op.queue.val).b ∧ s.popParked op.queue.val = false

end Sys2Proof.Machine
end

