-- ==== Sys2Proof/Certificates/Slice0/Obligations.lean ====
section
/-! DEFINITION. The statements for the provers, family by family in the order of the opcode table. -/

open Sys2Proof Sys2Proof.Machine

/-- Integer register operations (Table: Integer functions, R46, R48): for every operand value each one completes, its result reaches
gd (g0 keeps reading zero), the context goes on to its next instruction, and nothing else changes. Division by zero and the signed
overflow of a division have results, not traps. Immediate operations (Table: Major opcodes): sign-extended immediates but for
ANDI, ORI and XORI, the built constants of LUI, AUIPC and INSH, and SHI. A W = 1 shift by sh takes sh[4:0], which is the model's
reading (log entry 13). -/
def Obligations.IntegerResults : Prop :=
  (∀ (h : Hart) (f : RForm) (s u : State), s.ready h u → f.z = 0 →
      let a := u.g h f.a
      let b := u.g h f.b
      let x : BitVec 32 := a.setWidth 32
      let y : BitVec 32 := b.setWidth 32
      let k := b.toNat % 64
      let j := b.toNat % 32
      let done := fun (c : Instr) (v : Word) => ∃ t, exec c s = .next t ∧ wroteG h f.d v u t
      done (.add h f) (if f.w then sx32 (a + b) else a + b) ∧
      done (.sub h f) (if f.w then sx32 (a - b) else a - b) ∧
      done (.sll h f) (if f.w then sx32 (a <<< j) else a <<< k) ∧
      done (.srl h f) (if f.w then (BitVec.ofNat 32 (x.toNat / 2 ^ j)).signExtend 64 else BitVec.ofNat 64 (a.toNat / 2 ^ k)) ∧
      done (.sra h f) (if f.w then (BitVec.ofInt 32 (x.toInt / 2 ^ j)).signExtend 64 else BitVec.ofInt 64 (a.toInt / 2 ^ k)) ∧
      done (.mul h f) (if f.w then sx32 (a * b) else a * b) ∧
      done (.div h f) (if f.w then (quotS x y).signExtend 64 else quotS a b) ∧
      done (.divu h f) (if f.w then (quotU x y).signExtend 64 else quotU a b) ∧
      done (.rem h f) (if f.w then (remS x y).signExtend 64 else remS a b) ∧
      done (.remu h f) (if f.w then (remU x y).signExtend 64 else remU a b) ∧
      (f.w = false →
        done (.and h f) (a &&& b) ∧ done (.or h f) (a ||| b) ∧ done (.xor h f) (a ^^^ b) ∧
        done (.slt h f) (if a.toInt < b.toInt then 1 else 0) ∧ done (.sltu h f) (if a.toNat < b.toNat then 1 else 0) ∧
        done (.mulh h f) (BitVec.ofInt 64 (a.toInt * b.toInt / 2 ^ 64)) ∧
        done (.mulhu h f) (BitVec.ofNat 64 (a.toNat * b.toNat / 2 ^ 64)) ∧
        done (.min h f) (if a.toInt ≤ b.toInt then a else b) ∧ done (.max h f) (if b.toInt ≤ a.toInt then a else b) ∧
        done (.minu h f) (if a.toNat ≤ b.toNat then a else b) ∧ done (.maxu h f) (if b.toNat ≤ a.toNat then a else b) ∧
        done (.ror h f) (a.rotateRight k) ∧
        done (.popc h f) (BitVec.ofNat 64 ((List.range 64).countP (fun i => a.getLsbD i))) ∧
        (∃ n ≤ 64, done (.clz h f) (BitVec.ofNat 64 n) ∧ (∀ i, 64 ≤ i + n → a.getLsbD i = false) ∧
          (n < 64 → a.getLsbD (63 - n) = true)) ∧
        (∃ n ≤ 64, done (.ctz h f) (BitVec.ofNat 64 n) ∧ (∀ i, i < n → a.getLsbD i = false) ∧ (n < 64 → a.getLsbD n = true)))) ∧
  (∀ (h : Hart) (s u : State), s.ready h u →
      let done := fun (c : Instr) (d : Fin 32) (v : Word) => ∃ t, exec c s = .next t ∧ wroteG h d v u t
      (∀ f : IForm,
        let a := u.g h f.a
        let m : Word := f.imm.signExtend 64
        let z : Word := f.imm.setWidth 64
        done (.addi h f) f.d (a + m) ∧ done (.andi h f) f.d (a &&& z) ∧ done (.ori h f) f.d (a ||| z) ∧
        done (.xori h f) f.d (a ^^^ z) ∧ done (.slti h f) f.d (if a.toInt < f.imm.toInt then 1 else 0) ∧
        done (.sltiu h f) f.d (if a.toNat < m.toNat then 1 else 0) ∧
        (f.a = 0 → done (.lui h f) f.d (m <<< 16) ∧ done (.auipc h f) f.d ((u.hart h).pc + (m <<< 16)))) ∧
      (∀ f : HForm, f.z = 0 → ∃ v : Word, done (.insh h f) f.d v ∧
        ∀ i < 64, v.getLsbD i = if 16 * f.h.val ≤ i ∧ i < 16 * f.h.val + 16 then f.imm.getLsbD (i - 16 * f.h.val)
          else (u.g h f.d).getLsbD i) ∧
      (∀ f : SForm, f.z = 0 →
        let a := u.g h f.a
        let x : BitVec 32 := a.setWidth 32
        let k := f.sh.val
        let j := f.sh.val % 32
        (f.kind = 0 → done (.shi h f) f.d (if f.w then sx32 (a <<< j) else a <<< k)) ∧
        (f.kind = 1 → done (.shi h f) f.d
          (if f.w then (BitVec.ofNat 32 (x.toNat / 2 ^ j)).signExtend 64 else BitVec.ofNat 64 (a.toNat / 2 ^ k))) ∧
        (f.kind = 2 → done (.shi h f) f.d
          (if f.w then (BitVec.ofInt 32 (x.toInt / 2 ^ j)).signExtend 64 else BitVec.ofInt 64 (a.toInt / 2 ^ k))) ∧
        (f.kind = 3 → done (.shi h f) f.d (if f.w then (x.rotateRight j).signExtend 64 else a.rotateRight k))))

/-- Encodings that R47 calls illegal take cause 0x06 with the instruction word in .tval and the pc unmoved: a non-zero field shown as
0 (subcause 0x02), W on a function that does not list it, a vector instruction while VE is 0 (R54, subcause 0x01), element size
0b11, an unlisted control register (subcause 0x03). Misaligned scalar accesses and atomics raise cause 0x05 with the address in
.tval, before any translation, and change neither memory nor gd (R49, R50, R64); where it would have met a register window its
block captures the access (R11). An instruction below its level raises cause 0x04 with subcause 0x00 and its word in .tval (R47):
the kernel instructions at task level. On Rook the vector and pixel opcodes raise 0x06, and control registers 4, 6 and 12 do not
exist (R72). -/
def Obligations.InstructionTraps : Prop :=
  (∀ (h : Hart) (s u : State), s.ready h u →
      let traps := fun (c : Instr) (sub : Nat) => ∃ w < 2 ^ 32, exec c s =
        .next (enterTrap h (BitVec.ofNat 64 (sub * 256 + 6)) (BitVec.ofNat 64 w) (u.hart h).pc u)
      (∀ f : RForm, f.z ≠ 0 → traps (.add h f) 2 ∧ traps (.mulhu h f) 2) ∧
      (∀ f : RForm, f.z = 0 → f.w = true → traps (.and h f) 0 ∧ traps (.slt h f) 0 ∧ traps (.clz h f) 0 ∧ traps (.ror h f) 0) ∧
      (∀ f : IForm, f.a ≠ 0 → traps (.lui h f) 2 ∧ traps (.auipc h f) 2) ∧
      (∀ f : AForm, f.z ≠ 0 → traps (.atomicSwap h f) 2) ∧
      (∀ f : XForm, crInfo f.b.val = none → traps (.crd h f) 3 ∧ traps (.cwr h f) 3) ∧
      (isRook h = true → (∀ f : XForm, (f.b = 4 ∨ f.b = 6 ∨ f.b = 12) → traps (.crd h f) 3 ∧ traps (.cwr h f) 3 ∧ traps (.cswp h f) 3) ∧
        (∀ f : VForm, traps (.vadd h f) 0 ∧ traps (.vcmpeq h f) 0 ∧ traps (.padds h f) 0 ∧ traps (.plut h f) 0) ∧
        (∀ f : VmForm, traps (.vld h f) 0 ∧ traps (.vst h f) 0)) ∧
      (isRook h = false →
      (∀ f : VForm, (u.hart h).sb 8 = false → traps (.vadd h f) 1 ∧ traps (.vsel h f) 1 ∧ traps (.plut h f) 1 ∧ traps (.pmat h f) 1) ∧
      (∀ f : VForm, (u.hart h).sb 8 = true → f.esz = 3 → traps (.vadd h f) 0 ∧ traps (.vcmpeq h f) 0) ∧
      (∀ f : VForm, (u.hart h).sb 8 = true → f.esz ≠ 1 → traps (.padds h f) 0 ∧ traps (.plut h f) 0) ∧
      (∀ f : VmForm, (u.hart h).sb 8 = true → f.esz ≠ 3 → f.mode = 3 → traps (.vld h f) 0 ∧ traps (.vst h f) 0))) ∧
  (∀ (h : Hart) (s u : State), s.ready h u →
      let traps := fun (i : Instr) (k : Acc3) (a : Word) => ∃ v, exec i s = .next (enterTrap h 5 a (u.hart h).pc v) ∧ sameButFlt u v ∧
        (∀ p c b, (dataXlate h k a.toNat u).1 = .ok (p, c) → isRook h = false → u.region p = .regs → Blk.ofAddr p = some b →
          (v.fltSet b).cap.valid = true ∧ (v.fltSet b).stat = (u.fltSet b).stat) ∧
        ((∀ p c, (dataXlate h k a.toNat u).1 = .ok (p, c) → u.region p ≠ .regs) → v = u)
      (∀ f : IForm,
        let a := u.g h f.a + f.imm.signExtend 64
        (a.toNat % 2 ≠ 0 → traps (.lh h f) .read a ∧ traps (.lhu h f) .read a ∧ traps (.sh h f) .write a) ∧
        (a.toNat % 4 ≠ 0 → traps (.lw h f) .read a ∧ traps (.lwu h f) .read a ∧ traps (.sw h f) .write a) ∧
        (a.toNat % 8 ≠ 0 → traps (.ld h f) .read a ∧ traps (.sd h f) .write a)) ∧
      (∀ f : AForm, f.z = 0 →
        let a := u.g h f.a
        a.toNat % (if f.wide then 8 else 4) ≠ 0 → traps (.atomicAdd h f) .read a ∧ traps (.atomicCas h f) .read a)) ∧
  (∀ (h : Hart) (f : XForm) (s u : State), s.ready h u → (u.hart h).pl = 0 →
      let denied := fun (c : Instr) (fn : Nat) =>
        exec c s = .next (enterTrap h 4 (BitVec.ofNat 64 (0x38 * 2 ^ 26 + f.d.val * 2 ^ 21 + f.a.val * 2 ^ 16 + f.b.val * 2 ^ 11 + fn))
          (u.hart h).pc u)
      denied (.eret h f) 2 ∧ denied (.wfi h f) 3 ∧ denied (.ctxstart h f) 0x10 ∧ denied (.ctxstop h f) 0x11 ∧
      denied (.ctxgrd h f) 0x14 ∧ denied (.ctxgwr h f) 0x15 ∧ denied (.dinv h f) 0x1B ∧ denied (.iinv h f) 0x1C ∧
      denied (.tlbinv h f) 0x1D ∧
      (f.b = 1 → denied (.crd h f) 8 ∧ denied (.cwr h f) 9 ∧ denied (.cswp h f) 0xA ∧ denied (.cset h f) 0xB ∧ denied (.cclr h f) 0xC) ∧
      (f.b = 5 → denied (.cwr h f) 9 ∧ denied (.cset h f) 0xB))

/-- Instruction words (R46, R47, Tables: Instruction forms, Major opcodes and the function tables): a word with the opcode, the
function and the fields of an instruction, each at the place its form gives it and at any value, reads back as that instruction
with those fields; a word with an opcode or a function that no table lists, the word of zeros among them, reads as none, and raises
cause 0x06 with subcause 0x00 and the word in .tval; any other word does what its instruction does. -/
def Obligations.InstructionWords : Prop :=
  ∀ h : Hart,
    (∀ f : RForm,
      let is := fun (fn : Nat) (c : Hart → RForm → Instr) => decodeMelfy h
        (0x01 * 2 ^ 26 + f.d.val * 2 ^ 21 + f.a.val * 2 ^ 16 + f.b.val * 2 ^ 11 + f.z.toNat * 2 ^ 9 + b2n f.w * 2 ^ 8 + fn) = some (c h f)
      is 0 .add ∧ is 1 .sub ∧ is 2 .and ∧ is 3 .or ∧ is 4 .xor ∧ is 5 .sll ∧ is 6 .srl ∧ is 7 .sra ∧ is 8 .slt ∧ is 9 .sltu ∧
        is 10 .mul ∧ is 11 .mulh ∧ is 12 .mulhu ∧ is 13 .div ∧ is 14 .divu ∧ is 15 .rem ∧ is 16 .remu ∧ is 17 .min ∧
        is 18 .max ∧ is 19 .minu ∧ is 20 .maxu ∧ is 21 .clz ∧ is 22 .ctz ∧ is 23 .popc ∧ is 24 .ror) ∧
    (∀ f : IForm,
      let is := fun (op : Nat) (c : Hart → IForm → Instr) =>
        decodeMelfy h (op * 2 ^ 26 + f.d.val * 2 ^ 21 + f.a.val * 2 ^ 16 + f.imm.toNat) = some (c h f)
      is 2 .addi ∧ is 3 .andi ∧ is 4 .ori ∧ is 5 .xori ∧ is 6 .slti ∧ is 7 .sltiu ∧ is 8 .lui ∧ is 10 .auipc ∧ is 16 .lb ∧
        is 17 .lbu ∧ is 18 .lh ∧ is 19 .lhu ∧ is 20 .lw ∧ is 21 .lwu ∧ is 22 .ld ∧ is 24 .sb ∧ is 25 .sh ∧ is 26 .sw ∧
        is 27 .sd ∧ is 40 .jlr) ∧
    (∀ f : HForm, decodeMelfy h (0x09 * 2 ^ 26 + f.d.val * 2 ^ 21 + f.z.toNat * 2 ^ 18 + f.h.val * 2 ^ 16 + f.imm.toNat) = some (.insh h f)) ∧
    (∀ f : SForm, decodeMelfy h (0x0B * 2 ^ 26 + f.d.val * 2 ^ 21 + f.a.val * 2 ^ 16 + f.kind.val * 2 ^ 14 + b2n f.w * 2 ^ 13 +
      f.z.toNat * 2 ^ 6 + f.sh.val) = some (.shi h f)) ∧
    (∀ f : BForm,
      let is := fun (op : Nat) (c : Hart → BForm → Instr) =>
        decodeMelfy h (op * 2 ^ 26 + f.a.val * 2 ^ 21 + f.b.val * 2 ^ 16 + f.off.toNat) = some (c h f)
      is 32 .beq ∧ is 33 .bne ∧ is 34 .blt ∧ is 35 .bge ∧ is 36 .bltu ∧ is 37 .bgeu) ∧
    (∀ f : JForm, decodeMelfy h (0x26 * 2 ^ 26 + f.off.toNat) = some (.j h f) ∧
      decodeMelfy h (0x27 * 2 ^ 26 + f.off.toNat) = some (.jl h f)) ∧
    (∀ f : PForm, decodeMelfy h (0x29 * 2 ^ 26 + f.p.val * 2 ^ 23 + f.z.toNat * 2 ^ 16 + f.off.toNat) = some (.bpa h f) ∧
      decodeMelfy h (0x2A * 2 ^ 26 + f.p.val * 2 ^ 23 + f.z.toNat * 2 ^ 16 + f.off.toNat) = some (.bpz h f)) ∧
    (∀ f : AForm,
      let is := fun (fn : Nat) (c : Hart → AForm → Instr) => decodeMelfy h
        (0x30 * 2 ^ 26 + f.d.val * 2 ^ 21 + f.a.val * 2 ^ 16 + f.b.val * 2 ^ 11 + f.z.toNat * 2 ^ 7 + b2n f.rel * 2 ^ 6 +
          b2n f.acq * 2 ^ 5 + b2n f.wide * 2 ^ 4 + fn) = some (c h f)
      is 0 .atomicSwap ∧ is 1 .atomicAdd ∧ is 2 .atomicAnd ∧ is 3 .atomicOr ∧ is 4 .atomicXor ∧ is 5 .atomicMin ∧
        is 6 .atomicMax ∧ is 7 .atomicMinu ∧ is 8 .atomicMaxu ∧ is 9 .atomicCas) ∧
    (∀ f : XForm,
      let is := fun (fn : Nat) (c : Hart → XForm → Instr) =>
        decodeMelfy h (0x38 * 2 ^ 26 + f.d.val * 2 ^ 21 + f.a.val * 2 ^ 16 + f.b.val * 2 ^ 11 + fn) = some (c h f)
      is 0 .syscall ∧ is 1 .breakI ∧ is 2 .eret ∧ is 3 .wfi ∧ is 4 .yield ∧ is 8 .crd ∧ is 9 .cwr ∧ is 10 .cswp ∧
        is 11 .cset ∧ is 12 .cclr ∧ is 16 .ctxstart ∧ is 17 .ctxstop ∧ is 18 .ctxcrd ∧ is 19 .ctxcwr ∧ is 20 .ctxgrd ∧
        is 21 .ctxgwr ∧ is 24 .fence ∧ is 25 .fenceI ∧ is 26 .dclean ∧ is 27 .dinv ∧ is 28 .iinv ∧ is 29 .tlbinv) ∧
    (∀ f : QForm,
      let is := fun (fn : Nat) (c : Hart → QForm → Instr) => decodeMelfy h
        (0x39 * 2 ^ 26 + f.pd.val * 2 ^ 23 + f.pa.val * 2 ^ 20 + f.pb.val * 2 ^ 17 + f.g.val * 2 ^ 12 + fn * 2 ^ 8 + f.z.toNat) = some (c h f)
      is 0 .pand ∧ is 1 .por ∧ is 2 .pxor ∧ is 3 .pandn ∧ is 4 .pnot ∧ is 5 .pfromg ∧ is 6 .ptog ∧ is 7 .pfirst ∧ is 8 .psetn) ∧
    (∀ f : VForm,
      let word := fun (op fn : Nat) => op * 2 ^ 26 + f.vd.val * 2 ^ 22 + f.va.val * 2 ^ 18 + f.vb.val * 2 ^ 14 +
        f.pg.val * 2 ^ 11 + f.esz.val * 2 ^ 9 + fn * 2 ^ 5 + f.ga.val
      (let is := fun (fn : Nat) (c : Hart → VForm → Instr) => decodeMelfy h (word 0x3B fn) = some (c h f);
        is 0 .vcmpeq ∧ is 1 .vcmpltu ∧ is 2 .vcmplt ∧ is 3 .vsplat ∧ is 4 .vextr ∧ is 5 .vredadd ∧ is 6 .vredmaxu ∧ is 7 .vmov ∧
        is 8 .vidx ∧ is 9 .vadds ∧ is 10 .vmuls ∧ is 11 .pcnt) ∧
      (let is := fun (fn : Nat) (c : Hart → VForm → Instr) => decodeMelfy h (word 0x3C fn) = some (c h f);
        is 0 .vadd ∧ is 1 .vsub ∧ is 2 .vmul ∧ is 3 .vmulhu ∧ is 4 .vand ∧ is 5 .vor ∧ is 6 .vxor ∧ is 7 .vsll ∧ is 8 .vsrl ∧
        is 9 .vsra ∧ is 10 .vminu ∧ is 11 .vmaxu ∧ is 12 .vmin ∧ is 13 .vmax ∧ is 14 .vsel) ∧
      (let is := fun (fn : Nat) (c : Hart → VForm → Instr) => decodeMelfy h (word 0x3E fn) = some (c h f);
        is 0 .padds ∧ is 1 .psubs ∧ is 2 .pmulq ∧ is 3 .pmulg ∧ is 4 .plerp ∧ is 5 .plut ∧ is 6 .pmat ∧ is 7 .ppack ∧
        is 8 .punpkon ∧ is 9 .punpki)) ∧
    (∀ f : VmForm,
      let word := fun (st : Nat) => 0x3D * 2 ^ 26 + f.vt.val * 2 ^ 22 + f.ga.val * 2 ^ 17 + f.bx.val * 2 ^ 12 +
        f.pg.val * 2 ^ 9 + f.esz.val * 2 ^ 7 + f.mode.val * 2 ^ 5 + st * 2 ^ 4 + f.z.toNat
      decodeMelfy h (word 0) = some (.vld h f) ∧ decodeMelfy h (word 1) = some (.vst h f)) ∧
    (∀ w : Nat,
      let op := bits w 31 26
      (op ∉ [0x01, 0x02, 0x03, 0x04, 0x05, 0x06, 0x07, 0x08, 0x09, 0x0A, 0x0B, 0x10, 0x11, 0x12, 0x13, 0x14, 0x15, 0x16, 0x18, 0x19, 0x1A,
          0x1B, 0x20, 0x21, 0x22, 0x23, 0x24, 0x25, 0x26, 0x27, 0x28, 0x29, 0x2A, 0x30, 0x38, 0x39, 0x3B, 0x3C, 0x3D, 0x3E] →
        decodeMelfy h w = none) ∧
      (op = 0x01 → 0x18 < bits w 7 0 → decodeMelfy h w = none) ∧ (op = 0x30 → 9 < bits w 3 0 → decodeMelfy h w = none) ∧
      (op = 0x38 → (0x1D < bits w 10 0 ∨ bits w 10 0 ∈ [5, 6, 7, 0xD, 0xE, 0xF, 0x16, 0x17]) → decodeMelfy h w = none) ∧
      (op = 0x39 → 8 < bits w 11 8 → decodeMelfy h w = none) ∧ (op = 0x3B → 11 < bits w 8 5 → decodeMelfy h w = none) ∧
      (op = 0x3C → 14 < bits w 8 5 → decodeMelfy h w = none) ∧ (op = 0x3E → 9 < bits w 8 5 → decodeMelfy h w = none)) ∧
    (∀ (w : Nat) (s : State),
      (∀ c, decodeMelfy h w = some c → runWord h w s = exec c s) ∧
      (∀ u, s.ready h u → decodeMelfy h w = none → runWord h w s = .next (enterTrap h 6 (BitVec.ofNat 64 w) (u.hart h).pc u)))

/-- Scalar loads and stores (R49). A load at an aligned address that translates to plain memory gives gd the bytes there, least
significant first, sign-extended by LB, LH and LW and zero-extended by LBU, LHU and LWU; nothing else changes. Under a line that a
real-time write has passed, a cached load finds either the bytes from before it or the new ones (R90). A store puts the low bytes
of gs at the translated address, and every other byte keeps its value, but for bytes of the stored lines that a cache held from
before a real-time write. Rook reads and writes its own memory, whose map is the model's (log entry 70). -/
def Obligations.LoadsAndStores : Prop :=
  ∀ (h : Hart) (f : IForm) (s u v : State) (pa : Nat) (c : Bool), s.ready h u →
    let a := (u.g h f.a + f.imm.signExtend 64).toNat
    let new := { u.hart h with pc := (u.hart h).pc + 4 }
    let x := (u.g h f.d).toNat
    let load := fun (i : Instr) (n : Nat) (val : List Byte → Word) => a % n = 0 →
      (isRook h = false → dataXlate h .read a u = (.ok (pa, c), v) → v.plainMem pa n →
        (v.fresh pa n → ∃ t, exec i s = .next t ∧ wroteG h f.d (val (v.bytes pa n)) v t) ∧
        (∃ t w l, exec i s = .next t ∧ wroteG h f.d (val l) w t ∧ (w = v ∨ w = drawn v) ∧
          (l = v.bytes pa n ∨ l = v.coreBytes true pa (v.bytes pa n)))) ∧
      (isRook h = true → ∃ t, exec i s = .next t ∧ wroteG h f.d (val (u.rookBytes a n)) u t)
    let store := fun (i : Instr) (n : Nat) => a % n = 0 →
      (isRook h = false → Memory.wf v.mem = true → v.hart h = u.hart h → dataXlate h .write a u = (.ok (pa, c), v) → v.plainMem pa n →
        (v.fresh pa n → ∃ t, exec i s = .next t ∧ stored h new pa n x v t) ∧
        (∃ t, exec i s = .next t ∧ t.hart h = new ∧ t.regs = v.regs ∧ t.flt = v.flt ∧
          (∀ b, pa ≤ b → b < pa + n → t.byte b = BitVec.ofNat 8 (x / 256 ^ (b - pa))) ∧
          (∀ b, (b < lineBase pa ∨ lineBase pa + linesLen pa n ≤ b) → t.byte b = v.byte b))) ∧
      (isRook h = true → SMap.wf u.rook.sram 0 = true → ∃ t, exec i s = .next t ∧ t.hart h = new ∧ t.mem = u.mem ∧ t.regs = u.regs ∧
        ∀ b, SMap.get t.rook.sram b 0 = if a ≤ b ∧ b < a + n then BitVec.ofNat 8 (x / 256 ^ (b - a)) else SMap.get u.rook.sram b 0)
    load (.lb h f) 1 sxBytes ∧ load (.lbu h f) 1 zxBytes ∧ load (.lh h f) 2 sxBytes ∧ load (.lhu h f) 2 zxBytes ∧
    load (.lw h f) 4 sxBytes ∧ load (.lwu h f) 4 zxBytes ∧ load (.ld h f) 8 zxBytes ∧
    store (.sb h f) 1 ∧ store (.sh h f) 2 ∧ store (.sw h f) 4 ∧ store (.sd h f) 8

/-- Branches and jumps: offsets count words from the branch; JL and JLR leave the address of the next instruction; nothing but the pc
and the link register changes. -/
def Obligations.BranchesAndJumps : Prop :=
  ∀ (h : Hart) (s u : State), s.ready h u →
    let pc := (u.hart h).pc
    let goes := fun (c : Instr) (p : Word) => exec c s = .next (setHart h { u.hart h with pc := p } u)
    (∀ f : BForm,
      let a := u.g h f.a
      let b := u.g h f.b
      let dest : Word := pc + 4 * f.off.signExtend 64
      goes (.beq h f) (if a = b then dest else pc + 4) ∧ goes (.bne h f) (if a ≠ b then dest else pc + 4) ∧
      goes (.blt h f) (if a.toInt < b.toInt then dest else pc + 4) ∧ goes (.bge h f) (if b.toInt ≤ a.toInt then dest else pc + 4) ∧
      goes (.bltu h f) (if a.toNat < b.toNat then dest else pc + 4) ∧ goes (.bgeu h f) (if b.toNat ≤ a.toNat then dest else pc + 4)) ∧
    (∀ f : PForm, f.z = 0 →
      let dest : Word := pc + 4 * f.off.signExtend 64
      goes (.bpa h f) (if ∃ i < 64, (u.p h f.p).getLsbD i = true then dest else pc + 4) ∧
      goes (.bpz h f) (if ∃ i < 64, (u.p h f.p).getLsbD i = true then pc + 4 else dest)) ∧
    (∀ f : JForm,
      let dest : Word := pc + 4 * f.off.signExtend 64
      goes (.j h f) dest ∧
      ∃ t m, exec (.jl h f) s = .next t ∧ t = setHart h { u.hart h with g := m, pc := dest } u ∧
        ∀ r : Fin 32, t.g h r = if r = 31 then pc + 4 else u.g h r) ∧
    (∀ f : IForm, ∃ t m, exec (.jlr h f) s = .next t ∧
        t = setHart h { u.hart h with g := m, pc := (u.g h f.a + f.imm.signExtend 64) &&& ~~~3 } u ∧
        ∀ r : Fin 32, t.g h r = if r = f.d ∧ r ≠ 0 then pc + 4 else u.g h r)

/-- Atomics (Table: Atomic functions, R51): on aligned plain memory that may be read and written, gd takes the old value
(sign-extended for 32 bits) and memory the new one; ACQ and REL change neither. On Rook they act on its own memory (log entry 70). -/
def Obligations.AtomicsReadModifyWrite : Prop :=
  (∀ (h : Hart) (f : AForm) (s u : State), s.ready h u → f.z = 0 → isRook h = true → SMap.wf u.rook.sram 0 = true →
    let a := (u.g h f.a).toNat
    let n := if f.wide then 8 else 4
    let old := leNat (u.rookBytes a n)
    let b := (u.g h f.b).toNat
    let cmp := (u.g h f.d).toNat
    let done := fun (i : Instr) (new : Nat) => ∃ t, exec i s = .next t ∧ (t.hart h).pc = (u.hart h).pc + 4 ∧ t.mem = u.mem ∧
      t.regs = u.regs ∧ leNat (t.rookBytes a n) = new % 2 ^ (8 * n) ∧
      ∀ k : Fin 32, t.g h k = if k = f.d ∧ k ≠ 0 then BitVec.ofInt 64 (toInt (8 * n) old) else u.g h k
    a % n = 0 → done (.atomicSwap h f) b ∧ done (.atomicAdd h f) (old + b) ∧ done (.atomicAnd h f) (old &&& b) ∧
      done (.atomicOr h f) (old ||| b) ∧ done (.atomicXor h f) (old ^^^ b) ∧
      done (.atomicCas h f) (if old = cmp % 2 ^ (8 * n) then b else old)) ∧
  ∀ (h : Hart) (f : AForm) (s u v w : State) (pa : Nat) (c : Bool), s.ready h u → f.z = 0 → isRook h = false → w.fresh pa (if f.wide then 8 else 4) →
    let a := (u.g h f.a).toNat
    let n := if f.wide then 8 else 4
    a % n = 0 → dataXlate h .read a u = (.ok (pa, c), v) → dataXlate h .write a v = (.ok (pa, c), w) → w.plainMem pa n →
    w.hart h = u.hart h → Memory.wf w.mem = true →
    let old := leNat (w.bytes pa n)
    let b := (u.g h f.b).toNat
    let cmp := (u.g h f.d).toNat
    let m := 2 ^ (8 * n)
    let sg := toInt (8 * n)
    let done := fun (i : Instr) (new : Nat) => ∃ t r, exec i s = .next t ∧
      stored h { u.hart h with g := r, pc := (u.hart h).pc + 4 } pa n new w t ∧
      ∀ k : Fin 32, t.g h k = if k = f.d ∧ k ≠ 0 then BitVec.ofInt 64 (sg old) else u.g h k
    done (.atomicSwap h f) b ∧ done (.atomicAdd h f) (old + b) ∧ done (.atomicAnd h f) (old &&& b) ∧
    done (.atomicOr h f) (old ||| b) ∧ done (.atomicXor h f) (old ^^^ b) ∧
    done (.atomicMin h f) (if sg old ≤ sg b then old else b) ∧ done (.atomicMax h f) (if sg b ≤ sg old then old else b) ∧
    done (.atomicMinu h f) (min old (b % m)) ∧ done (.atomicMaxu h f) (max old (b % m)) ∧
    done (.atomicCas h f) (if old = cmp % m then b else old)

/-- R61: trap entry. From task or kernel level with KT 0 it fills the kernel bank, keeps the old level and IE in PPL and PIE, clears
IE, sets KT and goes to .ivec at kernel level. From monitor level, with KT 1, and for an NMI, it does the same in the monitor bank
and goes to .mivec at monitor level, MT being 0. SYSCALL, BREAK and YIELD at task level take causes 0x20, 0x21 and 0x31 with .epc
at the instruction itself (R60); YIELD above task level only goes on; ERET returns through the bank of its level (R62); WFI leaves
the context WAITING after it. A monitor-bank trap taken while MT is 1 enters no handler: the context becomes DEAD with its
registers as they were, and MEL raises CTX_DEAD, source 3 of its fault set, with the core and context in the capture (R62); of
Rook's context, which is none of MEL's, MEL raises nothing (log entry 70). -/
def Obligations.TrapEntryAndReturn : Prop :=
  (∀ (h : Hart) (cause tval epc : Word) (s : State),
      let k := s.hart h
      (k.pl < 2 → k.sb 6 = false →
        let t := (enterTrap h cause tval epc s).hart h
        t.epc = epc ∧ t.cause = cause ∧ t.tval = tval ∧ t.pc = k.ivec ∧ t.pl = 1 ∧ t.sb 6 = true ∧ t.sb 4 = false ∧
        t.sb 5 = k.sb 4 ∧ bits t.status.toNat 3 2 = k.pl ∧ t.g = k.g ∧ t.v = k.v ∧ t.p = k.p ∧
        (∀ i, 7 ≤ i → t.sb i = k.sb i) ∧ (∀ j, j ≠ h → (enterTrap h cause tval epc s).hart j = s.hart j)) ∧
      (¬ (k.pl < 2 ∧ k.sb 6 = false) → k.sb 13 = false →
        let t := (enterTrap h cause tval epc s).hart h
        t.mepc = epc ∧ t.mcause = cause ∧ t.mtval = tval ∧ t.pc = k.mivec ∧ t.pl = 2 ∧ t.sb 13 = true ∧ t.sb 4 = false ∧
        t.sb 12 = k.sb 4 ∧ bits t.status.toNat 11 10 = k.pl ∧ t.g = k.g ∧ t.v = k.v ∧ t.p = k.p ∧ t.epc = k.epc) ∧
      (s.coresOn = true → ∀ id, s.nmiNext = some id → s.nmiHart id = h → k.sb 13 = false →
        ∃ t, exec .nmiDelivery s = .next t ∧ (t.hart h).mepc = k.pc ∧ (t.hart h).mcause = BitVec.ofNat 64 (2 ^ 63 + 2 ^ 62 + id % 1024) ∧
          (t.hart h).pc = k.mivec ∧ (t.hart h).pl = 2 ∧ (t.hart h).sb 13 = true ∧ (t.hart h).sb 4 = false ∧
          (t.hart h).sb 12 = k.sb 4 ∧ bits (t.hart h).status.toNat 11 10 = k.pl ∧ t.nmi = s.nmi.filter (fun i => i != id))) ∧
  (∀ (h : Hart) (f : XForm) (s u : State), s.ready h u →
      let k := u.hart h
      exec (.syscall h f) s = .next (enterTrap h 0x20 0 k.pc u) ∧
      exec (.breakI h f) s = .next (enterTrap h 0x21 0 k.pc u) ∧
      exec (.yield h f) s = .next (if k.pl = 0 then enterTrap h 0x31 0 k.pc u else setHart h { k with pc := k.pc + 4 } u) ∧
      (1 ≤ k.pl → exec (.wfi h f) s = .next (setHart h { k with st := .waiting, pc := k.pc + 4 } u)) ∧
      (k.pl = 1 → ∃ t, exec (.eret h f) s = .next (setHart h t u) ∧ t.pc = k.epc ∧ t.pl = bits k.status.toNat 3 2 ∧
        t.sb 4 = k.sb 5 ∧ t.sb 6 = false ∧ t = { k with pc := t.pc, status := t.status }) ∧
      (k.pl = 2 → ∃ t, exec (.eret h f) s = .next (setHart h t u) ∧ t.pc = k.mepc ∧ t.pl = bits k.status.toNat 11 10 ∧
        t.sb 4 = k.sb 12 ∧ t.sb 13 = false ∧ t = { k with pc := t.pc, status := t.status })) ∧
  (∀ (h : Hart) (cause tval epc : Word) (s : State), (s.hart h).sb 13 = true → ¬ ((s.hart h).pl < 2 ∧ (s.hart h).sb 6 = false) →
      enterTrap h cause tval epc s = if isRook h = true then setHart h { s.hart h with st := .dead } s else
        raise .mel 3 { addr := epc.toNat, mstr := h.val, typ := 0 } (setHart h { s.hart h with st := .dead } s))

/-- Control registers (R44): CRD, CSWP, CSET and CCLR give gd the old value; CWR, CSWP, CSET and CCLR write g[ga], or the old value
with the bits of g[ga] set or cleared; PL is never written by them (R43). The register may be read and written at the level. What
.ctx reads on Rook is a free value, and 4, 6 and 12 do not exist there (R72). -/
def Obligations.ControlRegisterAccess : Prop :=
  (∀ (h : Hart) (f : XForm) (s u : State), s.ready h u → isRook h = true → f.b = 5 → crMay false (u.hart h).pl 5 = true →
    ∃ t v, exec (.crd h f) s = .next t ∧ wroteG h f.d v (drawn u) t) ∧
  ∀ (h : Hart) (f : XForm) (s u : State), s.ready h u → f.b ≠ 11 →
    (isRook h = false ∨ (f.b ≠ 4 ∧ f.b ≠ 5 ∧ f.b ≠ 6 ∧ f.b ≠ 12)) →
    let n := f.b.val
    let k := u.hart h
    let old := k.cr h 0 n
    let a := u.g h f.a
    let wrote := fun (c : Instr) (v : Word) => ∃ m t, exec c s = .next t ∧
      t = setHart h { k.putCr n v with g := m, pc := k.pc + 4 } u ∧
      ∀ r : Fin 32, t.g h r = if r = f.d ∧ r ≠ 0 then old else u.g h r
    (crMay false k.pl n = true → ∃ t, exec (.crd h f) s = .next t ∧ wroteG h f.d old u t) ∧
    (crMay true k.pl n = true → exec (.cwr h f) s = .next (setHart h { k.putCr n a with pc := k.pc + 4 } u)) ∧
    (crMay false k.pl n = true → crMay true k.pl n = true →
      wrote (.cswp h f) a ∧ wrote (.cset h f) (old ||| a) ∧ wrote (.cclr h f) (old &&& ~~~a)) ∧
    (∀ v, (k.putCr n v).pl = k.pl)

/-- Context instructions (R53, R66). On a peer that is STOPPED or PARKED they act; a RUNNING or WAITING peer is left alone; a DEAD one
raises cause 0x04 with subcause 0x04 and its number in .tval. CTXCWR has monitor-level rights, and to .status writes PL up to the
writer's own level. Starting a STOPPED context lets it go on, whatever gb says, which for gb of 1 and more is the model's choice
(log entry 31); gb = 1 delivers a parked fault with the recorded values; CTXSTOP stops any context that is not DEAD, the caller
too. -/
def Obligations.ContextInstructions : Prop :=
  ∀ (h p : Hart) (f : XForm) (s u : State), s.ready h u → 1 ≤ (u.hart h).pl →
    p.val = 4 * (h.val / 4) + (u.g h f.a).toNat % 4 →
    let k := u.hart h
    let q := u.hart p
    let next := { k with pc := k.pc + 4 }
    let both := fun (c : Instr) (q' : HartState) => ∃ t, exec c s = .next t ∧ t.hart p = q' ∧ t.hart h = next ∧
      (∀ j, j ≠ h → j ≠ p → t.hart j = u.hart j) ∧ t.mem = u.mem ∧ t.regs = u.regs
    let dead := fun (c : Instr) => exec c s = .next (enterTrap h (BitVec.ofNat 64 0x404) (BitVec.ofNat 64 (p.val % 4)) k.pc u)
    let listed := (crInfo f.b.val).isSome = true
    (p = h → exec (.ctxstop h f) s = .next (setHart h { k with pc := k.pc + 4, st := .stopped } u) ∧
      exec (.ctxstart h f) s = .next (setHart h next u)) ∧
    (p ≠ h →
      (q.st = .stopped ∨ q.st = .parked →
        (f.b = 0 ∨ q.st = .stopped → both (.ctxstart h f) { q with st := .running }) ∧
        (f.b = 1 → q.st = .parked → both (.ctxstart h f) (q.enterKernel q.cause q.tval q.epc)) ∧
        (∃ t, exec (.ctxgrd h f) s = .next t ∧ wroteG h f.d (u.g p f.b) u t) ∧
        (∃ t, exec (.ctxgwr h f) s = .next t ∧ t.hart h = next ∧
          (∀ r : Fin 32, t.g p r = if r = f.b ∧ r ≠ 0 then u.g h f.d else u.g p r) ∧ (t.hart p).v = q.v ∧ (t.hart p).p = q.p) ∧
        (crMay false k.pl f.b.val = true → f.b ≠ 11 →
          ∃ t, exec (.ctxcrd h f) s = .next t ∧ wroteG h f.d (q.cr p 0 f.b.val) u t) ∧
        (crMay true 2 f.b.val = true → f.b ≠ 0 → f.b ≠ 2 → both (.ctxcwr h f) (q.putCr f.b.val (u.g h f.d))) ∧
        (f.b = 2 → ∃ q', both (.ctxcwr h f) q' ∧ q'.epc = (q.putCr 2 (u.g h f.d)).epc) ∧
        (f.b = 0 → ∃ q', both (.ctxcwr h f) q' ∧ q'.pl = min ((u.g h f.d).toNat % 4) k.pl)) ∧
      (q.st ≠ .dead → both (.ctxstop h f) { q with st := .stopped }) ∧
      (q.st = .running ∨ q.st = .waiting → both (.ctxstart h f) q ∧ both (.ctxgrd h f) q ∧ both (.ctxgwr h f) q ∧
        (listed → both (.ctxcrd h f) q ∧ both (.ctxcwr h f) q)) ∧
      (q.st = .dead → dead (.ctxstart h f) ∧ dead (.ctxgrd h f) ∧ dead (.ctxgwr h f) ∧
        (listed → dead (.ctxcrd h f) ∧ dead (.ctxcwr h f))))

/-- FENCE, FENCE.I and IINV only go on, since this machine performs the accesses of a context in program order (R52); DCLEAN leaves no
old byte of the line in DRAM (R90); DINV forgets the line; TLBINV removes every selected translation (R82) and keeps the others.
Rook has no cache that another initiator sees and no translation: there these only go on (R72, log entry 70). -/
def Obligations.FencesAndInvalidations : Prop :=
  ∀ (h : Hart) (f : XForm) (s u : State), s.ready h u →
    let k := u.hart h
    let a := u.g h f.a
    let b := u.g h f.b
    exec (.fence h f) s = .next (setHart h { k with pc := k.pc + 4 } u) ∧
    exec (.fenceI h f) s = .next (setHart h { k with pc := k.pc + 4 } u) ∧
    (1 ≤ k.pl → exec (.iinv h f) s = .next (setHart h { k with pc := k.pc + 4 } u)) ∧
    (isRook h = true → exec (.dclean h f) s = .next (setHart h { k with pc := k.pc + 4 } u) ∧
      (1 ≤ k.pl → exec (.dinv h f) s = .next (setHart h { k with pc := k.pc + 4 } u) ∧
        exec (.tlbinv h f) s = .next (setHart h { k with pc := k.pc + 4 } u))) ∧
    (∀ v pa c, isRook h = false → dataXlate h .read a.toNat u = (.ok (pa, c), v) → v.hart h = k →
      (∃ t, exec (.dclean h f) s = .next t ∧ t.hart h = { k with pc := k.pc + 4 } ∧ t.mem = v.mem ∧
        t.anyStale (pa / 64 * 64) 64 = false) ∧
      (1 ≤ k.pl → ∃ t, exec (.dinv h f) s = .next t ∧ t.hart h = { k with pc := k.pc + 4 } ∧ t.regs = v.regs ∧
        t.anyStale (pa / 64 * 64) 64 = false)) ∧
    (isRook h = false → 1 ≤ k.pl → ∃ t, exec (.tlbinv h f) s = .next t ∧ t.hart h = { k with pc := k.pc + 4 } ∧ t.mem = u.mem ∧
      ∀ e, e ∈ t.mel.tlb ↔ e ∈ u.mel.tlb ∧
        ¬ ((a.getLsbD 16 = true ∨ e.global = true ∨ e.asid = a.toNat % 65536) ∧
           (b.getLsbD 0 = true ∨ (e.va ≤ b.toNat % 2 ^ 48 / 4096 * 4096 ∧ b.toNat % 2 ^ 48 / 4096 * 4096 < e.va + e.size))))

/-- Predicate operations (Table: Predicate functions) with [7:0] zero; p0 keeps reading all ones. -/
def Obligations.PredicateResults : Prop :=
  ∀ (h : Hart) (f : QForm) (s u : State), s.ready h u → f.z = 0 →
    let a := u.p h f.pa
    let b := u.p h f.pb
    let g := u.g h f.g
    let done := fun (c : Instr) (v : Word) => ∃ t, exec c s = .next t ∧ wroteP h f.pd v u t
    done (.pand h f) (a &&& b) ∧ done (.por h f) (a ||| b) ∧ done (.pxor h f) (a ^^^ b) ∧ done (.pandn h f) (a &&& ~~~b) ∧
    done (.pnot h f) (~~~a) ∧ done (.pfromg h f) g ∧
    (∃ t, exec (.ptog h f) s = .next t ∧ wroteG h f.g a u t) ∧
    (∃ v, done (.pfirst h f) v ∧ ∀ i, v.getLsbD i = true ↔ (a.getLsbD i = true ∧ ∀ j < i, a.getLsbD j = false)) ∧
    (∃ v, done (.psetn h f) v ∧ ∀ i < 64, v.getLsbD i = decide (i < g.toNat))

/-- Vector and pixel instructions with element results (R55, R56, R58): active elements take the result, cut to the element width, the
others of vd keep theirs, .vstart becomes 0. VSEL selects over all elements. Vector instructions whose result is a predicate or a
general register (Table: Vector group B): compares write the bits of the active elements and clear those at and above the element
count. Rook has none of them (R72). -/
def Obligations.VectorResults : Prop :=
  (∀ (h : Hart) (f : VForm) (s u : State), s.ready h u → isRook h = false → (u.hart h).sb 8 = true →
      let w := 8 * 2 ^ f.esz.val
      let act := u.actE h f.pg
      let a := fun i => elem w (u.v h f.va) i
      let b := fun i => elem w (u.v h f.vb) i
      let d := fun i => elem w (u.v h f.vd) i
      let g := (u.g h f.ga).toNat
      let done := fun (c : Instr) (r : Nat → Nat) => ∃ t, exec c s = .next t ∧ wroteV h f.vd w act r u t
      (f.esz ≠ 3 →
        done (.vadd h f) (fun i => a i + b i) ∧ done (.vsub h f) (fun i => a i + 2 ^ w - b i) ∧ done (.vmul h f) (fun i => a i * b i) ∧
        done (.vmulhu h f) (fun i => a i * b i / 2 ^ w) ∧ done (.vand h f) (fun i => a i &&& b i) ∧
        done (.vor h f) (fun i => a i ||| b i) ∧ done (.vxor h f) (fun i => a i ^^^ b i) ∧
        done (.vsll h f) (fun i => a i * 2 ^ (b i % w)) ∧ done (.vsrl h f) (fun i => a i / 2 ^ (b i % w)) ∧
        done (.vsra h f) (fun i => ofInt w (toInt w (a i) / 2 ^ (b i % w))) ∧
        done (.vminu h f) (fun i => min (a i) (b i)) ∧ done (.vmaxu h f) (fun i => max (a i) (b i)) ∧
        done (.vmin h f) (fun i => ofInt w (min (toInt w (a i)) (toInt w (b i)))) ∧
        done (.vmax h f) (fun i => ofInt w (max (toInt w (a i)) (toInt w (b i)))) ∧
        (∃ t, exec (.vsel h f) s = .next t ∧
          wroteV h f.vd w (fun _ => True) (fun i => if (u.p h f.pg).getLsbD i then a i else b i) u t) ∧
        done (.vsplat h f) (fun _ => g) ∧ done (.vmov h f) a ∧ done (.vidx h f) (fun i => i) ∧
        done (.vadds h f) (fun i => a i + g) ∧ done (.vmuls h f) (fun i => a i * g)) ∧
      (f.esz = 1 →
        done (.padds h f) (fun i => min (a i + b i) 0xFFFF) ∧ done (.psubs h f) (fun i => a i - b i) ∧
        done (.pmulq h f) (fun i => (a i * b i + 0x8000) / 2 ^ 16) ∧
        done (.pmulg h f) (fun i => min ((a i * b i + 0x2000) / 2 ^ 14) 0xFFFF) ∧
        done (.plerp h f) (fun i => ((a i : Int) + (((b i : Int) - a i) * d i + 0x8000) / 2 ^ 16).toNat) ∧
        (f.va.val ≤ 13 → done (.pmat h f) (fun i =>
          let x := fun (k : Nat) => (elem 16 (u.v h (Fin.ofNat 16 (f.va.val + k))) i : Int)
          let c := fun (k : Nat) => toInt 16 (g / 2 ^ (16 * k))
          (max 0 (min 0xFFFF ((c 0 * x 0 + c 1 * x 1 + c 2 * x 2 + 0x800) / 2 ^ 12 + c 3))).toNat)) ∧
        done (.ppack h f) (fun i => min (a i) 255 * 16 + min (b i) 15) ∧ done (.punpkon h f) (fun i => a i / 16 % 256) ∧
        done (.punpki h f) (fun i => a i % 16))) ∧
  (∀ (h : Hart) (f : VForm) (s u : State), s.ready h u → isRook h = false → (u.hart h).sb 8 = true → f.esz ≠ 3 →
      let w := 8 * 2 ^ f.esz.val
      let n := 512 / w
      let a := fun i => elem w (u.v h f.va) i
      let b := fun i => elem w (u.v h f.vb) i
      let pd : Fin 8 := Fin.ofNat 8 f.vd.val
      let done := fun (c : Instr) (v : Nat) => ∃ t, exec c s = .next t ∧ wroteVG h f.ga (BitVec.ofNat 64 v) u t
      let cmp := fun (c : Instr) (r : Nat → Prop) => ∃ t m, exec c s = .next t ∧
        t = setHart h { u.hart h with p := m, vstart := 0, pc := (u.hart h).pc + 4 } u ∧
        (∀ q : Fin 8, q ≠ pd → t.p h q = u.p h q) ∧
        (pd ≠ 0 → ∀ i < 64, ((t.p h pd).getLsbD i = true ↔
          i < n ∧ if u.actE h f.pg i then r i else (u.p h pd).getLsbD i = true))
      (f.vd.val < 8 → cmp (.vcmpeq h f) (fun i => a i = b i) ∧ cmp (.vcmpltu h f) (fun i => a i < b i) ∧
        cmp (.vcmplt h f) (fun i => toInt w (a i) < toInt w (b i))) ∧
      done (.vextr h f) (a ((u.g h f.ga).toNat % n)) ∧
      (∀ l : List Nat, l.Nodup → (∀ i, i ∈ l ↔ i < n ∧ u.actE h f.pg i) →
        done (.vredadd h f) ((l.map a).sum) ∧ done (.vredmaxu h f) ((l.map a).foldr max 0)) ∧
      done (.pcnt h f) ((List.range n).countP (fun i => (u.p h pd).getLsbD i)))

/-- Vector loads, stores and PLUT on plain, untranslated memory (R56, R57, R59): every active element is loaded from its address, or
looked up in the table; a unit-stride store writes the active elements and no other byte; a strided or indexed store writes no
byte outside its elements. No cache holds a byte there from before a real-time write. -/
def Obligations.VectorMemory : Prop :=
  ∀ (h : Hart) (s u : State), s.ready h u → isRook h = false → (u.hart h).sb 8 = true →
    ((u.hart h).pl = 2 ∨ (u.hart h).ptroot.getLsbD 0 = false) → Memory.wf u.mem = true →
    (∀ f : VmForm, f.esz ≠ 3 → f.mode ≠ 3 → f.z = 0 → (f.mode = 2 → f.bx.val < 16) →
      let n := 2 ^ f.esz.val
      let cnt := 512 / (8 * n)
      let at_ := fun i => u.vaddr h f i
      (∀ i < cnt, u.actE h f.pg i → at_ i % n = 0 ∧ u.plainMem (at_ i) n ∧ u.fresh (at_ i) n) →
      (∃ t, exec (.vld h f) s = .next t ∧ wroteV h f.vt (8 * n) (u.actE h f.pg) (fun i => leNat (u.bytes (at_ i) n)) u t) ∧
      (∃ t, exec (.vst h f) s = .next t ∧ t.hart h = { u.hart h with vstart := 0, pc := (u.hart h).pc + 4 } ∧
        (∀ x, (∀ i < cnt, u.actE h f.pg i → ¬ (at_ i ≤ x ∧ x < at_ i + n)) → t.byte x = u.byte x) ∧
        (f.mode = 0 → ∀ i < cnt, u.actE h f.pg i → ∀ j < n,
          t.byte (at_ i + j) = BitVec.ofNat 8 (elem (8 * n) (u.v h f.vt) i / 256 ^ j)))) ∧
    (∀ f : VForm, f.esz = 1 →
      let base := (u.g h f.ga).toNat
      let a := fun i => elem 16 (u.v h f.va) i
      (∀ i < 32, u.actE h f.pg i → base % 2 = 0 ∧ base + 514 ≤ 2 ^ 40 ∧ u.plainMem (base + 2 * (a i / 256)) 2 ∧
        u.plainMem (base + 2 * (a i / 256) + 2) 2 ∧ u.fresh (base + 2 * (a i / 256)) 2 ∧ u.fresh (base + 2 * (a i / 256) + 2) 2) →
      let tab := fun j => leNat (u.bytes (base + 2 * j) 2)
      ∃ t, exec (.plut h f) s = .next t ∧ wroteV h f.vd 16 (u.actE h f.pg) (fun i =>
        ((tab (a i / 256) : Int) + (((tab (a i / 256 + 1) : Int) - tab (a i / 256)) * (a i % 256 : Nat) + 0x80) / 2 ^ 8).toNat) u t)

/-- A vector load that meets a fault at element i keeps the elements before it, sets .vstart to i and raises cause 0x07 with the
element's own cause as subcause and its address in .tval (R63): here a misaligned element of an untranslated load, the elements
below it being in plain memory. R65: with FPK 1 a task-level page fault does not enter the handler: the kernel bank records it,
the context is PARKED with its level, IE and KT as they were, and identifier 17 + core is raised. A task-level fault of another
cause enters the handler. -/
def Obligations.ParkedAndPartialFaults : Prop :=
  (∀ (h : Hart) (f : VmForm) (s u : State) (i : Nat), s.ready h u → isRook h = false → (u.hart h).sb 8 = true → (u.hart h).sb 15 = false →
      ((u.hart h).pl = 2 ∨ (u.hart h).ptroot.getLsbD 0 = false) → f.esz ≠ 3 → f.mode ≠ 3 → f.z = 0 → (f.mode = 2 → f.bx.val < 16) →
      let n := 2 ^ f.esz.val
      i < 512 / (8 * n) → u.actE h f.pg i → u.vaddr h f i % n ≠ 0 →
      (∀ j < i, u.actE h f.pg j → u.vaddr h f j % n = 0 ∧ u.plainMem (u.vaddr h f j) n ∧ u.fresh (u.vaddr h f j) n) →
      ∃ m v, exec (.vld h f) s = .next (enterTrap h (BitVec.ofNat 64 0x507) (BitVec.ofNat 64 (u.vaddr h f i)) (u.hart h).pc v) ∧
        v = { setHart h { u.hart h with v := m, vstart := BitVec.ofNat 64 i } u with flt := v.flt } ∧
        (u.region (u.vaddr h f i) ≠ .regs → v.flt = u.flt) ∧
        ∀ j < 512 / (8 * n), elem (8 * n) (v.v h f.vt) j =
          if j < i ∧ u.actE h f.pg j then leNat (u.bytes (u.vaddr h f j) n) else elem (8 * n) (u.v h f.vt) j) ∧
  (∀ (h : Hart) (x : Trap) (s : State), (s.hart h).pl = 0 → (s.hart h).sb 15 = true →
      let t := except h x s
      ((x.code = 1 ∨ x.code = 2 ∨ x.code = 3 ∨ (x.code = 7 ∧ (x.sub = 1 ∨ x.sub = 2 ∨ x.sub = 3))) →
        t.hart h = { s.hart h with st := .parked, epc := (s.hart h).pc, cause := BitVec.ofNat 64 (x.sub * 256 + x.code), tval := x.tval } ∧
        (17 + h.val / 4) ∈ t.evt ∧ (∀ j, j ≠ h → t.hart j = s.hart j) ∧ t.mem = s.mem ∧ t.regs = s.regs) ∧
      (¬ (x.code = 1 ∨ x.code = 2 ∨ x.code = 3 ∨ (x.code = 7 ∧ (x.sub = 1 ∨ x.sub = 2 ∨ x.sub = 3))) → x.code < 256 →
        (s.hart h).sb 6 = false → (t.hart h).pl = 1 ∧ (t.hart h).pc = (s.hart h).ivec))

/-- Interrupts (R68, R69) and the pre-emption timer (R67): a context takes the presented identifier of highest PRIO, the lower number
on a tie, into service; WFI wakes on a presented identifier; an expiry reloads .tcnt and is delivered as cause 0x30 at task level.
EOI ends the service of an identifier, and with it a software interrupt's request; SOFTWARE_INTERRUPT asserts every identifier 33
+ c whose bit is written (R68, R70). -/
def Obligations.InterruptsAndSoftwareEvents : Prop :=
  (∀ (h : Hart) (s : State), s.coreRuns h = true →
      let k := s.hart h
      let prio := fun i => bits (s.irqRoute i) 30 28
      (k.sb 4 = true → (k.st = .running ∨ k.st = .waiting) → s.nmiDue h = false →
        (∀ id ∈ s.presented h, (∀ j ∈ s.presented h, j ≠ id → prio j < prio id ∨ (prio j = prio id ∧ id < j)) →
          ∃ tval, exec (.interruptTake h) s = .next (enterTrap h (BitVec.ofNat 64 (2 ^ 63 + id % 1024)) tval k.pc
            { s with free := s.free + 1, evt := s.evt.filter (fun i => i != id),
                     mel := { s.mel with inService := insertN id s.mel.inService } })) ∧
        (s.presented h = [] → exec (.interruptTake h) s = .next s)) ∧
      (k.st = .waiting →
        (s.presented h ≠ [] → exec (.wfiWake h) s = .next (setHart h { k with st := .running } s)) ∧
        (s.presented h = [] → exec (.wfiWake h) s = .next s)) ∧
      (k.sb 14 = true → k.pl = 0 → (k.st = .running ∨ k.st = .parked) → k.tcnt = 0 →
        exec (.preemptionTimerExpiry h) s = .next (setHart h { k with tcnt := k.tmr, tmrPending := true } s)) ∧
      (k.tmrPending = true → k.pl = 0 → k.st = .running → s.nmiDue h = false → (k.sb 4 = false ∨ s.presented h = []) →
        exec (.preemptionTrap h) s = .next (enterTrap h 0x30 0 k.pc (setHart h { k with tmrPending := false } s)))) ∧
  (∀ (s : State), s.inReset .mel = false →
      (∀ id : BitVec 10, ∃ t, exec (.eoi id) s = .next t ∧ id.toNat ∉ t.mel.inService ∧
        (∀ i, i ≠ id.toNat → (i ∈ t.mel.inService ↔ i ∈ s.mel.inService)) ∧
        (∀ c < 16, t.mel.swi.getLsbD c = (s.mel.swi.getLsbD c && decide (id.toNat ≠ 33 + c))) ∧
        t.mel.harts = s.mel.harts ∧ t.regs = s.regs ∧ t.mem = s.mem ∧ t.evt = s.evt) ∧
      (∀ m : BitVec 16, exec (.softwareInterrupt m) s = .next { s with mel := { s.mel with swi := s.mel.swi ||| m } }) ∧
      (∀ c < 16, s.mel.swi.getLsbD c = true → 33 + c ∈ s.pendingIds))

/-- Channel commands (Table: Channel commands): START of an IDLE or ERROR channel clears COUNT and the position, enters RUNNING and
loads the descriptor, ready to move data when it is well formed; START in another state raises MMU's source 1; PAUSE stops a
RUNNING channel at the next 64-byte destination boundary, at once where it stands at one; RESUME lets a PAUSED or PARKED one go on.
Channels 0 to 7 take no command (R90). One burst between plain physical memories (R93): the bytes up to the next 64-byte boundary
or the end of the row take the pattern of a FILL, or the source's bytes, no other byte changes, and the position moves on; a pause
that was asked for takes effect at a boundary. -/
def Obligations.DmaCommandsAndFill : Prop :=
  (∀ (n : Fin 64) (s : State), s.inReset .mmu = false →
      let k := n.val
      let st := s.chSt k
      let go := setFld (F.dmaChStatSTATE.dma k) 1
      (k < 8 → exec (.dmaStart n) s = .next s ∧ exec (.dmaResume n) s = .next s ∧ exec (.dmaPause n) s = .next s ∧
        exec (.dmaAbort n) s = .next s ∧ exec (.dmaTransferBurst n) s = .next s ∧ exec (.descriptorComplete n) s = .next s) ∧
      (8 ≤ k → st = 0 ∨ st = 4 →
        let va := s.fld (F.dmaChDescADDR.dma k)
        let prep := go (setFld (F.dmaChPosBYTE.dma k) 0 (setFld (F.dmaChPosROW.dma k) 0
          (setChan k { stage := .load, desc := none } (setFld (F.dmaChStatCOUNT.dma k) 0 s))))
        (∀ l v, ioRead (dmaWho k) .general false (s.fld (F.dmaChCtrlASID.dma k)) va 64 prep = (.ok l, v) →
          (descBad l (parseDesc l) (v.flag F.mmuCtrlPHYSOK) = false →
            exec (.dmaStart n) s = .next (setChan k { stage := .data, desc := some (parseDesc l) } v)) ∧
          (descBad l (parseDesc l) (v.flag F.mmuCtrlPHYSOK) = true → exec (.dmaStart n) s = .next (chFault k 0 ⟨0x40, 0⟩ va v))) ∧
        (∀ e v, ioRead (dmaWho k) .general false (s.fld (F.dmaChCtrlASID.dma k)) va 64 prep = (.error e, v) →
          exec (.dmaStart n) s = .next (chFault k (if e.walkRead then 4 else 0) e.cause e.va v))) ∧
      (8 ≤ k → st ≠ 0 → st ≠ 4 →
        exec (.dmaStart n) s = .next (raise .mmu 1 { addr := 0x20024000 + k * 0x100, mstr := 255, typ := 2 } s)) ∧
      (8 ≤ k → st = 1 → ∃ t, exec (.dmaPause n) s = .next t ∧ t.chSt k = (if s.atBoundary k = true then 2 else 1) ∧
        t.chan k = { s.chan k with pausing := !(s.atBoundary k) } ∧ (∀ m, m ≠ k → t.chan m = s.chan m) ∧ t.mem = s.mem ∧
        t.evt = s.evt ∧ t.flt = s.flt) ∧
      (8 ≤ k → st = 2 ∨ st = 3 → (s.chan k).desc ≠ none →
        exec (.dmaResume n) s = .next (go (setChan k { s.chan k with pausing := false } s))) ∧
      (8 ≤ k → st = 0 → exec (.dmaAbort n) s = .next s) ∧
      (8 ≤ k → st ≠ 0 → (s.chan k).desc = none → exec (.dmaAbort n) s =
        .next (setChan k {} (setFld (F.dmaChStatSTATE.dma k) 0 (setFld (F.dmaChStatRESULT.dma k) 0x41 s)))) ∧
      (8 ≤ k → st = 1 ∨ st = 2 → ∀ d, (s.chan k).desc = some d → ∃ t, exec (.dmaAbort n) s = .next t ∧
        t.chSt k = 0 ∧ t.fld (F.dmaChStatRESULT.dma k) = 0x41 ∧ (t.chan k).desc = none)) ∧
  (∀ (n : Fin 64) (d : DmaDesc) (s : State), 8 ≤ n.val → s.inReset .mmu = false → s.outranked n.val = false →
      s.chSt n.val = 1 → (s.chan n.val).stage = .data → (s.chan n.val).desc = some d → d.kind ≤ 2 → d.physDst = true →
      Memory.wf s.mem = true → SMap.find s.hsLate (64 + n.val) = none →
      let row := s.fld (F.dmaChPosROW.dma n.val)
      let byte := s.fld (F.dmaChPosBYTE.dma n.val)
      let at_ := fun (base : Word) (stride : Int) => (((base.toNat : Int) + stride * row + byte) % (2 ^ 64 : Int)).toNat
      let a := at_ d.dst (if d.kind = 0 then 0 else d.dstride)
      let b := at_ d.src (if d.kind = 1 then d.sstride else 0)
      let k := min (64 - a % 64) (d.width - byte)
      byte < d.width → row < d.rows → d.rows < 2 ^ 32 → d.width < 2 ^ 32 → s.plainMem a k →
      (d.kind ≠ 2 → d.physSrc = true ∧ s.plainMem b k ∧ s.region (b + k - 1) = s.region b) →
      ((s.chan n.val).pausing = true → byte + k < d.width) →
      ∃ t, exec (.dmaTransferBurst n) s = .next t ∧
        (∀ x, t.byte x = if a ≤ x ∧ x < a + k then
            (if d.kind = 2 then BitVec.ofNat 8 (d.fill.toNat >>> (8 * ((byte + (x - a)) % 8))) else s.byte (b + (x - a))) else s.byte x) ∧
        (byte + k < d.width → t.fld (F.dmaChPosROW.dma n.val) = row ∧ t.fld (F.dmaChPosBYTE.dma n.val) = byte + k) ∧
        (byte + k = d.width → t.fld (F.dmaChPosROW.dma n.val) = row + 1 ∧ t.fld (F.dmaChPosBYTE.dma n.val) = 0) ∧
        (t.chan n.val).stage = (if byte + k = d.width ∧ row + 1 = d.rows then .status else .data) ∧
        t.chSt n.val = (if (s.chan n.val).pausing then 2 else 1) ∧ (t.chan n.val).pausing = false ∧
        (∀ m, m ≠ n.val → t.chan m = s.chan m) ∧ t.evt = s.evt ∧ t.mel = s.mel)

/-- Completion (R93): when the STATUS word is written, COUNT counts one, RESULT is 0, the interrupt follows where IRQ is set, and a
LAST descriptor leaves the channel IDLE, another one loads NEXT. R95: a channel that faults records ASID, PHASE, KIND 1, the channel, the cause and the
address, posts the cause in RESULT and raises its event; it parks on causes 2, 3 and 4 and enters ERROR on the others. -/
def Obligations.DmaCompletionAndFaults : Prop :=
  (∀ (n : Fin 64) (d : DmaDesc) (s v : State), 8 ≤ n.val → s.inReset .mmu = false → s.chSt n.val = 1 →
      (s.chan n.val).stage = .status → (s.chan n.val).desc = some d →
      ioWrite (dmaWho n.val) .general false (s.fld (F.dmaChCtrlASID.dma n.val)) (s.fld (F.dmaChDescADDR.dma n.val) + 0x38)
        (leBytes 8 (s.gt % 2 ^ 32 * 2 ^ 32 + 2 ^ 31 + d.tag.toNat)) s = (none, v) →
      ∃ t, exec (.descriptorComplete n) s = .next (if d.last = true then t else loadDesc n.val t) ∧
        (d.last = true → t.chSt n.val = 0 ∧ t.chan n.val = {}) ∧ (d.last = false → t.fld (F.dmaChDescADDR.dma n.val) = d.next.toNat % 2 ^ (F.dmaChDescADDR).width) ∧
        t.fld (F.dmaChStatCOUNT.dma n.val) = (v.fld (F.dmaChStatCOUNT.dma n.val) + 1) % 2 ^ 16 ∧
        t.fld (F.dmaChStatRESULT.dma n.val) = 0 ∧
        (d.irq = true → t.evt = insertN (81 + n.val) v.evt ∧ t.flag (F.dmaChStatEVT.dma n.val) = true) ∧
        (d.irq = false → t.evt = v.evt ∧ t.fld (F.dmaChStatEVT.dma n.val) = v.fld (F.dmaChStatEVT.dma n.val)) ∧
        t.mem = v.mem ∧ t.mel = v.mel ∧ t.qm = v.qm) ∧
  (∀ (n phase : Nat) (c : Cause) (va : Nat) (s : State), n < 64 → phase < 16 → c.code < 256 → c.sub < 256 →
      s.flag F.mmuFltqEN = false →
      ∃ t, chFault n phase c va s =
          (if c.code = 2 ∨ c.code = 3 ∨ c.code = 4 then t else raise .mmu 6 { addr := va, mstr := 64 + n, typ := 4 } t) ∧
        t.chSt n = (if c.code = 2 ∨ c.code = 3 ∨ c.code = 4 then 3 else 4) ∧ t.fld (F.dmaChStatRESULT.dma n) = c.code ∧
        t.flag (F.dmaChStatEVT.dma n) = true ∧ t.evt = insertN (81 + n) s.evt ∧
        t.fld (F.dmaChFrecW.dma n) = s.fld (F.dmaChCtrlASID.dma n) % 2 ^ 16 * 2 ^ 48 + phase * 2 ^ 36 + 2 ^ 32 + n * 2 ^ 20 +
          c.sub * 256 + c.code ∧
        t.fld ((F.dmaChFrecW.dma n).at 8) = va % 2 ^ 48 ∧ t.mem = s.mem ∧ t.dma = s.dma ∧ t.mel = s.mel)

/-- A queue command on a ready queue (R107, R108, R111, R114): the slot becomes BUSY, and QUEUE_CMD_COMPLETE posts the result. Each
command does what R106 to R114 say of it. What ends a queue command and a parked operation: QUEUE_CMD_COMPLETE posts RESULT, LEN
and ITEMS and sets DONE (R108); the end of a RESET scan empties the queue (R114); PARK_ABORT of a push frees its cells and answers
ABORTED, PARK_RESUME of a flushed operation answers FLUSHED (R97, R110, R116). -/
def Obligations.QueueCommandsAndCompletion : Prop :=
  (∀ (op : QmOp) (s : State), s.qmReady op →
      let q := op.queue.val
      let v := s.queue q
      let b := setFld (F.qmSlotResSTATE.slot op.slot.val) 1 s
      let busy := fun (c : Instr) (r : SlotRes) (u : State) => u.fld (F.qmSlotResSTATE.slot op.slot.val) = 1 ∧
        exec c s = .next { u with qm := { u.qm with slots := SMap.put u.qm.slots op.slot.val r } }
      let ends := fun (c : Instr) (r n : Nat) (u : State) => busy c ⟨r, n, q, false, false⟩ u
      let room := v.a.cells + 1 ≤ s.fld (F.qmQCfgQUOTA.q q) ∧ 1 ≤ s.freeCells
      (v.a.marked = false → v.a.markAt = none → (∀ i, v.a.tail = some i → SMap.find s.qm.cells i ≠ none) → room →
        ∃ u i, ends (.pushIdle op) 0 0 u ∧ SMap.find s.qm.cells i = none ∧ (u.queue q).a = (u.queue q).b ∧
          (u.queue q).a.items = v.a.items + 1 ∧ (u.queue q).a.cells = v.a.cells + 1 ∧ (u.queue q).a.tail = some i ∧
          (u.queue q).a.head = (if v.a.head = none then some i else v.a.head) ∧
          SMap.get u.qm.cells i {} = { owner := q, first := true, last := true, idle := true } ∧
          (∀ p, p ≠ q → u.queue p = s.queue p) ∧ u.mem = s.mem) ∧
      (v.a.head = none → ends (.pop op) 1 0 b) ∧
      (∀ i c, v.a.head = some i → SMap.find s.qm.cells i = some c → c.last = true → c.owner = q → i ∉ s.qm.cellUe →
        op.len.toNat < c.len → ends (.pop op) 4 0 b) ∧
      (s.parkedPushCells q = [] → SMap.rising s.qm.cells none = true → ∃ u, ends (.flush op) 0 0 u ∧ (u.queue q).a = {} ∧ (u.queue q).b = {} ∧
        (∀ e ∈ u.qm.cells, e.2.owner ≠ q) ∧ (∀ p, p ≠ q → u.queue p = s.queue p) ∧ u.mem = s.mem) ∧
      (∃ u, ends (.mark op) 0 0 u ∧ (u.queue q).a.marked = true ∧ (u.queue q).a.markAt = v.a.head ∧
        (u.queue q).lost = false ∧ u.flag (F.qmQStatMARKLOST.q q) = false ∧ (u.queue q).a.items = v.a.items ∧
        (∀ p, p ≠ q → u.queue p = s.queue p) ∧ u.mem = s.mem) ∧
      (v.lost = true → ends (.rewind op) 7 0 b) ∧ (v.lost = false → v.a.marked = false → ends (.rewind op) 8 0 b) ∧
      (v.lost = false → v.a.marked = true → ∃ u, ends (.rewind op) 0 0 u ∧ (u.queue q).a.head = v.a.markAt ∧
        v.a.items ≤ (u.queue q).a.items ∧ (u.queue q).a.marked = true ∧ (∀ p, p ≠ q → u.queue p = s.queue p) ∧ u.qm.cells = s.qm.cells) ∧
      (v.a.marked = true → ∃ u, ends (.unmark op) 0 0 u ∧ (u.queue q).a.marked = false ∧ (u.queue q).a.markAt = none ∧
        (u.queue q).a.items = v.a.items ∧ (∀ p, p ≠ q → u.queue p = s.queue p)) ∧
      (v.a.marked = false → ends (.unmark op) 8 0 b) ∧
      busy (.queueReset op) ⟨0, 0, q, true, false⟩ (setQueue q { v with st := .resetting, scanEnd := s.now + 2560 } b)) ∧
  (∀ (s : State),
      (∀ (slot : Fin 64) (r : SlotRes), SMap.find s.qm.slots slot.val = some r → r.scan = false → r.result < 256 → r.len < 2 ^ 16 →
        (s.queue r.queue).a.items < 2 ^ 16 →
        ∃ t, exec (.queueCmdComplete slot) s = .next t ∧ t.fld (F.qmSlotResSTATE.slot slot.val) = 2 ∧
          t.fld (F.qmSlotResRESULT.slot slot.val) = r.result ∧ t.fld (F.qmSlotResLEN.slot slot.val) = r.len ∧
          t.fld (F.qmSlotResITEMS.slot slot.val) = (s.queue r.queue).a.items ∧ t.qm.queues = s.qm.queues ∧ t.qm.cells = s.qm.cells ∧
          t.mem = s.mem) ∧
      (∀ q : Fin 1024, (s.queue q.val).st = .resetting → (s.queue q.val).scanEnd ≤ s.now →
        (∀ e ∈ s.qm.parks, e.2.queue ≠ q.val) →
        ∃ t, exec (.queueResetScanEnd q) s = .next t ∧ t.queue q.val = {} ∧ (∀ p, p ≠ q.val → t.queue p = s.queue p) ∧
          t.flag (F.qmQStatMARKLOST.q q.val) = false ∧ t.mem = s.mem) ∧
      (∀ (k : Fin 16) (o : ParkOp), SMap.find s.qm.parks k.val = some o → (s.queue o.queue).st ≠ .resetting → o.slot < 64 →
        (o.flushed = false → o.isPush = true → ∃ t, exec (.parkAbort k) s = .next t ∧
          t.fld (F.qmSlotResSTATE.slot o.slot) = 2 ∧ t.fld (F.qmSlotResRESULT.slot o.slot) = 0x0B ∧
          (t.queue o.queue).a.cells = (s.queue o.queue).a.cells - o.cells.length ∧
          (t.queue o.queue).a.items = (s.queue o.queue).a.items ∧ t.mem = s.mem) ∧
        (o.flushed = true → ∃ t, exec (.parkResume k) s = .next t ∧ t.fld (F.qmSlotResSTATE.slot o.slot) = 2 ∧
          t.fld (F.qmSlotResRESULT.slot o.slot) = 0x0A ∧ t.flag (F.qmParkCtrlPARKED.park k.val) = false ∧ t.qm.queues = s.qm.queues ∧
          t.mem = s.mem) ∧
        (o.flushed = false → o.isPush = true → ∀ j u, fillCells o 64 o.done s = ((j, none), u) → o.stands u = true →
          ∃ t, exec (.parkResume k) s = .next t ∧ t.fld (F.qmSlotResSTATE.slot o.slot) = 2 ∧
            t.fld (F.qmSlotResRESULT.slot o.slot) = 0 ∧ (t.queue o.queue).a.items = (u.queue o.queue).a.items + 1)))

/-- PUSH copies the item into its cells and links it whole; POP copies the head item out and then removes it (R106, R107). The copies
are those the model makes cell by cell through the IOMMU; for an item of one cell the payload is what memory holds. -/
def Obligations.QueuePushAndPop : Prop :=
  ∀ (op : QmOp) (s u : State), s.qmReady op → 1 ≤ op.len.toNat → op.len.toNat ≤ 3584 →
    let q := op.queue.val
    let len := op.len.toNat
    let at_ := s.fld (F.qmSlotAddrADDR.slot op.slot.val)
    let b := setFld (F.qmSlotResSTATE.slot op.slot.val) 1 s
    let busy := fun (c : Instr) (r : SlotRes) (u : State) =>
      exec c s = .next { u with qm := { u.qm with slots := SMap.put u.qm.slots op.slot.val r } }
    u.fld (F.qmSlotResSTATE.slot op.slot.val) = 1 →
    (∀ w, judgePush q (cellsFor len) b = (none, w) →
      let idx := w.takeCells (cellsFor len)
      let z := allocItem q false (List.replicate len 0) idx w
      let o : ParkOp := { slot := op.slot.val, isPush := true, queue := q, asid := op.asid.toNat,
                          addr := z.fld (F.qmSlotAddrADDR.slot op.slot.val), len := len, cells := idx, done := 0 }
      (∀ j, fillCells o 64 0 z = ((j, none), u) → busy (.push op) ⟨0, len, q, false, true⟩ (linkItem q idx u)) ∧
      (∀ l, len ≤ 56 → ioRead (qmWho op.slot.val) .general false op.asid.toNat at_ len z = (.ok l, u) → z.qm = u.qm →
        ∃ t, exec (.push op) s = .next t ∧ (SMap.get t.qm.cells (idx.headD 0) {}).payload = l ∧
          (t.queue q).a.items = (u.queue q).a.items + 1)) ∧
    (∀ i c, (s.queue q).a.head = some i → SMap.find s.qm.cells i = some c → c.last = true → c.idle = false → c.owner = q →
      i ∉ s.qm.cellUe → c.len ≤ len → c.len ≤ 56 →
      ioWrite (qmWho op.slot.val) .general false op.asid.toNat at_ (c.payload.take c.len) b = (none, u) → u.qm = s.qm →
      busy (.pop op) ⟨0, c.len, q, false, false⟩ (unlinkHead q u)) ∧
    (∀ i c, (s.queue q).a.head = some i → SMap.find s.qm.cells i = some c → c.last = true → c.idle = true → c.owner = q →
      i ∉ s.qm.cellUe → c.len ≤ len → busy (.pop op) ⟨9, 0, q, false, false⟩ (unlinkHead q b))

/-- An item that a hardware block pushes to an empty, enabled queue is the item the next hardware pop takes, byte for byte, and the
queue is empty again (R106, R107). -/
def Obligations.QueueKeepsItemBytes : Prop :=
  ∀ (q : Nat) (l : List Byte) (s t : State), hwPush q l s = (true, t) → l.length ≤ 3584 →
    s.queue q = {} → s.inReset .qm = false → s.popParked q = false → s.qm.cellUe = [] →
    ∃ u, hwPop q t = (some l, u) ∧ (u.queue q).a.items = 0 ∧ (u.queue q).a.head = none ∧ (u.queue q).a.cells = 0 ∧
      (∀ p, p ≠ q → u.queue p = s.queue p) ∧ u.mem = s.mem

/-- Check-value units (R117): selecting an algorithm loads its Init; data feeds the register byte by byte, least significant first, so
that RES reads the check value of the bytes written since; the check values of Table: CRC algorithms. Cluster timers (R118): an
expiry pushes the timer, its compare value and GT to its queue; a one-shot timer is then disabled; a periodic one is set to its
first multiple after GT, the skipped ones counted. Mailboxes (R119): a claim is granted to one reader at a time; SEND is for the
claimant and asserts software interrupt 33 + c; anybody else's SEND raises MEL's source 4; ACK by core c empties and releases the
mailbox. -/
def Obligations.ClusterServices : Prop :=
  ((∀ (c st : Fin 4) (alg : BitVec 3) (s : State), s.inReset .crc = false → alg.toNat ≤ 4 →
      ∃ t, exec (.crcAlgWrite c st alg) s = .next t ∧ t.fld (F.crcClSCfgALG.crcSet c.val st.val) = alg.toNat ∧
        crcRes c.val st.val t = crcOf (crcAlg alg.toNat) [] ∧
        (∀ j, j ≠ 4 * c.val + st.val → SMap.find t.crc j = SMap.find s.crc j) ∧ t.mem = s.mem) ∧
    (∀ (c st : Fin 4) (n : Fin 3) (w : BitVec 32) (l : List Byte) (s : State), s.inReset .crc = false →
      let a := crcAlg (s.fld (F.crcClSCfgALG.crcSet c.val st.val))
      (SMap.get s.crc (4 * c.val + st.val) {}).run = l.foldl (crcByte a) a.init →
      ∃ t, exec (.crcDin c st n w) s = .next t ∧ crcRes c.val st.val t = crcOf a (l ++ leBytes (2 ^ n.val) w.toNat) ∧
        (∀ j, j ≠ 4 * c.val + st.val → SMap.find t.crc j = SMap.find s.crc j) ∧ t.regs = s.regs ∧ t.mem = s.mem) ∧
    (∀ digits : List Byte, digits = [0x31, 0x32, 0x33, 0x34, 0x35, 0x36, 0x37, 0x38, 0x39] →
      crcOf (crcAlg 0) digits = 0xF4 ∧ crcOf (crcAlg 1) digits = 0x29B1 ∧ crcOf (crcAlg 2) digits = 0xCBF43926 ∧
      crcOf (crcAlg 3) digits = 0xE3069283 ∧ crcOf (crcAlg 4) digits = 0x6C40DF5F0B497347)) ∧
  (∀ (i : Fin 16) (s v : State),
      let k := i.val
      let cmp := s.fld (F.melTmrCmpCMP.tmr k)
      let per := s.fld (F.melTmrPerPER.tmr k)
      s.flag (F.melTmrCtrlEN.tmr k) = true → cmp ≤ s.gt → s.inReset .mel = false →
      hwPush (s.fld (F.melTmrCtrlQUEUE.tmr k)) (leBytes 8 k ++ leBytes 8 cmp ++ leBytes 8 s.gt) s = (true, v) →
      (per = 0 → exec (.timerExpiry i) s = .next (setFlag (F.melTmrCtrlEN.tmr k) false v)) ∧
      (0 < per → s.gt + per < 2 ^ 64 → v.fld (F.melTmrCtrlMISSED.tmr k) + (s.gt - cmp) / per < 2 ^ 16 →
        ∃ t n, exec (.timerExpiry i) s = .next t ∧ t.fld (F.melTmrCmpCMP.tmr k) = cmp + (n + 1) * per ∧
          cmp + n * per ≤ s.gt ∧ s.gt < cmp + (n + 1) * per ∧
          t.fld (F.melTmrCtrlMISSED.tmr k) = v.fld (F.melTmrCtrlMISSED.tmr k) + n ∧
          t.fld (F.melTmrCtrlEN.tmr k) = v.fld (F.melTmrCtrlEN.tmr k) ∧ t.qm = v.qm ∧ t.mem = v.mem)) ∧
  (∀ (c r : Fin 16) (s : State), s.inReset .mel = false →
      (s.flag (F.melMbxCtrlCLAIMED.mbx c.val) = false → ∃ t, exec (.mbxClaim c r) s = .next t ∧ t.mbxOwned c.val r.val = true ∧
        t.mem = s.mem ∧ t.mel = s.mel) ∧
      (s.flag (F.melMbxCtrlCLAIMED.mbx c.val) = true → exec (.mbxClaim c r) s = .next s) ∧
      (s.mbxOwned c.val r.val = true → ∃ t, exec (.mbxSend c r) s = .next t ∧ t.flag (F.melMbxCtrlFULL.mbx c.val) = true ∧
        t.mel.swi.getLsbD c.val = true ∧ t.mbxOwned c.val r.val = true ∧ t.mem = s.mem) ∧
      (s.mbxOwned c.val r.val = false → exec (.mbxSend c r) s =
        .next (raise .mel 4 { addr := 0x20016040 + c.val * 0x80, mstr := 4 * r.val, typ := 2 } s)) ∧
      (c = r → ∃ t, exec (.mbxAck c r) s = .next t ∧ t.flag (F.melMbxCtrlFULL.mbx c.val) = false ∧
        t.flag (F.melMbxCtrlCLAIMED.mbx c.val) = false ∧ t.mel = s.mel ∧ t.mem = s.mem) ∧
      (c ≠ r → exec (.mbxAck c r) s = .next s))

/-- A step runs the command at the front of the queue on the state with the queue's rest. With no command waiting one nanosecond of
true time passes (the model's choice, log entry 6): `now` counts it, GT never runs back while it is shown by a clock that runs, and
memory, queues and faults stay. -/
def Obligations.StepRunsFrontCommandOrIdles : Prop :=
  (∀ (c : Instr) (rest : List Instr) (s : State), step { s with pending := c :: rest } = exec c { s with pending := rest }) ∧
  (∀ (s : State), s.pending = [] → ∃ t, step s = .next t ∧ t.now = s.now + 1 ∧ t.pending = [] ∧ t.mem = s.mem ∧ t.qm = s.qm ∧
    t.flt = s.flt ∧ t.inForce = s.inForce ∧ t.staged = s.staged ∧ t.pwr.st = s.pwr.st ∧
    ((s.dom s.active).r ≤ 999500000 → s.gtFine ≤ t.gtFine))

/-- Every step keeps memory in its canonical form. -/
def Obligations.StepKeepsMemoryCanonical : Prop :=
  ∀ (s t : State), Memory.wf s.mem = true → step s = .next t → Memory.wf t.mem = true

/-- Every command, whatever the state, answers a next state: none ends in a fault or a refusal. It leaves the queue and the count of
true time, draws no free value twice, and what the device has sent stays sent. -/
def Obligations.CommandsKeepQueueTimeAndOutput : Prop :=
  ∀ (c : Instr) (s : State), ∃ t, exec c s = .next t ∧
    t.pending = s.pending ∧ t.now = s.now ∧ s.free ≤ t.free ∧ s.out <+: t.out

/-- R45 and what reset leaves. In State.reset, and after every system reset, context 0 of core 0 runs at monitor level at the boot
ROM's address 0 with translation off and every other main context is STOPPED with its reset status. In State.reset no block has an
event, no commit is pending, no queue holds an item, every gate is off, no command waits, and memory is in canonical form. -/
def Obligations.ResetState : Prop :=
  let s := State.reset
  let started := fun (t : State) => (t.hart 0).st = .running ∧ (t.hart 0).status = 2 ∧ (t.hart 0).pc = 0 ∧
    (t.hart 0).ptroot.getLsbD 0 = false ∧ ∀ h : Hart, h ≠ 0 → isRook h = false → (t.hart h).st = .stopped ∧ (t.hart h).status = 2
  started s ∧
  (∀ u : State, u.isOff = false → u.rst.held = false →
    (u.rst.rstStuck = false → ∃ t, exec .systemReset u = .next t ∧ started t) ∧
    ∃ t, exec (.rstCmdSystem 0x5A5) u = .next t ∧ started t) ∧
  (∀ b, s.fltSet b = {}) ∧ s.errN = false ∧ s.commit.pend = none ∧ s.commit.armed = [] ∧ (∀ q, s.queue q = {}) ∧
  s.freeCells = 16384 ∧ s.gatesOff ∧ s.pending = [] ∧ Memory.wf s.mem = true

/-- An event of a source (R419, R420): its FLT_STAT bit is set; a capture that is not frozen takes address, master, source, type and
GT, a frozen one stays; NMI pends its identifier where the source's mask says so and the bit was clear. No reset reaction is set
here. An event in the shadow of a block it watches changes nothing but CONSEQ, which counts it and saturates (R423). FLT_FORCE of
one source takes its reactions in full, with TYPE 7 in the capture (R421); FLT_CAP_CLR zeroes the capture; a lost PLL lock and a
crystal failure are SYS's sources 10 and 11 (R424). A handshake timeout (R19): the block raises its source 0 with the address that
did not answer; a waiting context takes cause 0x11 with that address in .tval, a waiting channel faults with it, and a queue
operation or a real-time initiator meets it at the access it makes next (log entry 71); a slot that an engine could not hand over
goes dark and counts SLOT_MISS (R223). -/
def Obligations.FaultEventsAndReactions : Prop :=
  (∀ (b : Blk) (src : Nat) (e : Ev) (s : State), src < 32 → s.shadowed b src e = false →
      let f := s.fltSet b
      let m := s.react b src
      (f.stat.getLsbD src = true ∨ (m.getLsbD 2 = false ∧ m.getLsbD 3 = false)) →
      let t := raise b src e s
      (∀ i < 32, (t.fltSet b).stat.getLsbD i = (f.stat.getLsbD i || decide (i = src))) ∧
      (f.cap.valid = true → (t.fltSet b).cap = f.cap) ∧
      (f.cap.valid = false → (t.fltSet b).cap =
        { valid := true, addr := BitVec.ofNat 48 e.addr, mstr := BitVec.ofNat 8 e.mstr, src := BitVec.ofNat 5 src,
          typ := BitVec.ofNat 4 e.typ, time := BitVec.ofNat 64 s.gt }) ∧
      t.nmi = (if f.stat.getLsbD src = false ∧ m.getLsbD 1 = true then insertN b.id s.nmi else s.nmi) ∧
      (t.fltSet b).conseq = f.conseq ∧ (t.fltSet b).raw = f.raw ∧ (∀ c, c.id ≠ b.id → t.fltSet c = s.fltSet c) ∧
      t.regs = s.regs ∧ t.mem = s.mem ∧ t.mel = s.mel ∧ t.qm = s.qm) ∧
  (∀ (b : Blk) (src : Nat) (e : Ev) (s : State), s.shadowed b src e = true →
      let f := s.fltSet b
      raise b src e s = setFlt b { f with conseq := if f.conseq = 0xFFFF then 0xFFFF else f.conseq + 1 } s) ∧
  (∀ (b : Blk) (s : State),
      (∀ i < 32, hasSource b i = true → (s.react b i).getLsbD 2 = false → (s.react b i).getLsbD 3 = false →
        ∃ t, exec (.fltForce b (BitVec.ofNat 32 (2 ^ i))) s = .next t ∧
          (∀ j < 32, (t.fltSet b).stat.getLsbD j = ((s.fltSet b).stat.getLsbD j || decide (j = i))) ∧
          (t.fltSet b).cap.valid = true ∧ ((s.fltSet b).cap.valid = false → (t.fltSet b).cap.typ = 7) ∧
          (t.fltSet b).raw = (s.fltSet b).raw ∧ t.regs = s.regs ∧ t.mem = s.mem) ∧
      (∃ t, exec (.fltCapClr b) s = .next t ∧ (t.fltSet b).cap = {} ∧ (t.fltSet b).stat = (s.fltSet b).stat ∧
        (t.fltSet b).react = (s.fltSet b).react ∧ (∀ c, c.id ≠ b.id → t.fltSet c = s.fltSet c) ∧ t.regs = s.regs ∧ t.mem = s.mem) ∧
      exec .pllUnlock s = .next (raise .sys 10 {} s) ∧ exec .xtalFail s = .next (raise .sys 11 {} s)) ∧
  (∀ (x : Crossing) (s : State),
      let raised := fun (m : Nat) => raise x.blk 0 { addr := x.addr.toNat, mstr := m, into := some x.into } s
      (x.waiter = .none → exec (.hsTimeout x) s = .next (raised 255)) ∧
      (∀ h, x.waiter = .hart h →
        let u := raised (if isRook h = true then 255 else h.val)
        ((u.hart h).st = .running → u.coreRuns h = true →
          exec (.hsTimeout x) s = .next (enterTrap h 0x11 (BitVec.ofNat 64 x.addr.toNat) (u.hart h).pc u)) ∧
        (¬ ((u.hart h).st = .running ∧ u.coreRuns h = true) → exec (.hsTimeout x) s = .next u)) ∧
      (∀ n walk write, x.waiter = .dma n walk write → let u := raised (64 + n.val)
        (8 ≤ n.val → u.chSt n.val = 1 → ∃ phase va, phase ≤ 4 ∧ (walk = true → phase = 4) ∧
          exec (.hsTimeout x) s = .next (chFault n.val phase ⟨0x11, 0⟩ va u)) ∧
        ((n.val < 8 ∨ u.chSt n.val ≠ 1) → exec (.hsTimeout x) s = .next u)) ∧
      (∀ k walk, x.waiter = .slot k walk → let u := raised 128
        exec (.hsTimeout x) s = .next { u with hsLate := SMap.put u.hsLate (256 + k.val) walk }) ∧
      (∀ r walk, x.waiter = .rt r walk → let u := raised (144 + r.val)
        exec (.hsTimeout x) s = .next { u with hsLate := SMap.put u.hsLate (144 + r.val) walk }) ∧
      (∀ i n, x.waiter = .te i → x.blk = .te n → ∃ u, exec (.hsTimeout x) s = .next (raise (Blk.teN n.val) 3 {} u) ∧
        u.teSt n.val = { (raised 255).teSt n.val with out := SMap.erase ((raised 255).teSt n.val).out i.val } ∧
        u.fld (F.teStatSLOTMISS.te n.val) = ((raised 255).fld (F.teStatSLOTMISS.te n.val) + 1) % 65536)) ∧
  (∀ (w : Who) (c : PClass) (k : Acc3) (asid va : Nat) (s : State) (walk : Bool), SMap.find s.hsLate w.late = some walk →
      ∀ phys, ioXlate w c k phys asid va s = (.error ⟨⟨0x11, 0⟩, va, walk⟩, { s with hsLate := SMap.erase s.hsLate w.late }))

/-- Resets of the device (R416 to R418). A system reset by command or pin clears DRAM's contents, fault sets, commits, queues and
main contexts, keeps MRAM and Rook, and records its cause; RST_CMD without the key 0x5A5 is discarded; a stuck pin is not heard. A warm
reset (R418), by SVC_N or by command: MEL, the queues, Confluence's list, the dose accumulators (R446) and the pending and armed
commits are cleared; the rest of memory, GT, the power switch and Rook stay; context 0 of core 0 starts in the boot ROM. Block resets (R422, R423): a block taken out is
held for 16 µs, DDR for 2,000 µs, its shadow 64 µs longer; before the instant the end of either has no effect; at it the block
leaves reset with SYS's identifier 7 (log entry 78) and the shadow ends. CRC's state sets and registers are lost. -/
def Obligations.DeviceAndBlockResets : Prop :=
  (∀ (s : State), s.isOff = false →
      (∀ key : BitVec 12, key.toNat ≠ 0x5A5 → exec (.rstCmdSystem key) s = .next s ∧ exec (.rstCmdWarm key) s = .next s) ∧
      (s.rst.held = false → ∃ t, exec (.rstCmdSystem 0x5A5) s = .next t ∧ t.flag F.sysRstCauseSYSCMD = true ∧ t.flt = [] ∧
        t.commit = {} ∧ t.qm = {} ∧ t.mel.harts = State.reset.mel.harts ∧ t.mel.tlb = [] ∧ t.mel.inService = [] ∧ t.rook = s.rook ∧ t.rst.romWait = true ∧ t.now = s.now ∧
        (∀ e ∈ t.mem, isNvm e.1 = true) ∧ (∀ e ∈ s.mem, isNvm e.1 = true → e ∈ t.mem)) ∧
      (s.rst.held = false → s.rst.rstStuck = false → ∃ t, exec .systemReset s = .next t ∧ t.flag F.sysRstCausePIN = true ∧
        t.rst.held = true ∧ t.flt = [] ∧ t.commit = {} ∧ t.rook = s.rook) ∧
      (s.rst.rstStuck = true → exec .systemReset s = .next s) ∧
      (s.rst.held = true → ∃ t, exec .systemResetEnd s = .next t ∧ t.rst.held = false ∧ t.flt = [] ∧ t.rook = s.rook) ∧
      (s.rst.held = true → s.rst.heldSince + 10000000000 ≤ s.now → ∃ u, exec .rstPinStuck s = .next (raise .sys 7 {} u) ∧
        u.rst.held = false ∧ u.rst.rstStuck = true ∧ u.flag F.sysRstCauseRSTSTUCK = true) ∧
      (s.rst.svcStuck = false → ∃ u, exec .svcPinStuck s = .next (raise .sys 8 {} u) ∧ u.rst.svcStuck = true ∧
        u.flag F.sysRstCauseSVCSTUCK = true ∧ u.flt = s.flt) ∧
      exec .resetPinRearm s = .next { s with rst := { s.rst with rstStuck := false } } ∧
      exec .svcPinRearm s = .next { s with rst := { s.rst with svcStuck := false } }) ∧
  (∀ (s : State), s.isOff = false → s.pwr.st ≠ .s2 → s.rst.held = false →
      let cleared := fun (t : State) => (∀ e, e ∈ t.mem ↔ e ∈ s.mem ∧ (e.1 < 0x11000000 ∨ 0x11600000 ≤ e.1)) ∧ t.gtFine = s.gtFine ∧ t.rook = s.rook ∧ t.swc = s.swc ∧ t.qm = {} ∧
        t.commit = {} ∧ t.handles = [] ∧ t.evt = [] ∧ t.nmi = [] ∧ (t.hart 0).st = .running ∧ (t.hart 0).pl = 2 ∧ (t.hart 0).pc = 0 ∧
        t.rst.romWait = true
      (s.rst.svcStuck = false → ∃ t, exec .warmReset s = .next t ∧ cleared t ∧ t.flag F.sysRstCauseWARMPIN = true) ∧
      (s.rst.svcStuck = true → exec .warmReset s = .next s) ∧
      (∃ t, exec (.rstCmdWarm 0x5A5) s = .next t ∧ cleared t ∧ t.flag F.sysRstCauseWARMCMD = true)) ∧
  ((∀ (b : Blk) (s : State), s.inReset b = false →
      let t := startBlockReset b s
      let hold := if b = .ddr then 2000000 else 16000
      t.inReset b = true ∧ SMap.find t.blkReset b.id = some (s.now + hold) ∧ SMap.find t.shadow b.id = some (s.now + hold + 64000) ∧
      startBlockReset b t = t) ∧
    (∀ (b : Blk) (s : State) (at_ : Nat), SMap.find s.blkReset b.id = some at_ → s.now < at_ → exec (.blockResetEnd b) s = .next s) ∧
    (∀ (s : State) (at_ : Nat), SMap.find s.blkReset Blk.crc.id = some at_ → at_ ≤ s.now → SMap.rising s.blkReset none = true →
      ∃ t, exec (.blockResetEnd .crc) s = .next t ∧ t.inReset .crc = false ∧ t.regs = s.regs ∧ t.mem = s.mem) ∧
    (∀ (b : Blk) (s : State) (at_ : Nat), SMap.find s.blkReset b.id = some at_ → at_ ≤ s.now → SMap.rising s.blkReset none = true →
      b ≠ .cor → b ≠ .thm → (∀ k, b ≠ .rail k) → (∀ p, b ≠ .ep p) →
      ∃ t, exec (.blockResetEnd b) s = .next t ∧ t.inReset b = false ∧ 7 ∈ t.evt ∧ t.flt = s.flt ∧ t.mem = s.mem ∧ t.mel = s.mel) ∧
    (∀ (b : Blk) (s : State) (at_ : Nat), SMap.find s.shadow b.id = some at_ → SMap.rising s.shadow none = true →
      (s.now < at_ → exec (.resetShadowEnd b) s = .next s) ∧
      (at_ ≤ s.now → ∃ t, exec (.resetShadowEnd b) s = .next t ∧ t.shadowOf b = false ∧ t.flt = s.flt ∧ t.regs = s.regs)) ∧
    (∀ s : State, s.inReset .crc = false → (startBlockReset .crc s).crc = []))

/-- Submission (R35, R36, R40). With a free slot GO makes a commit pending: at its target while that window is open, else, or with
ASAP, at the earliest open one, a moved target raising SYS's source 4 and identifier 4; with a commit pending it raises source 5;
an empty GROUP is refused with code 2 and no member named; CANCEL withdraws the pending commit. The window closes (R32, R34): when
every member accepts, the commit is armed with the staged values of its members and identifier 2 is raised; when one refuses,
nothing is armed, the lowest refusing member and its code are shown, and SYS's source 3 and identifier 5 are raised. Before the
instant nothing happens. With two commits armed none is armed beside them: the pending one moves to the earliest open frame, as a
late one does (the model's choice, log entry 77). -/
def Obligations.CommitSubmissionAndWindow : Prop :=
  (∀ (f : BitVec 48) (g : BitVec 10) (asap : Bool) (s : State),
      let w := setFlag F.sysCommitCtrlASAP asap (setFld F.sysCommitCtrlGROUP g.toNat (setFld F.sysCommitTgtTARGET f.toNat s))
      let pends := fun (n : Nat) (t : State) => t.commit.pend = some { target := n, group := g } ∧ t.commit.armed = s.commit.armed ∧
        t.flag F.sysCommitStatPENDING = true ∧ t.staged = s.staged ∧ t.inForce = s.inForce ∧ t.mem = s.mem
      (g ≠ 0 → s.commit.pend = none →
        ((s.gt : Int) < s.windowClose f.toNat g → asap = false → ∃ t, exec (.go f g asap) s = .next t ∧ pends f.toNat t ∧ t.evt = s.evt) ∧
        (asap = true → ∃ t, exec (.go f g asap) s = .next t ∧ pends (s.earliestOpen g) t ∧ t.evt = s.evt) ∧
        (s.windowClose f.toNat g ≤ (s.gt : Int) → asap = false → ∃ t, exec (.go f g asap) s = .next (intr 4 (raise .sys 4 {} t)) ∧
          pends (s.earliestOpen g) t ∧ t.flag F.sysCommitStatCOMMITLATE = true)) ∧
      (g ≠ 0 → s.commit.pend ≠ none → exec (.go f g asap) s = .next (raise .sys 5 {} w)) ∧
      (g = 0 → ∃ t, exec (.go f g asap) s = .next (intr 5 (raise .sys 3 {} t)) ∧ t.flag F.sysCommitStatREFUSED = true ∧
        t.fld F.sysCommitCodeCODE = 2 ∧ t.commit = s.commit) ∧
      (s.commit.pend = none → exec .cancel s = .next s) ∧
      (∀ p, s.commit.pend = some p → ∃ t, exec .cancel s = .next t ∧ t.commit.pend = none ∧ t.commit.armed = s.commit.armed ∧
        t.flag F.sysCommitStatPENDING = false ∧
        (∀ e < 64, p.sat = some e → t.fld (F.satECtrlSTATE.at (0x20 * e)) = 4 ∧ 676 + e ∈ t.evt))) ∧
  (∀ (p : PendCommit) (s : State), s.commit.pend = some p →
      ((s.gt : Int) < s.windowClose p.target p.group → exec .commitWindowClose s = .next s) ∧
      (s.windowClose p.target p.group ≤ (s.gt : Int) → 2 ≤ s.commit.armed.length → ∃ t, exec .commitWindowClose s = .next (intr 4 (raise .sys 4 {} t)) ∧
        t.commit.pend = some { p with target := s.earliestOpen p.group } ∧ t.commit.armed = s.commit.armed ∧ t.inForce = s.inForce ∧
        t.flag F.sysCommitStatCOMMITLATE = true) ∧
      (s.windowClose p.target p.group ≤ (s.gt : Int) → s.commit.armed.length < 2 → ∀ loads v, validate p.group s = (none, loads, v) →
        ∃ t a, exec .commitWindowClose s = .next t ∧ t.commit.pend = none ∧ t.commit.armed = v.commit.armed ++ [a] ∧
          a.target = p.target ∧ a.group = p.group ∧ a.values = v.staged.filter (fun e => inGroup p.group e.1) ∧ a.loads = loads ∧
          2 ∈ t.evt ∧ t.flag F.sysCommitStatARMED = true ∧ t.flag F.sysCommitStatPENDING = false ∧ t.inForce = v.inForce ∧ t.mem = v.mem) ∧
      (s.windowClose p.target p.group ≤ (s.gt : Int) → s.commit.armed.length < 2 → p.sat = none → ∀ m code loads v, m < 16 → code < 2 ^ 16 →
        validate p.group s = (some (m, code), loads, v) →
        ∃ t, exec .commitWindowClose s = .next (intr 5 (raise .sys 3 {} t)) ∧ t.commit.pend = none ∧ t.commit.armed = v.commit.armed ∧
          t.fld F.sysCommitStatREFUSEMEMBER = m ∧ t.fld F.sysCommitCodeCODE = code ∧ t.flag F.sysCommitStatREFUSED = true ∧
          t.inForce = v.inForce ∧ t.mem = v.mem))

/-- Apply points (R30): at FRAME_START(n) a commit armed for frame n whose members are all display members, none of them PTP, EP or
ROOK, puts its staged values in force, and leaves the store with identifier 3. A value of a block that is held waits for the block
to leave (R34; log entry 76), and what was in force stays. -/
def Obligations.CommitsApplyWhole : Prop :=
  ∀ (n : Nat) (c : ArmedCommit) (s : State), s.commit.armed = [c] → c.target = n → c.pipeDone = true → c.dispDone = false →
    c.group.toNat % 32 = 0 → c.group.getLsbD 6 = false → c.group.getLsbD 8 = false → c.group.getLsbD 9 = false →
    s.diag.stk = [] →
    let t := applyCommits n s
    let last := fun (k : Nat) => (c.values.filter (fun e => e.1 == k && (memberOf k).any (fun m => decide (5 ≤ m)))).getLast?
    t.commit.armed = [] ∧ 3 ∈ t.evt ∧ t.staged = s.staged ∧ t.mem = s.mem ∧
    (∀ k, s.keyHeld k = false → SMap.get t.inForce k 0 = (match last k with | some e => e.2 | none => SMap.get s.inForce k 0)) ∧
    (∀ k, s.keyHeld k = true → SMap.get t.inForce k 0 = SMap.get s.inForce k 0 ∧
      (∀ e, last k = some e → SMap.get t.late k 0 = e.2))

/-- Frames (R27, R444): FRAME_START(n) before its time, or out of turn, does nothing; in its turn it makes n the frame displayed and
raises identifier 1, then what begins with the frame begins. TIME_STEP applies a planned step 100 µs after its frame's start.
Timeline registers (R360, R444): TL_EN 0 to 1 starts the reckoning of a first frame, 1 to 0 stops the timeline; FRAME_EPOCH may be
written only with TL_EN 0, a change with TL_EN 1 raising PTP's source 1. -/
def Obligations.FramesAndTimeline : Prop :=
  (∀ (n : BitVec 48) (s : State), s.timeOn = true →
      ((s.gt : Int) < s.startI n.toNat → exec (.frameStart n) s = .next s) ∧
      (s.startI n.toNat ≤ (s.gt : Int) → s.flag F.ptpCtrlTLEN = true → s.tl.running = true →
        (n.toNat ≠ s.tl.frame + 1 → exec (.frameStart n) s = .next s) ∧
        (n.toNat = s.tl.frame + 1 → ∃ u, exec (.frameStart n) s = .next (satBoundary n.toNat (frameBegins n.toNat u)) ∧
          u.tl = { running := true, frame := n.toNat, reached := some n.toNat } ∧ 1 ∈ u.evt ∧ u.regs = s.regs ∧ u.commit = s.commit)) ∧
      (∀ p m, s.ptp.step = some p → p.n = some m →
        (s.startI m + 100000 ≤ (s.gt : Int) → exec .timeStep s = .next (closeAt (applyStep m p.s s))) ∧
        ((s.gt : Int) < s.startI m + 100000 → exec .timeStep s = .next s))) ∧
  (∀ (s : State), s.timeOn = true →
      (∀ en, s.flag F.ptpCtrlTLEN = en → exec (.tlEnWrite en) s = .next s) ∧
      (s.flag F.ptpCtrlTLEN = false → ∃ t, exec (.tlEnWrite true) s = .next t ∧ t.flag F.ptpCtrlTLEN = true ∧ t.tl.running = false ∧
        t.tl.first = some (s.firstFrame s.gt) ∧ t.gtFine = s.gtFine ∧ t.mem = s.mem) ∧
      (s.flag F.ptpCtrlTLEN = true → s.ptp.step = none → ∃ t, exec (.tlEnWrite false) s = .next t ∧ t.flag F.ptpCtrlTLEN = false ∧
        t.tl.running = false ∧ t.tl.first = none ∧ t.gtFine = s.gtFine ∧ t.mem = s.mem) ∧
      (∀ v : BitVec 64, s.flag F.ptpCtrlTLEN = true → v.toNat ≠ s.fld F.ptpFrameEpochEPOCH →
        exec (.frameEpochWrite v) s = .next (raise .ptp 1 { addr := 0x25100018, typ := 2 } s)) ∧
      (∀ v : BitVec 64, s.flag F.ptpCtrlTLEN = false → s.commit.pend = none → s.commit.armed = [] → s.diag.stk = [] →
        ∃ t, exec (.frameEpochWrite v) s = .next t ∧ t.fld F.ptpFrameEpochEPOCH = v.toNat ∧ t.gtFine = s.gtFine))

/-- Register writes (R11, R14, R15, R16, R21). A write outside every block's window raises SYS's source 6; one of another width or not
aligned is not performed; a staged field takes the value in its staging copy alone; a write that would change a field its active
owner governs is refused whole with source 1; a locked field keeps its value and source 2 is raised; FLT_STAT bits are cleared by
ones. TE broadcast (R220): a write at TE0's offset 0x8000 + a, a below 0x600, is a write at offset a of every tile engine. -/
def Obligations.RegisterWritesAndBroadcast : Prop :=
  (∀ (m : BitVec 8) (v : BitVec 64) (s : State), s.isOff = false → s.rst.held = false → s.pwr.stopped = [] →
      (∀ a : BitVec 40, 0x20000000 ≤ a.toNat → a.toNat < 0x30000000 → Blk.ofAddr a.toNat = none →
        exec (.registerWrite m a 32 v) s = .next (raise .sys 6 { addr := a.toNat, mstr := m.toNat, typ := 2 } s)) ∧
      (∀ (a : BitVec 40) (b : Blk) (n : Nat), 0x20000000 ≤ a.toNat → a.toNat < 0x30000000 → Blk.ofAddr a.toNat = some b →
        (n = 8 ∨ n = 16 ∨ a.toNat % 4 ≠ 0) → ∃ t, exec (.registerWrite m a n v) s = .next t ∧ t.regs = s.regs ∧ t.staged = s.staged ∧
          (t.fltSet b).stat = (s.fltSet b).stat ∧ (t.fltSet b).cap.valid = true ∧ t.mem = s.mem) ∧
      (s.inReset .cmp = false → ∃ t, exec (.registerWrite m 0x20100008 64 v) s = .next t ∧
        t.stg F.cmpListAddrVA = v.toNat % 2 ^ F.cmpListAddrVA.width ∧ t.inForce = s.inForce ∧ t.regs = s.regs ∧ t.mem = s.mem) ∧
      (s.inReset .mmu = false → m.toNat ≠ 255 → s.fld F.mmuRtAsidASID ≠ v.toNat % 2 ^ 16 → s.cmpActive = true →
        exec (.registerWrite m 0x20020010 32 v) s = .next (raise .mmu 1 { addr := 0x20020010, mstr := m.toNat, typ := 2 } s)) ∧
      (s.inReset .mmu = false → m.toNat ≠ 255 → s.fld F.mmuCtrlLOCK = 1 → s.fld F.mmuCtrlPHYSOK = 1 → v.getLsbD 0 = false →
        exec (.registerWrite m 0x20020000 32 v) s = .next (raise .mmu 2 { addr := 0x20020000, mstr := m.toNat, typ := 2 } s)) ∧
      (∀ b : Blk, Blk.ofAddr (b.window.1 + 0xF00) = some b → b.window.1 + 0xF00 < 2 ^ 40 →
        ∃ t, exec (.registerWrite m (BitVec.ofNat 40 (b.window.1 + 0xF00)) 32 v) s = .next t ∧
          (∀ i < 32, (t.fltSet b).stat.getLsbD i = ((s.fltSet b).stat.getLsbD i && !(v.getLsbD i))) ∧ t.regs = s.regs ∧ t.mem = s.mem)) ∧
  (∀ (m : BitVec 8) (a : BitVec 16) (v : BitVec 64) (s : State), a.toNat % 4 = 0 →
      (a.toNat < 0x600 → exec (.teBroadcastWrite m a 32 v) s =
        .next (forN 256 (fun i u => blkWrite (Blk.teN i) m.toNat (0x21000000 + i * 0x10000 + a.toNat) 4 (v.toNat % 2 ^ 32) u) s)) ∧
      (0x600 ≤ a.toNat → a.toNat < 0x8000 → exec (.teBroadcastWrite m a 32 v) s = .next s))

/-- Handle commands (R123 to R128). While the unit is BUSY a command is refused under R15; else it goes BUSY with the result it will
end with: 3 for REGISTER of a handle that is not FREE, 4 for a handle not LIVE or bound to a receiver, 7 for a buffer it does not
have, 5 for a held one. PUBLISH makes the buffer LATEST with CMP_HTIME's media time, ACQUIRE withdraws it, RELEASE begins to
release. Completion shows the result with identifier 246; a RELEASING handle that nothing holds becomes FREE. -/
def Obligations.HandleCommands : Prop :=
  ∀ (h : Fin 1024) (b : Fin 4) (s : State),
    let busy := fun (c : HCmd) (u : State) =>
      setFld F.cmpHresHANDLE c.handle (setFld F.cmpHresSTATE 1 { u with cmp := { u.cmp with hcmd := some c } })
    let v := s.handle h
    let no := fun (r : Nat) => busy { handle := h, result := r } s
    (s.inReset .cmp = false → s.fld F.cmpHresSTATE = 1 →
      let r := raise .cmp 1 { addr := 0x20100808, typ := 2 } s
      exec (.register h) s = .next r ∧ exec (.publish h b) s = .next r ∧ exec (.acquire h b) s = .next r ∧
      exec (.release h) s = .next r) ∧
    (s.inReset .cmp = false → s.fld F.cmpHresSTATE ≠ 1 →
      (v.st ≠ .free → exec (.register h) s = .next (no 3)) ∧
      (v.st = .free → ∃ t c, exec (.register h) s = .next t ∧ t.cmp.hcmd = some c ∧ c.handle = h.val ∧ c.registering = true ∧
        c.result < 3 ∧ (c.result = 0 ↔ c.live ≠ none) ∧ t.fld F.cmpHresSTATE = 1 ∧ t.fld F.cmpHresHANDLE = h.val) ∧
      (v.st ≠ .live → exec (.publish h b) s = .next (no 4) ∧ exec (.acquire h b) s = .next (no 4) ∧
        exec (.release h) s = .next (no 4)) ∧
      (∀ d, v.st = .live → v.desc = some d →
        (s.bound h = true → exec (.publish h b) s = .next (no 4) ∧ exec (.acquire h b) s = .next (no 4)) ∧
        (s.bound h = false → d.hasBuf b = false → exec (.publish h b) s = .next (no 7) ∧ exec (.acquire h b) s = .next (no 7)) ∧
        (s.bound h = false → d.hasBuf b = true → s.held h b = true →
          exec (.publish h b) s = .next (no 5) ∧ exec (.acquire h b) s = .next (no 5)) ∧
        (s.bound h = false → d.hasBuf b = true → s.held h b = false →
          exec (.publish h b) s = .next (busy { handle := h, result := 0 } (setHandle h { v with
            bufs := SMap.put v.bufs b { pub := true, time := s.fld F.cmpHtimeT, order := v.order + 1 }, latest := some b.val,
            takes := 0, count := (v.count + 1) % 2 ^ 32, order := v.order + 1 } s)) ∧
          exec (.acquire h b) s = .next (busy { handle := h, result := 0 }
            (setHandle h { v with bufs := SMap.put v.bufs b { v.buf b with pub := false } } s)))) ∧
      (v.st = .live → exec (.release h) s = .next (busy { handle := h, result := 0 } (setHandle h { v with st := .releasing } s)))) ∧
    (s.cmp.hcmd = none → exec .handleCmdComplete s = .next s) ∧
    (∀ c, s.cmp.hcmd = some c → c.result < 8 → ∃ t, exec .handleCmdComplete s = .next t ∧ t.cmp.hcmd = none ∧
      t.fld F.cmpHresSTATE = 2 ∧ t.fld F.cmpHresRESULT = c.result ∧ 246 ∈ t.evt ∧ t.mem = s.mem ∧
      (c.registering = false → t.handles = s.handles) ∧
      (c.registering = true → t.handle c.handle =
        (match c.live with | some d => { st := .live, desc := some d } | none => {}) ∧
        ∀ k, k ≠ c.handle → t.handle k = s.handle k)) ∧
    (v.st ≠ .releasing → exec (.handleFreed h) s = .next s) ∧
    (v.st = .releasing → (∀ k < 4, s.held h k = false) → (∀ c ∈ s.commit.armed, c.names h = false) →
      exec (.handleFreed h) s = .next (intr 246 { s with handles := SMap.erase s.handles h }))

/-- Received packets (R132 to R138). A context that is off takes none; a packet older than the next expected is discarded, one ahead
of it is held. The first packet of a frame takes a buffer and withdraws its publication, or without a free one drops the frame and
counts NOBUF; codestream bytes gather; samples within the surface are stored MSB-aligned where they belong; a
segment outside the surface drops the frame, counts ERROR and raises RX_GEOM; the marker of a whole frame publishes its buffer
with the frame's media time and raises identifier 213 + r. A preview frame sent leaves, every line of it, for SRC_TX_FLOW with its
media time and raises identifier 217. -/
def Obligations.ReceivedFrames : Prop :=
  ∀ (r : Fin 4) (p : RxPkt) (s : State),
    let c := s.rxCtx r
    let k := c.next.getD p.seq.toNat
    let nextC : RxCtx := { c with next := some ((k + 1) % 65536) }
    let on := s.inFlag (F.srcRxCfgEN.rx r) = true ∧ s.inReset .src = false ∧ s.pwr.stopped.contains 5 = false
    (s.inFlag (F.srcRxCfgEN.rx r) = false → exec (.rxPacket r p) s = .next s) ∧
    (on → 32768 ≤ (p.seq.toNat + 65536 - k) % 65536 → exec (.rxPacket r p) s = .next s) ∧
    (on → k ≠ p.seq.toNat → (p.seq.toNat + 65536 - k) % 65536 < 32768 → (∀ q ∈ c.hold, q.1.seq.toNat ≠ k) → c.hold.length < 63 →
      exec (.rxPacket r p) s = .next (setRx r { c with next := some k, hold := c.hold ++ [(p, s.gt)] } s)) ∧
    (on → k = p.seq.toNat → c.hold = [] →
      (c.frame = none → s.chooseBuf (s.inF (F.srcRxCfgHANDLE.rx r)) = none → p.marker = false →
        ∃ t f, exec (.rxPacket r p) s = .next t ∧ (t.rxCtx r).frame = some f ∧ f.dropped = true ∧ f.ts = p.ts.toNat ∧
          t.fld (F.srcRxStatNOBUF.rx r) = (s.fld (F.srcRxStatNOBUF.rx r) + 1) % 2 ^ (F.srcRxStatNOBUF).width ∧
          t.handles = s.handles ∧ t.mem = s.mem) ∧
      (∀ b d, c.frame = none → s.chooseBuf (s.inF (F.srcRxCfgHANDLE.rx r)) = some b → p.marker = false →
        s.inFlag (F.srcRxCfgKIND.rx r) = true → (s.handle (s.inF (F.srcRxCfgHANDLE.rx r))).desc = some d →
        ∃ t f, exec (.rxPacket r p) s = .next t ∧ (t.rxCtx r).frame = some f ∧ f.dropped = false ∧ f.buf = some b ∧ f.ts = p.ts.toNat ∧
          f.time = mediaTime p.ts.toNat s.gt ∧ f.bytes = p.bytes ∧ f.handle = s.inF (F.srcRxCfgHANDLE.rx r) ∧
          ((t.handle f.handle).buf b).pub = false ∧ t.regs = s.regs ∧ t.mem = s.mem) ∧
      (∀ f b d, c.frame = some f → f.ts = p.ts.toNat → f.dropped = false → f.buf = some b → (s.handle f.handle).desc = some d →
        (s.inFlag (F.srcRxCfgKIND.rx r) = true → p.marker = false →
          exec (.rxPacket r p) s = .next (setRx r { nextC with frame := some { f with bytes := f.bytes ++ p.bytes } } s)) ∧
        (let samp := s.inF (F.srcRxCfgSAMP.rx r);
          let n := runPixels samp p.samples.length;
          s.inFlag (F.srcRxCfgKIND.rx r) = false → p.marker = false → p.line < d.height → p.offset + n ≤ d.width →
          exec (.rxPacket r p) s = .next ((unpackRun samp p.offset p.samples).foldl
            (fun t e => rxWrite r (d.addr b e.1 e.2.1 p.line) (leBytes 2 (e.2.2 <<< if s.inFlag (F.srcRxCfgDEPTH.rx r) then 4 else 6)) t)
            (setRx r { nextC with frame := some { f with covered := (p.line, p.offset, n) :: f.covered } } s))) ∧
        (s.inFlag (F.srcRxCfgKIND.rx r) = false → p.marker = false → d.height ≤ p.line →
          ∃ t, exec (.rxPacket r p) s = .next (raise .src 4 { addr := p.line } t) ∧
            (t.rxCtx r).frame = some { f with dropped := true, buf := none } ∧
            t.fld (F.srcRxStatERROR.rx r) = (s.fld (F.srcRxStatERROR.rx r) + 1) % 2 ^ (F.srcRxStatERROR).width ∧ t.mem = s.mem) ∧
        (s.inFlag (F.srcRxCfgKIND.rx r) = false → p.marker = true → p.samples = [] → p.line < d.height → p.offset ≤ d.width →
          f.gap = false → d.width * d.height ≤ f.covered.foldl (fun a e => a + e.2.2) 0 → 0 ≤ f.time → f.time < 2 ^ 63 →
          ∃ t, exec (.rxPacket r p) s = .next t ∧ (t.rxCtx r).frame = none ∧ (t.handle f.handle).latest = some b ∧
            ((t.handle f.handle).buf b).pub = true ∧ ((t.handle f.handle).buf b).time = f.time ∧
            t.fld (F.srcRxStatPUBLISHED.rx r) = (s.fld (F.srcRxStatPUBLISHED.rx r) + 1) % 2 ^ (F.srcRxStatPUBLISHED).width ∧
            t.fld (F.srcRxLastT.rx r) = f.time.toNat ∧ 213 + r.val ∈ t.evt ∧ t.mem = s.mem))) ∧
    (∀ n : BitVec 48, 
      (∀ x d, s.inFlag F.srcTxCfgEN = true → s.inReset .src = false → s.pwr.stopped.contains 5 = false →
        s.txFrames.find? (fun x => x.n == n.toNat) = some x → (s.handle x.handle).desc = some d →
        let m := previewLines d x.buf s
        m.1.length = d.height ∧ exec (.previewFrameSent n) s = .next (intr 217 { m.2 with
          out := m.2.out ++ [.preview (s.inF F.srcTxFlowDSTIP) (s.inF F.srcTxFlowUDPPORT) (s.inF F.srcTxFlowVLAN) n.toNat x.time m.1],
          txFrames := m.2.txFrames.filter (fun x => x.n != n.toNat) })) ∧
      ((∀ x ∈ s.txFrames, x.n ≠ n.toNat) → exec (.previewFrameSent n) s = .next s))

/-- Composition and correction by frame (R28, R129, R141, R146, R148, R163, R164, R177). A take before its instant or out of turn does
nothing; with EN 0, or in a reset of CMP, the next frame is L16 zero; else frame n + 1 is taken with identifier 245, and correction
latches for it: a staged list of one layer whose surface has a buffer ready shows that buffer, one without holds its last buffer
within HOLD_MAX. A fetch burst that some pixel needs fills the layer's FIFO or faults the layer from that pixel's line on. A line in
its turn is composed, 1,024 sites long, written back, corrected and stored; that of a zero frame stores zero in the frame's half of
its tiles' stores and nothing else. At the deadline a frame closes, the lines it lacks filled and counted in UNDERRUN, and its
forecast goes to the rails; a whole written-back frame is published with identifier 247, and goes to the preview where that is due.
No corrected value exceeds 16 bits; a masked one is 0. -/
def Obligations.FramesAreComposed : Prop :=
  (∀ (n : BitVec 48) (s : State), s.pwr.stopped.contains 4 = false → s.tl.running = true →
    let early := s.tl.frame ≠ n.toNat ∨ s.gt < s.frameStart n.toNat + 8000
    (early → exec (.listTake n) s = .next s) ∧
    (¬ early → (∀ f, s.cmp.frame = some f → f.n ≠ n.toNat + 1) →
      ((s.inFlag F.cmpCtrlEN = false ∨ s.inReset .cmp = true) → ∃ t, exec (.listTake n) s = .next t ∧
        t = corLatch { s with cmp := { s.cmp with frame := some { n := n.toNat + 1, zero := true } } } ∧
        (s.corLit = false → t.cmp = { s.cmp with frame := some { n := n.toNat + 1, zero := true } } ∧ t.regs = s.regs ∧ t.mem = s.mem)) ∧
      (s.inFlag F.cmpCtrlEN = true → s.inReset .cmp = false → ∃ u f, u = takeFrame (n.toNat + 1) s ∧ u.cmp.frame = some f ∧
        f.n = n.toNat + 1 ∧ f.zero = false ∧ f.open_ = true ∧ f.next = 0 ∧ 245 ∈ u.evt ∧
        ((u.inFlag F.cmpWbCfgEN = false ∨ f.wbBuf ≠ none) → exec (.listTake n) s = .next (corLatch u)) ∧
        (u.inFlag F.cmpWbCfgEN = true → f.wbBuf = none → exec (.listTake n) s = .next (corLatch (wbDropFrame none u)) ∨
          exec (.listTake n) s = .next (wbDropFrame none u))) ∧
      (∀ l, s.inFlag F.cmpCtrlEN = true → s.inReset .cmp = false → s.inFlag F.cmpCtrlLISTSRC = true → s.inFlag F.cmpWbCfgEN = false →
        s.corLit = false → s.cmp.loads.list = some l → layersOf l = 1 →
        let rec0 := recOf l 0
        let v := SMap.get s.cmp.layers 0 {}
        (s.handle rec0.handle).st = .live → v.faultNext = false →
        (∀ b, s.candidate 0 rec0.handle (n.toNat + 1) = some b → ∃ t x, exec (.listTake n) s = .next t ∧
          t.cmp.frame = some { n := n.toNat + 1 } ∧ t.cmp.list = l ∧ SMap.get t.cmp.layers 0 {} = x ∧ x.mode = .ready ∧
          x.handle = rec0.handle ∧ x.buf = b ∧ x.last = some (rec0.handle, b) ∧ t.fld (F.cmpLyCondCOND.ly 0) = 1 ∧
          t.fld F.cmpListStatNLAYERS = 1 ∧ 245 ∈ t.evt ∧ t.mem = s.mem ∧ t.flt = s.flt) ∧
        (∀ b, s.candidate 0 rec0.handle (n.toNat + 1) = none → rec0.mask = false → v.last = some (rec0.handle, b) →
          v.holds + 1 ≤ s.inF F.cmpCtrlHOLDMAX → s.inF F.cmpCtrlHOLDMAX < 255 → ∃ t x, exec (.listTake n) s = .next t ∧
          SMap.get t.cmp.layers 0 {} = x ∧ x.mode = .holding ∧ x.buf = b ∧ x.holds = v.holds + 1 ∧
          t.fld (F.cmpLyCondCOND.ly 0) = 2 ∧ 245 ∈ t.evt ∧ t.mem = s.mem ∧ t.flt = s.flt)))) ∧
  (∀ (k : Fin 8) (va : BitVec 48) (len : Nat) (s : State),
    let v := SMap.get s.cmp.layers k.val {}
    (v.mode ≠ .ready → v.mode ≠ .holding → exec (.layerFetchBurst k va len) s = .next s) ∧
    (∀ f d p row y, s.cmp.frame = some f → f.open_ = true → f.zero = false → (v.mode = .ready ∨ v.mode = .holding) → 0 < len → len ≤ 64 →
      s.inReset .cmp = false → (s.handle v.handle).desc = some d → d.rowOf v.buf va.toNat = some (p, row) →
      (let px := burstPixels d.format p ((va.toNat - d.bufs.getD v.buf 0 - d.off p) % d.stride p) len; s.burstLine k row px.1 px.2 = some y) →
      v.faulted y = false →
      let m := rtRead k va.toNat len s
      (∀ l, m.1 = .ok l → exec (.layerFetchBurst k va len) s =
        .next (setLevel k (min 32768 (m.2.fld (F.cmpLfStatFILL.ly k) + len)) m.2)) ∧
      (∀ x, m.1 = .error x → ∃ u, exec (.layerFetchBurst k va len) s =
        .next (raise .cmp 5 { addr := x, mstr := 64 + k, typ := 4 } u) ∧ (∃ z ≤ y, (SMap.get u.cmp.layers k {}).faultFrom = some z) ∧
        (SMap.get u.cmp.layers k {}).faultNext = true))) ∧
  (∀ (y : Fin 1024) (s : State) (f : CmpFrame), s.cmp.frame = some f →
    ((f.open_ = false ∨ f.next ≠ y.val) → exec (.correctionLine y) s = .next s) ∧
    (f.open_ = true → f.next = y.val → s.inReset .cor = false → s.inReset .cmp = false → s.pwr.stopped.contains 4 = false →
      let m := composeLine y s
      m.1.length = 1024 ∧ exec (.correctionLine y) s =
        .next (spillAfter f.n y (correctLine f.n y m.1 (wbLine y m.1 (setNext (y + 1) (consumeLine y m.2)))))) ∧
    (f.open_ = true → f.next = y.val → s.inReset .cor = false → s.inReset .cmp = false → s.pwr.stopped.contains 4 = false →
      f.zero = true → f.wbBuf = none → s.corLit = false → s.inFlag F.diagCtrlDARKAUDIT = false → Memory.wf s.mem = true →
      ∃ t, exec (.correctionLine y) s = .next t ∧ t.cmp.frame = some { f with next := y.val + 1 } ∧ t.regs = s.regs ∧ t.flt = s.flt ∧
        (∀ c p xl i, c < 16 → p < 3 → xl < 64 → i < 2 → t.byte (0x10000000 + (16 * (y.val / 64) + c) * 0xC000 +
          (f.n % 2) * 0x6000 + 2 * (4096 * p + 64 * (y.val % 64) + xl) + i) = 0) ∧
        (∀ a, (∀ c p o, c < 16 → p < 3 → o < 128 → a ≠ 0x10000000 + (16 * (y.val / 64) + c) * 0xC000 +
          (f.n % 2) * 0x6000 + 2 * (4096 * p + 64 * (y.val % 64)) + o) → t.byte a = s.byte a))) ∧
  (∀ (n : BitVec 48) (s : State) (f : CmpFrame), s.cmp.frame = some f →
    ((f.n ≠ n.toNat + 1 ∨ f.open_ = false ∨ s.gt + 400000 < s.frameStart (n.toNat + 1)) → exec (.correctionDeadline n) s = .next s) ∧
    (s.tl.running = true → s.tl.frame = n.toNat → f.n = n.toNat + 1 → f.open_ = true → f.next = 1024 →
      s.frameStart (n.toNat + 1) ≤ s.gt + 400000 → s.pwr.stopped.contains 4 = false → s.inReset .cor = false →
      exec (.correctionDeadline n) s =
        .next (closeForecast (n.toNat + 1) { s with cmp := { s.cmp with frame := some { f with open_ := false } } })) ∧
    (s.tl.running = true → s.tl.frame = n.toNat → f.n = n.toNat + 1 → f.open_ = true → f.next < 1024 → f.wbBuf = none →
      s.frameStart (n.toNat + 1) ≤ s.gt + 400000 → s.pwr.stopped.contains 4 = false →
      let u := raise .cor 5 { addr := n.toNat + 1 } (countMod F.corUnderrunN (1024 - f.next)
        (fillLines f.n ((List.range (1024 - f.next)).map (fun i => f.next + i)) s))
      let t := { u with cmp := { u.cmp with frame := u.cmp.frame.map (fun g => { g with next := 1024, open_ := false }) } }
      exec (.correctionDeadline n) s = .next (if t.inReset .cor then t else closeForecast (n.toNat + 1) t)) ∧
    (∀ b, f.wbBuf = some b → f.n = n.toNat → f.next = 1024 → f.wbDrop = false → s.inReset .cmp = false →
      let h := s.inF F.cmpWbCfgHANDLE
      ((s.handle h).st ≠ .live → exec (.writebackPublish n) s = .next (wbDropFrame none s)) ∧
      ((s.handle h).st = .live → exec (.writebackPublish n) s = .next (intr 247
        { publishBuf h b (s.frameStart n.toNat : Int) s with
          cmp := { s.cmp with frame := some { f with wbBuf := none } },
          txFrames := s.txFrames ++ (if s.inFlag F.srcTxCfgEN = true ∧ s.inF F.srcTxCfgHANDLE = h ∧ n.toNat % (s.inF F.srcTxCfgDIV + 1) = 0
            then [⟨n.toNat, h, b, (s.frameStart n.toNat : Int)⟩] else []) }))) ∧
    ((f.wbBuf = none ∨ f.n ≠ n.toNat ∨ f.next ≠ 1024 ∨ f.wbDrop = true) → exec (.writebackPublish n) s = .next s)) ∧
  (∀ (d : Nat) (c : CalIn) (derate throttle : Nat), correctVal d c derate throttle ≤ 0xFFFF ∨ 0xFFFF < derate ∨ 0xFFFF < throttle) ∧
  (∀ (d : Nat) (c : CalIn) (derate throttle : Nat), c.mask = true → correctVal d c derate throttle = 0)

/-- The cartridge's coming and going (R170 to R174). Presence makes an absent cartridge PRESENT with identifier 262; ATTACH while
ABSENT ends REMOVED at once, with no valid identity copy it rejects the cartridge with BAD_IDENTITY; each exchange takes the
authenticator's next answer, a silent one it waits for, and else it goes on with the outcome it records; after 500 ms the outcome is
NO_RESPONSE and dose accounting stays off. An ATTACH that ends OK leaves READY and produces its pair. Removal empties the accumulators, raises CART_REMOVED, ends a command
REMOVED and turns the rails off. -/
def Obligations.CartridgePresenceAndAttach : Prop :=
  ∀ (c : Cartridge) (s : State),
    let fin := fun (r : Nat) (u : State) =>
      intr 261 (setFld F.corCmdRESULT r (setFld F.corCmdSTATE 2 { u with cor := { u.cor with busy := none } }))
    let pair := (s.fld F.corCaddrVA, s.fld F.corCaddr2VA)
    (s.fld F.corCartStatSTATE = 0 → exec (.cartPresence c) s =
      .next (intr 262 (setFld F.corCartStatSTATE 1 { s with cor := { s.cor with cart := some (s.cor.cart.getD c) } }))) ∧
    (s.fld F.corCartStatSTATE ≠ 0 → exec (.cartPresence c) s = .next s) ∧
    (s.fld F.corCartStatSTATE = 0 → exec .cartRemoval s = .next { s with cor := { s.cor with cart := none } }) ∧
    (s.fld F.corCartStatSTATE ≠ 0 → ∃ t, exec .cartRemoval s =
        .next (railsRemoved (let u := intr 262 (raise .cor 7 {} t); if u.cor.busy.isSome then fin 4 u else u)) ∧
      t.fld F.corCartStatSTATE = 0 ∧ t.fld F.corCartStatAUTH = 0 ∧ t.cor.cart = none ∧ t.cor.produced = none ∧
      t.cor.dosing = false ∧ t.corLit = false ∧ t.inForce = s.inForce ∧ t.flag F.corLifeSumVALID = false ∧
      (∀ e ∈ t.mem, e ∈ s.mem ∧ (e.1 < 0x11000000 ∨ 0x11600000 ≤ e.1))) ∧
    (s.fld F.corCmdSTATE = 1 → exec .attach s = .next (raise .cor 1 { addr := 0x20200050, typ := 2 } s)) ∧
    (s.fld F.corCmdSTATE ≠ 1 → (s.cor.cart = none ∨ s.fld F.corCartStatSTATE = 0) → exec .attach s = .next (fin 4 s)) ∧
    (s.fld F.corCmdSTATE ≠ 1 → s.fld F.corCartStatSTATE ≠ 0 → s.cor.cart = some c →
      (cartId c = none → ∃ t, exec .attach s = .next t ∧ t.cor.busy = some { result := 1 } ∧ t.fld F.corCmdSTATE = 1 ∧
        t.fld F.corCartStatSTATE = 3 ∧ t.cor.produced = none ∧ t.flag F.corLifeSumVALID = false ∧ t.mem = s.mem) ∧
      (∀ l b, cartId c = some (l, b) →
        (leAt l 0x18 4 ≠ 0x1000040 → ∃ t, exec .attach s = .next t ∧ t.cor.busy = some { result := 1 } ∧
          t.fld F.corCartStatSTATE = 3 ∧ t.mem = s.mem) ∧
        (leAt l 0x18 4 = 0x1000040 → (∀ cert sig, c.answers.head? ≠ some (some cert, some sig)) → ∃ t, exec .attach s = .next t ∧
          t.cor.busy = some { result := 0, waitAuth := true } ∧ t.cor.cart = some { c with answers := c.answers.drop 1 } ∧ t.cor.id = l ∧ t.cor.produced = none ∧
          t.fld F.corCartCalCALCOUNT = leAt l 0x120 4 ∧ t.fld F.corCartStatSTATE = s.fld F.corCartStatSTATE ∧ t.mem = s.mem) ∧
        (∀ cert sig, leAt l 0x18 4 = 0x1000040 → c.answers.head? = some (some cert, some sig) →
          ∃ t x, exec .attach s = .next t ∧ t.cor.busy = some x ∧ t.fld F.corCmdSTATE = 1 ∧
            (x.result = 0 → t.fld F.corCartStatSTATE = 2 ∧ (t.cor.dosing = true ↔ (authResult l cert sig s).1 = 1) ∧
              ((authResult l cert sig s).1 = 1 → x.pair = some pair)) ∧
            (x.result ≠ 0 → x.result = 5 ∧ x.pair = none)))) ∧
    (∀ b, s.cor.busy = some b → b.waitAuth = true → s.cor.cart = some c → ∃ t x, exec .authTimeout s = .next t ∧
      t.cor.busy = some x ∧ x.waitAuth = false ∧ t.fld F.corCmdSTATE = 1 ∧
      (x.result = 0 → t.fld F.corCartStatSTATE = 2 ∧ t.cor.dosing = false)) ∧
    (∀ b, s.cor.busy = some b → b.waitAuth = false → exec .authTimeout s = .next s)

/-- Commands of the cartridge manager and checkpoints (R176, R179 to R189). BUSY refuses a command under R15, a STATE other than READY
ends it NOT_READY; CAL_WRITE checks its image first, and without OVERWRITE ends NEED_ACK. PREPARE produces its pair with OK alone;
CAL_WRITE of a valid image leaves the copy not in use WRITING while the area is programmed, and ends BAD_CRC where the area reads
back wrong (log entry 82); without AUTH PASS a checkpoint touches no slot, and none where the dose plane cannot be read; else the next
slot in rotation loses its header. SHUTDOWN_CKPT spills every tile first, and ends FAULT where a spill faults. A command ends with its result and identifier 261; a checkpoint whose data could be read ends
with its header, the life table in MRAM and identifier 263, a failed one raises CKPT_FAIL; a due one waits for a command to end. -/
def Obligations.CartridgeCommandsAndCheckpoints : Prop :=
  ∀ (f : Bool) (s : State),
    let fin := fun (r : Nat) (u : State) =>
      intr 261 (setFld F.corCmdRESULT r (setFld F.corCmdSTATE 2 { u with cor := { u.cor with busy := none } }))
    let busy := fun (b : CorBusy) (u : State) => setFld F.corCmdSTATE 1 { u with cor := { u.cor with busy := some b } }
    let a := s.fld F.corCaddrVA
    let ready := s.fld F.corCmdSTATE ≠ 1 ∧ s.fld F.corCartStatSTATE = 2
    let m := corQuiet a imageLen s
    (s.fld F.corCmdSTATE = 1 → let r := raise .cor 1 { addr := 0x20200050, typ := 2 } s
      exec (.prepare f) s = .next r ∧ exec .exportCal s = .next r ∧ exec (.calWrite f) s = .next r ∧ exec .checkpoint s = .next r ∧
      exec .shutdownCkpt s = .next r) ∧
    (s.fld F.corCmdSTATE ≠ 1 → s.fld F.corCartStatSTATE ≠ 2 →
      exec (.prepare f) s = .next (fin 6 s) ∧ exec .exportCal s = .next (fin 6 s) ∧ exec (.calWrite f) s = .next (fin 6 s) ∧
      exec .checkpoint s = .next (fin 6 s) ∧ exec .shutdownCkpt s = .next (fin 6 s)) ∧
    (ready →
      (∃ t x, exec (.prepare f) s = .next t ∧ t.cor.busy = some x ∧ t.fld F.corCmdSTATE = 1 ∧
        (x.result = 0 ↔ x.pair = some (a, s.fld F.corCaddr2VA)) ∧ (x.result = 0 ∨ x.result = 2 ∨ x.result = 5 ∨ x.result = 8) ∧
        (∀ l, m.1 = some l → imageResult l ≠ 0 → x.result = imageResult l)) ∧
      (∀ c, s.cor.cart = some c → ∃ t x, exec .exportCal s = .next t ∧ t.cor.busy = some x ∧ t.fld F.corCmdSTATE = 1 ∧
        (x.result = 0 ∨ x.result = 2 ∨ x.result = 5) ∧
        (x.result = 0 → imageCrc (cartArea c) = leAt (cartArea c) 0x1C 4)) ∧
      (∀ c, s.cor.cart = some c → s.cor.id.length = 4096 → ∃ t, exec (.calWrite f) s = .next t ∧ (match m.1 with
        | none => t = busy { result := 5 } m.2
        | some l => if imageResult l ≠ 0 then t = busy { result := imageResult l } m.2
          else if f = false then t = fin 3 m.2
          else ∃ x d, t.cor.busy = some x ∧ (x.result = 0 ∨ x.result = 2) ∧
            (x.result = 0 ↔ imageCrc (cartArea d) = leAt (cartArea d) 0x1C 4) ∧ (x.newId.isSome = true ↔ x.result = 0) ∧
            t.cor.cart = some d ∧ d.cal = areaOf l ∧
            (s.cor.idIsB = true → d.idB = c.idB ∧ leAt d.idA 0x11C 4 = 1) ∧
            (s.cor.idIsB = false → d.idA = c.idA ∧ leAt d.idB 0x11C 4 = 1))) ∧
      (s.fld F.corCartStatAUTH ≠ 1 → exec .checkpoint s = .next (busy { result := 0 } s)) ∧
      (∀ c, s.fld F.corCartStatAUTH = 1 → s.cor.cart = some c →
        let k := (s.cor.slot + 1) % 4
        let dose := corQuiet (s.fld F.corDoseVaVA) 0x1800000 s
        (dose.1 = none → exec .checkpoint s =
          .next (busy { result := 5, ckpt := some ⟨k, none⟩ } { dose.2 with cor := { dose.2.cor with slot := k } })) ∧
        (∀ l, dose.1 = some l → ∃ t x r, exec .checkpoint s = .next t ∧ t.cor.busy = some x ∧ t.fld F.corCmdSTATE = 1 ∧
          x.ckpt = some r ∧ r.slot = k ∧ t.cor.slot = k ∧ t.cor.cart = some { c with slots := SMap.erase c.slots k } ∧
          (x.result = 0 ↔ r.data ≠ none) ∧ (r.data ≠ none ↔ k ∉ c.badSlots) ∧ (x.result = 0 ∨ x.result = 5) ∧
          (∀ d, r.data = some d → d.clean = false ∧ ∀ q < subpixels, SMap.get d.dose q 0 = leAt l (8 * q) 6))) ∧
      (s.cor.dosing = false → exec .shutdownCkpt s = .next (checkpointAct true s)) ∧
      (s.cor.dosing = true →
        let r := (List.range 256).foldl (fun a n => let x := spillTile true n a.2; (a.1 && x.1, x.2)) (true, s)
        exec .shutdownCkpt s = .next (if r.1 = true then checkpointAct true r.2 else busy { result := 5 } r.2))) ∧
    (s.cor.busy = none → exec .cartCmdComplete s = .next s) ∧
    (∀ b, s.cor.busy = some b → b.waitAuth = false → b.newId = none → b.ckpt = none →
      exec .cartCmdComplete s = .next (fin b.result (match b.pair with
        | some p => { s with cor := { s.cor with produced := some p } } | none => s))) ∧
    (∀ b r d c, s.cor.busy = some b → b.waitAuth = false → b.newId = none → b.pair = none → b.ckpt = some r → r.data = some d →
      s.cor.cart = some c → b.result < 16 → ∃ t, exec .cartCmdComplete s = .next t ∧ t.cor.busy = none ∧ t.fld F.corCmdRESULT = b.result ∧
        t.fld F.corCmdSTATE = 2 ∧ t.cor.cart = some { c with slots := SMap.put c.slots r.slot d } ∧ 261 ∈ t.evt ∧ 263 ∈ t.evt ∧
        t.cor.dosing = (s.cor.dosing && !d.clean) ∧ t.flt = s.flt) ∧
    (∀ b x c, s.cor.busy = some b → b.waitAuth = false → b.newId = some x → b.pair = none → b.ckpt = none → s.cor.cart = some c →
      b.result < 16 → ∃ t d, exec .cartCmdComplete s = .next t ∧ t.cor.busy = none ∧ t.fld F.corCmdRESULT = b.result ∧
        t.cor.cart = some d ∧ t.cor.idIsB = !s.cor.idIsB ∧ t.cor.id = (if t.cor.idIsB then d.idB else d.idA) ∧ 261 ∈ t.evt ∧
        t.flt = s.flt ∧ t.mem = s.mem) ∧
    (∀ r d c, s.cor.ckpt = some r → r.data = some d → s.cor.cart = some c → ∃ t, exec .checkpointWritten s = .next t ∧
      t.cor.cart = some { c with slots := SMap.put c.slots r.slot d } ∧ t.cor.seq = max s.cor.seq d.seq ∧ t.cor.ckpt = none ∧
      t.cor.ckptRef = s.gt ∧ t.cor.ckptDone = true ∧ 263 ∈ t.evt ∧ t.flt = s.flt ∧ t.mem = (putBytes s.lifeAddr (lifeBytes s) s).mem) ∧
    (∀ r, s.cor.ckpt = some r → r.data = none → exec .checkpointWritten s =
      .next (raise .cor 10 { addr := r.slot } { s with cor := { s.cor with ckpt := none, ckptRef := s.gt } })) ∧
    (s.cor.ckpt = none → exec .checkpointWritten s = .next s) ∧
    (let due : Prop := s.fld F.corCartStatSTATE = 2 ∧ s.fld F.corCartStatAUTH = 1 ∧ s.cor.ckpt = none ∧
        s.cor.ckptRef + s.fld F.corCtrlCKPTMIN * 60000000000 ≤ s.gt;
      (¬ due → exec .ckptDue s = .next s) ∧
      (due → s.cor.busy ≠ none → exec .ckptDue s = .next { s with cor := { s.cor with deferred := true } }) ∧
      (∀ c, due → s.cor.busy = none → s.cor.cart = some c → ∃ t r, exec .ckptDue s = .next t ∧ t.cor.ckpt = some r ∧
        r.slot = (s.cor.slot + 1) % 4 ∧ t.cor.deferred = false)) ∧
    ((s.cor.deferred = false ∨ s.cor.busy ≠ none) → exec .ckptDeferredStart s = .next s) ∧
    (∀ c, s.cor.deferred = true → s.cor.busy = none → s.cor.ckpt = none → s.cor.cart = some c → ∃ t r,
      exec .ckptDeferredStart s = .next t ∧ t.cor.ckpt = some r ∧ r.slot = (s.cor.slot + 1) % 4 ∧ t.cor.deferred = false)

/-- Scan programs (R196, R198, R199 to R208, R214). A refresh does not begin before its instant; when it begins RC counts, and every
active engine starts at ENTRY with no slot used. An engine runs the word at its pc: SETC, LOOP, JMP and BRREF move
its pc and counters, END stops it, a ninth of these before a LINE sends the pending slot dark with source 3 where one is left; LINE
fills the next slot: dark of kind 2 or in forced darkness, dark with ROW_REPEAT for a row already driven, else with the row's 192 encoded words;
with every slot used it waits. A command whose opcode the word does not hold does nothing. -/
def Obligations.ScanPrograms : Prop :=
  ∀ (n : Fin 256) (s : State),
    let v := s.teSt n
    let w := s.progWord n v.pc
    let op := bits w 31 28
    let set := fun (x : TeState) => setTe n x s
    let c := ((if bit w 27 then v.c1 else v.c0) + 255) % 256
    (v.run = false → exec (.line n) s = .next s ∧ exec (.scanLoop n) s = .next s ∧ exec (.setc n) s = .next s ∧
      exec (.jmp n) s = .next s ∧ exec (.brref n) s = .next s ∧ exec (.scanEnd n) s = .next s) ∧
    (v.run = true → s.teActive n = true → s.inReset (Blk.teN n) = false →
      (op ≠ 0 → exec (.scanEnd n) s = .next s) ∧ (op ≠ 1 → exec (.line n) s = .next s) ∧
      (v.others < 8 →
        (op = 0 → exec (.scanEnd n) s = .next (set { v with others := v.others + 1, run := false })) ∧
        (op = 2 → exec (.scanLoop n) s = .next (set { v with
          others := v.others + 1, c1 := if bit w 27 then c else v.c1, c0 := if bit w 27 then v.c0 else c,
          pc := (if c ≠ 0 then bits w 26 20 else v.pc + 1) % 128 })) ∧
        (op = 3 → exec (.setc n) s = .next (set { v with
          others := v.others + 1, c1 := if bit w 27 then bits w 7 0 else v.c1, c0 := if bit w 27 then v.c0 else bits w 7 0,
          pc := (v.pc + 1) % 128 })) ∧
        (op = 4 → exec (.jmp n) s = .next (set { v with others := v.others + 1, pc := bits w 27 21 % 128 })) ∧
        (op = 5 → exec (.brref n) s = .next (set { v with
          others := v.others + 1, pc := (if (s.rc &&& bits w 20 14) = bits w 13 7 then bits w 27 21 else v.pc + 1) % 128 }))) ∧
      (v.others = 8 → v.slot < 64 → op = 4 → ∃ u, exec (.jmp n) s = .next (scanPc n (bits w 27 21) (raise (Blk.teN n) 3 {} u)) ∧
        u.teSt n = { v with others := 1, slot := v.slot + 1 } ∧
        u.fld (F.teStatSLOTMISS.te n) = (s.fld (F.teStatSLOTMISS.te n) + 1) % 65536) ∧
      (v.others = 8 → v.slot < 64 → op = 0 → ∃ u, let r := raise (Blk.teN n) 3 {} u
        exec (.scanEnd n) s = .next (setTe n { r.teSt n with run := false } r) ∧ u.teSt n = { v with others := 1, slot := v.slot + 1 } ∧
        u.fld (F.teStatSLOTMISS.te n) = (s.fld (F.teStatSLOTMISS.te n) + 1) % 65536) ∧
      (v.others = 8 → 64 ≤ v.slot → (op = 4 → exec (.jmp n) s = .next (set { v with pc := bits w 27 21 % 128 })) ∧
        (op = 0 → exec (.scanEnd n) s = .next (set { v with run := false }))) ∧
      (op = 1 →
        let row := if bit w 27 then bits w 26 21 else s.orderRow n v.i s.rc
        let v1 : TeState := { v with pc := (v.pc + 1) % 128, i := if bit w 27 then v.i else v.i + 1, others := 0, slot := v.slot + 1 }
        (64 ≤ v.slot → exec (.line n) s = .next s) ∧
        (v.slot < 64 → (bits w 20 19 = 2 ∨ s.forcedDark n = true) → exec (.line n) s = .next (set v1)) ∧
        (v.slot < 64 → bits w 20 19 ≠ 2 → s.forcedDark n = false → row ∈ v.rows → ∃ u, exec (.line n) s =
          .next (raise (Blk.teN n) 4 { addr := row } u) ∧ u.teSt n = v1 ∧
          u.fld (F.teStatROWREPEAT.te n) = min (s.fld (F.teStatROWREPEAT.te n) + 1) 255) ∧
        (v.slot < 64 → bits w 20 19 ≠ 2 → s.forcedDark n = false → row ∉ v.rows → ∃ t p, exec (.line n) s = .next t ∧
          SMap.find (t.teSt n).out v.slot = some p ∧ p.dark = false ∧ p.row = row ∧ p.kind = bits w 20 19 ∧ p.pset = bits w 18 17 ∧
          p.sense = bit w 16 ∧ p.words.length = 192) ∧
        (v.slot < 64 → bits w 20 19 ≠ 2 → s.forcedDark n = false → row ∉ v.rows → s.ue = [] → s.ce = [] →
          s.inFlag F.diagCtrlEN = false → v.debt = [] → ∃ t p, exec (.line n) s = .next t ∧
            SMap.find (t.teSt n).out v.slot = some p ∧ p.dark = false ∧ p.row = row ∧ p.kind = bits w 20 19 ∧
            p.pset = bits w 18 17 ∧ p.sense = bit w 16 ∧ (t.teSt n).rows = v.rows ++ [row] ∧ (t.teSt n).pc = v1.pc ∧
            (t.teSt n).i = v1.i ∧ (t.teSt n).slot = v.slot + 1 ∧ p.words.length = 192 ∧
            (∀ xl q, xl < 64 → q < 3 → p.words.getD (3 * xl + q) 0 =
              (let e := encodeOn (leNat (s.bytes (0x10000000 + n * 0xC000 + (s.tl.frame % 2) * 0x6000 +
                  2 * (4096 * q + 64 * row + xl)) 2)) (s.ceilOf (n / 32)) (s.fld F.teScanStatLD) s.rc (bit w 15) (bits w 14 11)
               16 * e.1 + e.2)) ∧ t.regs = s.regs ∧ t.flt = s.flt ∧ t.mem = s.mem))) ∧
    (∀ k : Fin 320, (s.gt < s.rstart s.tl.frame k ∨ s.tl.running = false) → exec (.refreshStart k) s = .next s) ∧
    (∀ k : Fin 320, s.tl.running = true → k.val < s.scanM → s.rstart s.tl.frame k < s.frameStart (s.tl.frame + 1) →
      s.rstart s.tl.frame k ≤ s.gt → s.pwr.stopped.contains 3 = false →
      (∀ l, s.scan.last = some l → l.1 ≠ s.tl.frame ∨ l.2 < k.val) →
      exec (.refreshStart k) s = .next (refreshBegin s.tl.frame k s) ∧
      ((∀ i, i < 256 → (s.teSt i).run = false) → ∃ t, exec (.refreshStart k) s = .next t ∧ t.scan.last = some (s.tl.frame, k.val) ∧ t.flt = s.flt ∧ t.mem = s.mem ∧
        t.rc = (s.rc + 1) % 128 ∧
        (∀ i, i < 256 → (t.teSt i).run = (s.teActive i && !(s.inReset (Blk.teN i))) ∧
          (t.teSt i).pc = s.inF (F.teCtrlENTRY.te i) ∧ (t.teSt i).c0 = 0 ∧ (t.teSt i).c1 = 0 ∧ (t.teSt i).slot = 0 ∧
          (t.teSt i).rows = [] ∧ (t.teSt i).out = [])))

/-- The encoding of a sub-pixel value at refresh j (R210, R211): the step is ISTEP, or the smallest that holds the value; Qb is the
value in units of 1/Ld count, no more than 255 x Ld; ON is Qb div Ld, and one more where the reversed bits of j are below fb = Qb
mod Ld. Over any Ld consecutive refreshes exactly fb carry base + 1, so over any k x Ld of them the on-times sum to k x Qb. ON
fits 8 bits, the step 4. -/
def Obligations.PixelEncoding : Prop :=
  ∀ (y ceil b rc istep : Nat) (ifix : Bool), y ≤ 0xFFFF → ceil ≤ 0xFFFF → b ≤ 7 → istep ≤ 15 →
    let ld := 2 ^ b
    let e := fun (j : Nat) => encodeOn y ceil ld j ifix istep
    let yc := min y ceil
    let st := if ifix then istep else (16 * yc + 65534) / 65535 - 1
    let qb := min ((32 * yc * ld + 257 * (st + 1)) / (514 * (st + 1))) (255 * ld)
    (∀ j, (e j).2 = st ∧ (e j).1 ≤ 255) ∧ st ≤ 15 ∧ (ifix = false → yc = 0 → ∀ j, e j = (0, 0)) ∧
    (∀ j r, r < ld → (∀ i < b, r.testBit i = (j % ld).testBit (b - 1 - i)) →
      (e j).1 = qb / ld + (if r < qb % ld then 1 else 0)) ∧
    (List.range ld).countP (fun j => decide ((e (rc + j)).1 = qb / ld + 1)) = qb % ld ∧
    (∀ k, ((List.range (k * ld)).map (fun j => (e (rc + j)).1)).sum = k * qb)

/-- Bring-up of a port (R238 to R241, R247, R252). BRINGUP starts ASSIGN at code 0, whose Rill frame starts unless one runs; RETRAIN
without capabilities raises NO_CAP, in LOOP with them does nothing, else assigns the target; DOWN forgets the port. TRAIN begins 100 µs after the latch; it leads
to CAP in bring-up, else up one code, or to RUN with identifier 548 + p; a TRAIN of 2 ms is repeated twice, the third failure
falls back one code or at code 0 ends in FAULT 1. CAP asks the next position; the eighth answer gives CAP_RATE; silence is asked
again, then FAULT 2. -/
def Obligations.PortBringUp : Prop :=
  ∀ (p : Fin 32) (s : State), s.epOn p = true →
    let v := s.port p
    let st := s.epSt p
    let q := s.epCode p
    let rate := s.inF F.epRateRATE
    let assigned := fun (code : Nat) (t : State) => t.epSt p = 1 ∧ t.epCode p = code ∧ (t.port p).tries = 0 ∧
      (t.port p).latched = none ∧ t.mem = s.mem ∧
      (bit (s.fld F.rilStatBUSY) p = false → s.inReset .ril = false → bit (t.fld F.rilStatBUSY) p = true ∧
        SMap.find t.ril p = some { at_ := s.now, assign := true, recs := (List.range 8).map (fun r => s.rillRecord p r code) }) ∧
      (bit (s.fld F.rilStatBUSY) p = true → (t.port p).rilWait = true ∧ t.ril = s.ril)
    let asks := fun (pos : Nat) => let r := v.fwd.getD {}
      some { r with words := r.words ++ capReqPacket (8 * p + pos) }
    let runs := fun (t : State) => t.epSt p = 4 ∧ 548 + p.val ∈ t.evt ∧ (t.flag (F.epPstatFALLBACK.ep p) = decide (q < rate)) ∧
      t.mem = s.mem ∧ t.flt = s.flt
    (st = 5 → exec (.bringup p) s = .next s ∧ (s.flag (F.epPstatCAPVALID.ep p) = true → exec (.retrain p) s = .next s)) ∧
    (st ≠ 5 → ∃ t, exec (.bringup p) s = .next t ∧ assigned 0 t ∧ (t.port p).up = true ∧ t.flt = s.flt ∧
      t.flag (F.epPstatCAPVALID.ep p) = false ∧ t.flag (F.epPstatFALLBACK.ep p) = false ∧ t.fld (F.epPstatFAULTCODE.ep p) = 0) ∧
    (s.flag (F.epPstatCAPVALID.ep p) = false → exec (.retrain p) s = .next (raise (Blk.epN p) 10 {} s)) ∧
    (st ≠ 5 → s.flag (F.epPstatCAPVALID.ep p) = true → rate < 4 → s.fld (F.epPstatCAPRATE.ep p) < 4 →
      ∃ t, exec (.retrain p) s = .next t ∧ assigned (s.epTarget p) t ∧
        t.flag (F.epPstatFALLBACK.ep p) = decide (s.epTarget p < rate) ∧ t.flt = s.flt) ∧
    (∃ t, exec (.down p) s = .next t ∧ t.epSt p = 0 ∧ t.epCode p = 0 ∧ t.port p = { driveEnd := s.lastDrive p } ∧ t.flag (F.epPstatCAPVALID.ep p) = false ∧
      t.fld (F.epPstatFAULTCODE.ep p) = 0 ∧ t.ril = s.ril ∧ t.flt = s.flt ∧ t.mem = s.mem) ∧
    (∀ l, v.latched = some l → st = 1 →
      (s.now < l + 100000 → exec (.trainStart p) s = .next s) ∧
      (l + 100000 ≤ s.now → ∃ t, exec (.trainStart p) s = .next t ∧ t.epSt p = 2 ∧ (t.port p).trainAt = s.now ∧ t.flt = s.flt)) ∧
    (st ≠ 2 → exec (.trainSuccess p) s = .next s ∧ exec (.trainTimeout p) s = .next s) ∧
    (st = 2 →
      (v.up = true → s.flag (F.epPstatCAPVALID.ep p) = false → ∃ t, exec (.trainSuccess p) s = .next t ∧ t.epSt p = 3 ∧
        (t.port p).capPos = 0 ∧ (t.port p).capAgain = false ∧ (t.port p).fwd = asks 0 ∧ t.flt = s.flt) ∧
      (v.up = true → s.flag (F.epPstatCAPVALID.ep p) = true → q < v.target → v.target < 4 →
        ∃ t, exec (.trainSuccess p) s = .next t ∧ assigned (q + 1) t) ∧
      (s.flag (F.epPstatCAPVALID.ep p) = true → v.target < q → q < 4 →
        ∃ t, exec (.trainSuccess p) s = .next t ∧ assigned v.target t) ∧
      (s.flag (F.epPstatCAPVALID.ep p) = true → q = v.target → ∃ t, exec (.trainSuccess p) s = .next t ∧ runs t) ∧
      (s.now < v.trainAt + 2000000 → exec (.trainTimeout p) s = .next s) ∧
      (v.trainAt + 2000000 ≤ s.now →
        (v.tries < 2 → exec (.trainTimeout p) s =
          .next { s with ports := SMap.put s.ports p { v with tries := v.tries + 1, trainAt := s.now } }) ∧
        (2 ≤ v.tries → q = 0 → ∃ u, exec (.trainTimeout p) s = .next (raise (Blk.epN p) 3 { typ := 6 } u) ∧ u.epSt p = 6 ∧
          u.fld (F.epPstatFAULTCODE.ep p) = 1 ∧ 548 + p.val ∈ u.evt) ∧
        (2 ≤ v.tries → 0 < q → q < 4 → ∃ u, exec (.trainTimeout p) s = .next (raise (Blk.epN p) 3 { typ := 6 } u) ∧
          assigned (q - 1) u ∧ u.flag (F.epPstatFALLBACK.ep p) = true ∧ (u.port p).target = q - 1 ∧ (u.port p).up = false ∧
          u.fld (F.epErrcntFALLBACKS.ep p) = (s.fld (F.epErrcntFALLBACKS.ep p) + 1) % 65536 ∧ 548 + p.val ∈ u.evt))) ∧
    (∀ (pos : Fin 8) (cap : BitVec 64), (st ≠ 3 ∨ v.capPos ≠ pos.val) → exec (.capAnswer p pos cap) s = .next s) ∧
    (∀ (pos : Fin 8) (cap : BitVec 64), st = 3 → v.capPos = pos.val → pos.val < 7 →
      exec (.capAnswer p pos cap) s = .next { setFld ((F.epCapCAP.ep p).at (8 * pos)) cap.toNat s with
        ports := SMap.put s.ports p { v with capPos := pos.val + 1, capAgain := false, capAt := s.now, fwd := asks (pos.val + 1) } }) ∧
    (∀ cap : BitVec 64, st = 3 → v.capPos = 7 → q = 0 → ∃ t, exec (.capAnswer p 7 cap) s = .next t ∧
      t.flag (F.epPstatCAPVALID.ep p) = true ∧ t.fld ((F.epCapCAP.ep p).at 56) = cap.toNat ∧
      t.fld (F.epPstatCAPRATE.ep p) = (List.range 8).foldl (fun m r => min m (t.fld ((F.epCapCAP.ep p).at (8 * r)) / 2 ^ 62)) 3 ∧
      t.flt = s.flt ∧ t.mem = s.mem) ∧
    (st = 3 → v.capAt + 100000 ≤ s.now →
      (v.capAgain = false → exec (.capTimeout p) s =
        .next { s with ports := SMap.put s.ports p { v with capAgain := true, capAt := s.now, fwd := asks v.capPos } }) ∧
      (v.capAgain = true → v.capPos < 8 → ∃ u, exec (.capTimeout p) s = .next (raise (Blk.epN p) 4 { addr := v.capPos } u) ∧
        u.epSt p = 6 ∧ u.fld (F.epPstatFAULTCODE.ep p) = 2 ∧ u.fld (F.epPstatFAULTPOS.ep p) = v.capPos)) ∧
    ((st ≠ 3 ∨ s.now < v.capAt + 100000) → exec (.capTimeout p) s = .next s)

/-- A port in use (R230, R236, R237, R242, R244, R248). A loopback starts from its one state and is refused under R15 in any other;
LOOP_END leaves a near-end one for DOWN, a far-end one waits for return block lock and runs again. An error window over ERR_MAX or
a lost lock falls back, a code that serves no class ending in FAULT 3. A slot takes what the eight engines hand over; a RET of a
slot not expected is nothing, one with a bad CRC counts RET_CRC with source 7. RIL_SEND starts the frames it names or is refused
whole; the latch is reported 1,596 µs after the start, with identifier 581. -/
def Obligations.PortsInUse : Prop :=
  ∀ (p : Fin 32) (s : State), s.epOn p = true →
    let v := s.port p
    let st := s.epSt p
    let q := s.epCode p
    let refused := raise (Blk.epN p) 1 { addr := 0x22000000 + p * 0x1000, mstr := 255, typ := 2 } s
    let looped := fun (k : LoopKind) (t : State) => t.epSt p = 5 ∧ (t.port p).loop = some k ∧ (t.port p).ending = false ∧
      t.fld (F.epPrbsWORDS.ep p) = 0 ∧ t.fld (F.epPrbsERRORS.ep p) = 0 ∧ t.flt = s.flt ∧ t.mem = s.mem
    let failed := fun (u : State) =>
      (q ≤ 1 → u.epSt p = 6 ∧ u.fld (F.epPstatFAULTCODE.ep p) = 3) ∧
      (1 < q → u.epSt p = 1 ∧ u.epCode p = q - 1 ∧ u.flag (F.epPstatFALLBACK.ep p) = true) ∧ 548 + p.val ∈ u.evt
    (∀ lane : Fin 2,
      (st = 0 → (∃ t, exec (.loopNes p lane) s = .next t ∧ looped (.nes lane) t) ∧
        (∃ t, exec (.loopNep p lane) s = .next t ∧ looped (.nep lane) t)) ∧
      (st ≠ 0 → exec (.loopNes p lane) s = .next refused ∧ exec (.loopNep p lane) s = .next refused)) ∧
    (∀ pos : Fin 8, (st = 4 → ∃ t, exec (.loopFar p pos) s = .next t ∧ looped (.far pos) t) ∧
      (st ≠ 4 → exec (.loopFar p pos) s = .next refused)) ∧
    (st ≠ 5 → exec (.loopEnd p) s = .next s) ∧
    (∀ lane, st = 5 → (v.loop = some (.nes lane) ∨ v.loop = some (.nep lane)) →
      ∃ t, exec (.loopEnd p) s = .next t ∧ t.epSt p = 0 ∧ (t.port p).loop = none ∧ t.flt = s.flt ∧ t.mem = s.mem) ∧
    (∀ pos, st = 5 → v.loop = some (.far pos) → v.ending = false → ∃ t, exec (.loopEnd p) s = .next t ∧ t.epSt p = 5 ∧
      (t.port p).ending = true ∧ (t.port p).trainAt = s.now ∧ t.flt = s.flt) ∧
    (st = 5 → v.ending = true → s.now ≤ v.trainAt + blocks64 q → ∃ t, exec (.returnBlockLock p) s = .next t ∧ t.epSt p = 4 ∧
      (t.port p).loop = none ∧ 548 + p.val ∈ t.evt ∧ t.flt = s.flt) ∧
    ((st ≠ 5 ∨ v.ending = false) → exec (.returnBlockLock p) s = .next s) ∧
    (st ≠ 4 → (st ≠ 5 ∨ v.ending = false) → exec (.returnLockLoss p) s = .next s) ∧
    (st = 4 → q < 4 → ∃ u, exec (.returnLockLoss p) s = .next (raise (Blk.epN p) 5 { typ := 6 } u) ∧ failed u) ∧
    ((st ≠ 4 ∨ s.gt / 1000000 ≤ v.winAt) → exec (.errWindowClose p) s = .next s) ∧
    (st = 4 → v.winAt < s.gt / 1000000 →
      (v.win ≤ s.fld (F.epLimitERRMAX.ep p) → exec (.errWindowClose p) s =
        .next { s with ports := SMap.put s.ports p { v with win := 0, winAt := s.gt / 1000000 } }) ∧
      (s.fld (F.epLimitERRMAX.ep p) < v.win → q < 4 →
        ∃ u, exec (.errWindowClose p) s = .next (raise (Blk.epN p) 5 { typ := 6 } u) ∧ failed u)) ∧
    (∀ i : Fin 64, s.scan.last = none → exec (.slotStart p i) s = .next s) ∧
    (∀ (i : Fin 64) k, s.scan.last = some (s.tl.frame, k) → st = 4 → s.sstart s.tl.frame k i ≤ s.gt →
      s.sstart s.tl.frame k i < s.frameStart (s.tl.frame + 1) → v.slots = [] → ∃ t sl, exec (.slotStart p i) s = .next t ∧
        (t.port p).slots = [sl] ∧ sl.refresh = k ∧ sl.slot = i.val ∧ sl.frame = s.tl.frame ∧ sl.got = 0 ∧ sl.pkts.length = 8 ∧
        (∀ r, r < 8 → sl.pkts.getD r {} =
          if s.forcedDark (8 * p + r) then {} else SMap.get (s.teSt (8 * p + r)).out i {}) ∧
        (∀ r, r < 8 → (t.teSt (8 * p + r)).slot = max (s.teSt (8 * p + r)).slot (i + 1)) ∧
        t.regs = s.regs ∧ t.flt = s.flt ∧ t.mem = s.mem) ∧
    (∀ (i : Fin 64) k, s.scan.last = some (s.tl.frame, k) → (st = 3 ∨ st = 4) → s.sstart s.tl.frame k i ≤ s.gt →
      s.sstart s.tl.frame k i < s.frameStart (s.tl.frame + 1) → (∀ l, v.slots.head? = some l → slotBefore l s.tl.frame k i = true) →
      ∃ u sl r, exec (.slotStart p i) s = .next (retLost p u) ∧ (u.port p).slots = (sl :: v.slots).take 4 ∧ sl.refresh = k ∧
        sl.slot = i.val ∧ sl.frame = s.tl.frame ∧ sl.pkts.length = 8 ∧ (u.port p).fwd = some r ∧
        (∃ o < 10, r.start = .slot i k o) ∧ u.regs = s.regs ∧ u.flt = s.flt ∧ u.mem = s.mem ∧
        (st = 3 → sl.got = 0xFF ∧ ∀ j < 8, sl.pkts.getD j {} = {})) ∧
    (∀ r : Ret, v.slots = [] → exec (.retReceived p r) s = .next s) ∧
    (∀ (r : Ret) (sl : PSlot), st = 4 → v.slots = [sl] → sl.slot = r.slot.val → sl.refresh = r.refresh.val →
      sl.got.getLsbD r.pos.val = false →
      (r.crcOk = false → ∃ u, exec (.retReceived p r) s = .next (raise (Blk.epN p) 7 { addr := r.pos.val } u) ∧
        u.fld (F.epErrcntRETCRC.ep p) = (s.fld (F.epErrcntRETCRC.ep p) + 1) % 65536 ∧ (u.port p).win = v.win + 1) ∧
      (r.crcOk = true → r.crcErr.toNat = 0 → r.supplyLow = false → r.pllUnlock = false → r.rillBad = false →
        ∃ u, exec (.retReceived p r) s = .next (diagRet (8 * p + r.pos) r (sl.pkts.getD r.pos {}) u) ∧
          (u.port p).slots = [{ sl with got := sl.got ||| BitVec.ofNat 8 (1 <<< r.pos.val) }] ∧ u.regs = s.regs ∧ u.flt = s.flt ∧
          (SMap.find u.thm.ret (8 * p + r.pos)).isSome = true) ∧
      (r.crcOk = true → ∃ u, exec (.retReceived p r) s = .next (diagRet (8 * p + r.pos) r (sl.pkts.getD r.pos {}) (retStatus p r u)) ∧
        (u.port p).slots = [{ sl with got := sl.got ||| BitVec.ofNat 8 (1 <<< r.pos.val) }] ∧ u.regs = s.regs ∧ u.flt = s.flt)) ∧
    (∀ ports : BitVec 32, s.inReset .ril = false → s.pwr.stopped.contains 3 = false →
      ((BitVec.ofNat 32 (s.fld F.rilStatBUSY) &&& ports) ≠ 0 →
        exec (.rilSend ports) s = .next (raise .ril 1 { addr := 0x22020000, mstr := 255, typ := 2 } s)) ∧
      ((BitVec.ofNat 32 (s.fld F.rilStatBUSY) &&& ports) = 0 → ∃ t, exec (.rilSend ports) s = .next t ∧ t.flt = s.flt ∧
        (∀ i < 32, ports.getLsbD i = true → bit (t.fld F.rilStatBUSY) i = true ∧ ∃ f, SMap.find t.ril i = some f ∧
          f.at_ = s.now ∧ f.assign = false ∧ f.recs.length = 8) ∧
        (∀ i < 32, ports.getLsbD i = false → SMap.find t.ril i = SMap.find s.ril i))) ∧
    (SMap.find s.ril p = none → exec (.rillLatchReport p) s = .next s) ∧
    (∀ f, SMap.find s.ril p = some f → s.inReset .ril = false →
      (s.now < f.at_ + 1596000 → exec (.rillLatchReport p) s = .next s) ∧
      (f.at_ + 1596000 ≤ s.now → v.rilWait = false → ∃ t, exec (.rillLatchReport p) s = .next t ∧
        bit (t.fld F.rilStatBUSY) p = false ∧ bit (t.fld F.rilStatDONE) p = true ∧ 581 ∈ t.evt ∧
        (st = 1 → f.assign = true → (t.port p).latched = some s.now) ∧ t.flt = s.flt ∧ t.mem = s.mem))

/-- The forward stream of a port (R225, R226, R228 to R230, R232, R233). Word w of a run goes on lane w mod 2 after the control block
that begins it, which both lanes send in one block time, and IDLE blocks fill the rest. Control blocks, packets, ROW, DARK and PARAM
headers hold the fields of their tables; column c's word stands in bits [12c+11:12c] of a ROW body. A block is 80 bits of 8b/10b, or 66
bits of 64b/66b that begin with 01 for data and 10 for control. The lanes are idle where the forwarded clock does not run. A slot
sends SLOT, PARAM in slot 0 in RUN, and the packets of its eight positions in order. -/
def Obligations.ForwardStream : Prop :=
  (∀ (r : FwdRun) (lane b w : Nat) (x : BitVec 64), lane < 2 →
    r.block lane 0 = r.start.block lane ∧
    (r.words[w]? = some x → r.block (w % 2) (w / 2 + 1) = .data x) ∧
    (r.words.length ≤ 2 * b + lane → r.block lane (b + 1) = .control 0x1E 0)) ∧
  (∀ (lane i k o rate : Nat) (ready : Bool), lane < 2 → i < 64 → k < 320 → o < 16 → rate < 4 →
    (∃ x, (Ctrl.slot i k o).block lane = .control 0x78 x ∧ bits x.toNat 55 50 = i ∧ bits x.toNat 49 41 = k ∧ bits x.toNat 40 37 = o ∧
      bits x.toNat 36 0 = 0) ∧
    (∃ x, (Ctrl.train rate ready).block lane = .control 0x4B x ∧ bits x.toNat 55 54 = rate ∧ bits x.toNat 53 53 = lane ∧
      bit x.toNat 52 = ready ∧ bits x.toNat 51 0 = 0xCCCCCCCCCCCCC)) ∧
  (∀ ws : List Word, (packet ws).length = ws.length + 1 ∧ (packet ws).take ws.length = ws ∧
    ((packet ws).getD ws.length 0).toNat = crc32c (ws.flatMap (fun w => leBytes 8 w.toNat))) ∧
  (∀ (n i k : Nat) (t : TePkt), n < 256 → i < 64 → k < 320 →
    (t.dark = true → ∃ h : Word, rowPacket n i k t = packet [h] ∧ bits h.toNat 63 60 = 2 ∧ bits h.toNat 59 59 = 0 ∧
      bits h.toNat 58 51 = n ∧ bits h.toNat 50 41 = 0 ∧ bits h.toNat 40 35 = i ∧ bits h.toNat 34 26 = k ∧ bits h.toNat 25 0 = 0) ∧
    (t.dark = false → ∃ (h : Word) (body : List Word), rowPacket n i k t = packet (h :: body) ∧ body.length = 36 ∧
      bits h.toNat 63 60 = 1 ∧ bits h.toNat 59 59 = 0 ∧ bits h.toNat 58 51 = n ∧ bits h.toNat 50 45 = t.row % 64 ∧
      bit h.toNat 44 = (t.kind == 1) ∧ bit h.toNat 43 = t.sense ∧ bits h.toNat 42 41 = t.pset % 4 ∧ bits h.toNat 40 35 = i ∧
      bits h.toNat 34 26 = k ∧ bits h.toNat 25 13 = t.lt % 8192 ∧ bits h.toNat 12 3 = t.gapc % 1024 ∧ bits h.toNat 2 0 = 0 ∧
      ∀ c < 192, ((body.getD (12 * c / 64) 0).toNat / 2 ^ (12 * c % 64) +
        (body.getD (12 * c / 64 + 1) 0).toNat * 2 ^ (64 - 12 * c % 64)) % 4096 = t.words.getD c 0 % 4096)) ∧
  (∀ (p : Fin 32) (frame k cyc : Nat) (s : State), k < 320 → cyc < 8192 → ∃ (h : Word) (body : List Word),
    s.paramPacket p frame k cyc = packet (h :: body) ∧ body.length = 4 ∧ bits h.toNat 63 60 = 3 ∧ bits h.toNat 59 59 = 1 ∧
    bits h.toNat 50 38 = cyc ∧ bits h.toNat 37 29 = k ∧ bit h.toNat 28 = (k == 0) ∧ bits h.toNat 27 0 = frame % 2 ^ 28) ∧
  (∀ (rate : Nat) (b : Block) (c : Coder), (b.line rate c).1.length = (if rate ≤ 1 then 80 else 66) ∧
    (1 < rate → (b.line rate c).1.take 2 = match b with | .data _ => [false, true] | .control _ _ => [true, false])) ∧
  (∀ (p : Fin 32) (s : State),
    (s.fckRuns p = true ↔ s.epSt p = 2 ∨ s.epSt p = 3 ∨ s.epSt p = 4 ∨ (s.epSt p = 5 ∧ ∃ pos, (s.port p).loop = some (.far pos))) ∧
    (s.fckRuns p = false → ∀ lane b, s.fwdBlock p lane b = none)) ∧
  (∀ (p : Fin 32) (i : Fin 64) (k : Nat) (s : State), s.epOn p = true → s.scan.last = some (s.tl.frame, k) →
    (s.epSt p = 3 ∨ s.epSt p = 4) → s.sstart s.tl.frame k i ≤ s.gt → s.sstart s.tl.frame k i < s.frameStart (s.tl.frame + 1) →
    (∀ l, (s.port p).slots.head? = some l → slotBefore l s.tl.frame k i = true) →
    ∃ u sl o, exec (.slotStart p i) s = .next (retLost p u) ∧ (u.port p).slots.head? = some sl ∧ o < 10 ∧
      (u.port p).fwd = some { start := .slot i k o, words :=
        (if i.val = 0 ∧ s.epSt p = 4 then s.paramPacket p s.tl.frame k sl.slotCyc else []) ++
          (List.range 8).flatMap (fun j => rowPacket (8 * p + j) i k (sl.pkts.getD j {})) })

/-- DIAG (R254 to R258, R268 to R271). While a command is BUSY another is refused under R15; primary 3 ends BADARG; MASK sets FW_MASK
and takes OK and UNVERIFIED to MASKED_OFF, UNMASK clears it and takes MASKED_OFF to UNVERIFIED, CLEAR takes OPEN, SHORT and
STUCK_ON to UNVERIFIED or MASKED_OFF and ends NOT_SET in any other state; a change writes the map and mask plane. INIT ends with
code 2 while EN is in force. Completion shows the result with identifier 277. A sweep runs once in 256 frames and ends with
identifier 280; it stamps an entry verified since, an OK entry not verified for longer than AGE_MAX becomes UNVERIFIED, and an entry
whose write failed is written again. A first item of LEAK, OPEN or SHORT changes
no STATE; DRIVE_OK verifies. -/
def Obligations.Diagnostics : Prop :=
  ∀ (n : Fin 256) (p : Fin 4) (yl xl : Fin 64) (s : State),
    let q := subIdx n p yl xl
    let v := s.sub q
    let busy := fun (r : Nat) (init : Bool) (u : State) =>
      setFld F.diagCmdSTATE 1 { u with diag := { u.diag with busy := some (r, init) } }
    let done := fun (r : Bool × State) => busy (if r.1 then 0 else 3) false r.2
    let free := s.inReset .diag = false ∧ s.fld F.diagCmdSTATE ≠ 1
    let masked := setSub q { v with fw := true } s
    let shown := setSub q { v with fw := false } s
    (s.inReset .diag = false → s.fld F.diagCmdSTATE = 1 →
      let r := raise .diag 1 { addr := 0x20300028, mstr := 255, typ := 2 } s
      exec .diagInit s = .next r ∧ exec (.diagMask n p yl xl) s = .next r ∧ exec (.diagUnmask n p yl xl) s = .next r ∧
      exec (.diagClear n p yl xl) s = .next r) ∧
    (free → p = 3 → exec (.diagMask n p yl xl) s = .next (busy 1 false s) ∧ exec (.diagUnmask n p yl xl) s = .next (busy 1 false s) ∧
      exec (.diagClear n p yl xl) s = .next (busy 1 false s)) ∧
    (free → p ≠ 3 →
      ((v.st = 0 ∨ v.st = 4) → exec (.diagMask n p yl xl) s = .next (done (subTo q 5 1 masked))) ∧
      (v.st ≠ 0 → v.st ≠ 4 → v.fw = false → exec (.diagMask n p yl xl) s = .next (done (writeEntry q none masked))) ∧
      (v.st ≠ 0 → v.st ≠ 4 → v.fw = true → exec (.diagMask n p yl xl) s = .next (busy 0 false s)) ∧
      (v.st = 5 → exec (.diagUnmask n p yl xl) s = .next (done (subTo q 4 1 shown))) ∧
      (v.st ≠ 5 → v.fw = true → exec (.diagUnmask n p yl xl) s = .next (done (writeEntry q none shown))) ∧
      (v.st ≠ 5 → v.fw = false → exec (.diagUnmask n p yl xl) s = .next (busy 0 false s)) ∧
      ((v.st = 1 ∨ v.st = 2 ∨ v.st = 3) → exec (.diagClear n p yl xl) s =
        .next (done (subTo q (if v.fw then 5 else 4) 1 (setSub q v s)))) ∧
      (v.st ≠ 1 → v.st ≠ 2 → v.st ≠ 3 → exec (.diagClear n p yl xl) s = .next (busy 5 false s))) ∧
    (∀ new cause, new ≠ 3 → v.st ≠ 3 →
      let r := writeEntry q none (setSub q { v with st := new } s)
      subTo q new cause s = (r.1, diagEvent q v.st new cause false r.2)) ∧
    (free → s.inFlag F.diagCtrlEN = true → exec .diagInit s = .next (busy 2 true s)) ∧
    (free → s.inFlag F.diagCtrlEN = false → ∃ t r, exec .diagInit s = .next t ∧ t.diag.busy = some (r, true) ∧ (r = 0 ∨ r = 3) ∧
      t.fld F.diagCmdSTATE = 1) ∧
    (s.diag.busy = none → exec .diagCmdComplete s = .next s) ∧
    (∀ b, s.diag.busy = some b → b.1 < 6 → ∃ t, exec .diagCmdComplete s = .next t ∧ t.diag.busy = none ∧ t.fld F.diagCmdSTATE = 2 ∧
      t.fld F.diagCmdRESULT = b.1 ∧ t.diag.inited = (s.diag.inited || (b.2 && b.1 == 0)) ∧ 277 ∈ t.evt ∧ t.diag.sub = s.diag.sub ∧
      t.mem = s.mem ∧ t.flt = s.flt) ∧
    ((s.inFlag F.diagCtrlEN = false ∨ s.tl.running = false ∨ s.diag.swept = some (s.tl.frame / 256)) →
      exec .diagSweep s = .next s) ∧
    (s.inFlag F.diagCtrlEN = true → s.tl.running = true → s.diag.swept ≠ some (s.tl.frame / 256) → s.diag.sweeping = false →
      s.inReset .diag = false → s.pwr.stopped.contains 4 = false → exec .diagSweep s = .next (forN 3145728 sweepOne
        { s with diag := { s.diag with swept := some (s.tl.frame / 256), sweeping := true } })) ∧
    (∀ l, let r := ioRead { mstr := 255 } .rt false (s.fld F.mmuRtAsidASID) (s.fld F.diagMapVaVA + 4 * q) 4 s
      let old : Prop := (r.2.sub q).st = 0 ∧ r.2.inF F.diagCtrlAGEMAX < (r.2.stamp + 65536 - leAt l 0 2) % 65536
      r.1 = .ok l →
      (SMap.get r.2.diag.ver q false = false → (old → sweepOne q s = (subTo q 4 2 r.2).2) ∧
        (¬ old → q ∉ r.2.diag.dirty → sweepOne q s = r.2) ∧
        (¬ old → q ∈ r.2.diag.dirty → sweepOne q s = (writeEntry q none r.2).2)) ∧
      (SMap.get r.2.diag.ver q false = true →
        let u := { r.2 with diag := { r.2.diag with ver := SMap.erase r.2.diag.ver q } }
        ((leAt l 0 2 ≠ u.stamp ∨ q ∈ r.2.diag.dirty) → sweepOne q s = (writeEntry q (some u.stamp) u).2) ∧
        (leAt l 0 2 = u.stamp → q ∉ r.2.diag.dirty → sweepOne q s = u))) ∧
    (s.diag.sweeping = true → exec .sweepComplete s = .next (intr 280 { s with diag := { s.diag with sweeping := false } })) ∧
    (s.diag.sweeping = false → exec .sweepComplete s = .next s) ∧
    (∀ kind, 3 ≤ kind → kind ≤ 5 → s.evRun q = none → s.diag.table.length < 4096 → 1 < s.confirm kind →
      let t := evidence q kind s
      (t.sub q).st = v.st ∧ (t.sub q).kind = kind ∧ (t.sub q).run = 1 ∧ t.evRun q = some ⟨q, kind, 1⟩ ∧ t.regs = s.regs ∧
      t.flt = s.flt ∧ t.mem = s.mem) ∧
    (v.st = 4 → ∃ u, evidence q 1 s = (subTo q 0 0 u).2 ∧ (u.sub q).st = 4 ∧ SMap.get u.diag.ver q false = true ∧ u.evRun q = none)

/-- Rail states (R274 to R278, R282 to R285). Under the START condition a rail ramps from its sensed output to V_IDLE; VSENSE within
UV_MARGIN of V_IDLE takes it to HOLD; SW_CLOSED for 2 µs takes it to TRACK at the displayed frame's setpoint, its loss back to
HOLD; a sample of VSENSE shows there, and one below V_IDLE ends the hold low that OV leaves; a rail that slews off reaches OFF; RESTART of a rail in OFF or FAULT clears NEED_RESTART and the FAILED bits. A rise for the
next frame acts on a rail in TRACK at its instant; a rail without the forecast takes V_MAX, counts FC_LATE and raises source 9. -/
def Obligations.RailStates : Prop :=
  ∀ (k : Fin 24) (s : State),
    let r := s.rail k
    let idle := s.inF (F.railVlimVIDLE.rail k)
    let goal := fun (t : State) => ((t.rail k).segs.map (fun g => g.goal)).head?
    let w := s.swLine (k / 3)
    let sensed := fun (v : Nat) => let t := setFld (F.railStatVSENSE.rail k) v s
      if v < idle then setRail k { r with low := false } t else t
    let kept := fun (t : State) => t.flt = s.flt ∧ t.mem = s.mem ∧ ∀ j, j < 24 → j ≠ k.val → t.rail j = s.rail j ∧ t.railSt j = s.railSt j
    (s.startOk k = false → exec (.railStart k) s = .next s) ∧
    (s.startOk k = true → ∃ t, exec (.railStart k) s = .next t ∧ t.railSt k = 1 ∧ (t.rail k).startAt = s.now ∧ goal t = some idle ∧
      t.railTarget k = s.fld (F.railStatVSENSE.rail k) ∧ kept t) ∧
    (∀ v : BitVec 16, s.railReset k = true → exec (.railHoldEntry k v) s = .next s) ∧
    (∀ v : BitVec 16, s.railReset k = false → s.railSt k ≠ 1 → exec (.railHoldEntry k v) s = .next (sensed v.toNat)) ∧
    (∀ v : BitVec 16, s.railSt k = 1 → s.railReset k = false →
      let m := 10 * s.fld (F.railProtUVMARGIN.rail k)
      ((idle ≤ v.toNat + m ∧ v.toNat ≤ idle + m) → r.slewOff = false → ∃ t, exec (.railHoldEntry k v) s = .next t ∧ t.railSt k = 2 ∧
        t.fld (F.railStatVSENSE.rail k) = v.toNat ∧ goal t = some idle ∧ 584 + k.val ∈ t.evt ∧ kept t) ∧
      (¬ (idle ≤ v.toNat + m ∧ v.toNat ≤ idle + m) → exec (.railHoldEntry k v) s = .next (sensed v.toNat))) ∧
    ((s.railSt k ≠ 2 ∨ w.on = false ∨ s.now < w.since + 2000) → exec (.railTrackEntry k) s = .next s) ∧
    (s.railSt k = 2 → w.on = true → w.since + 2000 ≤ s.now → s.railReset k = false → r.slewOff = false →
      (∀ j ∈ neighbours k, s.railSt j ≠ 4 ∧ s.railSt j ≠ 1 ∧ s.railReset j = false) →
      ∃ t, exec (.railTrackEntry k) s = .next t ∧ t.railSt k = 3 ∧ (t.rail k).eff = some (s.dispSet k) ∧
        goal t = some (s.dispSet k).1 ∧ 584 + k.val ∈ t.evt ∧ kept t) ∧
    ((s.railSt k ≠ 3 ∨ w.on = true ∨ s.now < w.since + 2000) → exec (.railTrackExit k) s = .next s) ∧
    (s.railSt k = 3 → w.on = false → w.since + 2000 ≤ s.now → r.slewOff = false → ∃ t, exec (.railTrackExit k) s = .next t ∧
      t.railSt k = 2 ∧ (t.rail k).eff = none ∧ goal t = some idle ∧ 584 + k.val ∈ t.evt ∧ kept t) ∧
    (r.slewOff = false → exec (.railSlewOff k) s = .next s) ∧
    (r.slewOff = true → s.railOn k = true → s.railTarget k = s.inF (F.railVlimVMIN.rail k) → ∃ t, exec (.railSlewOff k) s = .next t ∧
      t.railSt k = 0 ∧ (t.rail k).segs = [] ∧ t.railTarget k = 0 ∧ t.flag (F.railStatNEEDRESTART.rail k) =
        s.flag (F.railStatNEEDRESTART.rail k) ∧ kept t) ∧
    (s.railOn k = true → exec (.railRestart k) s = .next s) ∧
    (s.railReset k = false → (s.railSt k = 0 ∨ s.railSt k = 4) → ∃ t, exec (.railRestart k) s = .next t ∧ t.railSt k = 0 ∧
      t.flag (F.railStatNEEDRESTART.rail k) = false ∧ (∀ i < 4, t.flag ((F.railPhFAILED.rail k).at (8 * i)) = false) ∧
      (t.rail k).segs = [] ∧ kept t) ∧
    (∀ n : BitVec 48,
      ((s.tl.running = false ∨ s.tl.frame ≠ n.toNat ∨ s.gt + s.railLead < s.frameStart (n.toNat + 1)) →
        exec (.railRaise n) s = .next s) ∧
      (s.tl.running = true → s.tl.frame = n.toNat → s.frameStart (n.toNat + 1) ≤ s.gt + s.railLead →
        exec (.railRaise n) s = .next (forN 24 (fun j u => railRise j n.toNat u) s)) ∧
      (s.tl.running = true → s.tl.frame = n.toNat → s.frameStart (n.toNat + 1) ≤ s.gt + s.railLead → s.railSt k = 3 → r.slewOff = false →
        s.swLost k = false → s.railReset k = false →
        (∀ j, j < 24 → j ≠ k.val → s.railOn j = false ∧ (s.railReset j = true ∨ ∃ x, (s.rail j).next = some (n.toNat + 1, x))) → ∀ v m e x,
        r.next = some (n.toNat + 1, v, m) → r.eff = some (e, x) →
        ((e < v ∨ x < m) → ∃ t, exec (.railRaise n) s = .next t ∧ (t.rail k).eff = some (max e v, max x m) ∧
          goal t = some (max e v) ∧ t.railSt k = 3 ∧ kept t) ∧
        (v ≤ e → m ≤ x → exec (.railRaise n) s = .next s)) ∧
      (r.next = none → ∃ u, railLate k n.toNat s = raise (Blk.railN k) 9 { addr := n.toNat + 1 } u ∧
        (u.rail k).next = some (n.toNat + 1, s.inF (F.railVlimVMAX.rail k), max 1 (s.healthy k).length) ∧
        u.fld (F.railCntFCLATE.rail k) = (s.fld (F.railCntFCLATE.rail k) + 1) % 2 ^ (F.railCntFCLATE).width))

/-- Rail protection (R278, R279, R286): over-voltage above VHI, under-voltage below the target, over-current, a START of 2 ms, and a
sense outside 0.2 to 6.5 V trip the rail: it enters FAULT with its phases off or, after OV, low, waits for RESTART, its group
neighbours in TRACK go to HOLD, and its source is raised; a sense failure of a rail in FAULT ends its hold low. A failed phase is excluded, the last one is a fault; a phase at its
limit counts. -/
def Obligations.RailProtection : Prop :=
  ∀ (k : Fin 24) (v : BitVec 16) (i : Fin 4) (s : State),
    let tripped := fun (src : Nat) (low : Bool) (o : Host.Outcome State Fault Refusal) =>
      ∃ u, o = .next (raise (Blk.railN k) src { addr := k } u) ∧ u.railSt k = 4 ∧ (u.rail k).low = low ∧ (u.rail k).segs = [] ∧
        u.flag (F.railStatNEEDRESTART.rail k) = true ∧ u.fld (F.railStatPHACTIVE.rail k) = 0 ∧ 584 + k.val ∈ u.evt ∧
        (∀ j ∈ neighbours k, u.railSt j = if s.railSt j = 3 then 2 else s.railSt j) ∧ u.flt = s.flt ∧ u.mem = s.mem
    let vhi := s.railVhi k + 10 * s.fld (F.railProtOVMARGIN.rail k)
    let low := v.toNat + 10 * s.fld (F.railProtUVMARGIN.rail k)
    (s.railOn k = true → vhi < v.toNat → tripped 3 true (exec (.ov k v) s)) ∧
    ((s.railOn k = false ∨ v.toNat ≤ vhi) → exec (.ov k v) s = .next s) ∧
    ((s.railSt k = 2 ∨ s.railSt k = 3) → low < s.railTarget k → tripped 4 false (exec (.uv k v) s)) ∧
    ((s.railSt k = 1 ∨ s.railTarget k ≤ low) → exec (.uv k v) s = .next s) ∧
    (s.railOn k = true → tripped 5 false (exec (.oc k) s)) ∧
    (s.railOn k = false → exec (.oc k) s = .next s) ∧
    (s.railSt k = 1 → (s.rail k).startAt + 2000000 ≤ s.now → tripped 6 false (exec (.startFail k) s)) ∧
    ((s.railSt k ≠ 1 ∨ s.now < (s.rail k).startAt + 2000000) → exec (.startFail k) s = .next s) ∧
    (s.railSt k ≠ 0 → s.railSt k ≠ 4 → s.railReset k = false → (v.toNat < 200 ∨ 6500 < v.toNat) → tripped 7 false (exec (.senseFail k v) s)) ∧
    (s.railSt k = 4 → s.railReset k = false → (v.toNat < 200 ∨ 6500 < v.toNat) → ∃ u, exec (.senseFail k v) s =
      .next (raise (Blk.railN k) 7 { addr := k } u) ∧ u.railSt k = 4 ∧ (u.rail k).low = false ∧ u.flt = s.flt ∧ u.mem = s.mem) ∧
    ((s.railSt k = 0 ∨ s.railReset k = true ∨ (200 ≤ v.toNat ∧ v.toNat ≤ 6500)) → exec (.senseFail k v) s = .next s) ∧
    (let active := bit (s.fld (F.railStatPHACTIVE.rail k)) i;
      (active = false → exec (.phaseFail k i) s = .next s ∧ exec (.phaseCurrentLimit k i) s = .next s) ∧
      (active = true → s.railOn k = true →
        let w := setFlag ((F.railPhFAILED.rail k).at (8 * i)) true s
        let n := match (s.rail k).eff with | some p => p.2 | none => 1
        (w.healthy k = [] → exec (.phaseFail k i) s = .next (raise (Blk.railN k) 8 { addr := i } (railFault k false w))) ∧
        (w.healthy k ≠ [] → exec (.phaseFail k i) s = .next (raise (Blk.railN k) 8 { addr := i } (setPhases k (max 1 n) w))) ∧
        exec (.phaseCurrentLimit k i) s = .next (setFld (F.railCntILIM.rail k)
          (min (s.fld (F.railCntILIM.rail k) + 1) (2 ^ (F.railCntILIM).width - 1)) s)))

/-- THM and FAN (R289 to R303). A sample is taken once at each instant and takes the RETs' values; a plausible sample is the sensor's
value, the third implausible one in a row loses the sensor with source 3 and identifier 610. DERATE stays between FLOOR and 65,535
and is 65,535 up to KNEE. THROTTLE falls at once to its target and rises by no more than RELAX, and not while frozen; a freeze
ends at its instant. A tach window shows 30 RPM per pulse; the second slow one stalls a CURVE or FIXED channel with source 3 and
identifier 617; OFF and HEATER clear a stall; a spin-up ends after 1 s. -/
def Obligations.ThermalAndFans : Prop :=
  (∀ (es : List (BitVec 32)) (die : List (BitVec 16)) (s : State),
    let at_ := s.gt / s.thmInterval * s.thmInterval
    ((∃ l, s.thm.last = some l ∧ at_ ≤ l ∧ l ≤ s.gt) → exec (.thmSample es die) s = .next s) ∧
    ((∀ l, s.thm.last = some l → l < at_ ∨ s.gt < l) → s.inReset .thm = false → s.pwr.stopped.contains 10 = false →
      ∃ t, exec (.thmSample es die) s = .next t ∧ t.thm.last = some at_ ∧ t.thm.ret = [])) ∧
  (∀ (i : Nat) (x : Int) (s : State), let v := s.sensor i
    (-640 ≤ x → x ≤ 2400 → v.lost = false → (∀ p, v.prev = some p → x - p ≤ 320 ∧ p - x ≤ 320) →
      let t := judge i (some x) s
      (t.sensor i).val = x ∧ (t.sensor i).has = true ∧ (t.sensor i).bad = 0 ∧ (t.sensor i).prev = some x ∧
      (t.sensor i).lost = false ∧ t.regs = s.regs ∧ t.flt = s.flt) ∧
    ((x < -640 ∨ 2400 < x) → v.lost = false →
      (v.bad < 2 → let t := judge i (some x) s
        t.sensor i = { v with bad := v.bad + 1, good := 0 } ∧ t.regs = s.regs ∧ t.flt = s.flt) ∧
      (v.bad = 2 → ∃ u, judge i (some x) s = intr 610 (raise .thm 3 { addr := i, tile := if i < 256 then some i else none } u) ∧ (u.sensor i).lost = true ∧
        (u.sensor i).val = v.val ∧ u.regs = s.regs))) ∧
  (∀ (s : State) (t : Int), s.inF F.thmDerateFLOOR ≤ 65535 → s.inF F.thmDerateFLOOR ≤ s.derate t ∧ s.derate t ≤ 65535 ∧
    (t ≤ toInt 16 (s.inF F.thmDerateKNEE) → s.derate t = 65535)) ∧
  (∀ (ms at_ : Nat) (s : State), s.inF F.thmThrotTMIN ≤ 65535 → s.fld F.thmStatTHROTTLE ≤ 65535 →
    let old := s.fld F.thmStatTHROTTLE
    let target := (clampI (s.inF F.thmThrotTMIN) 65535 (65535 - (s.inF F.thmThrotTGAIN : Nat) * s.excess.1 / 16)).toNat
    let frozen := s.thm.frozen.filter (fun e => decide (at_ < e))
    let new := min target (if frozen = none then old + s.inF F.thmThrotRELAX * ms / 1000 else old)
    (old < 65535 ↔ new < 65535) → (throttleStep ms at_ false s).fld F.thmStatTHROTTLE = new ∧
      (throttleStep ms at_ false s).flag F.thmStatFROZEN = frozen.isSome ∧ (throttleStep ms at_ false s).flt = s.flt) ∧
  (∀ (s : State) (f : Nat), s.thm.frozen = some f →
    (f ≤ s.gt → exec .throttleHoldEnd s = .next (setFlag F.thmStatFROZEN false { s with thm := { s.thm with frozen := none } })) ∧
    (s.gt < f → exec .throttleHoldEnd s = .next s)) ∧
  (∀ (c : Fin 8) (pulses : BitVec 16) (s : State), s.inReset .fan = false → s.pwr.stopped.contains 10 = false →
    let rpm := min 0xFFFF (30 * pulses.toNat)
    let mode := s.fld (F.fanChCfgMODE.fan c)
    let judged := (mode = 1 ∨ mode = 2) ∧ 20 < s.fld (F.fanChStatDUTY.fan c)
    let slow := rpm < 10 * s.fld (F.fanChCfgSTALLRPM.fan c)
    let v := SMap.get s.fan c.val {}
    ((¬ judged ∨ ¬ slow) → s.flag (F.fanChStatSTALL.fan c) = false → ∃ t, exec (.fanTachWindow c pulses) s = .next t ∧
      t.fld (F.fanChStatRPM.fan c) = rpm ∧ t.flag (F.fanChStatSTALL.fan c) = false ∧ t.flt = s.flt ∧ t.mem = s.mem) ∧
    (judged → slow → s.flag (F.fanChStatSTALL.fan c) = false →
      (v.low = 0 → ∃ t, exec (.fanTachWindow c pulses) s = .next t ∧ t.fld (F.fanChStatRPM.fan c) = rpm ∧
        (SMap.get t.fan c.val {}).low = 1 ∧ t.flag (F.fanChStatSTALL.fan c) = false ∧ t.flt = s.flt) ∧
      (v.low = 1 → ∃ u, exec (.fanTachWindow c pulses) s = .next (fansDrive (intr 617 (raise .fan 3 { addr := c } u))) ∧
        u.flag (F.fanChStatSTALL.fan c) = true ∧ u.fld (F.fanChStatRPM.fan c) = rpm))) ∧
  (∀ (c : Fin 8) (s : State), let v := SMap.get s.fan c.val {}
    (v.spin = none → exec (.fanSpinupEnd c) s = .next s) ∧
    (∀ i, v.spin = some i →
      (s.now < i + 1000000000 → exec (.fanSpinupEnd c) s = .next s) ∧
      (i + 1000000000 ≤ s.now → ∃ t, exec (.fanSpinupEnd c) s = .next t ∧ (SMap.get t.fan c.val {}).spin = none ∧
        t.fld (F.fanChStatDUTY.fan c) = min 100 (s.fanTarget c) ∧ t.flt = s.flt))) ∧
  (∀ (c : Fin 8) (mode : Fin 4) (s : State), s.inReset .fan = false → ∃ t, exec (.fanModeWrite c mode) s = .next t ∧
    t.fld (F.fanChCfgMODE.fan c) = mode.val ∧ ((mode = 0 ∨ mode = 3) → t.flag (F.fanChStatSTALL.fan c) = false) ∧
    (mode = 0 → t.fld (F.fanChStatDUTY.fan c) = 0) ∧ (∀ d : Fin 8, d ≠ c → t.fld (F.fanChCfgMODE.fan d) = s.fld (F.fanChCfgMODE.fan d)) ∧
    t.flt = s.flt ∧ t.mem = s.mem)

/-- Rook's mailbox (R338 to R342). A command while one is BUSY is refused under R15, in HALT it ends HALTED; REQ takes the new mask,
RESTART is refused where a named group has only panel causes; a buffer outside scratch SRAM ends BAD_ADDR; PARAM_LOAD ends LOCKED,
NOT_OPEN or BAD_BLOCK, or adopts the block, while Rook waits only one with the digest locked; LOCK records the hash with PARAM_DIGEST; UNLOCK spends the nonce and needs the key and
its signature; PARAM_READ and LOG_READ write the buffer. Completion shows the result with identifier 621. -/
def Obligations.RookMailbox : Prop :=
  ∀ (gs : BitVec 8) (seq : BitVec 16) (s : State), s.inReset .rook = false →
    let begun := fun (r : Nat) (u : State) =>
      setFld F.rookResSEQ seq.toNat (setFld F.rookResSTATE 1 { u with rook := { u.rook with busy := some r } })
    let all := fun (u : State) =>
      exec (.req gs seq) s = .next u ∧ exec (.rookRestart gs seq) s = .next u ∧ exec (.paramLoad seq) s = .next u ∧
      exec (.paramRead seq) s = .next u ∧ exec (.lock seq) s = .next u ∧ exec (.nonce seq) s = .next u ∧
      exec (.unlock seq) s = .next u ∧ exec (.logRead seq) s = .next u
    let a := s.rookBuf
    let panel := fun (g : Nat) => (∃ j < 9, (s.causes g).getLsbD (j + 3) = true) ∧
      ∀ j < 9, (s.causes g).getLsbD (j + 3) = true → s.causeMode (j + 3) = 1
    (s.fld F.rookResSTATE = 1 → all (raise .rook 1 { addr := 0x24000000, mstr := 255, typ := 2 } s)) ∧
    (s.fld F.rookResSTATE ≠ 1 → s.rookSt = 4 → all (begun 9 s)) ∧
    (s.fld F.rookResSTATE ≠ 1 → s.rookSt ≠ 4 →
      exec (.req gs seq) s = .next (begun 0 (rookEval { s with rook := { s.rook with req := gs } })) ∧
      ((∃ g < 8, gs.getLsbD g = true ∧ panel g) → exec (.rookRestart gs seq) s = .next (begun 8 s)) ∧
      ((∀ g < 8, gs.getLsbD g = true → ¬ panel g) → exec (.rookRestart gs seq) s = .next (begun 0 (rookEval (restart gs [2] s)))) ∧
      (s.rookBufOk 48 = false → exec (.paramLoad seq) s = .next (begun 7 s) ∧ exec (.paramRead seq) s = .next (begun 7 s) ∧
        exec (.lock seq) s = .next (begun 7 s) ∧ exec (.unlock seq) s = .next (begun 7 s) ∧ exec (.logRead seq) s = .next (begun 7 s)) ∧
      (∀ b u, s.rookBufOk 4608 = true → memRead rookWho a 4608 s = (.ok b, u) → u.rook.waiting = false →
        (u.rook.lock.isSome = true → exec (.paramLoad seq) s = .next (begun 2 u)) ∧
        (u.rook.lock = none → u.allOff = false → exec (.paramLoad seq) s = .next (begun 3 u)) ∧
        (u.rook.lock = none → u.allOff = true → exec (.paramLoad seq) s = .next (if blockOk b = true
          then begun 0 (rookEval (adoptBlock b { u with rook := { u.rook with stored := some b } })) else begun 4 u))) ∧
      (∀ b u k, s.rookBufOk 4608 = true → memRead rookWho a 4608 s = (.ok b, u) → u.rook.waiting = true → u.rook.lock = some k →
        exec (.paramLoad seq) s = .next (if blockOk b = true ∧ Config.sha384 b = k.2
          then begun 0 (rookRun (adoptBlock b { u with rook := { u.rook with stored := some b } })) else begun 4 u)) ∧
      (∀ l u, s.rookBufOk 48 = true → memRead rookWho a 48 s = (.ok l, u) →
        (u.rook.lock.isSome = true → exec (.lock seq) s = .next (begun 2 u)) ∧
        (u.rook.lock = none → exec (.lock seq) s = .next (begun 0 (setFlag F.rookStatLOCKED true
          { u with rook := { u.rook with lock := some (BitVec.ofNat 384 (beNat l), u.rookDigest) } })))) ∧
      (∀ l u, s.rookBufOk 193 = true → memRead rookWho a 193 s = (.ok l, u) →
        (u.rook.nonce = none → exec (.unlock seq) s = .next (begun 6 u)) ∧
        (∀ n k, u.rook.nonce = some n → u.rook.lock = some k →
          exec (.unlock seq) s = .next (if Config.sha384 (l.take 97) = k.1 ∧
              Config.p384Verify (l.take 97) (Config.sha384 (n ++ digestBytes u.rookDigest)) (slice l 97 96) = true
            then begun 0 (setFlag F.rookStatLOCKED false { u with rook := { u.rook with nonce := none, lock := none } })
            else begun 5 { u with rook := { u.rook with nonce := none } }))) ∧
      (∀ u, s.rookBufOk 4656 = true → memWrite rookWho a (s.rblock ++ digestBytes s.rookDigest) s = (none, u) →
        exec (.paramRead seq) s = .next (begun 0 u)) ∧
      (∀ u, s.rookBufOk 4096 = true → memWrite rookWho a (s.rook.log.flatMap logBytes) s = (none, u) →
        exec (.logRead seq) s = .next (begun 0 u)) ∧
      (∃ t r, exec (.nonce seq) s = .next t ∧ t.rook.busy = some r ∧ t.fld F.rookResSTATE = 1 ∧ (r = 0 ∨ r = 7) ∧
        (r = 0 → t.rook.nonce.isSome = true) ∧ t.fld F.rookResSEQ = seq.toNat)) ∧
    (s.rook.busy = none → exec .rookCmdComplete s = .next s) ∧
    (∀ r, s.rook.busy = some r → exec .rookCmdComplete s =
      .next (intr 621 (setFld F.rookResRESULT r (setFld F.rookResSTATE 2 { s with rook := { s.rook with busy := none } }))))

/-- Switch pairs and their tests (R315, R316, R320, R322). Under the permit the low side closes, the high side 10 µs later; a safety
cause opens both gates together; FW or RAIL alone opens the high side first. A readback wrong at two samples running outside
settling and tests is a switch fault. A test turns the gate of the switch that is due off in a test window, or of one overdue in the
forced refresh, and on again; a low readback passes it, a second failure is a switch fault; an overdue
switch asks for a forced refresh with source 8. SW_CLOSED is both readbacks high. Times are Rook's own (R305). -/
def Obligations.SwitchPairs : Prop :=
  ∀ (g : Fin 8) (hs : Bool) (s : State),
    let v := s.rgroup g
    let quiet := v.hs.testing = false ∧ v.ls.testing = false
    let put := fun (x : RGroup) => setGroup g x s
    (s.permit g = false → exec (.groupClose g) s = .next s ∧ exec (.groupCloseHsOn g) s = .next s) ∧
    (s.permit g = true → v.hs.gate = false → v.ls.gate = false → quiet → exec (.groupClose g) s =
      .next (put { v with ls := { v.ls with gate := true, since := s.rookNow, testing := false }, opening := false, stepAt := s.rookNow })) ∧
    (s.permit g = true → v.ls.gate = true → v.hs.gate = false → v.hs.testing = false → v.opening = false →
      (s.rookSince v.stepAt 10000 = true → exec (.groupCloseHsOn g) s =
        .next (put { v with hs := { v.hs with gate := true, since := s.rookNow, testing := false }, closedAt := s.rookNow })) ∧
      (s.rookSince v.stepAt 10000 = false → exec (.groupCloseHsOn g) s = .next s)) ∧
    (s.mustOpen g = false → exec (.groupSafetyOpen g) s = .next s) ∧
    (s.mustOpen g = true → ∃ t, exec (.groupSafetyOpen g) s = .next t ∧ (t.rgroup g).hs.gate = false ∧ (t.rgroup g).ls.gate = false ∧
      (t.rgroup g).hs.testing = false ∧ (t.rgroup g).ls.testing = false ∧ (∀ k, k ≠ g.val → t.rgroup k = s.rgroup k) ∧
      t.regs = s.regs ∧ t.flt = s.flt ∧ t.mem = s.mem) ∧
    (s.permit g = false → s.mustOpen g = false → v.opening = false → v.hs.gate = true → ∃ t, exec (.groupOrderlyOpen g) s = .next t ∧
      (t.rgroup g).hs.gate = false ∧ (t.rgroup g).ls = v.ls ∧ (t.rgroup g).opening = true ∧ (t.rgroup g).stepAt = s.rookNow ∧
      t.regs = s.regs ∧ t.flt = s.flt) ∧
    ((s.permit g = true ∨ s.mustOpen g = true) → exec (.groupOrderlyOpen g) s = .next s) ∧
    (v.opening = true → s.rookSince v.stepAt 10000 = true → ∃ t, exec (.groupOrderlyLsOff g) s = .next t ∧
      (t.rgroup g).ls.gate = false ∧ (t.rgroup g).hs = v.hs ∧ (t.rgroup g).opening = false ∧ t.regs = s.regs ∧ t.flt = s.flt) ∧
    ((v.opening = false ∨ s.rookSince v.stepAt 10000 = false) → exec (.groupOrderlyLsOff g) s = .next s) ∧
    (let w := v.sw hs;
      (s.rbWrong w = true → exec (.switchFault g hs) s = .next (singleFault (.switch g hs) s)) ∧
      (s.rbWrong w = false → exec (.switchFault g hs) s = .next s) ∧
      (s.rbWrong w = true ↔ w.rb ≠ w.gate ∧ w.testing = false ∧ 1 ≤ s.rookSample ∧ w.rbAt ≤ 20000 * (s.rookSample - 1) ∧
        w.since + s.swSettle w.gate ≤ 20000 * (s.rookSample - 1)) ∧
      (quiet → s.inForced g = false → s.testDue g = some hs → ∀ a, s.inWindow g (s.testDueAt g hs) = some a → exec (.switchTest g) s =
        .next (put { v.put hs { w with gate := false, since := s.rookNow, testing := true, redo := false } with lastHs := hs, window := some a })) ∧
      (quiet → s.inForced g = false → s.testDue g = some hs → s.inWindow g (s.testDueAt g hs) = none → exec (.switchTest g) s = .next s) ∧
      (quiet → s.inForced g = true → v.lastHs = !hs → s.testOverdue g hs = true → exec (.switchTest g) s =
        .next (put { v.put hs { w with gate := false, since := s.rookNow, testing := true, redo := false } with lastHs := hs }))) ∧
    (s.inForced g = false → s.testDue g = none → exec (.switchTest g) s = .next s) ∧
    (¬ quiet → exec (.switchTest g) s = .next s) ∧
    (∀ rb, quiet → exec (.switchTestEnd g rb) s = .next s) ∧
    (v.hs.testing = true → s.rookSince v.hs.since (s.rp 0x90 2) = true →
      let on : RSwitch := { v.hs with gate := true, testing := false, since := s.rookNow }
      exec (.switchTestEnd g false) s = .next (put { v with hs := { on with passed := s.rookNow, fails := 0 } }) ∧
      (v.hs.fails = 0 → exec (.switchTestEnd g true) s = .next (put { v with hs := { on with fails := 1 } })) ∧
      (v.hs.fails = 1 → exec (.switchTestEnd g true) s =
        .next (singleFault (.switch g true) (put { v with hs := { on with fails := 2 } })))) ∧
    (let overdue := fun (w : RSwitch) => s.rookSince (max w.passed v.closedAt) (s.rp 0x94 2 * 1000000);
      (v.hs.gate = true → v.ls.gate = true → (overdue v.hs = true ∨ overdue v.ls = true) → SMap.get s.rook.forced g.val 0 = 0 →
        ∃ u, u = raise .rook 8 { addr := g } s ∧ exec (.testForced g) s =
          .next { u with rook := { u.rook with forced := SMap.put u.rook.forced g.val 1 } }) ∧
      ((v.hs.gate = false ∨ v.ls.gate = false) → exec (.testForced g) s = .next s)) ∧
    (∀ level, let x := v.put hs { v.sw hs with rb := level, rbAt := if (v.sw hs).rb = level then (v.sw hs).rbAt else s.rookNow }
      let on := x.hs.rb && x.ls.rb
      ((s.swLine g).on = on → exec (.readbackChange g hs level) s = .next (put x)) ∧
      ((s.swLine g).on ≠ on → ∃ t, exec (.readbackChange g hs level) s = .next t ∧ t.rgroup g = x ∧ t.swLine g = ⟨on, s.now⟩ ∧
        bit (t.fld F.rookStatCLOSED) g = on ∧ 623 ∈ t.evt ∧ t.flt = s.flt))

/-- Rook's causes, inputs and Endgame (R307 to R314, R317, R318, R332 to R335). After every evaluation the live causes are FW where
REQ is 0, RAIL and TH, a demand's cause is latched in its groups, and no AUTO cause whose condition has ended is left. The first
single fault in RUN enters ENDGAME and caps its groups; another source in ENDGAME leads to LOCKOUT of every group; in LOCKOUT it
is only recorded. A channel, a hand or a pair changes after its run of samples, those that a test pulse excludes apart; a test
pulse is judged once; discrepancies, the acknowledge button by its time held, RAIL_OK and the cartridge act on these. -/
def Obligations.RookInputsAndEndgame : Prop :=
  (∀ s : State, (s.react .rook 6).getLsbD 3 = false → let t := rookEval s
    t.rookSt = s.rookSt ∧ t.mem = s.mem ∧ t.rook.groups = s.rook.groups ∧ t.rook.faults = s.rook.faults ∧
    (∀ g < 8, (t.causes g).getLsbD 0 = !(s.rook.req.getLsbD g) ∧ (t.causes g).getLsbD 1 = s.rook.railBad.getLsbD g ∧
      (t.causes g).getLsbD 2 = (s.rinEn 2 && (s.rinGroups 2).getLsbD g && !s.rook.thSat) ∧
      (∀ i b, (i = 0 ∧ b = 3) ∨ (i = 1 ∧ b = 4) ∨ (i = 3 ∧ b = 5) → s.demand i = true → (s.rinGroups i).getLsbD g = true →
        (t.causes g).getLsbD b = true) ∧
      (∀ b, 3 ≤ b → b ≤ 10 → t.causeMode b = 0 → t.causeEnded g b = true → (t.causes g).getLsbD b = false))) ∧
  (∀ (f : RFault) (s : State), (∀ src < 16, (s.react .rook src).getLsbD 3 = false) → let t := singleFault f s
    f ∈ t.rook.faults ∧ (s.rookSt = 3 → t.rookSt = 3) ∧
    (s.rookSt = 1 → t.rookSt = 2 ∧ t.fld F.rookStatCAPPED = (s.faultGroups f).toNat ∧ t.rook.egStart = s.rookNow ∧
      (t.fltSet .rook).stat.getLsbD 9 = true) ∧
    (s.rookSt = 2 → sameSource s.rook.faults f = false → t.rookSt = 3 ∧ t.fld F.rookStatHELD = 0xFF ∧
      (t.fltSet .rook).stat.getLsbD 10 = true) ∧
    (s.rookSt = 2 → sameSource s.rook.faults f = true → t.rookSt = 2)) ∧
  (∀ (ch : Fin 6) (high : Bool) (samples : List Bool) (s : State),
    let ran := s.sampleRun (fun t => chanInput ch != 3 && excluded t (ch % 2)) (s.rinFilt (chanInput ch)) samples (fun b => b == high)
    ((s.rook.chan.getLsbD ch = high ∨ ran = false) → exec (.inputFilterChange ch ⟨high, samples⟩) s = .next s) ∧
    (s.rook.chan.getLsbD ch ≠ high → ran = true → ∃ u, exec (.inputFilterChange ch ⟨high, samples⟩) s = .next (rookEval u) ∧
      u.rook.chan.getLsbD ch = high ∧
      (∀ k : Fin 6, k ≠ ch → u.rook.chan.getLsbD k = s.rook.chan.getLsbD k) ∧ u.rook.req = s.rook.req ∧ u.regs = s.regs)) ∧
  (∀ (src : Fin 2) (high : BitVec 10) (s : State),
    let n := s.pulsesEnded src
    let last := SMap.get s.rook.pulses src 0
    let twice := fun (j : Nat) => high.getLsbD j = true ∧ (s.tpoChan j).1 = true ∧ s.rook.pulseHigh.getLsbD j = true ∧ n = last + 1
    (n ≤ last → exec (.tpoPulse src high) s = .next s) ∧
    (last < n → (∀ j ∈ tpoFed src, ¬ twice j) →
      ∃ t, exec (.tpoPulse src high) s = .next t ∧ t.rook.faults = s.rook.faults ∧ t.regs = s.regs ∧ t.flt = s.flt ∧
        SMap.get t.rook.pulses src 0 = n ∧ ∀ j ∈ tpoFed src, t.rook.pulseHigh.getLsbD j = (high.getLsbD j && (s.tpoChan j).1)) ∧
    ((∀ x < 16, (s.react .rook x).getLsbD 3 = false) → ∀ j ∈ tpoFed src, twice j →
      ∃ t, exec (.tpoPulse src high) s = .next t ∧ (s.tpoChan j).2 ∈ t.rook.faults)) ∧
  (∀ (i : Fin 4) (s : State), let x := SMap.get s.rook.inputs i.val {}
    ((x.differ = none ∨ s.rinEn i = false ∨ i = 2) → exec (.discrepancy i) s = .next s) ∧
    (∀ d, x.differ = some d → s.rinEn i = true → i ≠ 2 → s.rookSince d (s.rinDisc i) = true → exec (.discrepancy i) s =
      .next (singleFault (.disc i) { s with rook := { s.rook with inputs := SMap.put s.rook.inputs i.val { differ := some d, cycle := 0 } } }))) ∧
  (∀ (h : Fin 2) (l : List (Bool × Bool)) (s : State), let v := s.hand h
    let acted := s.pairRan (s.rinFilt 2) l (fun no nc => no && !nc)
    let gone := s.pairRan 1000000 l (fun no nc => !no && nc)
    let same := s.pairRan 25000000 l (fun no nc => no == nc)
    ((v.act = true ∨ acted = false) → exec (.handActuated ⟨h, l⟩) s = .next s) ∧
    (v.act = false → acted = true → ∃ u, exec (.handActuated ⟨h, l⟩) s = .next (rookEval u) ∧ (u.hand h).act = true ∧
      u.hand (1 - h) = s.hand (1 - h) ∧
      (∀ f, s.rook.thBlocked = false → (s.hand (1 - h)).act = true → s.rook.thFirst = some f →
        u.rook.thSat = (s.rook.thSat || decide (s.rookNow - f ≤ 500000000)))) ∧
    (gone = false → exec (.handReleased ⟨h, l⟩) s = .next s) ∧
    (gone = true → ∃ u, exec (.handReleased ⟨h, l⟩) s = .next (rookEval u) ∧ (u.hand h).act = false ∧ u.rook.thSat = false ∧ u.regs = s.regs) ∧
    ((s.rinEn 2 = false ∨ same = false) → exec (.pairFault ⟨h, l⟩) s = .next s) ∧
    (s.rinEn 2 = true → same = true → ∃ u, exec (.pairFault ⟨h, l⟩) s = .next (singleFault (.pair h) u) ∧ (u.hand h).act = false ∧
      (u.hand h).bad = true ∧ u.rook.thSat = false)) ∧
  (∀ (us : BitVec 32) (s : State), let n := us.toNat
    let u := { s with rook := { s.rook with sackUp := s.rookNow } }
    ((s.rook.sackStuck = true ∨ n < 100000 ∨ (2000000 < n ∧ n < 5000000)) → exec (.sackRelease us) s = .next u) ∧
    (s.rook.sackStuck = false →
      (100000 ≤ n → n ≤ 2000000 → exec (.sackRelease us) s = .next (rookEval (restart 0xFF [1, 2] u))) ∧
      (5000000 ≤ n → n ≤ 10000000 → exec (.sackRelease us) s = .next (serviceAck u)) ∧
      (10000000 < n → exec (.sackRelease us) s =
        .next (showRook (raise .rook 14 {} { u with rook := { u.rook with sackStuck := true } }))))) ∧
  (∀ s : State, (s.rook.sackStuck = true → s.rookSince s.rook.sackUp 1000000000 = true →
      exec .sackRearm s = .next (showRook { s with rook := { s.rook with sackStuck := false } })) ∧
    ((s.rook.sackStuck = false ∨ s.rookSince s.rook.sackUp 1000000000 = false) → exec .sackRearm s = .next s)) ∧
  (∀ s : State, (s.react .rook 6).getLsbD 3 = false → (s.rookSt = 2 ∨ s.rookSt = 3) → (∀ f ∈ s.rook.faults, s.faultAbsent f = true) →
    (serviceAck s).rookSt = 1 ∧ (serviceAck s).rook.faults = [] ∧ (serviceAck s).fld F.rookStatCAPPED = 0 ∧
    (serviceAck s).fld F.rookStatHELD = 0 ∧ ∀ g < 8, ((serviceAck s).causes g).getLsbD 11 = false) ∧
  (∀ (g : Fin 8) (s : State),
    (s.railOk g = false → exec (.railOkChange g) s = .next (rookEval { s with rook := { s.rook with
      railBad := s.rook.railBad ||| BitVec.ofNat 8 (1 <<< g.val), railSince := SMap.erase s.rook.railSince g } })) ∧
    (s.railOk g = true → SMap.find s.rook.railSince g = none → exec (.railOkChange g) s =
      .next { s with rook := { s.rook with railSince := SMap.put s.rook.railSince g s.rookNow } }) ∧
    (∀ f, SMap.find s.rook.railSince g = some f → s.railOk g = true → s.rookSince f 1000000 = true → exec (.railCauseClear g) s =
      .next (rookEval { s with rook := { s.rook with railBad := s.rook.railBad &&& ~~~(BitVec.ofNat 8 (1 <<< g.val)) } })) ∧
    ((SMap.find s.rook.railSince g = none ∨ s.railOk g = false) → exec (.railCauseClear g) s = .next s)) ∧
  (∀ (n : BitVec 32) (s : State),
    (n.toNat < 5000 → exec (.rookCartDetect ⟨true, n⟩) s = .next s) ∧ (n.toNat < 50 → exec (.rookCartDetect ⟨false, n⟩) s = .next s) ∧
    (5000 ≤ n.toNat → exec (.rookCartDetect ⟨true, n⟩) s = .next (rookEval { s with rook := { s.rook with cartAbsent := false } })) ∧
    (50 ≤ n.toNat → ∃ u, exec (.rookCartDetect ⟨false, n⟩) s = .next (rookEval u) ∧ u.rook.cartAbsent = true ∧
      ∀ g < 8, (u.causes g).getLsbD 9 = true))

/-- Rook's states and its tap (R304, R323 to R329, R333, R336 to R339). Power-on starts INIT with every gate off, Rook's time anew, and
its address and digest registers at their reset values; a failed self-test
halts; with no block stored the ROM block is adopted with source 12; HALT turns every gate off. An expired countdown latches
EXPIRED and holds the covered groups. A tapped dark packet adds nothing, a driven one is measured in every zone, a lost one counts
as full and raises source 7; a bin closes after 1 ms of Rook time, an unequal check halts. DIAG's lines set STUCK in their group,
or in all when coupled. -/
def Obligations.RookStatesAndTap : Prop :=
  (∀ s : State, ∃ u, exec .rookPowerOn s = .next (showRook (stuckHear u)) ∧ u.rookSt = 0 ∧ u.rook.stored = s.rook.stored ∧
    u.rook.lock = s.rook.lock ∧ u.rook.faults = [] ∧ u.rook.req = 0 ∧ u.rook.osc = 0 ∧ (∀ g < 8, u.causes g = 0x401) ∧
    u.fld F.rookStatCAPPED = 0 ∧ u.fld F.rookStatHELD = 0 ∧ u.fld F.rookAddrADDR = 0 ∧ (∀ i < 6, u.fld (F.rookDigestD.at (8 * i)) = 0) ∧
    (∀ g, (u.rgroup g).hs.gate = false ∧ (u.rgroup g).ls.gate = false) ∧ u.mem = s.mem ∧
    (s.stuckLines = 0 → exec .rookPowerOn s = .next (showRook u))) ∧
  (∀ (i : RookInit) (s : State),
    (s.rookSt ≠ 0 → exec (.rookInitComplete i) s = .next s) ∧
    (s.rookSt = 0 → s.rook.waiting = false → s.pwr.domsOff.contains 8 = false → s.pwr.st ≠ .off →
      (i.selfTest = false → exec (.rookInitComplete i) s = .next (rookHalt s)) ∧
      (i.selfTest = true → let u := setFlag F.rookStatLOCKED s.rook.lock.isSome s
        (s.rook.stored = none → exec (.rookInitComplete i) s = .next (rookRun (raise .rook 12 {} (adoptBlock [] u)))) ∧
        (∀ b, s.rook.stored = some b → i.blockOk = true → exec (.rookInitComplete i) s = .next (rookRun (adoptBlock b u)))))) ∧
  (∀ s : State, (s.react .rook 6).getLsbD 3 = false → (rookRun s).rookSt = 1 ∧ (rookRun s).rook.waiting = false) ∧
  (∀ (b : List Byte) (s : State), (adoptBlock b s).rook.block = b ∧ (adoptBlock b s).fld F.rookStatZONESET = 0 ∧
    (adoptBlock b s).flag F.rookStatDEFAULT = (b == []) ∧ (adoptBlock b s).rookSt = s.rookSt) ∧
  (∀ s : State, (s.rookSt = 4 → exec .halt s = .next s) ∧
    (s.rookSt ≠ 4 → (s.react .rook 11).getLsbD 3 = false → ∃ t, exec .halt s = .next t ∧ t.rookSt = 4 ∧
      (t.fltSet .rook).stat.getLsbD 11 = true ∧ 622 ∈ t.evt ∧ t.mem = s.mem ∧
      ∀ g < 8, (t.rgroup g).hs.gate = false ∧ (t.rgroup g).ls.gate = false)) ∧
  (∀ s : State, let left := s.rookSince s.rook.egStart (s.rp 0x9A 1 * 60000000000)
    let gs := BitVec.ofNat 8 (s.fld F.rookStatCAPPED)
    ((s.rookSt ≠ 2 ∨ left = false) → exec .endgameExpiry s = .next s) ∧
    (s.rookSt = 2 → left = true → (s.react .rook 10).getLsbD 3 = false → (s.react .rook 6).getLsbD 3 = false → ∃ t, exec .endgameExpiry s = .next t ∧ t.rookSt = 3 ∧
      t.fld F.rookStatHELD = gs.toNat ∧ (∀ g < 8, gs.getLsbD g = true → (t.causes g).getLsbD 11 = true) ∧
      (t.fltSet .rook).stat.getLsbD 10 = true)) ∧
  (∀ (p : Fin 32) (pos : Fin 8) (s : State),
    ((s.port p).slots = [] → exec (.tapPacket p pos) s = .next s ∧ exec (.tapLost p pos) s = .next s) ∧
    (∀ l t, (s.port p).slots = l :: t → s.epSt p = 4 → l.tap.getLsbD pos = false →
      (l.tap ≠ 0 ∨ l.slot ≠ 0) →
      ((l.pkts.getD pos {}).dark = true → exec (.tapPacket p pos) s = .next (rookEval (tapMark p pos false (tapStreak p false s)))) ∧
      ((l.pkts.getD pos {}).dark = false → exec (.tapPacket p pos) s =
        .next (rookEval (tapRow p (8 * p + pos) (l.pkts.getD pos {}) (tapMark p pos false (tapStreak p false s))))) ∧
      ∃ u, exec (.tapLost p pos) s = .next (rookEval u) ∧
        ((∀ z < 16, (s.rzone (s.tapSet p) z).en = false) → (s.react .rook 7).getLsbD 3 = false →
          (u.fltSet .rook).stat.getLsbD 7 = true ∧
          (SMap.get u.rook.misses p.val 0 < 64 → u.fld (F.rookCauseCAUSE.at (8 * (p / 4))) = s.fld (F.rookCauseCAUSE.at (8 * (p / 4)))) ∧
          (64 ≤ SMap.get u.rook.misses p.val 0 → (u.causes (p / 4)).getLsbD 8 = true)))) ∧
  (∀ (p z c on st : Nat) (zn : Zone) (s : State), let v := zn.wp (c % 3) * on * (st + 1)
    v ≤ zn.siteLim → on ≤ 255 → ∃ b, (tapWord p z c on st zn s).tapBins p z = b :: (s.tapBins p z).drop 1 ∧
      b.a = ((s.tapBins p z).headD {}).a + v ∧
      b.a + b.b + ((s.tapBins p z).headD {}).full = b.full + ((s.tapBins p z).headD {}).a + ((s.tapBins p z).headD {}).b) ∧
  (∀ s : State, (s.rookSince s.rook.binAt 1000000 = false → exec .zoneBinClose s = .next s) ∧
    (s.rookSince s.rook.binAt 1000000 = true →
      ((∃ i < 512, let b := (SMap.get s.rook.bins i []).headD {}; b.a + b.b ≠ b.full) →
        exec .zoneBinClose s = .next (rookHalt { s with rook := { s.rook with binAt := s.rookNow } })) ∧
      ((∀ i < 512, let b := (SMap.get s.rook.bins i []).headD {}; b.a + b.b = b.full) →
        (∀ k z, (s.rzone k z).en = false) → ∃ t, exec .zoneBinClose s = .next (rookEval t) ∧ t.rook.binAt = s.rookNow ∧
          t.rook.zoneHot = 0 ∧ t.rook.bins = s.rook.bins.map (fun e => (e.1, ({} :: e.2).take 251)) ∧ t.regs = s.regs ∧ t.flt = s.flt))) ∧
  (∀ (k : Fin 8) (s : State),
    (s.stuckLines.getLsbD k = true → exec (.stuckLineAssert k) s = .next (rookEval s) ∧ exec (.stuckLineDeassert k) s = .next s) ∧
    (s.stuckLines.getLsbD k = false → exec (.stuckLineAssert k) s = .next s ∧ exec (.stuckLineDeassert k) s = .next (rookEval s)) ∧
    (s.stuckLines.getLsbD k = true → (s.react .rook 6).getLsbD 3 = false → ((rookEval s).causes k).getLsbD 7 = true ∧
      (s.rp 8 4 % 2 = 1 → ∀ g < 8, ((rookEval s).causes g).getLsbD 7 = true))) ∧
  (∀ s : State,
    (s.stuckLines.getLsbD 8 = false → exec .stuckOvfLine s = .next s) ∧
    (s.stuckLines.getLsbD 8 = true → exec .stuckOvfLine s = .next (rookEval s) ∧
      (s.hasKeepOut = true → (s.react .rook 6).getLsbD 3 = false → ∀ g < 8, ((rookEval s).causes g).getLsbD 7 = true)))

/-- A switch gate goes on only by a close under the group's permit, or at the end of its test (R307, R315, R320), whatever the
command. -/
def Obligations.GatesCloseOnlyUnderPermit : Prop :=
  ∀ (c : Instr) (g : Nat) (hs : Bool) (s t : State), exec c s = .next t → ((t.rgroup g).sw hs).gate = true →
    ((s.rgroup g).sw hs).gate = true ∨ ((s.rgroup g).sw hs).testing = true ∨ s.permit g = true

/-- The chain ports and the switch (R343 to R347, R373). A module is noted with the rate its identity gives, its identity unread
raising source 3 under RATE MODULE; a link that comes up on a port that runs is 10G or 25G as RATE or the module says. A received
frame goes to the other port with its tags, into the queue it is classified to and padded to 60 bytes; a full queue counts Q_DROP
(source 5), a bad FCS after cut-through CUT_BAD (source 4), and a frame for HOST is pushed with its port and its ingress
time-stamp or counts Q_DROP. HOST_TX takes one item of TX and sends it on the ports it names, or counts a malformed one in Q_DROP.
The hop address reaches HOST alone, a broadcast both ways. -/
def Obligations.ChainPorts : Prop :=
  ∀ (c : Fin 2) (s : State), s.chnOn = true →
    let counted := fun (src : Nat) (u : State) =>
      raise .chn src {} { u with chn := { u.chn with counts := SMap.put u.chn.counts src (SMap.get u.chn.counts src 0 + 1) } }
    let padded := fun (f : List Byte) => f ++ List.replicate (60 - f.length) 0
    let linkUp := fun (v : Nat) => ∃ t, exec (.linkChange c true) s = .next t ∧ t.fld (F.chnPortCfgLINK.cn c) = v ∧
      (s.fld (F.chnPortCfgLINK.cn c) ≠ v → 631 + c.val ∈ t.evt) ∧ t.flt = s.flt ∧ t.mem = s.mem ∧ t.chn = s.chn ∧ t.out = s.out
    (∀ r : Option (BitVec 16),
      let u := intr 633 (setFlag (F.chnPortCfgMOD.cn c) true
        { s with chn := { s.chn with mods := SMap.put s.chn.mods c (r.map BitVec.toNat) } })
      (r = none → s.fld (F.chnPortCfgRATE.cn c) = 2 → exec (.moduleInsert c r) s = .next (raise .chn 3 { addr := c } u)) ∧
      ((r ≠ none ∨ s.fld (F.chnPortCfgRATE.cn c) ≠ 2) → exec (.moduleInsert c r) s = .next u)) ∧
    (∃ t, exec (.moduleRemoval c) s = .next t ∧ t.flag (F.chnPortCfgMOD.cn c) = false ∧ t.fld (F.chnPortCfgLINK.cn c) = 0 ∧
      633 ∈ t.evt ∧ (s.fld (F.chnPortCfgLINK.cn c) ≠ 0 → 631 + c.val ∈ t.evt) ∧ t.flt = s.flt ∧ t.mem = s.mem ∧ t.out = s.out) ∧
    (∃ t, exec (.linkChange c false) s = .next t ∧ t.fld (F.chnPortCfgLINK.cn c) = 0 ∧ t.flt = s.flt ∧ t.mem = s.mem) ∧
    (s.flag (F.chnPortCfgEN.cn c) = true →
      (s.fld (F.chnPortCfgRATE.cn c) = 0 → linkUp 1) ∧ (s.fld (F.chnPortCfgRATE.cn c) = 1 → linkUp 2) ∧
      (∀ r, s.fld (F.chnPortCfgRATE.cn c) = 2 → SMap.find s.chn.mods c = some (some r) → linkUp (if 25000 ≤ r then 2 else 1)) ∧
      (s.fld (F.chnPortCfgRATE.cn c) = 2 → SMap.find s.chn.mods c = some none → linkUp 1)) ∧
    (∀ (f : List Byte) (ok cut room : Bool), (s.linkUp c = false ∨ f.length < 14) → exec (.chainFrameRx c f ok cut room) s = .next s) ∧
    (∀ (f : List Byte) (cut room : Bool), s.linkUp c = true → 14 ≤ f.length → s.linkUp (1 - c) = true →
      exec (.chainFrameRx c f false cut room) s = .next (if (s.route f).1 && cut then counted 4 s else s) ∧
      (frPtp f = none →
        let u := if (s.route f).1 = false then s
          else if room then { s with out := s.out ++ [.frame (1 - c) (s.egressQ f) (padded f)] } else counted 5 s
        exec (.chainFrameRx c f true cut room) s = .next (if (s.route f).2 then hostRx c f u else u))) ∧
    (∀ (f : List Byte) (cut room : Bool), s.linkUp c = true → 14 ≤ f.length → s.linkUp (1 - c) = false →
      exec (.chainFrameRx c f false cut room) s = .next s ∧
      exec (.chainFrameRx c f true cut room) s = .next (if (s.route f).2 then hostRx c f s else s)) ∧
    (∀ f : List Byte,
      (frType f = 0x88B5 → blOk f = false → hostRx c f s = counted 6 s) ∧
      (frType f ≠ 0x88B5 → frPtp f = none → s.srcFlow f = false → s.sacnFor f = false →
        (3568 < f.length ∨ s.flag F.chnQueuesHOSTEN = false → hostRx c f s = counted 5 s) ∧
        (∀ u b, f.length ≤ 3568 → s.flag F.chnQueuesHOSTEN = true →
          hwPush (s.fld F.chnQueuesHOST) (BitVec.ofNat 8 c :: List.replicate 7 0 ++ leBytes 8 (s.ingressGt c) ++ f) s = (b, u) →
          hostRx c f s = if b = true then u else counted 5 u))) ∧
    (∀ f : List Byte, f.take 6 = blHop → (s.route f).1 = false) ∧
    (∀ f : List Byte, beAt f 0 6 = 0xFFFFFFFFFFFF → frTagged f = false → s.route f = (decide (Config.fixtureMac.toNat ≠ 0xFFFFFFFFFFFF), true)) ∧
    (s.flag F.chnQueuesTXEN = false → exec .hostTx s = .next s) ∧
    (∀ u, s.flag F.chnQueuesTXEN = true → hwPop (s.fld F.chnQueuesTX) s = (none, u) → exec .hostTx s = .next u) ∧
    (∀ u l, s.flag F.chnQueuesTXEN = true → hwPop (s.fld F.chnQueuesTX) s = (some l, u) →
      let p := leAt l 0 1
      ((p = 0 ∨ 3 < p ∨ l.length < 30 ∨ leAt l 1 15 ≠ 0) → exec .hostTx s = .next (counted 5 u)) ∧
      (1 ≤ p → p ≤ 3 → 30 ≤ l.length → leAt l 1 15 = 0 → u.linkUp 0 = true → u.linkUp 1 = true →
        exec .hostTx s = .next { u with out := u.out ++
          ((if p % 2 = 1 then [.frame 0 (u.egressQ (l.drop 16)) (padded (l.drop 16))] else []) ++
           (if 2 ≤ p then [.frame 1 (u.egressQ (l.drop 16)) (padded (l.drop 16))] else [])) }))

/-- Berranlink (R368 to R372). ASSIGN with NEXT up to 1023 is taken as the chain address, its port as UPSTREAM, identifier 629, and
NEXT + 1 goes on from the other port; a greater NEXT clears VALID, raises CHAIN_LONG and goes on unchanged. STATUS goes towards
the head once its period is over. A DIGEST_WALK downwards on UPSTREAM is handled once an EPOCH: REF against SHOW_DIGEST,
identifier 630, a mismatch counted and the address appended up to 64, and it goes on or, the other link down, back as
DIGEST_RESULT. A result from downstream goes upstream unchanged. WAKE raises identifier 634 for an address in its range; in S1
with source 0 enabled it begins leaving. Each frame's SEQ is a free value. -/
def Obligations.BerranlinkFrames : Prop :=
  ∀ (c : Fin 2) (s : State), s.chnOn = true → s.linkUp c = true →
    let frame := fun (hop : Bool) (ty : Byte) (down : Bool) (src : Nat) (seq body : List Byte) =>
      (if hop then blHop else blChain) ++ beBytes 6 Config.fixtureMac.toNat ++ [0x88, 0xB5, 1, ty] ++ beBytes 2 (if down then 0x8000 else 0) ++
        beBytes 2 src ++ [0xFF, 0xFF] ++ seq ++ beBytes 2 body.length ++ body
    let sent := fun (t : State) (port : Nat) (hop : Bool) (ty : Byte) (down : Bool) (src : Nat) (body : List Byte) =>
      ∃ seq f, seq.length = 4 ∧ f = frame hop ty down src seq body ∧ t.out = s.out ++ [.frame port 2 (f ++ List.replicate (60 - f.length) 0)]
    let up := s.fld F.chnAddrUPSTREAM
    let me := if s.flag F.chnAddrVALID then s.fld F.chnAddrADDR else 0xFFFF
    (∀ next : BitVec 16, next.toNat ≤ 1023 → ∃ t, exec (.chainAssign c next) s = .next t ∧ t.fld F.chnAddrADDR = next.toNat ∧
      t.flag F.chnAddrVALID = true ∧ t.fld F.chnAddrUPSTREAM = c ∧ 629 ∈ t.evt ∧ t.flt = s.flt ∧ t.mem = s.mem ∧ t.chn = s.chn ∧
      (s.linkUp (1 - c) = true → sent t (1 - c) true 1 true next.toNat (beBytes 2 (next.toNat + 1))) ∧
      (s.linkUp (1 - c) = false → t.out = s.out)) ∧
    (∀ next : BitVec 16, 1023 < next.toNat → exec (.chainAssign c next) s = .next (sendBl (1 - c) true 1 true (beBytes 2 next.toNat)
      (raise .chn 7 {} { setFlag F.chnAddrVALID false s with
        chn := { s.chn with counts := SMap.put s.chn.counts 7 (SMap.get s.chn.counts 7 0 + 1) } }))) ∧
    (let p := s.fld F.chnStatusPERIOD
     ((p = 0 ∨ s.now < s.chn.statusAt + p * 1000000) → exec .statusSend s = .next s) ∧
     (p ≠ 0 → s.chn.statusAt + p * 1000000 ≤ s.now → s.flag F.chnAddrVALID = true → s.linkUp up = true →
       ∃ t, exec .statusSend s = .next t ∧ t.chn.statusAt = s.now ∧ t.regs = s.regs ∧ t.flt = s.flt ∧ t.mem = s.mem ∧
         sent t up false 2 false me (beBytes 2 me ++ leBytes 8 (s.fld F.chnDigestBYTES) ++ leBytes 8 (s.fld (F.chnDigestBYTES.at 8)) ++
           beBytes 6 s.frameNum ++ [BitVec.ofNat 8 (s.fld F.ptpCtrlGTSTATE), BitVec.ofNat 8 (s.fld F.pwrStatSTATE), BitVec.ofNat 8 s.rookSt, 0] ++
           beBytes 8 (s.fld F.chnStatusFwFW)))) ∧
    (∀ (down : Bool) (w : Walk), (down = false ∨ up ≠ c) → exec (.digestWalk c down w) s = .next s) ∧
    (∀ w : Walk, up = c.val → s.chn.walked = true → s.fld F.chnWalkEPOCH = w.epoch.toNat →
      exec (.digestWalk c true w) s = .next (raise .chn 8 {} { setFld F.chnWalkWALKDUP (s.fld F.chnWalkWALKDUP + 1) s with
        chn := { s.chn with counts := SMap.put s.chn.counts 8 (SMap.get s.chn.counts 8 0 + 1) } })) ∧
    (∀ w : Walk, up = c.val → (s.chn.walked = false ∨ s.fld F.chnWalkEPOCH ≠ w.epoch.toNat) →
      let same := decide (w.ref.take 16 = leBytes 8 (s.fld F.chnDigestBYTES) ++ leBytes 8 (s.fld (F.chnDigestBYTES.at 8)))
      let w' : Walk := if same then w else { w with
        mismatch := if w.mismatch = 0xFFFF then w.mismatch else w.mismatch + 1,
        addrs := if w.addrs.length < 64 then w.addrs ++ [BitVec.ofNat 16 me] else w.addrs,
        overflow := w.overflow || decide (64 ≤ w.addrs.length) }
      let body := w'.ref.take 16 ++ beBytes 4 w'.epoch.toNat ++ beBytes 2 w'.mismatch.toNat ++
        [BitVec.ofNat 8 w'.addrs.length, BitVec.ofNat 8 (b2n w'.overflow)] ++ w'.addrs.flatMap (fun a => beBytes 2 a.toNat)
      ∃ t, exec (.digestWalk c true w) s = .next t ∧ t.fld F.chnWalkEPOCH = w.epoch.toNat ∧ t.flag F.chnWalkMATCH = same ∧
        t.fld F.chnWalkWALKDUP = s.fld F.chnWalkWALKDUP ∧ t.chn.walked = true ∧ 630 ∈ t.evt ∧ t.flt = s.flt ∧ t.mem = s.mem ∧
        (s.linkUp (1 - c) = true → sent t (1 - c) true 3 true me body) ∧ (s.linkUp (1 - c) = false → sent t c true 4 false me body)) ∧
    (∀ f : List Byte, up = c.val → exec (.digestResult c f) s = .next s) ∧
    (∀ f : List Byte, up ≠ c → s.linkUp up = true →
      exec (.digestResult c f) s = .next { s with out := s.out ++ [.frame up (s.egressQ f) (f ++ List.replicate (60 - f.length) 0)] }) ∧
    (∀ first last : BitVec 16, s.flag F.chnAddrVALID = true → (s.fld F.chnAddrADDR < first.toNat ∨ last.toNat < s.fld F.chnAddrADDR) →
      exec (.wake c (some (first, last))) s = .next s) ∧
    (∀ r : Option (BitVec 16 × BitVec 16), (r = none ∨ s.flag F.chnAddrVALID = false ∨ (∃ first last, r = some (first, last) ∧
        first.toNat ≤ s.fld F.chnAddrADDR ∧ s.fld F.chnAddrADDR ≤ last.toNat)) → s.pwr.seq = none →
      (s.pwr.st = .a → exec (.wake c r) s = .next (intr 634 s)) ∧
      (s.pwr.st = .s1 → bit (s.fld F.pwrWakeEnS1) 0 = false → exec (.wake c r) s = .next (intr 634 s)) ∧
      (s.pwr.st = .s1 → bit (s.fld F.pwrWakeEnS1) 0 = true → s.pwr.domsOff ≠ [] → ∃ t, exec (.wake c r) s = .next t ∧
        bit (t.fld F.pwrStatWAKE) 0 = true ∧ t.fld F.pwrStatSTATE = 3 ∧ 634 ∈ t.evt ∧ t.flt = s.flt ∧ t.mem = s.mem))

/-- The two PTP domains (R350 to R358, R412). A sample o = t2 − t1 − corr − meanPathDelay: the first sets DTd (and GT, if active); one
within STEP_THRESHOLD moves F and r by the servo and counts towards LOCKED or ACQUIRING; one beyond it is held, identifier 663,
castles at once where the other domain may take over, and the eighth of a run steps its clock: GT only if the active domain's step
has no LOCKED other domain. A master selected or lost moves the state; HOLDOVER raises source 6. CASTLE makes the other domain
active and leaves GT, or is refused with source 5; CASTLE_STEP asks only LOCKED, and steps GT at once while TL_EN is 0. Each
32,768 ticks calibrate RATIO while LOCKED. -/
def Obligations.DomainsAndCastling : Prop :=
  ∀ (d : Fin 2) (s : State),
    let v := s.dom d
    let st := s.fld (F.ptpDomStatSTATE.dom d)
    let thr : Int := (s.fld F.ptpCtrlSTEPTHR * 1000 : Nat)
    let ki : Int := (s.fld (F.ptpDomServoKI.dom d) : Nat)
    let kp : Int := (s.fld (F.ptpDomServoKP.dom d) : Nat)
    let other := 1 - s.fld F.ptpCtrlACTIVE
    let diff := fun (x : Nat) => ((s.dom x).dt - (s.gtFine : Int)) / 1000000000
    let free := fun (x : Nat) => s.fld (F.ptpDomStatSTATE.dom x) = 3 ∧ diff x ≤ thr ∧ -thr ≤ diff x
    let kept := fun (t : State) => t.flt = s.flt ∧ t.mem = s.mem
    (∀ t1 corr : Int, (s.ptpOn = false ∨ s.flag (F.ptpDomCfgEN.dom d) = false ∨ st < 2 ∨ 4 < st) → exec (.ptpSyncSample d t1 corr) s = .next s) ∧
    (∀ t1 corr o : Int, s.ptpOn = true → s.flag (F.ptpDomCfgEN.dom d) = true → 2 ≤ st → st ≤ 4 →
      o = (v.dt - 1000000 * toInt 32 (s.fld (F.ptpAsymING.at (8 * s.fld (F.ptpDomStatPORT.dom d))))) / 1000000000 - t1 - corr - v.mpd →
      let run : Bool := match v.first with | some f => decide (o - f ≤ 10000) && decide (f - o ≤ 10000) | none => false
      (v.set = false → ∃ t, exec (.ptpSyncSample d t1 corr) s = .next t ∧ t.dom d = { v with dt := v.dt - o * 1000000000, set := true } ∧
        t.fld (F.ptpDomStatOFFSET.dom d) = ofInt 32 (clampI (-2147483648) 2147483647 o) ∧ kept t ∧
        t.gtFine = if s.fld F.ptpCtrlACTIVE = d then (v.dt - o * 1000000000).toNat else s.gtFine) ∧
      (v.set = true → (thr < o ∨ o < -thr) → run = false → ∃ t, exec (.ptpSyncSample d t1 corr) s = .next t ∧
        t.dom d = { v with first := some o, held := 1 } ∧ t.fld (F.ptpDomStatHELD.dom d) = 1 ∧ t.fld (F.ptpDomStatSTATE.dom d) = st ∧
        663 ∈ t.evt ∧ t.gtFine = s.gtFine ∧ kept t ∧
        (v.first = none → s.fld F.ptpCtrlACTIVE = d → s.flag F.ptpCtrlCASTLEAUTO = true → free (1 - d) →
          t.fld F.ptpCtrlACTIVE = 1 - d ∧ 662 ∈ t.evt) ∧
        ((v.first ≠ none ∨ s.fld F.ptpCtrlACTIVE ≠ d ∨ s.flag F.ptpCtrlCASTLEAUTO = false ∨ ¬ free (1 - d)) →
          t.fld F.ptpCtrlACTIVE = s.fld F.ptpCtrlACTIVE)) ∧
      (v.set = true → (thr < o ∨ o < -thr) → run = true → v.held < 7 → ∃ t, exec (.ptpSyncSample d t1 corr) s = .next t ∧
        t.dom d = { v with held := v.held + 1 } ∧ t.fld (F.ptpDomStatHELD.dom d) = v.held + 1 ∧ t.gtFine = s.gtFine ∧ kept t ∧
        t.fld F.ptpCtrlACTIVE = s.fld F.ptpCtrlACTIVE ∧ t.fld (F.ptpDomStatSTATE.dom d) = st) ∧
      (v.set = true → (thr < o ∨ o < -thr) → run = true → v.held = 7 → ∃ t, exec (.ptpSyncSample d t1 corr) s = .next t ∧
        (t.dom d).held = 0 ∧ (t.dom d).first = none ∧ (t.dom d).jump = some (-o) ∧ t.fld (F.ptpDomStatHELD.dom d) = 0 ∧ kept t ∧
        (s.fld F.ptpCtrlACTIVE ≠ d → (t.dom d).dt = v.dt - o * 1000000000 ∧ t.gtFine = s.gtFine) ∧
        (s.fld F.ptpCtrlACTIVE = d → s.fld (F.ptpDomStatSTATE.dom (1 - d)) = 3 → (s.dom (1 - d)).jump = none →
          (t.dom d).dt = v.dt ∧ t.gtFine = s.gtFine ∧ t.ptp.step = s.ptp.step) ∧
        (s.fld F.ptpCtrlACTIVE = d → s.fld (F.ptpDomStatSTATE.dom (1 - d)) ≠ 3 →
          (s.flag F.ptpCtrlTLEN = false → (t.dom d).dt = v.dt - o * 1000000000 ∧ t.gtFine = ((s.gtFine : Int) - o * 1000000000).toNat) ∧
          (s.flag F.ptpCtrlTLEN = true → s.ptp.step = none → t.ptp.step = some { s := some (-o) } ∧ t.gtFine = s.gtFine))) ∧
      (v.set = true → -thr ≤ o → o ≤ thr → v.first = none → ∃ t, exec (.ptpSyncSample d t1 corr) s = .next t ∧ kept t ∧
        (t.dom d).f = clampI (-200000) 200000 (v.f + ki * o / 65536) ∧
        (t.dom d).r = (t.dom d).f + clampI (-500000) 500000 (kp * o / 65536) ∧ (t.dom d).dt = v.dt ∧ t.gtFine = s.gtFine ∧
        (st = 2 → -100 ≤ o → o ≤ 100 → 15 ≤ v.good → t.fld (F.ptpDomStatSTATE.dom d) = 3 ∧ 665 ∈ t.evt) ∧
        (st = 2 → (o < -100 ∨ 100 < o ∨ v.good < 15) → t.fld (F.ptpDomStatSTATE.dom d) = 2) ∧
        (st = 3 → (o < -1000 ∨ 1000 < o) → 3 ≤ v.bad → t.fld (F.ptpDomStatSTATE.dom d) = 2 ∧ 665 ∈ t.evt) ∧
        (st = 3 → -1000 ≤ o → o ≤ 1000 → t.fld (F.ptpDomStatSTATE.dom d) = 3)) ∧
      (v.set = true → -thr ≤ o → o ≤ thr → v.first ≠ none → ∃ u, (u.dom d).first = none ∧ (u.dom d).held = 0 ∧
        u.fld (F.ptpDomStatHELD.dom d) = 0 ∧ kept u ∧
        exec (.ptpSyncSample d t1 corr) s = .next (trackSample d o (servo d o (raise .ptp 3 {} u))))) ∧
    (∀ m : PtpRes, (s.ptpOn = false ∨ s.flag (F.ptpDomCfgEN.dom d) = false) →
      exec (.ptpMessage d m) s = .next s ∧ exec (.holdoverEntry d) s = .next s) ∧
    (s.ptpOn = true → s.flag (F.ptpDomCfgEN.dom d) = true →
      (∀ p : Fin 2, ((st = 2 ∨ st = 3) → exec (.ptpMessage d (.master p)) s = .next (setFld (F.ptpDomStatPORT.dom d) p s)) ∧
        (st ≠ 2 → st ≠ 3 → ∃ t, exec (.ptpMessage d (.master p)) s = .next t ∧ t.fld (F.ptpDomStatSTATE.dom d) = 2 ∧
          t.fld (F.ptpDomStatPORT.dom d) = p ∧ 665 ∈ t.evt ∧ t.gtFine = s.gtFine ∧ kept t)) ∧
      (∀ ns, exec (.ptpMessage d (.delay ns)) s =
        .next { s with ptp := { s.ptp with dom := SMap.put s.ptp.dom d { v with mpd := ns } } }) ∧
      exec (.ptpMessage d .nothing) s = .next s ∧
      (s.flag (F.ptpDomCfgMASTEREN.dom d) = false → exec (.ptpMessage d .become) s = .next s) ∧
      (s.flag (F.ptpDomCfgMASTEREN.dom d) = true → ∃ t, exec (.ptpMessage d .become) s = .next t ∧
        t.fld (F.ptpDomStatSTATE.dom d) = 5 ∧ t.gtFine = s.gtFine ∧ kept t) ∧
      exec (.ptpMessage d .noMaster) s = exec (.holdoverEntry d) s ∧
      (st ≠ 2 → st ≠ 3 → exec (.holdoverEntry d) s = .next s) ∧
      (st = 2 → ∃ t, exec (.holdoverEntry d) s = .next t ∧ t.fld (F.ptpDomStatSTATE.dom d) = 1 ∧ (t.dom d).set = false ∧
        665 ∈ t.evt ∧ t.gtFine = s.gtFine ∧ kept t) ∧
      (st = 3 → ∃ u w, w = raise .ptp 6 { addr := d } u ∧ u.fld (F.ptpDomStatSTATE.dom d) = 4 ∧ (u.dom d).r = v.f ∧ (u.dom d).dt = v.dt ∧
        665 ∈ u.evt ∧ kept u ∧ exec (.holdoverEntry d) s =
          .next (if w.fld F.ptpCtrlACTIVE = d ∧ w.flag F.ptpCtrlCASTLEAUTO = true then (castleReq w).2 else w))) ∧
    (s.pwr.stopped.contains 10 = false → s.rst.held = false →
      (free other → ∃ t, exec .castle s = .next t ∧ t.fld F.ptpCtrlACTIVE = other ∧ 662 ∈ t.evt ∧ t.gtFine = s.gtFine ∧ t.ptp = s.ptp ∧ kept t) ∧
      (¬ free other → exec .castle s = .next (raise .ptp 5 {} s)) ∧
      (s.fld (F.ptpDomStatSTATE.dom other) ≠ 3 → exec .castleStep s = .next (raise .ptp 5 {} s)) ∧
      (s.fld (F.ptpDomStatSTATE.dom other) = 3 → s.flag F.ptpCtrlTLEN = false → ∃ t, exec .castleStep s = .next t ∧
        t.fld F.ptpCtrlACTIVE = other ∧ 662 ∈ t.evt ∧ t.gtFine = (s.dom other).dt.toNat ∧ t.ptp.dom = s.ptp.dom ∧ kept t) ∧
      (s.fld (F.ptpDomStatSTATE.dom other) = 3 → s.flag F.ptpCtrlTLEN = true → s.ptp.step = none → ∃ t, exec .castleStep s = .next t ∧
        t.fld F.ptpCtrlACTIVE = other ∧ 662 ∈ t.evt ∧ t.gtFine = s.gtFine ∧ t.ptp.step = some { s := none } ∧ kept t)) ∧
    (let n := s.fld F.pwrAonCntCNT
     ((s.ptpOn = false ∨ n < s.pwr.calCnt + 32768) → exec .aonRatioCalibrate s = .next s) ∧
     (s.ptpOn = true → n = s.pwr.calCnt + 32768 → s.pwr.calBad = false → s.fld F.ptpCtrlGTSTATE = 2 → exec .aonRatioCalibrate s =
       .next { setFld F.pwrAonRatioRATIO ((s.gt - s.pwr.calGt) * 2 ^ 32 / 32768) s with
         pwr := { s.pwr with calCnt := n, calGt := s.gt, calBad := false } }) ∧
     (s.ptpOn = true → s.pwr.calCnt + 32768 ≤ n → s.pwr.calBad = true → exec .aonRatioCalibrate s =
       .next { s with pwr := { s.pwr with calCnt := n, calGt := s.gt, calBad := decide (s.fld F.ptpCtrlGTSTATE ≠ 2) } }))

/-- Scheduled actions (R361, R362, R364, R367). An entry's due frame is the first that starts at or after TIME. ARM without
SAT_CTRL.EN, of a kind other than 1 to 5, or of an ARMED entry is refused with source 1; else the lateness judged at the next
boundary where the entry can act makes it PAST with source 4 beyond its tolerance, and ARMED within it. DISARM returns an entry to
EMPTY and clears what it shows, but of an ARMED IMAGE_ACTIVATE it is refused with source 3. A COMMIT entry is submitted once
FRAME_START(F − 2) + 16 µs has come and the slot is free, for its due frame: DONE stands before the submission, and LATE where the
earliest open frame is later, which the submission then treats as any late one. -/
def Obligations.ScheduledActions : Prop :=
  ∀ (e : Fin 64) (s : State), s.inReset .sat = false → s.pwr.stopped.contains 10 = false → s.rst.held = false →
    let at_ := 0x25110110 + 0x20 * e.val
    let st := s.fld (F.satECtrlSTATE.sat e)
    let kind := s.fld (F.satECtrlKIND.sat e)
    let time : Int := (s.fld (F.satETimeTIME.sat e) : Nat)
    let g := BitVec.ofNat 10 (s.fld (F.satEArgARG.sat e))
    let tol : Int := if s.fld (F.satECtrlDEF.sat e) = 1 then (if kind = 2 then 0 else 2) else (s.fld (F.satECtrlTOL.sat e) : Nat)
    let due := s.dueFrame e
    let fp : Int := (s.inF F.ptpFramePeriodPERIOD : Nat)
    let shown := fun (l : Int) (t : State) => t.fld (F.satECtrlLAMBDA.sat e) = (clampI 0 255 l).toNat
    let past := fun (l : Int) (u : State) => u.fld (F.satECtrlSTATE.sat e) = 3 ∧ shown l u ∧ (st ≠ 3 → 676 + e.val ∈ u.evt) ∧
      u.mem = s.mem ∧ u.flt = s.flt
    (65536 ≤ fp → time ≤ s.startI due ∧ s.startI (due - 1) < time ∧ (s.startI due - time) * 65536 / fp = 0) ∧
    ((s.flag F.satCtrlEN = false ∨ kind = 0 ∨ 5 < kind ∨ st = 1) → exec (.arm e) s = .next (raise .sat 1 { addr := at_, typ := 2 } s)) ∧
    (s.flag F.satCtrlEN = true → 1 ≤ kind → kind ≤ 5 → st ≠ 1 →
      let l : Int := if kind = 1 then max 0 ((s.earliestOpen g : Int) - due)
        else (s.startI (max due (s.frameAt (s.gt : Int) + 1)) - time) * 65536 / fp
      (tol < l → ∃ u, exec (.arm e) s = .next (raise .sat 4 { addr := e } u) ∧ past l u) ∧
      (l ≤ tol → ∃ t, exec (.arm e) s = .next t ∧ t.fld (F.satECtrlSTATE.sat e) = 1 ∧ SMap.find t.satArm e = some s.gt ∧
        676 + e.val ∈ t.evt ∧ t.mem = s.mem ∧ t.flt = s.flt ∧ t.commit = s.commit)) ∧
    (st = 0 → exec (.disarm e) s = .next s) ∧
    (st = 1 → kind = 2 → exec (.disarm e) s = .next (raise .sat 3 { addr := at_, typ := 2 } s)) ∧
    (st = 1 → kind ≠ 2 → exec (.disarm e) s = .next (intr (676 + e) (setFld (F.satECtrlSTATE.sat e) 0 s))) ∧
    (2 ≤ st → ∃ t, exec (.disarm e) s = .next t ∧ t.fld (F.satECtrlSTATE.sat e) = 0 ∧ t.flag (F.satECtrlLATE.sat e) = false ∧
      t.flag (F.satECtrlMISSED.sat e) = false ∧ shown 0 t ∧ 676 + e.val ∈ t.evt ∧ t.mem = s.mem ∧ t.flt = s.flt) ∧
    ((s.flag F.satCtrlEN = false ∨ s.satDue e = false ∨ s.commit.pend ≠ none) → exec (.satCommitSubmit e) s = .next s) ∧
    (s.flag F.satCtrlEN = true → st = 1 → kind = 1 → s.startI (due - 2) + 16000 ≤ (s.gt : Int) → s.commit.pend = none →
      (∀ i < e.val, s.satDue i = true → s.dueFrame i ≠ due) →
      let f' : Int := max due (s.earliestOpen g : Nat)
      (tol < f' - due → ∃ u, exec (.satCommitSubmit e) s = .next (raise .sat 4 { addr := e } u) ∧ past (f' - due) u) ∧
      (f' - due ≤ tol → g ≠ 0 → ∃ t, exec (.satCommitSubmit e) s = .next (submit due.toNat g false (some e.val) t) ∧
        t.fld (F.satECtrlSTATE.sat e) = 2 ∧ t.flag (F.satECtrlLATE.sat e) = decide (due < f') ∧ shown (f' - due) t ∧
        676 + e.val ∈ t.evt ∧ t.commit = s.commit ∧ t.mem = s.mem ∧ t.flt = s.flt))

/-- The DMX port (R375 to R377). A NULL start-code packet replaces DMX_SLOTS whole, zeros above its slots, and counts; a return from
loss raises source 3 again with identifier 750. DMX_LOSS follows LOSS_MS without one. A bad RDM packet counts RDM_BAD alone;
DISC_UNIQUE_BRANCH in range is answered unless MUTED; another request for the UID or a broadcast is pushed with identifier 749.
RDM_SEND arms a response to it or is refused with source 1; it goes out no earlier than 176 µs after the request, and without one
within 1.8 ms RDM_LATE counts with source 4. -/
def Obligations.DmxAndRdm : Prop :=
  ∀ s : State,
    let push := hwPush (s.fld F.dmxCfgQUEUE)
    let uid := s.fld F.dmxUidUID
    let busy := s.flag F.dmxStatRESPBUSY
    let resp := (List.range 64).flatMap (fun i => leBytes 8 (s.fld (F.dmxRespBYTES.at (8 * i))))
    (∀ code slots p, s.dmxOn = false → exec (.dmxPacket code slots) s = .next s ∧ exec .dmxLoss s = .next s ∧
      exec (.rdmRequest p) s = .next s ∧ exec .rdmResponseSent s = .next s ∧ exec .rdmLate s = .next s) ∧
    (∀ slots : List Byte, s.dmxOn = true → slots.length ≤ 512 →
      let filled := fun (t : State) => t.fld F.dmxStatSLOTS = slots.length ∧ t.fld F.dmxStatPACKETS = (s.fld F.dmxStatPACKETS + 1) % 2 ^ 32 ∧
        (∀ i < 64, t.fld (F.dmxSlotsSLOTS.at (8 * i)) = leAt (slots ++ List.replicate (512 - slots.length) 0) (8 * i) 8) ∧
        t.dmx.last = s.now ∧ t.mem = s.mem
      (s.flag F.dmxStatLOSS = false → ∃ t, exec (.dmxPacket 0 slots) s = .next t ∧ filled t ∧ t.flt = s.flt ∧ t.evt = s.evt) ∧
      (s.flag F.dmxStatLOSS = true → ∃ u, exec (.dmxPacket 0 slots) s = .next (intr 750 (raise .dmx 3 {} u)) ∧ filled u ∧
        u.flag F.dmxStatLOSS = false ∧ (u.fltSet .dmx).raw.getLsbD 3 = false)) ∧
    (∀ (code : BitVec 8) (slots : List Byte), s.dmxOn = true → slots.length ≤ 512 → code ≠ 0 → code ≠ 0xCC →
      exec (.dmxPacket code slots) s = .next (push (BitVec.ofNat 8 code.toNat :: slots) s).2) ∧
    (s.dmxOn = true → (s.flag F.dmxStatLOSS = true ∨ s.now < s.dmx.last + s.fld F.dmxCfgLOSSMS * 1000000) → exec .dmxLoss s = .next s) ∧
    (s.dmxOn = true → s.flag F.dmxStatLOSS = false → s.dmx.last + s.fld F.dmxCfgLOSSMS * 1000000 ≤ s.now →
      exec .dmxLoss s = .next (intr 750 (raiseCond .dmx 3 {} (setFlag F.dmxStatLOSS true s)))) ∧
    (∀ l : List Byte, s.dmxOn = true → (leAt l 0 1 ≠ 0xCC ∨ l.length < 26 ∨ beAt l (l.length - 2) 2 ≠
        ((l.take (l.length - 2)).map BitVec.toNat).foldl (· + ·) 0 % 65536) →
      exec (.rdmRequest l) s = .next (setFld F.dmxStatRDMBAD (min (s.fld F.dmxStatRDMBAD + 1) 255) s)) ∧
    (∀ l : List Byte, s.dmxOn = true → leAt l 0 1 = 0xCC → rdmOk l = true →
      let disc := beAt l 20 1 = 0x10 ∧ beAt l 21 2 = 1
      let hit := s.flag F.dmxCfgMUTED = false ∧ beAt l 24 6 ≤ uid ∧ uid ≤ beAt l 30 6
      let dst := beAt l 3 6
      (disc → hit → exec (.rdmRequest l) s = .next { s with out := s.out ++ [.rdm (rdmDiscovery uid)] }) ∧
      (disc → ¬ hit → exec (.rdmRequest l) s = .next s) ∧
      (¬ disc → (dst = uid ∨ dst = 0xFFFFFFFFFFFF) →
        ((push l s).1 = true → exec (.rdmRequest l) s =
          .next (intr 749 { (push l s).2 with dmx := { (push l s).2.dmx with req := some (push l s).2.now, late := false } })) ∧
        ((push l s).1 = false → exec (.rdmRequest l) s = .next (push l s).2)) ∧
      (¬ disc → dst ≠ uid → dst % 2 ^ 32 ≠ 0xFFFFFFFF → exec (.rdmRequest l) s = .next s)) ∧
    (∀ len : BitVec 9, s.inReset .dmx = false → s.pwr.stopped.contains 10 = false → s.rst.held = false →
      ((len = 0 ∨ 257 < len.toNat ∨ busy = true ∨ s.dmx.req = none) →
        exec (.rdmSend len) s = .next (raise .dmx 1 { addr := 0x27000020, typ := 2 } s)) ∧
      (∀ t0, len ≠ 0 → len.toNat ≤ 257 → busy = false → s.dmx.req = some t0 → ∃ t, exec (.rdmSend len) s = .next t ∧
        t.fld F.dmxRespLenLEN = len.toNat ∧ t.flag F.dmxStatRESPBUSY = true ∧ t.dmx.late = decide (t0 + 1800000 < s.now) ∧
        t.dmx.req = some t0 ∧ t.flt = s.flt ∧ t.mem = s.mem)) ∧
    (∀ t0, s.dmx.req = some t0 →
      ((busy = false ∨ s.dmx.late = true ∨ s.now < t0 + 176000) → exec .rdmResponseSent s = .next s) ∧
      (s.dmxOn = true → busy = true → s.dmx.late = false → t0 + 176000 ≤ s.now → ∃ t, exec .rdmResponseSent s = .next t ∧
        t.out = s.out ++ [.rdm (resp.take (s.fld F.dmxRespLenLEN))] ∧ t.flag F.dmxStatRESPBUSY = false ∧ t.dmx.req = none ∧
        t.flt = s.flt ∧ t.mem = s.mem) ∧
      ((s.now < t0 + 1800000 ∨ (s.dmx.late = false ∧ busy = true)) → exec .rdmLate s = .next s) ∧
      (s.dmxOn = true → t0 + 1800000 ≤ s.now → (s.dmx.late = true ∨ busy = false) → ∃ u, exec .rdmLate s = .next (raise .dmx 4 {} u) ∧
        u.fld F.dmxStatRDMLATE = min (s.fld F.dmxStatRDMLATE + 1) 255 ∧ u.flag F.dmxStatRESPBUSY = false ∧ u.dmx.req = none ∧ u.mem = s.mem)) ∧
    (s.dmx.req = none → exec .rdmResponseSent s = .next s ∧ exec .rdmLate s = .next s)

/-- The CAN ports (R378, R379). An accepted frame, one whose lowest enabled filter matches, is pushed with that filter's number, its
data as long as the DLC says, and the GT; a push that fails counts RX_LOST with source 4. A transmit item is taken one at a time
and sent, or discarded and counted in TX_BAD with identifier 753 + n; success counts TXD. An error moves a counter, LEC and the
state; TEC past 255 enters bus-off, counts BUS_OFFS and raises source 3, left only by RESTART and its recovery, with both counters
zero. -/
def Obligations.CanPorts : Prop :=
  ∀ (n : Fin 2) (s : State),
    let st := s.fld (F.canPortStatSTATE.can n)
    let tec := s.fld (F.canPortStatTEC.can n)
    let rec_ := s.fld (F.canPortStatREC.can n)
    let v := s.canPort n
    let filter := fun (k : Nat) (f : CanFrame) => s.flag ((F.canPortFltIdEN.can n).at (16 * k)) = true ∧
      s.fld ((F.canPortFltIdIDE.can n).at (16 * k)) = b2n f.ide ∧
      (f.id.toNat ^^^ s.fld ((F.canPortFltIdID.can n).at (16 * k))) &&& s.fld ((F.canPortFltMaskMASK.can n).at (16 * k)) = 0
    let oneBit := ∀ k < 32, s.fld ((F.canPortFltIdEN.can n).at (16 * k)) ≤ 1
    let active := fun (t r : Nat) => if 127 < t ∨ 127 < r then 1 else 0
    let moved := fun (t : State) (x : Nat) => t.fld (F.canPortStatSTATE.can n) = x ∧ (st ≠ x → 753 + n.val ∈ t.evt) ∧ t.mem = s.mem
    (∀ f, (s.canOn n = false ∨ 1 < st ∨ s.flag (F.canPortCtrlLOOP.can n) = true ∨
        (f.fdf = true ∧ s.flag (F.canPortCtrlFD.can n) = false)) → exec (.canFrameRx n f) s = .next s) ∧
    (∀ f : CanFrame, s.canOn n = true → st ≤ 1 → s.flag (F.canPortCtrlLOOP.can n) = false →
        (f.fdf = false ∨ s.flag (F.canPortCtrlFD.can n) = true) → oneBit →
      let r := if 127 < rec_ then 127 else rec_ - 1
      ∃ u, u.fld (F.canPortStatREC.can n) = r ∧ moved u (active tec r) ∧ u.flt = s.flt ∧ u.qm = s.qm ∧
        ((∀ k < 32, ¬ filter k f) → exec (.canFrameRx n f) s = .next u) ∧
        (∀ k < 32, filter k f → (∀ j < k, ¬ filter j f) →
          let item := leBytes 8 (f.id.toNat + b2n f.ide * 2 ^ 29 + b2n f.rtr * 2 ^ 30 + b2n f.fdf * 2 ^ 31 + b2n f.brs * 2 ^ 32 +
              b2n f.esi * 2 ^ 33 + f.dlc.toNat * 2 ^ 36 + k * 2 ^ 40) ++ leBytes 8 s.gt ++
            f.data.take (if f.rtr then 0 else dlcLen f.fdf f.dlc.toNat)
          let p := hwPush (s.fld (F.canPortQueuesRXQ.can n)) item u
          (p.1 = true → exec (.canFrameRx n f) s = .next (countMod (F.canPortStatRXD.can n) 1 p.2)) ∧
          (p.1 = false → exec (.canFrameRx n f) s = .next (raise .can 4 { addr := n } (countMod (F.canPortCntRXLOST.can n) 1 p.2))))) ∧
    ((s.canOn n = false ∨ 1 < st ∨ s.flag (F.canPortCtrlLISTEN.can n) = true ∨ v.cur ≠ none) → exec (.canTxItem n) s = .next s) ∧
    (s.canOn n = true → st ≤ 1 → s.flag (F.canPortCtrlLISTEN.can n) = false → v.cur = none →
      (∀ u, hwPop (s.fld (F.canPortQueuesTXQ.can n)) s = (none, u) → exec (.canTxItem n) s = .next u) ∧
      (∀ u l, hwPop (s.fld (F.canPortQueuesTXQ.can n)) s = (some l, u) →
        let w := leAt l 0 8
        let bad := l.length < 16 ∨ bits w 35 33 ≠ 0 ∨ bits w 63 40 ≠ 0 ∨ leAt l 8 8 ≠ 0 ∨
          (bit w 31 = true ∧ u.flag (F.canPortCtrlFD.can n) = false) ∨ (bit w 30 = true ∧ bit w 31 = true) ∨
          l.length ≠ 16 + (if bit w 30 then 0 else dlcLen (bit w 31) (bits w 39 36))
        (bad → exec (.canTxItem n) s = .next (intr (753 + n) (countMod (F.canPortCntTXBAD.can n) 1 u))) ∧
        (¬ bad → u.flag (F.canPortCtrlLOOP.can n) = false → ∃ t, exec (.canTxItem n) s = .next t ∧ (t.canPort n).cur = some l ∧
          t.out = u.out ++ [.can n l] ∧ t.regs = u.regs ∧ t.flt = u.flt ∧ t.mem = u.mem))) ∧
    ((v.cur = none ∨ s.canOn n = false ∨ 1 < st) → exec (.canTxDone n) s = .next s) ∧
    (∀ l, v.cur = some l → s.canOn n = true → st ≤ 1 → s.flag (F.canPortCtrlLOOP.can n) = false →
      ∃ t, exec (.canTxDone n) s = .next t ∧ (t.canPort n).cur = none ∧
        t.fld (F.canPortStatTXD.can n) = (s.fld (F.canPortStatTXD.can n) + 1) % 65536 ∧ (tec ≤ 256 → t.fld (F.canPortStatTEC.can n) = tec - 1) ∧
        (tec ≤ 256 → moved t (active (tec - 1) rec_)) ∧ t.flt = s.flt) ∧
    (∀ (tx : Bool) (inc : Fin 9) (lec : Fin 7), (s.canOn n = false ∨ 1 < st) → exec (.canBusError n tx inc lec) s = .next s) ∧
    (∀ (inc : Fin 9) (lec : Fin 7), s.canOn n = true → st ≤ 1 →
      (∀ tx, s.flag (F.canPortCtrlLISTEN.can n) = true → exec (.canBusError n tx inc lec) s = .next (setFld (F.canPortStatLEC.can n) lec s)) ∧
      (s.flag (F.canPortCtrlLISTEN.can n) = false →
        (∃ t, exec (.canBusError n true inc lec) s = .next t ∧ t.fld (F.canPortStatLEC.can n) = lec ∧
          t.fld (F.canPortStatTEC.can n) = min (tec + inc) 255 ∧ moved t (active (min (tec + inc) 255) rec_) ∧
          (t.canPort n).past255 = (v.past255 || decide (255 < tec + inc)) ∧ t.flt = s.flt) ∧
        (∃ t, exec (.canBusError n false inc lec) s = .next t ∧ t.fld (F.canPortStatLEC.can n) = lec ∧
          t.fld (F.canPortStatREC.can n) = min (rec_ + inc) 255 ∧ moved t (active tec (min (rec_ + inc) 255)) ∧ t.canPort n = v ∧ t.flt = s.flt))) ∧
    ((s.canOn n = false ∨ 1 < st ∨ v.past255 = false) → exec (.busOff n) s = .next s) ∧
    (s.canOn n = true → st ≤ 1 → v.past255 = true → ∃ u, exec (.busOff n) s = .next (raise .can 3 { addr := n } u) ∧ moved u 2 ∧
      u.fld (F.canPortCntBUSOFFS.can n) = (s.fld (F.canPortCntBUSOFFS.can n) + 1) % 65536 ∧ (u.canPort n).past255 = false ∧
      (u.canPort n).off = true) ∧
    ((s.canOn n = false ∨ st ≠ 2) → exec (.canRestart n) s = .next s ∧ exec (.busOffRecoveryEnd n) s = .next s) ∧
    (s.canOn n = true → st = 2 →
      exec (.canRestart n) s = .next (setFlag (F.canPortStatRECOVERING.can n) true s) ∧
      (s.flag (F.canPortStatRECOVERING.can n) = false → exec (.busOffRecoveryEnd n) s = .next s) ∧
      (s.flag (F.canPortStatRECOVERING.can n) = true → ∃ t, exec (.busOffRecoveryEnd n) s = .next t ∧ moved t 0 ∧
        t.fld (F.canPortStatTEC.can n) = 0 ∧ t.fld (F.canPortStatREC.can n) = 0 ∧ t.flag (F.canPortStatRECOVERING.can n) = false ∧
        (t.canPort n).off = false ∧ t.flt = s.flt))

/-- Sessions on the chain (R385, R387, R389, R390, R395, R398, R399). An offer is judged in the order of the header checks and
answered, a bad header with source 3, a clash with source 6; one accepted starts a session in the bank that is not running,
RECEIVING, its header stored, and is offered on. A block is judged once whole: a bad CRC asks again three times (source 4), a bad
tag aborts (source 5), a good one is kept, sealed for storage. Every block held and its SHA-384 right, the bank is STAGED, else
EMPTY. DONE brings FINAL; refusals from downstream end only the forwarding; silence for 2 s aborts with source 7 and keeps the
resume state; a failed flash write empties the bank (source 8) and the session goes on. -/
def Obligations.UpdateSessions : Prop :=
  ∀ (c : Fin 2) (id : BitVec 32) (s : State),
    let heard := fun (x : UpdSess) => { x with heard := s.now }
    let withSess := fun (x : Option UpdSess) => ({ s with upd := { s.upd with sess := x } } : State)
    let withFwd := fun (f : FwdSess) => ({ s with upd := { s.upd with fwd := [f] } } : State)
    let kept := fun (t : State) => t.flt = s.flt ∧ t.mem = s.mem
    let answer := fun (code next : Nat) (t : State) => sendUpd c 0x11 (beBytes 4 id.toNat ++ [BitVec.ofNat 8 code, 0] ++ beBytes 2 next) t
    (∀ h l i o code next, s.updHears c = false → exec (.offer c id h) s = .next s ∧ exec (.answer c id code next) s = .next s ∧
      exec (.data c id i o l) s = .next s ∧ exec (.blockResult c id i code) s = .next s ∧ exec (.done c id) s = .next s ∧
      exec (.final c id code) s = .next s ∧ exec (.abortFrame c id code) s = .next s) ∧
    (s.updHears c = true → ∀ h : List Byte,
      let hc := headerCode s.upd.recs.floor h
      let refused := fun (code : Nat) (t : State) => exec (.offer c id h) s = .next (answer code 0 (lastCode code t))
      let judged := fun (p : Prop) => if hc ≠ 0 then refused hc (raise .upd 3 {} s) else p
      (s.flag F.updCtrlEN = false → s.rst.recovery = false → refused 0x14 s) ∧
      (leAt h 0 4 ≠ 0x55464C55 → hc = 1) ∧
      (hdrBad h = false → hc =
        if leAt h 8 4 ≠ Config.otpDevice.toNat then 2
        else if Config.otpRevoked (leAt h 0x1F 1) = true ∨ Config.sha384 (hdrKey h) ≠ Config.otpImageRoot (leAt h 0x1F 1) then 4
        else if Config.p384Verify (hdrKey h) (Config.sha384 (h.take 0x1A0)) (slice h 0x1A0 96) = false then 3
        else if hdrEpoch h < s.upd.recs.floor then 5 else 0) ∧
      (s.flag F.updCtrlEN = true → hdrBad h = true → hc = 1 ∧ refused 1 (raise .upd 3 {} s)) ∧
      (s.flag F.updCtrlEN = true → s.rst.recovery = false →
        (∀ b, s.upd.running = some b → (s.bank b).st = 3 → judged (refused 0x16 s)) ∧
        (∀ b, s.upd.running = some b → (s.bank b).st ≠ 3 → s.activationArmed (fun k => (s.bank k).st == 2) = true → judged (refused 0x0D s)) ∧
        (∀ b, s.upd.running = some b → (s.bank b).st ≠ 3 → s.activationArmed (fun k => (s.bank k).st == 2) = false → s.upd.sess = none →
          (s.bank (1 - b)).st ≠ 2 →
          (imageId h = imageId (s.bankHdr b) → hdrDigest h ≠ hdrDigest (s.bankHdr b) → judged (refused 0x0C (raise .upd 6 {} s))) ∧
          (imageId h = imageId (s.bankHdr b) → hdrDigest h = hdrDigest (s.bankHdr b) → judged (refused 9 s)) ∧
          (imageId h ≠ imageId (s.bankHdr b) → s.upd.recs.resume = none → s.upd.fwd = [] → Memory.wf s.mem → judged (
            if lateChecks h s ≠ 0 then refused (lateChecks h s) (raise .upd 3 {} s)
            else ∃ t, exec (.offer c id h) s = .next (answer 0 0 t) ∧ t.bank (1 - b) =
              { st := 1, serial := hdrSerial h, epoch := hdrEpoch h } ∧
            t.upd.sess = some { src := c + 1, id := id.toNat, header := h, key := (imageKey h).getD [], heard := s.now } ∧
            (s.flag F.updCtrlFORWARD = false → t.upd.fwd = []) ∧
            (s.flag F.updCtrlFORWARD = true → ∃ k, t.upd.fwd = [{ port := 1 - c, id := k, heard := s.now }]) ∧
            t.fld F.updSessSRC = c + 1 ∧ t.fld F.updSessNEXT = 0 ∧ t.fld F.updSessNBLOCKS = hdrBlocks h ∧
            t.flt = s.flt ∧ (∀ i < 512, t.byte (bankBase (1 - b) + i) = h.getD i 0) ∧
            (∀ a, (a < bankBase (1 - b) ∨ bankBase (1 - b) + bankLen ≤ a) → t.byte a = s.byte a)))))) ∧
    (∀ f x, s.updHears c = true → s.upd.fwd = [f] → f.port = c → f.id = id.toNat → f.ended = false → s.upd.sess = some x → x.ended = false →
      let ended := fun (t : State) (code : Nat) => t.upd.fwd = [{ f with ended := true }] ∧ t.upd.sess = some x ∧
        t.fld F.updSessLASTCODE = code ∧ t.fld F.updSessFWD = 2 ∧ t.out = s.out ∧ kept t
      (∀ code next, f.open_ = true → exec (.answer c id code next) s = .next s) ∧
      (∀ next : BitVec 16, f.open_ = false → exec (.answer c id 0 next) s =
        .next (pump (lastCode 0 (withFwd { f with open_ := true, next := next.toNat, heard := s.now })))) ∧
      (∀ (code : BitVec 8) (next : BitVec 16), f.open_ = false → code ≠ 0 → ∃ t, exec (.answer c id code next) s = .next t ∧
        t.upd.fwd = [{ f with ended := true, next := next.toNat, heard := s.now }] ∧ t.upd.sess = some x ∧
        t.fld F.updSessLASTCODE = code.toNat ∧ t.out = s.out ∧ kept t) ∧
      (∀ (i : BitVec 16) (code : BitVec 8), let u := lastCode code.toNat (withFwd { f with heard := s.now })
        (i.toNat ∉ f.flight → exec (.blockResult c id i code) s = .next u) ∧
        (i.toNat ∈ f.flight → code ≠ 0 → exec (.blockResult c id i code) s = .next (sendBlock f i.toNat (SMap.get x.raw i.toNat []) u)) ∧
        (i.toNat ∈ f.flight → code = 0 → exec (.blockResult c id i code) s = .next (pump (lastCode 0
          (withFwd { f with heard := s.now, flight := f.flight.filter (fun k => k != i.toNat) }))))) ∧
      (∀ code : BitVec 8, ∃ t, exec (.final c id code) s = .next t ∧ ended t code.toNat) ∧
      (∀ code : BitVec 8, (x.src ≠ c + 1 ∨ x.id ≠ id.toNat) → ∃ t, exec (.abortFrame c id code) s = .next t ∧ ended t code.toNat) ∧
      (s.now < f.heard + 2000000000 → exec (.sessionTimeout (some c)) s = .next s) ∧
      (f.heard + 2000000000 ≤ s.now → ∃ u, exec (.sessionTimeout (some c)) s = .next (raise .upd 7 {} u) ∧
        u.upd.fwd = [{ f with ended := true }] ∧ u.upd.sess = some x ∧ kept u)) ∧
    (∀ l i o, s.upd.sess = none → exec (.data c id i o l) s = .next s ∧ exec (.done c id) s = .next s ∧
      exec .imageComplete s = .next s ∧ exec (.sessionTimeout none) s = .next s ∧ ∀ r, exec (.blockWriteDone i r) s = .next s) ∧
    (∀ x, s.updHears c = true → s.upd.sess = some x → x.ended = false → x.src = c + 1 → x.id = id.toNat → s.upd.fwd = [] →
      (∀ (i : BitVec 16) (o : BitVec 32) (l : List Byte), l.length ≤ 1440 → (hdrBlocks x.header ≤ i.toNat ∨ (SMap.find x.plain i.toNat).isSome) →
        exec (.data c id i o l) s = .next (withSess (some (heard x)))) ∧
      (∀ (i : BitVec 16) (l : List Byte), 32 ≤ l.length → l.length ≤ 1440 → l.length = 32 + leAt l 8 4 → leAt l 0 2 = i.toNat →
        i.toNat < hdrBlocks x.header → SMap.find x.plain i.toNat = none → SMap.find x.parts i.toNat = none →
        let k := SMap.get x.crcBad i.toNat 0 + 1
        let open_ := Config.gcmOpen x.key (hdrSalt x.header ++ leBytes 4 i.toNat) (l.take 16) (l.drop 32 ++ slice l 16 16)
        let failed := fun (u : State) => ∃ y, u.upd.sess = some y ∧ SMap.get y.crcBad i.toNat 0 = k ∧ SMap.find y.parts i.toNat = none ∧
          y.heard = s.now ∧ y.plain = x.plain ∧ kept u
        (crc32c (l.drop 32) ≠ leAt l 12 4 → k < 4 → ∃ u, failed u ∧ exec (.data c id i 0 l) s =
          .next (pump (showSess (sendResult x i.toNat 0x0E (countMod F.updSessCRCRETRY 1 (raise .upd 4 {} u)))))) ∧
        (crc32c (l.drop 32) ≠ leAt l 12 4 → 4 ≤ k → ∃ u, failed u ∧
          exec (.data c id i 0 l) s = .next (pump (abortSess 0x0E true (raise .upd 4 {} u)))) ∧
        (crc32c (l.drop 32) = leAt l 12 4 → (leAt l 2 1 = 0 ∨ leAt l 2 1 = 2) → match open_ with
          | none => ∃ u, kept u ∧ exec (.data c id i 0 l) s = .next (pump (abortSess 0x0F true (raise .upd 5 {} u)))
          | some p => ∃ t y, exec (.data c id i 0 l) s = .next t ∧ t.upd.sess = some y ∧
            SMap.find y.plain i.toNat = some (if leAt l 2 1 = 0 then p else List.replicate (leAt l 4 4) 0) ∧ SMap.find y.raw i.toNat = some l ∧
            (x.writeFail = false → SMap.find y.writing i.toNat =
              some (sealBlock x i.toNat (if leAt l 2 1 = 0 then p else List.replicate (leAt l 4 4) 0))) ∧ t.fld F.updSessLASTCODE = 0 ∧ kept t)) ∧
      (x.result = none → exec (.done c id) s = .next (withSess (some { x with done := true, heard := s.now }))) ∧
      (∀ r, r < 256 → x.result = some r → ∃ t g, exec (.done c id) s = .next t ∧ t.upd.sess = none ∧ t.fld F.updSessLASTCODE = r ∧
        t.fld F.updSessSRC = 0 ∧ t.out = s.out ++ [.frame c 0 g] ∧ beAt g 15 1 = 0x15 ∧
        slice g 28 8 = beBytes 4 id.toNat ++ [BitVec.ofNat 8 r, 0, 0, 0] ∧ kept t) ∧
      (∀ code : BitVec 8, ∃ t, exec (.abortFrame c id code) s = .next t ∧ t.upd.sess = none ∧ t.fld F.updSessSRC = 0 ∧
        t.fld F.updSessLASTCODE = code.toNat ∧ t.out = s.out ∧ kept t ∧
        (code = 0x13 → t.upd.recs = { s.upd.recs with resume := some x }) ∧
        (code ≠ 0x13 → t.upd.recs.resume = s.upd.recs.resume ∧ (t.bank s.target).st = if (s.bank s.target).st = 1 then 0 else (s.bank s.target).st)) ∧
      ((x.full = false ∨ x.result ≠ none ∨ x.writing ≠ []) → exec .imageComplete s = .next s) ∧
      (x.full = true → x.result = none → x.writing = [] → x.writeFail = false → x.done = false → s.rst.recovery = false →
        let p := (List.range (hdrBlocks x.header)).flatMap (fun i => SMap.get x.plain i [])
        let good := beBytes 48 (Config.sha384 p).toNat = hdrDigest x.header
        ∃ t, exec .imageComplete s = .next t ∧ kept t ∧
          if good then (t.bank s.target).st = 2 ∧ t.fld F.updSessLASTCODE = 0 ∧ t.upd.sess = some { x with result := some 0 }
          else (t.bank s.target).st = 0 ∧ t.fld F.updSessLASTCODE = 0x11 ∧ t.upd.sess = some { x with result := some 0x11 }) ∧
      (s.now < x.heard + 2000000000 → exec (.sessionTimeout none) s = .next s) ∧
      (x.heard + 2000000000 ≤ s.now → ∃ u, exec (.sessionTimeout none) s = .next (raise .upd 7 {} u) ∧ u.upd.sess = none ∧
        u.upd.recs = { s.upd.recs with resume := some x } ∧ u.fld F.updSessSRC = 0 ∧ kept u) ∧
      (∀ (i : BitVec 16) (r : Fin 3), SMap.find x.writing i.toNat = none → exec (.blockWriteDone i r) s = .next s) ∧
      (∀ (i : BitVec 16) w, SMap.find x.writing i.toNat = some w → s.inReset .nvm = false →
        (∃ t, exec (.blockWriteDone i 0) s = .next t ∧ t.upd.sess = some { x with writing := SMap.erase x.writing i.toNat } ∧ t.flt = s.flt ∧
          t.mem = (putBytes (bankBase s.target + 0x1000 + 32 * i.toNat) w.1
            (putBytes (bankBase s.target + 0x10000 * (i.toNat + 1)) w.2 s)).mem) ∧
        (let lost := fun (u : State) => showSess (modSess (fun y => { y with writing := [], writeFail := true })
           (setBankSt s.target 0 (raise .upd 8 {} u)))
         exec (.blockWriteDone i 1) s = .next (lost s) ∧
         exec (.blockWriteDone i 2) s = .next (lost (raise .nvm 5 {} (countMod F.nvmFlStatERRORS 1 s))))))

/-- The commands of UPD_CMD and the boot (R390 to R397, R400 to R402). A command while one is BUSY is refused with source 1; else it
is BUSY until UPD_CMD_COMPLETE shows its result. CONFIRM makes the bank GOOD and raises EPOCH_FLOOR; ROLLBACK and TRIAL_EXPIRED
make the running bank FAILED and reset into the other, refused with NO_FALLBACK without one; ACTIVATE makes a STAGED bank TRIAL
and resets; ERASE empties a bank; HASH gives SHA-384; ABANDON ends a session; LOCAL commands act as a chain source. The ROM trains
DRAM, then loads the boot bank or enters recovery. -/
def Obligations.UpdateCommands : Prop :=
  ∀ s : State,
    let nine := fun (P : Instr → Prop) => P .localOffer ∧ P .localBlock ∧ P .localDone ∧ P .abandon ∧ P .confirm ∧ P .rollback ∧ P .hash ∧
      ∀ b, P (.activate b) ∧ P (.erase b)
    let w := setFld F.updCmdSTATE 1 { s with upd := { s.upd with busy := some none } }
    let with_ := fun (k : Nat) (t : State) => ({ t with upd := { t.upd with busy := some (some k) } } : State)
    let kept := fun (t : State) => t.flt = s.flt ∧ t.mem = s.mem ∧ t.fld F.updCmdSTATE = 1
    (s.updOn = false → nine (fun i => exec i s = .next s) ∧ exec .updCmdComplete s = .next s ∧ exec .trialExpired s = .next s ∧
      ∀ v, exec (.updCtrlWrite v) s = .next s) ∧
    (s.updOn = true → s.upd.busy ≠ none → nine (fun i => exec i s = .next (raise .upd 1 {} s))) ∧
    (s.updOn = true → s.upd.busy = none →
      (∀ u h, updRead 0 512 w = (some h, u) → let o := offered 3 (u.freeW.toNat % 2 ^ 32) h (drawn u)
        exec .localOffer s = .next (with_ o.1 o.2.2) ∧
        (u.flag F.updCtrlEN = false → u.rst.recovery = false → exec .localOffer s = .next (with_ 0x14 (lastCode 0x14 (drawn u))))) ∧
      (∀ u, updRead 0 512 w = (none, u) → exec .localOffer s = .next (with_ (u.freeW.toNat % 256) (drawn u))) ∧
      (s.live = none → exec .localBlock s = .next (with_ (w.freeW.toNat % 256) (drawn w)) ∧
        exec .localDone s = .next (with_ (w.freeW.toNat % 256) (drawn w))) ∧
      (∀ x, s.live = some x → x.src = 3 → s.upd.fwd = [] →
        (∀ u1 u2 h l, updRead 0 32 { w with upd := { w.upd with sess := some { x with heard := s.now } } } = (some h, u1) →
          updRead 32 (leAt h 8 4) u1 = (some l, u2) → leAt h 0 2 < hdrBlocks x.header → SMap.find x.plain (leAt h 0 2) = none →
          let j := judgeBlock x (leAt h 0 2) (h ++ l) u2
          exec .localBlock s = .next (with_ j.1 (pump j.2))) ∧
        (x.result = none → ∃ t, exec .localDone s = .next t ∧ t.upd.busy = some none ∧
          t.upd.sess = some { x with done := true, heard := s.now } ∧ kept t) ∧
        (∀ r, x.result = some r → ∃ t, exec .localDone s = .next t ∧ t.upd.busy = some (some r) ∧ t.upd.sess = none ∧
          t.fld F.updSessSRC = 0 ∧ kept t)) ∧
      (∀ x, s.live = some x → s.upd.fwd = [] → ∃ t, exec .abandon s = .next t ∧ t.upd.busy = some (some 0) ∧ t.upd.sess = none ∧
        t.fld F.updSessLASTCODE = 0x0B ∧ t.fld F.updSessSRC = 0 ∧ kept t ∧
        (t.bank s.target).st = if (s.bank s.target).st = 1 then 0 else (s.bank s.target).st) ∧
      (∀ b, s.upd.running = some b → ((s.bank b).st = 3 ∨ (s.bank b).st = 4) → ∃ t, exec .confirm s = .next t ∧ (t.bank b).st = 4 ∧
        t.upd.recs.floor = max s.upd.recs.floor (hdrFloor (s.bankHdr b)) ∧ t.upd.busy = some (some 0) ∧
        ((s.bank b).st = 3 → 743 ∈ t.evt) ∧ kept t) ∧
      ((∀ b, s.upd.running = some b → s.fallback b = false) → exec .rollback s = .next (with_ 0x18 w)) ∧
      (∀ b, s.upd.running = some b → s.fallback b = true → ∃ u, exec .rollback s = .next (warmReset F.sysRstCauseWARMUPD (raise .upd 10 {} u)) ∧
        (u.bank b).st = 5 ∧ u.upd.recs.boot = 1 - b ∧ kept u) ∧
      (∀ b : Fin 2,
        (s.activationArmed (fun _ => true) = true → exec (.activate b) s = .next (with_ 0x0D w)) ∧
        (s.activationArmed (fun _ => true) = false → (s.bank b).st ≠ 2 → exec (.activate b) s = .next (with_ 0x17 w)) ∧
        (s.activationArmed (fun _ => true) = false → (s.bank b).st = 2 → ∃ u, exec (.activate b) s = .next (warmReset F.sysRstCauseWARMUPD u) ∧
          u.bank b = { s.bank b with st := 3, boots := 0 } ∧ u.upd.recs.boot = b ∧ u.bank (1 - b) = s.bank (1 - b) ∧ 743 ∈ u.evt ∧ kept u) ∧
        (s.upd.running = some b.val → exec (.erase b) s = .next (with_ 0x19 w)) ∧
        (s.upd.running ≠ some b.val → (s.bank b).st = 2 → s.activationArmed (fun k => k == b.val) = true →
          exec (.erase b) s = .next (with_ 0x0D w)) ∧
        (s.upd.running ≠ some b.val → ((s.bank b).st ≠ 2 ∨ s.activationArmed (fun k => k == b.val) = false) →
          ((s.bank b).st ≠ 1 ∨ s.live = none) → Memory.wf s.mem →
          ∃ t, exec (.erase b) s = .next t ∧ t.bank b = {} ∧ t.upd.busy = some (some 0) ∧ t.upd.recs.resume = none ∧ t.flt = s.flt ∧
            (∀ a, t.byte a = if bankBase b ≤ a ∧ a < bankBase b + bankLen then 0 else s.byte a))) ∧
      (∀ u l, updRead 0 (w.fld F.updLenLEN) w = (some l, u) → ∃ t, exec .hash s = .next t ∧ t.upd.busy = some (some 0) ∧ t.mem = u.mem ∧
        t.flt = u.flt ∧ ∀ i < 6, t.fld (F.updHashH.at (8 * i)) = leAt (beBytes 48 (Config.sha384 l).toNat) (8 * i) 8) ∧
      (∀ u, updRead 0 (w.fld F.updLenLEN) w = (none, u) → exec .hash s = .next (with_ (u.freeW.toNat % 256) (drawn u)))) ∧
    ((∀ r, s.upd.busy ≠ some (some r)) → exec .updCmdComplete s = .next s) ∧
    (∀ r, r < 256 → s.updOn = true → s.upd.busy = some (some r) → ∃ t, exec .updCmdComplete s = .next t ∧ t.upd = { s.upd with busy := none } ∧
      t.fld F.updCmdSTATE = 2 ∧ t.fld F.updCmdRESULT = r ∧ 741 ∈ t.evt ∧ t.flt = s.flt ∧ t.mem = s.mem) ∧
    ((∀ b, s.upd.running = some b → (s.bank b).st ≠ 3 ∨ s.now < s.upd.bootAt + s.fld F.updCtrlTRIALS * 1000000000) →
      exec .trialExpired s = .next s) ∧
    (∀ b, s.updOn = true → s.upd.running = some b → (s.bank b).st = 3 → s.upd.bootAt + s.fld F.updCtrlTRIALS * 1000000000 ≤ s.now →
      exec .trialExpired s = .next (warmReset F.sysRstCauseWARMUPD (rollFrom b (raise .upd 9 {} s)))) ∧
    (∀ v : BitVec 32, s.updOn = true → ∃ t, exec (.updCtrlWrite v) s = .next t ∧ t.flag F.updCtrlEN = v.getLsbD 31 ∧
      t.flag F.updCtrlFORWARD = v.getLsbD 30 ∧ t.fld F.updCtrlTRIALBOOTS = max 1 (bits v.toNat 19 16) ∧ t.fld F.updCtrlTRIALS = max 1 (bits v.toNat 15 0) ∧
      t.upd = { s.upd with recs := { s.upd.recs with trialBoots := max 1 (bits v.toNat 19 16), trialS := max 1 (bits v.toNat 15 0) } } ∧
      t.flt = s.flt ∧ t.mem = s.mem) ∧
    (∀ svc : Bool,
      let go := s.rst.romWait = true ∧ s.rst.held = false ∧ s.updOn = true ∧ s.inReset .mel = false ∧ s.pwr.stopped.contains 6 = false
      let z := setFld F.nvmFlInfoPAGELOG2 Config.flashPage.toNat (setFld F.nvmFlInfoERASELOG2 Config.flashErase.toNat
        (setFld F.nvmFlInfoSIZEKIB Config.flashKib.toNat s))
      let b := s.upd.recs.boot
      let recovered := fun (t : State) => t.rst.recovery = true ∧ t.rst.romWait = false ∧ t.flag F.sysRstCauseRECOVERY = true ∧
        (∀ c < 2, t.flag (F.chnPortCfgEN.cn c) = true ∧ t.fld (F.chnPortCfgRATE.cn c) = 2) ∧ t.flt = s.flt ∧ t.mem = s.mem
      (¬ go → exec (.romBoot svc) s = .next s) ∧
      (go → s.fld F.ddrStatSTATE = 0 → ∃ t, exec (.romBoot svc) s = .next t ∧ t.fld F.ddrStatSTATE = 1 ∧ t.flag F.ddrCfgLOCK = true ∧
        t.fld F.ddrCfgSIZE = bits Config.otpDdr.toNat 23 16 ∧ t.rst = s.rst ∧ t.flt = s.flt ∧ t.mem = s.mem) ∧
      (go → s.fld F.ddrStatSTATE ≠ 0 → s.fld F.ddrStatSTATE ≠ 2 → exec (.romBoot svc) s = .next s) ∧
      (go → s.fld F.ddrStatSTATE = 2 → svc = true → s.rst.svcStuck = false → ∃ t, exec (.romBoot svc) s = .next t ∧ recovered t ∧ t.upd = s.upd) ∧
      (go → s.fld F.ddrStatSTATE = 2 → svc = false → (s.bank b).st = 4 →
        match bootCheck b z with
        | some p => ∃ t, exec (.romBoot svc) s = .next t ∧ t.upd = { s.upd with running := some b, bootAt := s.now } ∧
          t.rst = { s.rst with romWait := false, recovery := false } ∧ (SMap.get t.mel.harts 0 {}).pc = BitVec.ofNat 64 (leAt (s.bankHdr b) 0x28 8) ∧
          t.mem = (putBytes (leAt (s.bankHdr b) 0x20 8) p s).mem ∧ t.flt = s.flt
        | none => s.fallback b = false → b < 2 → ∃ t, exec (.romBoot svc) s = .next t ∧ recovered t ∧ (t.bank b).st = 5 ∧
          (t.bank (1 - b)) = s.bank (1 - b) ∧ t.upd.recs.boot = b))

/-- The power states (R406 to R409, R411, R413, R415). A request while a sequence runs completes BUSY, one for the present state OK;
else entry begins with step 1, from S1 with step 7; Rook refuses S2 at once in ENDGAME, LOCKOUT and HALT. A step agrees as its
islands stand, and the next is asked after its delay; at 1 ms it refuses with its reason, a wake before the last agreement refuses
with 0x0B, and the steps stopped start again from the highest. The domains switch 120 µs apart; a wake source enabled for the
state begins leaving; GT after S2 is GT_entry plus the ticks at RATIO, in HOLDOVER. OFF cannot be refused. -/
def Obligations.PowerSequence : Prop :=
  ∀ s : State,
    let off := s.pwr.st = .off
    let completed := fun (r : Nat) => intr 6 (setFld F.pwrStatRESULT r s)
    let seq := fun (t : State) (q : PwrSeq) => t.pwr.seq = some q
    let kept := fun (t : State) => t.flt = s.flt ∧ t.mem = s.mem ∧ t.out = s.out
    let from_ := fun (i : Instr) (tgt : PwrSt) (st lo : Nat) => ∃ t, exec i s = .next t ∧ t.fld F.pwrStatSTATE = st ∧ t.pwr.st = s.pwr.st ∧ kept t ∧
      seq t { target := tgt, dir := .enter, step := lo, lo := lo, since := s.now }
    let refused := fun (st : Nat) => ∃ u, exec .powerRequestS2 s = .next (raise .sys 9 {} u) ∧ u.pwr.seq = none ∧ u.pwr.st = s.pwr.st ∧
      u.fld F.pwrStatSTATE = st ∧ u.fld F.pwrStatSTEP = 1 ∧ u.fld F.pwrStatREASON = 1 ∧ u.fld F.pwrStatRESULT = 1 ∧ 6 ∈ u.evt
    let asIs := s.late = [] ∧ s.lateLoads = none
    let q0 : PwrSeq := { target := .off, dir := .off, step := 1, since := s.now }
    (off → exec .powerRequestS1 s = .next s ∧ exec .powerRequestS2 s = .next s ∧ exec .powerRequestA s = .next s ∧
      exec .powerRequestOff s = .next s ∧ exec .pfail s = .next s) ∧
    (¬ off → s.pwr.seq ≠ none → exec .powerRequestS1 s = .next (completed 2) ∧ exec .powerRequestS2 s = .next (completed 2) ∧
      exec .powerRequestA s = .next (completed 2)) ∧
    (s.pwr.seq = none →
      (s.pwr.st = .s1 → exec .powerRequestS1 s = .next (completed 0)) ∧
      (s.pwr.st = .s1 → s.rookSt < 2 → from_ .powerRequestS2 .s2 2 7) ∧
      (s.pwr.st = .s1 → 2 ≤ s.rookSt → (∀ j ∈ s.pwr.stopped, j < 7) → refused 1) ∧
      (s.pwr.st = .s2 → exec .powerRequestS2 s = .next (completed 0)) ∧
      (s.pwr.st = .a → exec .powerRequestA s = .next (completed 0) ∧ from_ .powerRequestS1 .s1 2 1) ∧
      (s.pwr.st = .a → s.rookSt < 2 → from_ .powerRequestS2 .s2 2 1) ∧
      (s.pwr.st = .a → 2 ≤ s.rookSt → s.pwr.stopped = [] → s.pwr.domsOff = [] → refused 0)) ∧
    exec .pfail s = exec .powerRequestOff s ∧
    (∀ q, s.pwr.seq = some q → q.dir = .off → exec .powerRequestOff s = .next s) ∧
    ((∀ q, s.pwr.seq = some q → q.dir ≠ .off) → (s.pwr.st = .a ∨ s.pwr.st = .s1) → ∃ t, exec .powerRequestOff s = .next t ∧ seq t q0 ∧
      t.fld F.pwrStatSTATE = 2 ∧ kept t) ∧
    (s.pwr.seq = none → s.pwr.st = .s2 → ∃ t, exec .powerRequestOff s = .next t ∧ t.pwr.st = .off ∧ t.pwr.supplyEn = false ∧ t.mem = s.mem) ∧
    (s.pwr.seq = none → exec .powerStepAgree s = .next s ∧ exec .powerStepDelayEnd s = .next s ∧ exec .powerStepTimeout s = .next s ∧
      exec .domainSwitch s = .next s) ∧
    (∀ q, s.pwr.seq = some q →
      let agrees := match q.step with
        | 1 => s.allOff = true
        | 2 => s.railsStopped = true
        | 3 => s.ril = []
        | 4 => s.cor.busy = none ∧ s.cor.ckpt = none ∧ s.diag.busy = none
        | 6 => ∀ e ∈ s.mel.harts, e.1 = 64 ∨ e.2.st = .stopped ∨ e.2.st = .waiting ∨ e.2.st = .dead
        | 7 => (∀ n < 64, 8 ≤ n → s.chSt n ≠ 1 ∧ s.chSt n ≠ 2 ∧ s.chSt n ≠ 3) ∧ s.qm.parks = []
        | 8 => s.live = none ∧ s.flag F.nvmFlStatBUSY = false
        | 9 => s.commit.pend = none ∧ s.commit.armed = [] ∧ (s.fltSet .sys).stat.getLsbD 11 = false
        | _ => True
      let due := q.since + stepDelay q.step ≤ s.now
      ((q.dir ≠ .enter ∨ q.agreed = true ∨ ¬ agrees) → exec .powerStepAgree s = .next s) ∧
      (q.dir = .enter → q.agreed = false → agrees → ∃ t, exec .powerStepAgree s = .next t ∧ seq t { q with agreed := true, since := s.now } ∧
        q.step ∈ t.pwr.stopped ∧ kept t ∧ (q.step = 10 → t.pwr.gtEntry = s.gt ∧ t.pwr.cntEntry = s.fld F.pwrAonCntCNT) ∧
        (q.step = 11 → t.fld F.ddrStatSTATE = 3) ∧ (q.step ≠ 11 → t.regs = s.regs)) ∧
      ((q.dir ≠ .enter ∨ q.agreed = true ∨ s.now < q.since + 1000000) → exec .powerStepTimeout s = .next s) ∧
      (q.dir = .enter → q.agreed = false → q.since + 1000000 ≤ s.now → 4 ≤ q.step → q.step ≤ 10 → q.lo = 1 → s.pwr.domsOff = [] → asIs →
        s.pwr.stopped = (List.range q.step).drop 1 → ∃ t, exec .powerStepTimeout s = .next t ∧ t.fld F.pwrStatSTEP = q.step ∧
        t.fld F.pwrStatSTATE = 3 ∧ t.pwr.stopped = (List.range (q.step - 1)).drop 1 ∧ kept t ∧
        seq t { q with dir := .unwind, refused := true, agreed := true, doms := [], step := q.step - 1, since := s.now } ∧
        (q.step = 4 → t.fld F.pwrStatREASON = 3) ∧ (q.step = 6 → t.fld F.pwrStatREASON = 4) ∧
        (q.step = 8 → t.fld F.pwrStatREASON = if s.live = none then 8 else 7)) ∧
      (q.dir = .enter → (q.agreed = false ∨ q.doms ≠ [] ∨ ¬ due) → exec .powerStepDelayEnd s = .next s) ∧
      (q.dir = .enter → q.agreed = true → q.doms = [] → due →
        (q.target = .s1 → q.step < 6 → exec .powerStepDelayEnd s =
          .next (askStep (q.step + 1) (if q.step = 5 then rookEval { s with pwr := { s.pwr with domsOff := [0, 1, 2] } } else s))) ∧
        (q.target = .s2 → q.step < 11 → exec .powerStepDelayEnd s = .next (askStep (q.step + 1) s)) ∧
        (q.target = .s1 → q.step = 6 → s.pwr.wakeLatch = none → ∃ t, exec .powerStepDelayEnd s = .next t ∧ t.pwr.st = .s1 ∧ t.pwr.seq = none ∧
          t.fld F.pwrStatSTATE = 1 ∧ t.fld F.pwrStatRESULT = 0 ∧ 6 ∈ t.evt ∧ kept t) ∧
        (q.target = .s2 → q.step = 11 → exec .powerStepDelayEnd s = .next { s with pwr := { s.pwr with seq := some { q with doms := (List.range 11).filter (fun d => !(s.pwr.domsOff.contains d)), domAt := s.now } } })) ∧
      (q.dir = .leave → q.target = .s2 → q.doms = [] → q.agreed = true → due → s.pwr.stopped = (List.range 11).drop 1 → q.lo = 1 → q.refused = false → asIs →
        ∃ t, exec .powerStepDelayEnd s = .next t ∧ t.pwr.stopped = (List.range 10).drop 1 ∧ t.fld F.ptpCtrlGTSTATE = 3 ∧
        t.gtFine = (s.pwr.gtEntry + (s.fld F.pwrAonCntCNT - s.pwr.cntEntry) * s.fld F.pwrAonRatioRATIO / 2 ^ 32) * 1000000000 ∧
        (2 ≤ s.domSt s.active → t.domSt s.active = 4) ∧ kept t) ∧
      ((q.doms = [] ∨ s.now < q.domAt) → exec .domainSwitch s = .next s) ∧
      (∀ d rest, q.doms = d :: rest → q.domAt ≤ s.now → d ≠ 8 →
        let q' : PwrSeq := { q with doms := rest, domAt := s.now + 120000, since := s.now }
        let moved := fun (l : List Nat) => let u : State := { s with pwr := { s.pwr with domsOff := l } }
          if d = 0 then rookEval u else u
        (q.dir = .enter → rest ≠ [] → exec .domainSwitch s =
          (let u := moved (s.pwr.domsOff ++ [d]); .next { u with pwr := { u.pwr with seq := some q' } })) ∧
        (q.dir = .enter → rest = [] → d ≠ 0 → q.target = .s2 → s.pwr.wakeLatch = none → ∃ t, exec .domainSwitch s = .next t ∧ t.pwr.st = .s2 ∧
          t.pwr.seq = none ∧ t.pwr.domsOff = s.pwr.domsOff ++ [d] ∧ t.fld F.pwrStatRESULT = 0 ∧ 6 ∈ t.evt ∧ kept t) ∧
        (q.dir ≠ .enter → exec .domainSwitch s =
          (let u := moved (s.pwr.domsOff.filter (fun e => e != d)); .next { u with pwr := { u.pwr with seq := some q' } }))) ∧
      (∀ b : Fin 8, q.dir = .enter → s.wakeOn q.target b = true → (b.val = 3 → s.fld F.pwrRtcAlarmALARM ≤ s.fld F.pwrAonCntCNT) →
        let last := if q.target = .s1 then 6 else if q.target = .s2 then 11 else 4
        (q.step = last → q.agreed = true → s.pwr.wakeLatch = none → exec (.wakeEvent b) s =
          .next { s with pwr := { s.pwr with wakeLatch := some b.val } }) ∧
        ((q.step ≠ last ∨ q.agreed = false) → exec (.wakeEvent b) s =
          .next (seqRefuse (if q.agreed = true then q.step + 1 else q.step) 0x0B s)))) ∧
    (∀ b : Fin 8, s.pwr.seq = none →
      let heard := (s.pwr.st = .s1 ∧ b.val ≠ 1 ∧ bit (s.fld F.pwrWakeEnS1) b = true) ∨
        (s.pwr.st = .s2 ∧ 1 ≤ b.val ∧ b.val ≤ 6 ∧ bit (s.fld F.pwrWakeEnS2) b = true)
      let rtc := b.val = 3 → s.fld F.pwrRtcAlarmALARM ≤ s.fld F.pwrAonCntCNT
      (¬ (heard ∧ rtc) → exec (.wakeEvent b) s = .next s) ∧
      (heard → rtc → s.pwr.domsOff ≠ [] → ∃ t, exec (.wakeEvent b) s = .next t ∧ bit (t.fld F.pwrStatWAKE) b = true ∧ t.fld F.pwrStatSTATE = 3 ∧
        seq t { target := s.pwr.st, dir := .leave, step := 0, doms := s.pwr.domsOff.reverse, domAt := s.now } ∧
        (s.pwr.st = .s2 → t.flag F.sysRstCauseS2WAKE = true) ∧ kept t))

/-- Power-on and the DRAM controller (R418, R431, R437, R442). SUPPLY_EN rises from OFF, again 500 ms after a failed attempt, and
falls after 50 ms without every supply. The power-on reset clears everything but MRAM, OTP and flash, and of MRAM the first-error
record. A scrub read corrects and reports a word with source 4, or reports an uncorrectable one with source 3; trained DRAM is
READY and counts, else source 5 and FAILED; a channel above nominal refresh rate stands as source 6 until both are nominal. -/
def Obligations.PowerOnAndDram : Prop :=
  ∀ s : State,
    let off := s.pwr.st = .off
    let p := s.pwr
    (¬ off → exec .supplyEnRise s = .next s ∧ exec .supplyRetry s = .next s ∧ exec .powerOnResetEnd s = .next s) ∧
    (off → p.supplyEn = false → (p.supplyOk = true ∨ p.supplySince + 500000000 ≤ s.now) → exec .supplyEnRise s =
      .next { s with pwr := { p with supplyEn := true, supplyOk := false, supplySince := s.now } }) ∧
    (off → (p.supplyEn = true ∨ (p.supplyOk = false ∧ s.now < p.supplySince + 500000000)) → exec .supplyEnRise s = .next s) ∧
    (off → p.supplyEn = true → p.supplySince + 50000000 ≤ s.now → exec .supplyRetry s =
      .next { s with pwr := { p with supplyEn := false, supplySince := s.now } }) ∧
    (off → (p.supplyEn = false ∨ s.now < p.supplySince + 50000000) → exec .supplyRetry s = .next s) ∧
    (off → (p.supplyEn = false ∨ s.now < p.supplySince + 2200000) → exec .powerOnResetEnd s = .next s) ∧
    (off → p.supplyEn = true → p.supplySince + 2200000 ≤ s.now → Memory.wf s.mem → ∃ t, exec .powerOnResetEnd s = .next t ∧
      t.flt = [] ∧ t.evt = [] ∧ t.pwr = {} ∧ t.mel = { cycle := s.mel.cycle.filter (fun e => e.1 == 16) } ∧ t.rst.romWait = true ∧ t.flag F.sysRstCausePOWERON = true ∧
      t.fld F.updCtrlTRIALS = s.upd.recs.trialS % 65536 ∧ t.upd.recs = s.upd.recs ∧ t.pending = s.pending ∧ t.now = s.now ∧
      (∀ a, t.byte a = if isNvm a = true ∧ (a < 0x8010000 ∨ 0x8010030 ≤ a) then s.byte a else 0)) ∧
    (∀ (word : BitVec 32) (err : Fin 3),
      let a := 0x800000000 + 16 * word.toNat
      let k := 0x80000000 + word.toNat
      let go := s.flag F.ddrScrubEN = true ∧ s.inReset .ddr = false ∧ s.fld F.ddrStatSTATE = 2 ∧ s.region a = .dram
      let e : Ev := { addr := a, mstr := 255, typ := 1 }
      (¬ go → exec (.scrubRead word err) s = .next s) ∧
      (go → err = 0 → k ∉ s.ue → k ∉ s.ce → exec (.scrubRead word err) s = .next s) ∧
      (go → err = 1 → k ∉ s.ue → ∃ u, exec (.scrubRead word err) s = .next (raise .ddr 4 e u) ∧ k ∉ u.ce ∧ u.ue = s.ue ∧
        u.fld F.ddrCeAddrADDR = a ∧ u.fld F.ddrEccCE = min (s.fld F.ddrEccCE + 1) (2 ^ F.ddrEccCE.width - 1) ∧ u.mem = s.mem) ∧
      (go → err = 2 → ∃ u, exec (.scrubRead word err) s = .next (raise .ddr 3 e u) ∧ k ∈ u.ue ∧ u.ce = s.ce ∧
        u.fld F.ddrEccUE = min (s.fld F.ddrEccUE + 1) (2 ^ F.ddrEccUE.width - 1) ∧ u.mem = s.mem)) ∧
    (∀ ok, (s.fld F.ddrStatSTATE ≠ 1 ∨ s.inReset .ddr = true ∨ off) → exec (.ddrTrainingEnd ok) s = .next s) ∧
    (s.fld F.ddrStatSTATE = 1 → s.inReset .ddr = false → ¬ off →
      (∃ t, exec (.ddrTrainingEnd true) s = .next t ∧ t.fld F.ddrStatSTATE = 2 ∧
        t.fld F.ddrStatTRAININGS = (s.fld F.ddrStatTRAININGS + 1) % 2 ^ F.ddrStatTRAININGS.width ∧ t.flt = s.flt ∧ t.mem = s.mem) ∧
      exec (.ddrTrainingEnd false) s = .next (raise .ddr 5 {} (setFld F.ddrStatSTATE 4 s))) ∧
    (∀ (ch : Fin 2) (code : BitVec 8) (above : Bool),
      let f := if ch = 0 then F.ddrStatTEMP0 else F.ddrStatTEMP1
      ((s.inReset .ddr = true ∨ off ∨ s.fld F.ddrStatSTATE ≠ 2) → exec (.ddrTherm ch code above) s = .next s) ∧
      (s.inReset .ddr = false → ¬ off → s.fld F.ddrStatSTATE = 2 → ∃ u, u.fld f = code.toNat % 2 ^ f.width ∧
        u.ddrHot.getLsbD ch = above ∧ u.ddrHot.getLsbD (1 - ch) = s.ddrHot.getLsbD (1 - ch) ∧ u.flt = s.flt ∧ u.mem = s.mem ∧
        exec (.ddrTherm ch code above) s = .next (if u.ddrHot = 0 then endCond .ddr 6 u else raiseCond .ddr 6 {} u)))
end

