-- ==== Sys2Proof/Laws/SMap.lean ====
section
/-! SUPPORT. What is known of sparse tables: a read after a write, writes that meet, and the canonical form. -/

namespace Sys2Proof.Machine

variable {α : Type}

@[simp] theorem SMap.find_nil (a : Nat) : SMap.find ([] : SMap α) a = none := rfl

@[simp] theorem SMap.find_put_same (m : SMap α) (a : Nat) (v : α) : SMap.find (SMap.put m a v) a = some v := by
  induction m with
  | nil => simp [SMap.put, SMap.find]
  | cons e t ih =>
    obtain ⟨k, w⟩ := e
    unfold SMap.put
    split
    · simp [SMap.find]
    · split
      · simp [SMap.find]
      · simp_all [SMap.find]

theorem SMap.find_put_other (m : SMap α) {a b : Nat} (v : α) (h : b ≠ a) : SMap.find (SMap.put m a v) b = SMap.find m b := by
  induction m with
  | nil => simp [SMap.put, SMap.find, h]
  | cons e t ih =>
    obtain ⟨k, w⟩ := e
    unfold SMap.put
    split
    · rename_i hk; subst hk; simp [SMap.find, h]
    · split
      · rename_i h1 h2
        simp only [SMap.find, if_neg h]
        by_cases hb : b < a
        · have : b ≠ k := by omega
          have hbk : b < k := by omega
          simp [hb, this, hbk]
        · simp [hb]
      · simp only [SMap.find, ih]

@[simp] theorem SMap.get_put_same (m : SMap α) (a : Nat) (v d : α) : SMap.get (SMap.put m a v) a d = v := by
  simp [SMap.get]

theorem SMap.get_put_other (m : SMap α) {a b : Nat} (v d : α) (h : b ≠ a) :
    SMap.get (SMap.put m a v) b d = SMap.get m b d := by
  simp [SMap.get, SMap.find_put_other m v h]

theorem SMap.get_put (m : SMap α) (a b : Nat) (v d : α) :
    SMap.get (SMap.put m a v) b d = if b = a then v else SMap.get m b d := by
  by_cases h : b = a
  · subst h; simp
  · simp [h, SMap.get_put_other m v d h]

@[simp] theorem SMap.put_put (m : SMap α) (a : Nat) (v w : α) : SMap.put (SMap.put m a v) a w = SMap.put m a w := by
  induction m with
  | nil => simp [SMap.put]
  | cons e t ih =>
    obtain ⟨k, u⟩ := e
    by_cases h1 : a = k
    · simp [SMap.put, h1]
    · by_cases h2 : a < k
      · simp [SMap.put, h1, h2]
      · simp [SMap.put, h1, h2, ih]

/-- The bound of a rising table may be lowered. -/
theorem SMap.rising_weaken {m : SMap α} {b c : Nat} (h : SMap.rising m (some b) = true) (hc : c ≤ b) :
    SMap.rising m (some c) = true := by
  cases m with
  | nil => rfl
  | cons e t =>
    obtain ⟨k, w⟩ := e
    simp only [SMap.rising, Bool.and_eq_true, decide_eq_true_eq] at h ⊢
    exact ⟨by omega, h.2⟩

theorem SMap.rising_none {m : SMap α} {b : Option Nat} (h : SMap.rising m b = true) : SMap.rising m none = true := by
  cases m with
  | nil => rfl
  | cons e t =>
    obtain ⟨k, w⟩ := e
    simp only [SMap.rising, Bool.and_eq_true] at h ⊢
    exact ⟨trivial, h.2⟩

/-- A key is above a bound, where there is one. -/
def above (b : Option Nat) (a : Nat) : Prop := ∀ p, b = some p → p < a

theorem SMap.rising_cons (k : Nat) (w : α) (t : SMap α) (b : Option Nat) :
    SMap.rising ((k, w) :: t) b = true ↔ above b k ∧ SMap.rising t (some k) = true := by
  cases b with
  | none => simp [SMap.rising, above]
  | some p => simp [SMap.rising, above]

theorem SMap.rising_put {m : SMap α} {b : Option Nat} (a : Nat) (v : α) (h : SMap.rising m b = true) (ha : above b a) :
    SMap.rising (SMap.put m a v) b = true := by
  induction m generalizing b with
  | nil => exact (SMap.rising_cons a v [] b).2 ⟨ha, rfl⟩
  | cons e t ih =>
    obtain ⟨k, w⟩ := e
    have hc := (SMap.rising_cons k w t b).1 h
    unfold SMap.put
    split
    · rename_i hk; subst hk; exact (SMap.rising_cons _ v t b).2 ⟨ha, hc.2⟩
    · split
      · rename_i h1 h2
        refine (SMap.rising_cons a v _ b).2 ⟨ha, (SMap.rising_cons k w t (some a)).2 ⟨?_, hc.2⟩⟩
        intro p hp; cases hp; exact h2
      · rename_i h1 h2
        refine (SMap.rising_cons k w _ b).2 ⟨hc.1, ih hc.2 ?_⟩
        intro p hp; cases hp; omega

theorem SMap.rising_erase {m : SMap α} {b : Option Nat} (a : Nat) (h : SMap.rising m b = true) :
    SMap.rising (SMap.erase m a) b = true := by
  induction m generalizing b with
  | nil => rfl
  | cons e t ih =>
    obtain ⟨k, w⟩ := e
    have hc := (SMap.rising_cons k w t b).1 h
    unfold SMap.erase
    split
    · cases b with
      | none => exact SMap.rising_none hc.2
      | some p => exact SMap.rising_weaken hc.2 (Nat.le_of_lt (hc.1 p rfl))
    · split
      · exact h
      · exact (SMap.rising_cons k w _ b).2 ⟨hc.1, ih hc.2⟩

theorem SMap.all_put {m : SMap α} {p : Nat × α → Bool} {a : Nat} {v : α} (h : m.all p = true) (hv : p (a, v) = true) :
    (SMap.put m a v).all p = true := by
  induction m with
  | nil => simp [SMap.put, hv]
  | cons e t ih =>
    obtain ⟨k, w⟩ := e
    simp only [List.all_cons, Bool.and_eq_true] at h
    unfold SMap.put
    split
    · simp [hv, h.2]
    · split
      · simp [hv, h.1, h.2]
      · simp [h.1, ih h.2]

theorem SMap.all_erase {m : SMap α} {p : Nat × α → Bool} {a : Nat} (h : m.all p = true) : (SMap.erase m a).all p = true := by
  induction m with
  | nil => rfl
  | cons e t ih =>
    obtain ⟨k, w⟩ := e
    simp only [List.all_cons, Bool.and_eq_true] at h
    unfold SMap.erase
    split
    · exact h.2
    · split
      · simp [h.1, h.2]
      · simp [h.1, ih h.2]

/-- Storing a value keeps the canonical form: writing what an unlisted key reads removes the entry. -/
theorem SMap.wf_store [DecidableEq α] {m : SMap α} {d : α} (a : Nat) (v : α) (h : SMap.wf m d = true) :
    SMap.wf (SMap.store m a v d) d = true := by
  simp only [SMap.wf, Bool.and_eq_true] at h ⊢
  unfold SMap.store
  split
  · exact ⟨SMap.rising_erase a h.1, SMap.all_erase h.2⟩
  · rename_i hv
    refine ⟨SMap.rising_put a v h.1 (by intro p hp; cases hp), SMap.all_put h.2 (by simp [hv])⟩

/-- A rising list has no key at or below its bound. -/
theorem SMap.find_of_not_above {m : SMap α} {b a : Nat} (h : SMap.rising m (some b) = true) (ha : a ≤ b) :
    SMap.find m a = none := by
  cases m with
  | nil => rfl
  | cons e t =>
    obtain ⟨k, w⟩ := e
    have hc := (SMap.rising_cons k w t (some b)).1 h
    have hk := hc.1 b rfl
    have h1 : a ≠ k := by omega
    have h2 : a < k := by omega
    simp [SMap.find, h1, h2]

theorem SMap.find_erase_same {m : SMap α} {b : Option Nat} (a : Nat) (h : SMap.rising m b = true) :
    SMap.find (SMap.erase m a) a = none := by
  induction m generalizing b with
  | nil => rfl
  | cons e t ih =>
    obtain ⟨k, w⟩ := e
    have hc := (SMap.rising_cons k w t b).1 h
    unfold SMap.erase
    split
    · rename_i hk; subst hk; exact SMap.find_of_not_above hc.2 (Nat.le_refl _)
    · split
      · rename_i h1 h2; simp [SMap.find, h1, h2]
      · rename_i h1 h2; simp [SMap.find, h1, h2, ih hc.2]

theorem SMap.find_erase_other {m : SMap α} {b : Option Nat} {a c : Nat} (h : SMap.rising m b = true) (hc : c ≠ a) :
    SMap.find (SMap.erase m a) c = SMap.find m c := by
  induction m generalizing b with
  | nil => rfl
  | cons e t ih =>
    obtain ⟨k, w⟩ := e
    have hr := (SMap.rising_cons k w t b).1 h
    unfold SMap.erase
    split
    · rename_i hk; subst hk
      by_cases hlt : c < a
      · rw [SMap.find_of_not_above hr.2 (Nat.le_of_lt hlt)]; simp [SMap.find, hc, hlt]
      · simp [SMap.find, hc, hlt]
    · split
      · rfl
      · simp only [SMap.find, ih hr.2]

/-- A read after a write of a table in canonical form: the value written at its key, the old value elsewhere. -/
theorem SMap.get_store [DecidableEq α] {m : SMap α} {d : α} (a c : Nat) (v : α) (h : SMap.wf m d = true) :
    SMap.get (SMap.store m a v d) c d = if c = a then v else SMap.get m c d := by
  simp only [SMap.wf, Bool.and_eq_true] at h
  unfold SMap.store
  by_cases hc : c = a
  · subst hc
    split
    · rename_i hv; simp [SMap.get, SMap.find_erase_same c h.1, hv]
    · simp
  · split
    · simp [SMap.get, SMap.find_erase_other h.1 hc]
    · simp [SMap.get_put_other m v d hc]

end Sys2Proof.Machine
end

