-- ==== Sys2Proof/Laws/State.lean ====
section
/-! SUPPORT. One lemma per field per named update of the state, and what the accessors of register fields, contexts,
channels, queues and memory read after an update. -/

namespace Sys2Proof.Machine

@[simp] theorem setFld_pending (f : Fld) (v : Nat) (s : State) : (setFld f v s).pending = s.pending := rfl
@[simp] theorem setFld_free (f : Fld) (v : Nat) (s : State) : (setFld f v s).free = s.free := rfl
@[simp] theorem setFld_now (f : Fld) (v : Nat) (s : State) : (setFld f v s).now = s.now := rfl
@[simp] theorem setFld_mem (f : Fld) (v : Nat) (s : State) : (setFld f v s).mem = s.mem := rfl
@[simp] theorem setFld_stale (f : Fld) (v : Nat) (s : State) : (setFld f v s).stale = s.stale := rfl
@[simp] theorem setFld_cached (f : Fld) (v : Nat) (s : State) : (setFld f v s).cached = s.cached := rfl
@[simp] theorem setFld_hsLate (f : Fld) (v : Nat) (s : State) : (setFld f v s).hsLate = s.hsLate := rfl
@[simp] theorem setFld_ue (f : Fld) (v : Nat) (s : State) : (setFld f v s).ue = s.ue := rfl
@[simp] theorem setFld_ce (f : Fld) (v : Nat) (s : State) : (setFld f v s).ce = s.ce := rfl
@[simp] theorem setFld_staged (f : Fld) (v : Nat) (s : State) : (setFld f v s).staged = s.staged := rfl
@[simp] theorem setFld_inForce (f : Fld) (v : Nat) (s : State) : (setFld f v s).inForce = s.inForce := rfl
@[simp] theorem setFld_commit (f : Fld) (v : Nat) (s : State) : (setFld f v s).commit = s.commit := rfl
@[simp] theorem setFld_late (f : Fld) (v : Nat) (s : State) : (setFld f v s).late = s.late := rfl
@[simp] theorem setFld_lateLoads (f : Fld) (v : Nat) (s : State) : (setFld f v s).lateLoads = s.lateLoads := rfl
@[simp] theorem setFld_flt (f : Fld) (v : Nat) (s : State) : (setFld f v s).flt = s.flt := rfl
@[simp] theorem setFld_evt (f : Fld) (v : Nat) (s : State) : (setFld f v s).evt = s.evt := rfl
@[simp] theorem setFld_nmi (f : Fld) (v : Nat) (s : State) : (setFld f v s).nmi = s.nmi := rfl
@[simp] theorem setFld_blkReset (f : Fld) (v : Nat) (s : State) : (setFld f v s).blkReset = s.blkReset := rfl
@[simp] theorem setFld_shadow (f : Fld) (v : Nat) (s : State) : (setFld f v s).shadow = s.shadow := rfl
@[simp] theorem setFld_mel (f : Fld) (v : Nat) (s : State) : (setFld f v s).mel = s.mel := rfl
@[simp] theorem setFld_dma (f : Fld) (v : Nat) (s : State) : (setFld f v s).dma = s.dma := rfl
@[simp] theorem setFld_gtFine (f : Fld) (v : Nat) (s : State) : (setFld f v s).gtFine = s.gtFine := rfl
@[simp] theorem setFld_qm (f : Fld) (v : Nat) (s : State) : (setFld f v s).qm = s.qm := rfl
@[simp] theorem setFld_crc (f : Fld) (v : Nat) (s : State) : (setFld f v s).crc = s.crc := rfl
@[simp] theorem setFld_pwr (f : Fld) (v : Nat) (s : State) : (setFld f v s).pwr = s.pwr := rfl
@[simp] theorem setFld_rst (f : Fld) (v : Nat) (s : State) : (setFld f v s).rst = s.rst := rfl
@[simp] theorem setFld_handles (f : Fld) (v : Nat) (s : State) : (setFld f v s).handles = s.handles := rfl
@[simp] theorem setFld_rx (f : Fld) (v : Nat) (s : State) : (setFld f v s).rx = s.rx := rfl
@[simp] theorem setFld_txFrames (f : Fld) (v : Nat) (s : State) : (setFld f v s).txFrames = s.txFrames := rfl
@[simp] theorem setFld_cmp (f : Fld) (v : Nat) (s : State) : (setFld f v s).cmp = s.cmp := rfl
@[simp] theorem setFld_tl (f : Fld) (v : Nat) (s : State) : (setFld f v s).tl = s.tl := rfl
@[simp] theorem setFld_rails (f : Fld) (v : Nat) (s : State) : (setFld f v s).rails = s.rails := rfl
@[simp] theorem setFld_swc (f : Fld) (v : Nat) (s : State) : (setFld f v s).swc = s.swc := rfl
@[simp] theorem setFld_cor (f : Fld) (v : Nat) (s : State) : (setFld f v s).cor = s.cor := rfl
@[simp] theorem setFld_thm (f : Fld) (v : Nat) (s : State) : (setFld f v s).thm = s.thm := rfl
@[simp] theorem setFld_fan (f : Fld) (v : Nat) (s : State) : (setFld f v s).fan = s.fan := rfl
@[simp] theorem setFld_rook (f : Fld) (v : Nat) (s : State) : (setFld f v s).rook = s.rook := rfl
@[simp] theorem setFld_te (f : Fld) (v : Nat) (s : State) : (setFld f v s).te = s.te := rfl
@[simp] theorem setFld_scan (f : Fld) (v : Nat) (s : State) : (setFld f v s).scan = s.scan := rfl
@[simp] theorem setFld_ports (f : Fld) (v : Nat) (s : State) : (setFld f v s).ports = s.ports := rfl
@[simp] theorem setFld_ril (f : Fld) (v : Nat) (s : State) : (setFld f v s).ril = s.ril := rfl
@[simp] theorem setFld_diag (f : Fld) (v : Nat) (s : State) : (setFld f v s).diag = s.diag := rfl
@[simp] theorem setFld_chn (f : Fld) (v : Nat) (s : State) : (setFld f v s).chn = s.chn := rfl
@[simp] theorem setFld_ptp (f : Fld) (v : Nat) (s : State) : (setFld f v s).ptp = s.ptp := rfl
@[simp] theorem setFld_satArm (f : Fld) (v : Nat) (s : State) : (setFld f v s).satArm = s.satArm := rfl
@[simp] theorem setFld_dmx (f : Fld) (v : Nat) (s : State) : (setFld f v s).dmx = s.dmx := rfl
@[simp] theorem setFld_can (f : Fld) (v : Nat) (s : State) : (setFld f v s).can = s.can := rfl
@[simp] theorem setFld_out (f : Fld) (v : Nat) (s : State) : (setFld f v s).out = s.out := rfl
@[simp] theorem setFld_upd (f : Fld) (v : Nat) (s : State) : (setFld f v s).upd = s.upd := rfl
@[simp] theorem setFld_ddrHot (f : Fld) (v : Nat) (s : State) : (setFld f v s).ddrHot = s.ddrHot := rfl

@[simp] theorem setStg_pending (f : Fld) (v : Nat) (s : State) : (setStg f v s).pending = s.pending := rfl
@[simp] theorem setStg_free (f : Fld) (v : Nat) (s : State) : (setStg f v s).free = s.free := rfl
@[simp] theorem setStg_now (f : Fld) (v : Nat) (s : State) : (setStg f v s).now = s.now := rfl
@[simp] theorem setStg_mem (f : Fld) (v : Nat) (s : State) : (setStg f v s).mem = s.mem := rfl
@[simp] theorem setStg_stale (f : Fld) (v : Nat) (s : State) : (setStg f v s).stale = s.stale := rfl
@[simp] theorem setStg_cached (f : Fld) (v : Nat) (s : State) : (setStg f v s).cached = s.cached := rfl
@[simp] theorem setStg_hsLate (f : Fld) (v : Nat) (s : State) : (setStg f v s).hsLate = s.hsLate := rfl
@[simp] theorem setStg_ue (f : Fld) (v : Nat) (s : State) : (setStg f v s).ue = s.ue := rfl
@[simp] theorem setStg_ce (f : Fld) (v : Nat) (s : State) : (setStg f v s).ce = s.ce := rfl
@[simp] theorem setStg_regs (f : Fld) (v : Nat) (s : State) : (setStg f v s).regs = s.regs := rfl
@[simp] theorem setStg_inForce (f : Fld) (v : Nat) (s : State) : (setStg f v s).inForce = s.inForce := rfl
@[simp] theorem setStg_commit (f : Fld) (v : Nat) (s : State) : (setStg f v s).commit = s.commit := rfl
@[simp] theorem setStg_late (f : Fld) (v : Nat) (s : State) : (setStg f v s).late = s.late := rfl
@[simp] theorem setStg_lateLoads (f : Fld) (v : Nat) (s : State) : (setStg f v s).lateLoads = s.lateLoads := rfl
@[simp] theorem setStg_flt (f : Fld) (v : Nat) (s : State) : (setStg f v s).flt = s.flt := rfl
@[simp] theorem setStg_evt (f : Fld) (v : Nat) (s : State) : (setStg f v s).evt = s.evt := rfl
@[simp] theorem setStg_nmi (f : Fld) (v : Nat) (s : State) : (setStg f v s).nmi = s.nmi := rfl
@[simp] theorem setStg_blkReset (f : Fld) (v : Nat) (s : State) : (setStg f v s).blkReset = s.blkReset := rfl
@[simp] theorem setStg_shadow (f : Fld) (v : Nat) (s : State) : (setStg f v s).shadow = s.shadow := rfl
@[simp] theorem setStg_mel (f : Fld) (v : Nat) (s : State) : (setStg f v s).mel = s.mel := rfl
@[simp] theorem setStg_dma (f : Fld) (v : Nat) (s : State) : (setStg f v s).dma = s.dma := rfl
@[simp] theorem setStg_gtFine (f : Fld) (v : Nat) (s : State) : (setStg f v s).gtFine = s.gtFine := rfl
@[simp] theorem setStg_qm (f : Fld) (v : Nat) (s : State) : (setStg f v s).qm = s.qm := rfl
@[simp] theorem setStg_crc (f : Fld) (v : Nat) (s : State) : (setStg f v s).crc = s.crc := rfl
@[simp] theorem setStg_pwr (f : Fld) (v : Nat) (s : State) : (setStg f v s).pwr = s.pwr := rfl
@[simp] theorem setStg_rst (f : Fld) (v : Nat) (s : State) : (setStg f v s).rst = s.rst := rfl
@[simp] theorem setStg_handles (f : Fld) (v : Nat) (s : State) : (setStg f v s).handles = s.handles := rfl
@[simp] theorem setStg_rx (f : Fld) (v : Nat) (s : State) : (setStg f v s).rx = s.rx := rfl
@[simp] theorem setStg_txFrames (f : Fld) (v : Nat) (s : State) : (setStg f v s).txFrames = s.txFrames := rfl
@[simp] theorem setStg_cmp (f : Fld) (v : Nat) (s : State) : (setStg f v s).cmp = s.cmp := rfl
@[simp] theorem setStg_tl (f : Fld) (v : Nat) (s : State) : (setStg f v s).tl = s.tl := rfl
@[simp] theorem setStg_rails (f : Fld) (v : Nat) (s : State) : (setStg f v s).rails = s.rails := rfl
@[simp] theorem setStg_swc (f : Fld) (v : Nat) (s : State) : (setStg f v s).swc = s.swc := rfl
@[simp] theorem setStg_cor (f : Fld) (v : Nat) (s : State) : (setStg f v s).cor = s.cor := rfl
@[simp] theorem setStg_thm (f : Fld) (v : Nat) (s : State) : (setStg f v s).thm = s.thm := rfl
@[simp] theorem setStg_fan (f : Fld) (v : Nat) (s : State) : (setStg f v s).fan = s.fan := rfl
@[simp] theorem setStg_rook (f : Fld) (v : Nat) (s : State) : (setStg f v s).rook = s.rook := rfl
@[simp] theorem setStg_te (f : Fld) (v : Nat) (s : State) : (setStg f v s).te = s.te := rfl
@[simp] theorem setStg_scan (f : Fld) (v : Nat) (s : State) : (setStg f v s).scan = s.scan := rfl
@[simp] theorem setStg_ports (f : Fld) (v : Nat) (s : State) : (setStg f v s).ports = s.ports := rfl
@[simp] theorem setStg_ril (f : Fld) (v : Nat) (s : State) : (setStg f v s).ril = s.ril := rfl
@[simp] theorem setStg_diag (f : Fld) (v : Nat) (s : State) : (setStg f v s).diag = s.diag := rfl
@[simp] theorem setStg_chn (f : Fld) (v : Nat) (s : State) : (setStg f v s).chn = s.chn := rfl
@[simp] theorem setStg_ptp (f : Fld) (v : Nat) (s : State) : (setStg f v s).ptp = s.ptp := rfl
@[simp] theorem setStg_satArm (f : Fld) (v : Nat) (s : State) : (setStg f v s).satArm = s.satArm := rfl
@[simp] theorem setStg_dmx (f : Fld) (v : Nat) (s : State) : (setStg f v s).dmx = s.dmx := rfl
@[simp] theorem setStg_can (f : Fld) (v : Nat) (s : State) : (setStg f v s).can = s.can := rfl
@[simp] theorem setStg_out (f : Fld) (v : Nat) (s : State) : (setStg f v s).out = s.out := rfl
@[simp] theorem setStg_upd (f : Fld) (v : Nat) (s : State) : (setStg f v s).upd = s.upd := rfl
@[simp] theorem setStg_ddrHot (f : Fld) (v : Nat) (s : State) : (setStg f v s).ddrHot = s.ddrHot := rfl

@[simp] theorem setInF_pending (f : Fld) (v : Nat) (s : State) : (setInF f v s).pending = s.pending := rfl
@[simp] theorem setInF_free (f : Fld) (v : Nat) (s : State) : (setInF f v s).free = s.free := rfl
@[simp] theorem setInF_now (f : Fld) (v : Nat) (s : State) : (setInF f v s).now = s.now := rfl
@[simp] theorem setInF_mem (f : Fld) (v : Nat) (s : State) : (setInF f v s).mem = s.mem := rfl
@[simp] theorem setInF_stale (f : Fld) (v : Nat) (s : State) : (setInF f v s).stale = s.stale := rfl
@[simp] theorem setInF_cached (f : Fld) (v : Nat) (s : State) : (setInF f v s).cached = s.cached := rfl
@[simp] theorem setInF_hsLate (f : Fld) (v : Nat) (s : State) : (setInF f v s).hsLate = s.hsLate := rfl
@[simp] theorem setInF_ue (f : Fld) (v : Nat) (s : State) : (setInF f v s).ue = s.ue := rfl
@[simp] theorem setInF_ce (f : Fld) (v : Nat) (s : State) : (setInF f v s).ce = s.ce := rfl
@[simp] theorem setInF_regs (f : Fld) (v : Nat) (s : State) : (setInF f v s).regs = s.regs := rfl
@[simp] theorem setInF_staged (f : Fld) (v : Nat) (s : State) : (setInF f v s).staged = s.staged := rfl
@[simp] theorem setInF_commit (f : Fld) (v : Nat) (s : State) : (setInF f v s).commit = s.commit := rfl
@[simp] theorem setInF_late (f : Fld) (v : Nat) (s : State) : (setInF f v s).late = s.late := rfl
@[simp] theorem setInF_lateLoads (f : Fld) (v : Nat) (s : State) : (setInF f v s).lateLoads = s.lateLoads := rfl
@[simp] theorem setInF_flt (f : Fld) (v : Nat) (s : State) : (setInF f v s).flt = s.flt := rfl
@[simp] theorem setInF_evt (f : Fld) (v : Nat) (s : State) : (setInF f v s).evt = s.evt := rfl
@[simp] theorem setInF_nmi (f : Fld) (v : Nat) (s : State) : (setInF f v s).nmi = s.nmi := rfl
@[simp] theorem setInF_blkReset (f : Fld) (v : Nat) (s : State) : (setInF f v s).blkReset = s.blkReset := rfl
@[simp] theorem setInF_shadow (f : Fld) (v : Nat) (s : State) : (setInF f v s).shadow = s.shadow := rfl
@[simp] theorem setInF_mel (f : Fld) (v : Nat) (s : State) : (setInF f v s).mel = s.mel := rfl
@[simp] theorem setInF_dma (f : Fld) (v : Nat) (s : State) : (setInF f v s).dma = s.dma := rfl
@[simp] theorem setInF_gtFine (f : Fld) (v : Nat) (s : State) : (setInF f v s).gtFine = s.gtFine := rfl
@[simp] theorem setInF_qm (f : Fld) (v : Nat) (s : State) : (setInF f v s).qm = s.qm := rfl
@[simp] theorem setInF_crc (f : Fld) (v : Nat) (s : State) : (setInF f v s).crc = s.crc := rfl
@[simp] theorem setInF_pwr (f : Fld) (v : Nat) (s : State) : (setInF f v s).pwr = s.pwr := rfl
@[simp] theorem setInF_rst (f : Fld) (v : Nat) (s : State) : (setInF f v s).rst = s.rst := rfl
@[simp] theorem setInF_handles (f : Fld) (v : Nat) (s : State) : (setInF f v s).handles = s.handles := rfl
@[simp] theorem setInF_rx (f : Fld) (v : Nat) (s : State) : (setInF f v s).rx = s.rx := rfl
@[simp] theorem setInF_txFrames (f : Fld) (v : Nat) (s : State) : (setInF f v s).txFrames = s.txFrames := rfl
@[simp] theorem setInF_cmp (f : Fld) (v : Nat) (s : State) : (setInF f v s).cmp = s.cmp := rfl
@[simp] theorem setInF_tl (f : Fld) (v : Nat) (s : State) : (setInF f v s).tl = s.tl := rfl
@[simp] theorem setInF_rails (f : Fld) (v : Nat) (s : State) : (setInF f v s).rails = s.rails := rfl
@[simp] theorem setInF_swc (f : Fld) (v : Nat) (s : State) : (setInF f v s).swc = s.swc := rfl
@[simp] theorem setInF_cor (f : Fld) (v : Nat) (s : State) : (setInF f v s).cor = s.cor := rfl
@[simp] theorem setInF_thm (f : Fld) (v : Nat) (s : State) : (setInF f v s).thm = s.thm := rfl
@[simp] theorem setInF_fan (f : Fld) (v : Nat) (s : State) : (setInF f v s).fan = s.fan := rfl
@[simp] theorem setInF_rook (f : Fld) (v : Nat) (s : State) : (setInF f v s).rook = s.rook := rfl
@[simp] theorem setInF_te (f : Fld) (v : Nat) (s : State) : (setInF f v s).te = s.te := rfl
@[simp] theorem setInF_scan (f : Fld) (v : Nat) (s : State) : (setInF f v s).scan = s.scan := rfl
@[simp] theorem setInF_ports (f : Fld) (v : Nat) (s : State) : (setInF f v s).ports = s.ports := rfl
@[simp] theorem setInF_ril (f : Fld) (v : Nat) (s : State) : (setInF f v s).ril = s.ril := rfl
@[simp] theorem setInF_diag (f : Fld) (v : Nat) (s : State) : (setInF f v s).diag = s.diag := rfl
@[simp] theorem setInF_chn (f : Fld) (v : Nat) (s : State) : (setInF f v s).chn = s.chn := rfl
@[simp] theorem setInF_ptp (f : Fld) (v : Nat) (s : State) : (setInF f v s).ptp = s.ptp := rfl
@[simp] theorem setInF_satArm (f : Fld) (v : Nat) (s : State) : (setInF f v s).satArm = s.satArm := rfl
@[simp] theorem setInF_dmx (f : Fld) (v : Nat) (s : State) : (setInF f v s).dmx = s.dmx := rfl
@[simp] theorem setInF_can (f : Fld) (v : Nat) (s : State) : (setInF f v s).can = s.can := rfl
@[simp] theorem setInF_out (f : Fld) (v : Nat) (s : State) : (setInF f v s).out = s.out := rfl
@[simp] theorem setInF_upd (f : Fld) (v : Nat) (s : State) : (setInF f v s).upd = s.upd := rfl
@[simp] theorem setInF_ddrHot (f : Fld) (v : Nat) (s : State) : (setInF f v s).ddrHot = s.ddrHot := rfl

@[simp] theorem drawn_pending (s : State) : (drawn s).pending = s.pending := rfl
@[simp] theorem drawn_now (s : State) : (drawn s).now = s.now := rfl
@[simp] theorem drawn_mem (s : State) : (drawn s).mem = s.mem := rfl
@[simp] theorem drawn_stale (s : State) : (drawn s).stale = s.stale := rfl
@[simp] theorem drawn_cached (s : State) : (drawn s).cached = s.cached := rfl
@[simp] theorem drawn_hsLate (s : State) : (drawn s).hsLate = s.hsLate := rfl
@[simp] theorem drawn_ue (s : State) : (drawn s).ue = s.ue := rfl
@[simp] theorem drawn_ce (s : State) : (drawn s).ce = s.ce := rfl
@[simp] theorem drawn_regs (s : State) : (drawn s).regs = s.regs := rfl
@[simp] theorem drawn_staged (s : State) : (drawn s).staged = s.staged := rfl
@[simp] theorem drawn_inForce (s : State) : (drawn s).inForce = s.inForce := rfl
@[simp] theorem drawn_commit (s : State) : (drawn s).commit = s.commit := rfl
@[simp] theorem drawn_late (s : State) : (drawn s).late = s.late := rfl
@[simp] theorem drawn_lateLoads (s : State) : (drawn s).lateLoads = s.lateLoads := rfl
@[simp] theorem drawn_flt (s : State) : (drawn s).flt = s.flt := rfl
@[simp] theorem drawn_evt (s : State) : (drawn s).evt = s.evt := rfl
@[simp] theorem drawn_nmi (s : State) : (drawn s).nmi = s.nmi := rfl
@[simp] theorem drawn_blkReset (s : State) : (drawn s).blkReset = s.blkReset := rfl
@[simp] theorem drawn_shadow (s : State) : (drawn s).shadow = s.shadow := rfl
@[simp] theorem drawn_mel (s : State) : (drawn s).mel = s.mel := rfl
@[simp] theorem drawn_dma (s : State) : (drawn s).dma = s.dma := rfl
@[simp] theorem drawn_gtFine (s : State) : (drawn s).gtFine = s.gtFine := rfl
@[simp] theorem drawn_qm (s : State) : (drawn s).qm = s.qm := rfl
@[simp] theorem drawn_crc (s : State) : (drawn s).crc = s.crc := rfl
@[simp] theorem drawn_pwr (s : State) : (drawn s).pwr = s.pwr := rfl
@[simp] theorem drawn_rst (s : State) : (drawn s).rst = s.rst := rfl
@[simp] theorem drawn_handles (s : State) : (drawn s).handles = s.handles := rfl
@[simp] theorem drawn_rx (s : State) : (drawn s).rx = s.rx := rfl
@[simp] theorem drawn_txFrames (s : State) : (drawn s).txFrames = s.txFrames := rfl
@[simp] theorem drawn_cmp (s : State) : (drawn s).cmp = s.cmp := rfl
@[simp] theorem drawn_tl (s : State) : (drawn s).tl = s.tl := rfl
@[simp] theorem drawn_rails (s : State) : (drawn s).rails = s.rails := rfl
@[simp] theorem drawn_swc (s : State) : (drawn s).swc = s.swc := rfl
@[simp] theorem drawn_cor (s : State) : (drawn s).cor = s.cor := rfl
@[simp] theorem drawn_thm (s : State) : (drawn s).thm = s.thm := rfl
@[simp] theorem drawn_fan (s : State) : (drawn s).fan = s.fan := rfl
@[simp] theorem drawn_rook (s : State) : (drawn s).rook = s.rook := rfl
@[simp] theorem drawn_te (s : State) : (drawn s).te = s.te := rfl
@[simp] theorem drawn_scan (s : State) : (drawn s).scan = s.scan := rfl
@[simp] theorem drawn_ports (s : State) : (drawn s).ports = s.ports := rfl
@[simp] theorem drawn_ril (s : State) : (drawn s).ril = s.ril := rfl
@[simp] theorem drawn_diag (s : State) : (drawn s).diag = s.diag := rfl
@[simp] theorem drawn_chn (s : State) : (drawn s).chn = s.chn := rfl
@[simp] theorem drawn_ptp (s : State) : (drawn s).ptp = s.ptp := rfl
@[simp] theorem drawn_satArm (s : State) : (drawn s).satArm = s.satArm := rfl
@[simp] theorem drawn_dmx (s : State) : (drawn s).dmx = s.dmx := rfl
@[simp] theorem drawn_can (s : State) : (drawn s).can = s.can := rfl
@[simp] theorem drawn_out (s : State) : (drawn s).out = s.out := rfl
@[simp] theorem drawn_upd (s : State) : (drawn s).upd = s.upd := rfl
@[simp] theorem drawn_ddrHot (s : State) : (drawn s).ddrHot = s.ddrHot := rfl

@[simp] theorem intr_pending (id : Nat) (s : State) : (intr id s).pending = s.pending := rfl
@[simp] theorem intr_free (id : Nat) (s : State) : (intr id s).free = s.free := rfl
@[simp] theorem intr_now (id : Nat) (s : State) : (intr id s).now = s.now := rfl
@[simp] theorem intr_mem (id : Nat) (s : State) : (intr id s).mem = s.mem := rfl
@[simp] theorem intr_stale (id : Nat) (s : State) : (intr id s).stale = s.stale := rfl
@[simp] theorem intr_cached (id : Nat) (s : State) : (intr id s).cached = s.cached := rfl
@[simp] theorem intr_hsLate (id : Nat) (s : State) : (intr id s).hsLate = s.hsLate := rfl
@[simp] theorem intr_ue (id : Nat) (s : State) : (intr id s).ue = s.ue := rfl
@[simp] theorem intr_ce (id : Nat) (s : State) : (intr id s).ce = s.ce := rfl
@[simp] theorem intr_regs (id : Nat) (s : State) : (intr id s).regs = s.regs := rfl
@[simp] theorem intr_staged (id : Nat) (s : State) : (intr id s).staged = s.staged := rfl
@[simp] theorem intr_inForce (id : Nat) (s : State) : (intr id s).inForce = s.inForce := rfl
@[simp] theorem intr_commit (id : Nat) (s : State) : (intr id s).commit = s.commit := rfl
@[simp] theorem intr_late (id : Nat) (s : State) : (intr id s).late = s.late := rfl
@[simp] theorem intr_lateLoads (id : Nat) (s : State) : (intr id s).lateLoads = s.lateLoads := rfl
@[simp] theorem intr_flt (id : Nat) (s : State) : (intr id s).flt = s.flt := rfl
@[simp] theorem intr_nmi (id : Nat) (s : State) : (intr id s).nmi = s.nmi := rfl
@[simp] theorem intr_blkReset (id : Nat) (s : State) : (intr id s).blkReset = s.blkReset := rfl
@[simp] theorem intr_shadow (id : Nat) (s : State) : (intr id s).shadow = s.shadow := rfl
@[simp] theorem intr_mel (id : Nat) (s : State) : (intr id s).mel = s.mel := rfl
@[simp] theorem intr_dma (id : Nat) (s : State) : (intr id s).dma = s.dma := rfl
@[simp] theorem intr_gtFine (id : Nat) (s : State) : (intr id s).gtFine = s.gtFine := rfl
@[simp] theorem intr_qm (id : Nat) (s : State) : (intr id s).qm = s.qm := rfl
@[simp] theorem intr_crc (id : Nat) (s : State) : (intr id s).crc = s.crc := rfl
@[simp] theorem intr_pwr (id : Nat) (s : State) : (intr id s).pwr = s.pwr := rfl
@[simp] theorem intr_rst (id : Nat) (s : State) : (intr id s).rst = s.rst := rfl
@[simp] theorem intr_handles (id : Nat) (s : State) : (intr id s).handles = s.handles := rfl
@[simp] theorem intr_rx (id : Nat) (s : State) : (intr id s).rx = s.rx := rfl
@[simp] theorem intr_txFrames (id : Nat) (s : State) : (intr id s).txFrames = s.txFrames := rfl
@[simp] theorem intr_cmp (id : Nat) (s : State) : (intr id s).cmp = s.cmp := rfl
@[simp] theorem intr_tl (id : Nat) (s : State) : (intr id s).tl = s.tl := rfl
@[simp] theorem intr_rails (id : Nat) (s : State) : (intr id s).rails = s.rails := rfl
@[simp] theorem intr_swc (id : Nat) (s : State) : (intr id s).swc = s.swc := rfl
@[simp] theorem intr_cor (id : Nat) (s : State) : (intr id s).cor = s.cor := rfl
@[simp] theorem intr_thm (id : Nat) (s : State) : (intr id s).thm = s.thm := rfl
@[simp] theorem intr_fan (id : Nat) (s : State) : (intr id s).fan = s.fan := rfl
@[simp] theorem intr_rook (id : Nat) (s : State) : (intr id s).rook = s.rook := rfl
@[simp] theorem intr_te (id : Nat) (s : State) : (intr id s).te = s.te := rfl
@[simp] theorem intr_scan (id : Nat) (s : State) : (intr id s).scan = s.scan := rfl
@[simp] theorem intr_ports (id : Nat) (s : State) : (intr id s).ports = s.ports := rfl
@[simp] theorem intr_ril (id : Nat) (s : State) : (intr id s).ril = s.ril := rfl
@[simp] theorem intr_diag (id : Nat) (s : State) : (intr id s).diag = s.diag := rfl
@[simp] theorem intr_chn (id : Nat) (s : State) : (intr id s).chn = s.chn := rfl
@[simp] theorem intr_ptp (id : Nat) (s : State) : (intr id s).ptp = s.ptp := rfl
@[simp] theorem intr_satArm (id : Nat) (s : State) : (intr id s).satArm = s.satArm := rfl
@[simp] theorem intr_dmx (id : Nat) (s : State) : (intr id s).dmx = s.dmx := rfl
@[simp] theorem intr_can (id : Nat) (s : State) : (intr id s).can = s.can := rfl
@[simp] theorem intr_out (id : Nat) (s : State) : (intr id s).out = s.out := rfl
@[simp] theorem intr_upd (id : Nat) (s : State) : (intr id s).upd = s.upd := rfl
@[simp] theorem intr_ddrHot (id : Nat) (s : State) : (intr id s).ddrHot = s.ddrHot := rfl

@[simp] theorem setHart_pending (h : Hart) (v : HartState) (s : State) : (setHart h v s).pending = s.pending := rfl
@[simp] theorem setHart_free (h : Hart) (v : HartState) (s : State) : (setHart h v s).free = s.free := rfl
@[simp] theorem setHart_now (h : Hart) (v : HartState) (s : State) : (setHart h v s).now = s.now := rfl
@[simp] theorem setHart_mem (h : Hart) (v : HartState) (s : State) : (setHart h v s).mem = s.mem := rfl
@[simp] theorem setHart_stale (h : Hart) (v : HartState) (s : State) : (setHart h v s).stale = s.stale := rfl
@[simp] theorem setHart_cached (h : Hart) (v : HartState) (s : State) : (setHart h v s).cached = s.cached := rfl
@[simp] theorem setHart_hsLate (h : Hart) (v : HartState) (s : State) : (setHart h v s).hsLate = s.hsLate := rfl
@[simp] theorem setHart_ue (h : Hart) (v : HartState) (s : State) : (setHart h v s).ue = s.ue := rfl
@[simp] theorem setHart_ce (h : Hart) (v : HartState) (s : State) : (setHart h v s).ce = s.ce := rfl
@[simp] theorem setHart_regs (h : Hart) (v : HartState) (s : State) : (setHart h v s).regs = s.regs := rfl
@[simp] theorem setHart_staged (h : Hart) (v : HartState) (s : State) : (setHart h v s).staged = s.staged := rfl
@[simp] theorem setHart_inForce (h : Hart) (v : HartState) (s : State) : (setHart h v s).inForce = s.inForce := rfl
@[simp] theorem setHart_commit (h : Hart) (v : HartState) (s : State) : (setHart h v s).commit = s.commit := rfl
@[simp] theorem setHart_late (h : Hart) (v : HartState) (s : State) : (setHart h v s).late = s.late := rfl
@[simp] theorem setHart_lateLoads (h : Hart) (v : HartState) (s : State) : (setHart h v s).lateLoads = s.lateLoads := rfl
@[simp] theorem setHart_flt (h : Hart) (v : HartState) (s : State) : (setHart h v s).flt = s.flt := rfl
@[simp] theorem setHart_evt (h : Hart) (v : HartState) (s : State) : (setHart h v s).evt = s.evt := rfl
@[simp] theorem setHart_nmi (h : Hart) (v : HartState) (s : State) : (setHart h v s).nmi = s.nmi := rfl
@[simp] theorem setHart_blkReset (h : Hart) (v : HartState) (s : State) : (setHart h v s).blkReset = s.blkReset := rfl
@[simp] theorem setHart_shadow (h : Hart) (v : HartState) (s : State) : (setHart h v s).shadow = s.shadow := rfl
@[simp] theorem setHart_dma (h : Hart) (v : HartState) (s : State) : (setHart h v s).dma = s.dma := rfl
@[simp] theorem setHart_gtFine (h : Hart) (v : HartState) (s : State) : (setHart h v s).gtFine = s.gtFine := rfl
@[simp] theorem setHart_qm (h : Hart) (v : HartState) (s : State) : (setHart h v s).qm = s.qm := rfl
@[simp] theorem setHart_crc (h : Hart) (v : HartState) (s : State) : (setHart h v s).crc = s.crc := rfl
@[simp] theorem setHart_pwr (h : Hart) (v : HartState) (s : State) : (setHart h v s).pwr = s.pwr := rfl
@[simp] theorem setHart_rst (h : Hart) (v : HartState) (s : State) : (setHart h v s).rst = s.rst := rfl
@[simp] theorem setHart_handles (h : Hart) (v : HartState) (s : State) : (setHart h v s).handles = s.handles := rfl
@[simp] theorem setHart_rx (h : Hart) (v : HartState) (s : State) : (setHart h v s).rx = s.rx := rfl
@[simp] theorem setHart_txFrames (h : Hart) (v : HartState) (s : State) : (setHart h v s).txFrames = s.txFrames := rfl
@[simp] theorem setHart_cmp (h : Hart) (v : HartState) (s : State) : (setHart h v s).cmp = s.cmp := rfl
@[simp] theorem setHart_tl (h : Hart) (v : HartState) (s : State) : (setHart h v s).tl = s.tl := rfl
@[simp] theorem setHart_rails (h : Hart) (v : HartState) (s : State) : (setHart h v s).rails = s.rails := rfl
@[simp] theorem setHart_swc (h : Hart) (v : HartState) (s : State) : (setHart h v s).swc = s.swc := rfl
@[simp] theorem setHart_cor (h : Hart) (v : HartState) (s : State) : (setHart h v s).cor = s.cor := rfl
@[simp] theorem setHart_thm (h : Hart) (v : HartState) (s : State) : (setHart h v s).thm = s.thm := rfl
@[simp] theorem setHart_fan (h : Hart) (v : HartState) (s : State) : (setHart h v s).fan = s.fan := rfl
@[simp] theorem setHart_te (h : Hart) (v : HartState) (s : State) : (setHart h v s).te = s.te := rfl
@[simp] theorem setHart_scan (h : Hart) (v : HartState) (s : State) : (setHart h v s).scan = s.scan := rfl
@[simp] theorem setHart_ports (h : Hart) (v : HartState) (s : State) : (setHart h v s).ports = s.ports := rfl
@[simp] theorem setHart_ril (h : Hart) (v : HartState) (s : State) : (setHart h v s).ril = s.ril := rfl
@[simp] theorem setHart_diag (h : Hart) (v : HartState) (s : State) : (setHart h v s).diag = s.diag := rfl
@[simp] theorem setHart_chn (h : Hart) (v : HartState) (s : State) : (setHart h v s).chn = s.chn := rfl
@[simp] theorem setHart_ptp (h : Hart) (v : HartState) (s : State) : (setHart h v s).ptp = s.ptp := rfl
@[simp] theorem setHart_satArm (h : Hart) (v : HartState) (s : State) : (setHart h v s).satArm = s.satArm := rfl
@[simp] theorem setHart_dmx (h : Hart) (v : HartState) (s : State) : (setHart h v s).dmx = s.dmx := rfl
@[simp] theorem setHart_can (h : Hart) (v : HartState) (s : State) : (setHart h v s).can = s.can := rfl
@[simp] theorem setHart_out (h : Hart) (v : HartState) (s : State) : (setHart h v s).out = s.out := rfl
@[simp] theorem setHart_upd (h : Hart) (v : HartState) (s : State) : (setHart h v s).upd = s.upd := rfl
@[simp] theorem setHart_ddrHot (h : Hart) (v : HartState) (s : State) : (setHart h v s).ddrHot = s.ddrHot := rfl

@[simp] theorem setChan_pending (n : Nat) (c : DmaChan) (s : State) : (setChan n c s).pending = s.pending := rfl
@[simp] theorem setChan_free (n : Nat) (c : DmaChan) (s : State) : (setChan n c s).free = s.free := rfl
@[simp] theorem setChan_now (n : Nat) (c : DmaChan) (s : State) : (setChan n c s).now = s.now := rfl
@[simp] theorem setChan_mem (n : Nat) (c : DmaChan) (s : State) : (setChan n c s).mem = s.mem := rfl
@[simp] theorem setChan_stale (n : Nat) (c : DmaChan) (s : State) : (setChan n c s).stale = s.stale := rfl
@[simp] theorem setChan_cached (n : Nat) (c : DmaChan) (s : State) : (setChan n c s).cached = s.cached := rfl
@[simp] theorem setChan_hsLate (n : Nat) (c : DmaChan) (s : State) : (setChan n c s).hsLate = s.hsLate := rfl
@[simp] theorem setChan_ue (n : Nat) (c : DmaChan) (s : State) : (setChan n c s).ue = s.ue := rfl
@[simp] theorem setChan_ce (n : Nat) (c : DmaChan) (s : State) : (setChan n c s).ce = s.ce := rfl
@[simp] theorem setChan_regs (n : Nat) (c : DmaChan) (s : State) : (setChan n c s).regs = s.regs := rfl
@[simp] theorem setChan_staged (n : Nat) (c : DmaChan) (s : State) : (setChan n c s).staged = s.staged := rfl
@[simp] theorem setChan_inForce (n : Nat) (c : DmaChan) (s : State) : (setChan n c s).inForce = s.inForce := rfl
@[simp] theorem setChan_commit (n : Nat) (c : DmaChan) (s : State) : (setChan n c s).commit = s.commit := rfl
@[simp] theorem setChan_late (n : Nat) (c : DmaChan) (s : State) : (setChan n c s).late = s.late := rfl
@[simp] theorem setChan_lateLoads (n : Nat) (c : DmaChan) (s : State) : (setChan n c s).lateLoads = s.lateLoads := rfl
@[simp] theorem setChan_flt (n : Nat) (c : DmaChan) (s : State) : (setChan n c s).flt = s.flt := rfl
@[simp] theorem setChan_evt (n : Nat) (c : DmaChan) (s : State) : (setChan n c s).evt = s.evt := rfl
@[simp] theorem setChan_nmi (n : Nat) (c : DmaChan) (s : State) : (setChan n c s).nmi = s.nmi := rfl
@[simp] theorem setChan_blkReset (n : Nat) (c : DmaChan) (s : State) : (setChan n c s).blkReset = s.blkReset := rfl
@[simp] theorem setChan_shadow (n : Nat) (c : DmaChan) (s : State) : (setChan n c s).shadow = s.shadow := rfl
@[simp] theorem setChan_mel (n : Nat) (c : DmaChan) (s : State) : (setChan n c s).mel = s.mel := rfl
@[simp] theorem setChan_gtFine (n : Nat) (c : DmaChan) (s : State) : (setChan n c s).gtFine = s.gtFine := rfl
@[simp] theorem setChan_qm (n : Nat) (c : DmaChan) (s : State) : (setChan n c s).qm = s.qm := rfl
@[simp] theorem setChan_crc (n : Nat) (c : DmaChan) (s : State) : (setChan n c s).crc = s.crc := rfl
@[simp] theorem setChan_pwr (n : Nat) (c : DmaChan) (s : State) : (setChan n c s).pwr = s.pwr := rfl
@[simp] theorem setChan_rst (n : Nat) (c : DmaChan) (s : State) : (setChan n c s).rst = s.rst := rfl
@[simp] theorem setChan_handles (n : Nat) (c : DmaChan) (s : State) : (setChan n c s).handles = s.handles := rfl
@[simp] theorem setChan_rx (n : Nat) (c : DmaChan) (s : State) : (setChan n c s).rx = s.rx := rfl
@[simp] theorem setChan_txFrames (n : Nat) (c : DmaChan) (s : State) : (setChan n c s).txFrames = s.txFrames := rfl
@[simp] theorem setChan_cmp (n : Nat) (c : DmaChan) (s : State) : (setChan n c s).cmp = s.cmp := rfl
@[simp] theorem setChan_tl (n : Nat) (c : DmaChan) (s : State) : (setChan n c s).tl = s.tl := rfl
@[simp] theorem setChan_rails (n : Nat) (c : DmaChan) (s : State) : (setChan n c s).rails = s.rails := rfl
@[simp] theorem setChan_swc (n : Nat) (c : DmaChan) (s : State) : (setChan n c s).swc = s.swc := rfl
@[simp] theorem setChan_cor (n : Nat) (c : DmaChan) (s : State) : (setChan n c s).cor = s.cor := rfl
@[simp] theorem setChan_thm (n : Nat) (c : DmaChan) (s : State) : (setChan n c s).thm = s.thm := rfl
@[simp] theorem setChan_fan (n : Nat) (c : DmaChan) (s : State) : (setChan n c s).fan = s.fan := rfl
@[simp] theorem setChan_rook (n : Nat) (c : DmaChan) (s : State) : (setChan n c s).rook = s.rook := rfl
@[simp] theorem setChan_te (n : Nat) (c : DmaChan) (s : State) : (setChan n c s).te = s.te := rfl
@[simp] theorem setChan_scan (n : Nat) (c : DmaChan) (s : State) : (setChan n c s).scan = s.scan := rfl
@[simp] theorem setChan_ports (n : Nat) (c : DmaChan) (s : State) : (setChan n c s).ports = s.ports := rfl
@[simp] theorem setChan_ril (n : Nat) (c : DmaChan) (s : State) : (setChan n c s).ril = s.ril := rfl
@[simp] theorem setChan_diag (n : Nat) (c : DmaChan) (s : State) : (setChan n c s).diag = s.diag := rfl
@[simp] theorem setChan_chn (n : Nat) (c : DmaChan) (s : State) : (setChan n c s).chn = s.chn := rfl
@[simp] theorem setChan_ptp (n : Nat) (c : DmaChan) (s : State) : (setChan n c s).ptp = s.ptp := rfl
@[simp] theorem setChan_satArm (n : Nat) (c : DmaChan) (s : State) : (setChan n c s).satArm = s.satArm := rfl
@[simp] theorem setChan_dmx (n : Nat) (c : DmaChan) (s : State) : (setChan n c s).dmx = s.dmx := rfl
@[simp] theorem setChan_can (n : Nat) (c : DmaChan) (s : State) : (setChan n c s).can = s.can := rfl
@[simp] theorem setChan_out (n : Nat) (c : DmaChan) (s : State) : (setChan n c s).out = s.out := rfl
@[simp] theorem setChan_upd (n : Nat) (c : DmaChan) (s : State) : (setChan n c s).upd = s.upd := rfl
@[simp] theorem setChan_ddrHot (n : Nat) (c : DmaChan) (s : State) : (setChan n c s).ddrHot = s.ddrHot := rfl

@[simp] theorem setQueue_pending (q : Nat) (v : QueueState) (s : State) : (setQueue q v s).pending = s.pending := rfl
@[simp] theorem setQueue_free (q : Nat) (v : QueueState) (s : State) : (setQueue q v s).free = s.free := rfl
@[simp] theorem setQueue_now (q : Nat) (v : QueueState) (s : State) : (setQueue q v s).now = s.now := rfl
@[simp] theorem setQueue_mem (q : Nat) (v : QueueState) (s : State) : (setQueue q v s).mem = s.mem := rfl
@[simp] theorem setQueue_stale (q : Nat) (v : QueueState) (s : State) : (setQueue q v s).stale = s.stale := rfl
@[simp] theorem setQueue_cached (q : Nat) (v : QueueState) (s : State) : (setQueue q v s).cached = s.cached := rfl
@[simp] theorem setQueue_hsLate (q : Nat) (v : QueueState) (s : State) : (setQueue q v s).hsLate = s.hsLate := rfl
@[simp] theorem setQueue_ue (q : Nat) (v : QueueState) (s : State) : (setQueue q v s).ue = s.ue := rfl
@[simp] theorem setQueue_ce (q : Nat) (v : QueueState) (s : State) : (setQueue q v s).ce = s.ce := rfl
@[simp] theorem setQueue_regs (q : Nat) (v : QueueState) (s : State) : (setQueue q v s).regs = s.regs := rfl
@[simp] theorem setQueue_staged (q : Nat) (v : QueueState) (s : State) : (setQueue q v s).staged = s.staged := rfl
@[simp] theorem setQueue_inForce (q : Nat) (v : QueueState) (s : State) : (setQueue q v s).inForce = s.inForce := rfl
@[simp] theorem setQueue_commit (q : Nat) (v : QueueState) (s : State) : (setQueue q v s).commit = s.commit := rfl
@[simp] theorem setQueue_late (q : Nat) (v : QueueState) (s : State) : (setQueue q v s).late = s.late := rfl
@[simp] theorem setQueue_lateLoads (q : Nat) (v : QueueState) (s : State) : (setQueue q v s).lateLoads = s.lateLoads := rfl
@[simp] theorem setQueue_flt (q : Nat) (v : QueueState) (s : State) : (setQueue q v s).flt = s.flt := rfl
@[simp] theorem setQueue_evt (q : Nat) (v : QueueState) (s : State) : (setQueue q v s).evt = s.evt := rfl
@[simp] theorem setQueue_nmi (q : Nat) (v : QueueState) (s : State) : (setQueue q v s).nmi = s.nmi := rfl
@[simp] theorem setQueue_blkReset (q : Nat) (v : QueueState) (s : State) : (setQueue q v s).blkReset = s.blkReset := rfl
@[simp] theorem setQueue_shadow (q : Nat) (v : QueueState) (s : State) : (setQueue q v s).shadow = s.shadow := rfl
@[simp] theorem setQueue_mel (q : Nat) (v : QueueState) (s : State) : (setQueue q v s).mel = s.mel := rfl
@[simp] theorem setQueue_dma (q : Nat) (v : QueueState) (s : State) : (setQueue q v s).dma = s.dma := rfl
@[simp] theorem setQueue_gtFine (q : Nat) (v : QueueState) (s : State) : (setQueue q v s).gtFine = s.gtFine := rfl
@[simp] theorem setQueue_crc (q : Nat) (v : QueueState) (s : State) : (setQueue q v s).crc = s.crc := rfl
@[simp] theorem setQueue_pwr (q : Nat) (v : QueueState) (s : State) : (setQueue q v s).pwr = s.pwr := rfl
@[simp] theorem setQueue_rst (q : Nat) (v : QueueState) (s : State) : (setQueue q v s).rst = s.rst := rfl
@[simp] theorem setQueue_handles (q : Nat) (v : QueueState) (s : State) : (setQueue q v s).handles = s.handles := rfl
@[simp] theorem setQueue_rx (q : Nat) (v : QueueState) (s : State) : (setQueue q v s).rx = s.rx := rfl
@[simp] theorem setQueue_txFrames (q : Nat) (v : QueueState) (s : State) : (setQueue q v s).txFrames = s.txFrames := rfl
@[simp] theorem setQueue_cmp (q : Nat) (v : QueueState) (s : State) : (setQueue q v s).cmp = s.cmp := rfl
@[simp] theorem setQueue_tl (q : Nat) (v : QueueState) (s : State) : (setQueue q v s).tl = s.tl := rfl
@[simp] theorem setQueue_rails (q : Nat) (v : QueueState) (s : State) : (setQueue q v s).rails = s.rails := rfl
@[simp] theorem setQueue_swc (q : Nat) (v : QueueState) (s : State) : (setQueue q v s).swc = s.swc := rfl
@[simp] theorem setQueue_cor (q : Nat) (v : QueueState) (s : State) : (setQueue q v s).cor = s.cor := rfl
@[simp] theorem setQueue_thm (q : Nat) (v : QueueState) (s : State) : (setQueue q v s).thm = s.thm := rfl
@[simp] theorem setQueue_fan (q : Nat) (v : QueueState) (s : State) : (setQueue q v s).fan = s.fan := rfl
@[simp] theorem setQueue_rook (q : Nat) (v : QueueState) (s : State) : (setQueue q v s).rook = s.rook := rfl
@[simp] theorem setQueue_te (q : Nat) (v : QueueState) (s : State) : (setQueue q v s).te = s.te := rfl
@[simp] theorem setQueue_scan (q : Nat) (v : QueueState) (s : State) : (setQueue q v s).scan = s.scan := rfl
@[simp] theorem setQueue_ports (q : Nat) (v : QueueState) (s : State) : (setQueue q v s).ports = s.ports := rfl
@[simp] theorem setQueue_ril (q : Nat) (v : QueueState) (s : State) : (setQueue q v s).ril = s.ril := rfl
@[simp] theorem setQueue_diag (q : Nat) (v : QueueState) (s : State) : (setQueue q v s).diag = s.diag := rfl
@[simp] theorem setQueue_chn (q : Nat) (v : QueueState) (s : State) : (setQueue q v s).chn = s.chn := rfl
@[simp] theorem setQueue_ptp (q : Nat) (v : QueueState) (s : State) : (setQueue q v s).ptp = s.ptp := rfl
@[simp] theorem setQueue_satArm (q : Nat) (v : QueueState) (s : State) : (setQueue q v s).satArm = s.satArm := rfl
@[simp] theorem setQueue_dmx (q : Nat) (v : QueueState) (s : State) : (setQueue q v s).dmx = s.dmx := rfl
@[simp] theorem setQueue_can (q : Nat) (v : QueueState) (s : State) : (setQueue q v s).can = s.can := rfl
@[simp] theorem setQueue_out (q : Nat) (v : QueueState) (s : State) : (setQueue q v s).out = s.out := rfl
@[simp] theorem setQueue_upd (q : Nat) (v : QueueState) (s : State) : (setQueue q v s).upd = s.upd := rfl
@[simp] theorem setQueue_ddrHot (q : Nat) (v : QueueState) (s : State) : (setQueue q v s).ddrHot = s.ddrHot := rfl

@[simp] theorem putBytes_pending (a : Nat) (l : List Byte) (s : State) : (putBytes a l s).pending = s.pending := rfl
@[simp] theorem putBytes_free (a : Nat) (l : List Byte) (s : State) : (putBytes a l s).free = s.free := rfl
@[simp] theorem putBytes_now (a : Nat) (l : List Byte) (s : State) : (putBytes a l s).now = s.now := rfl
@[simp] theorem putBytes_stale (a : Nat) (l : List Byte) (s : State) : (putBytes a l s).stale = s.stale := rfl
@[simp] theorem putBytes_cached (a : Nat) (l : List Byte) (s : State) : (putBytes a l s).cached = s.cached := rfl
@[simp] theorem putBytes_hsLate (a : Nat) (l : List Byte) (s : State) : (putBytes a l s).hsLate = s.hsLate := rfl
@[simp] theorem putBytes_ue (a : Nat) (l : List Byte) (s : State) : (putBytes a l s).ue = s.ue := rfl
@[simp] theorem putBytes_ce (a : Nat) (l : List Byte) (s : State) : (putBytes a l s).ce = s.ce := rfl
@[simp] theorem putBytes_regs (a : Nat) (l : List Byte) (s : State) : (putBytes a l s).regs = s.regs := rfl
@[simp] theorem putBytes_staged (a : Nat) (l : List Byte) (s : State) : (putBytes a l s).staged = s.staged := rfl
@[simp] theorem putBytes_inForce (a : Nat) (l : List Byte) (s : State) : (putBytes a l s).inForce = s.inForce := rfl
@[simp] theorem putBytes_commit (a : Nat) (l : List Byte) (s : State) : (putBytes a l s).commit = s.commit := rfl
@[simp] theorem putBytes_late (a : Nat) (l : List Byte) (s : State) : (putBytes a l s).late = s.late := rfl
@[simp] theorem putBytes_lateLoads (a : Nat) (l : List Byte) (s : State) : (putBytes a l s).lateLoads = s.lateLoads := rfl
@[simp] theorem putBytes_flt (a : Nat) (l : List Byte) (s : State) : (putBytes a l s).flt = s.flt := rfl
@[simp] theorem putBytes_evt (a : Nat) (l : List Byte) (s : State) : (putBytes a l s).evt = s.evt := rfl
@[simp] theorem putBytes_nmi (a : Nat) (l : List Byte) (s : State) : (putBytes a l s).nmi = s.nmi := rfl
@[simp] theorem putBytes_blkReset (a : Nat) (l : List Byte) (s : State) : (putBytes a l s).blkReset = s.blkReset := rfl
@[simp] theorem putBytes_shadow (a : Nat) (l : List Byte) (s : State) : (putBytes a l s).shadow = s.shadow := rfl
@[simp] theorem putBytes_mel (a : Nat) (l : List Byte) (s : State) : (putBytes a l s).mel = s.mel := rfl
@[simp] theorem putBytes_dma (a : Nat) (l : List Byte) (s : State) : (putBytes a l s).dma = s.dma := rfl
@[simp] theorem putBytes_gtFine (a : Nat) (l : List Byte) (s : State) : (putBytes a l s).gtFine = s.gtFine := rfl
@[simp] theorem putBytes_qm (a : Nat) (l : List Byte) (s : State) : (putBytes a l s).qm = s.qm := rfl
@[simp] theorem putBytes_crc (a : Nat) (l : List Byte) (s : State) : (putBytes a l s).crc = s.crc := rfl
@[simp] theorem putBytes_pwr (a : Nat) (l : List Byte) (s : State) : (putBytes a l s).pwr = s.pwr := rfl
@[simp] theorem putBytes_rst (a : Nat) (l : List Byte) (s : State) : (putBytes a l s).rst = s.rst := rfl
@[simp] theorem putBytes_handles (a : Nat) (l : List Byte) (s : State) : (putBytes a l s).handles = s.handles := rfl
@[simp] theorem putBytes_rx (a : Nat) (l : List Byte) (s : State) : (putBytes a l s).rx = s.rx := rfl
@[simp] theorem putBytes_txFrames (a : Nat) (l : List Byte) (s : State) : (putBytes a l s).txFrames = s.txFrames := rfl
@[simp] theorem putBytes_cmp (a : Nat) (l : List Byte) (s : State) : (putBytes a l s).cmp = s.cmp := rfl
@[simp] theorem putBytes_tl (a : Nat) (l : List Byte) (s : State) : (putBytes a l s).tl = s.tl := rfl
@[simp] theorem putBytes_rails (a : Nat) (l : List Byte) (s : State) : (putBytes a l s).rails = s.rails := rfl
@[simp] theorem putBytes_swc (a : Nat) (l : List Byte) (s : State) : (putBytes a l s).swc = s.swc := rfl
@[simp] theorem putBytes_cor (a : Nat) (l : List Byte) (s : State) : (putBytes a l s).cor = s.cor := rfl
@[simp] theorem putBytes_thm (a : Nat) (l : List Byte) (s : State) : (putBytes a l s).thm = s.thm := rfl
@[simp] theorem putBytes_fan (a : Nat) (l : List Byte) (s : State) : (putBytes a l s).fan = s.fan := rfl
@[simp] theorem putBytes_rook (a : Nat) (l : List Byte) (s : State) : (putBytes a l s).rook = s.rook := rfl
@[simp] theorem putBytes_te (a : Nat) (l : List Byte) (s : State) : (putBytes a l s).te = s.te := rfl
@[simp] theorem putBytes_scan (a : Nat) (l : List Byte) (s : State) : (putBytes a l s).scan = s.scan := rfl
@[simp] theorem putBytes_ports (a : Nat) (l : List Byte) (s : State) : (putBytes a l s).ports = s.ports := rfl
@[simp] theorem putBytes_ril (a : Nat) (l : List Byte) (s : State) : (putBytes a l s).ril = s.ril := rfl
@[simp] theorem putBytes_diag (a : Nat) (l : List Byte) (s : State) : (putBytes a l s).diag = s.diag := rfl
@[simp] theorem putBytes_chn (a : Nat) (l : List Byte) (s : State) : (putBytes a l s).chn = s.chn := rfl
@[simp] theorem putBytes_ptp (a : Nat) (l : List Byte) (s : State) : (putBytes a l s).ptp = s.ptp := rfl
@[simp] theorem putBytes_satArm (a : Nat) (l : List Byte) (s : State) : (putBytes a l s).satArm = s.satArm := rfl
@[simp] theorem putBytes_dmx (a : Nat) (l : List Byte) (s : State) : (putBytes a l s).dmx = s.dmx := rfl
@[simp] theorem putBytes_can (a : Nat) (l : List Byte) (s : State) : (putBytes a l s).can = s.can := rfl
@[simp] theorem putBytes_out (a : Nat) (l : List Byte) (s : State) : (putBytes a l s).out = s.out := rfl
@[simp] theorem putBytes_upd (a : Nat) (l : List Byte) (s : State) : (putBytes a l s).upd = s.upd := rfl
@[simp] theorem putBytes_ddrHot (a : Nat) (l : List Byte) (s : State) : (putBytes a l s).ddrHot = s.ddrHot := rfl

/-- A field of the register file after a write: the value cut to its width, and every field of another key as before. -/
@[simp] theorem fld_setFld_same (f : Fld) (v : Nat) (s : State) : (setFld f v s).fld f = v % 2 ^ f.width := by
  simp [State.fld, setFld]

theorem fld_setFld_other {f g : Fld} (v : Nat) (s : State) (h : g.key ≠ f.key) : (setFld f v s).fld g = s.fld g := by
  simp [State.fld, setFld, SMap.get_put_other _ _ _ h]

@[simp] theorem stg_setFld (f g : Fld) (v : Nat) (s : State) : (setFld f v s).stg g = s.stg g := rfl
@[simp] theorem inF_setFld (f g : Fld) (v : Nat) (s : State) : (setFld f v s).inF g = s.inF g := rfl
@[simp] theorem fld_setStg (f g : Fld) (v : Nat) (s : State) : (setStg f v s).fld g = s.fld g := rfl
@[simp] theorem inF_setStg (f g : Fld) (v : Nat) (s : State) : (setStg f v s).inF g = s.inF g := rfl
@[simp] theorem fld_intr (g : Fld) (id : Nat) (s : State) : (intr id s).fld g = s.fld g := rfl
@[simp] theorem fld_drawn (g : Fld) (s : State) : (drawn s).fld g = s.fld g := rfl
@[simp] theorem fld_setHart (g : Fld) (h : Hart) (v : HartState) (s : State) : (setHart h v s).fld g = s.fld g := rfl
@[simp] theorem fld_setChan (g : Fld) (n : Nat) (c : DmaChan) (s : State) : (setChan n c s).fld g = s.fld g := rfl
@[simp] theorem fld_setQueue (g : Fld) (n : Nat) (c : QueueState) (s : State) : (setQueue n c s).fld g = s.fld g := rfl

@[simp] theorem stg_setStg_same (f : Fld) (v : Nat) (s : State) : (setStg f v s).stg f = v % 2 ^ f.width := by
  simp [State.stg, setStg]

theorem stg_setStg_other {f g : Fld} (v : Nat) (s : State) (h : g.key ≠ f.key) : (setStg f v s).stg g = s.stg g := by
  simp [State.stg, setStg, SMap.get_put_other _ _ _ h]

/-- A context of the main cores leaves Rook alone, and Rook's context leaves MEL alone. -/
theorem setHart_rook {h : Hart} (hm : isRook h = false) (v : HartState) (s : State) : (setHart h v s).rook = s.rook := by
  simp [setHart, hm]
theorem setHart_mel {h : Hart} (hr : isRook h = true) (v : HartState) (s : State) : (setHart h v s).mel = s.mel := by
  simp [setHart, hr]

@[simp] theorem hart_setHart_same (h : Hart) (v : HartState) (s : State) : (setHart h v s).hart h = v := by
  by_cases hr : isRook h = true <;> simp [State.hart, setHart, hr]

theorem hart_setHart_other {h k : Hart} (v : HartState) (s : State) (hk : k ≠ h) : (setHart h v s).hart k = s.hart k := by
  have : k.val ≠ h.val := fun e => hk (Fin.ext e)
  by_cases hr : isRook h = true <;> by_cases hq : isRook k = true <;>
    simp_all [State.hart, setHart, isRook, SMap.get_put_other _ _ _ this]

@[simp] theorem hart_setFld (f : Fld) (v : Nat) (h : Hart) (s : State) : (setFld f v s).hart h = s.hart h := rfl
@[simp] theorem hart_intr (id : Nat) (h : Hart) (s : State) : (intr id s).hart h = s.hart h := rfl
@[simp] theorem hart_drawn (h : Hart) (s : State) : (drawn s).hart h = s.hart h := rfl

/-- Two replacements of one context: the second stands. -/
@[simp] theorem setHart_setHart (h : Hart) (v w : HartState) (s : State) : setHart h w (setHart h v s) = setHart h w s := by
  by_cases hr : isRook h = true <;> simp [setHart, hr]

@[simp] theorem pc_setPc (h : Hart) (v : Word) (s : State) : (setPc h v s).pc h = v := by simp [State.pc, setPc]
@[simp] theorem g_setPc (h : Hart) (v : Word) (r : Fin 32) (s : State) : (setPc h v s).g h r = s.g h r := by
  simp [State.g, setPc]
@[simp] theorem v_setPc (h : Hart) (v : Word) (r : Fin 16) (s : State) : (setPc h v s).v h r = s.v h r := by
  simp [State.v, setPc]
@[simp] theorem p_setPc (h : Hart) (v : Word) (r : Fin 8) (s : State) : (setPc h v s).p h r = s.p h r := by
  simp [State.p, setPc]

/-- g0 reads zero whatever is written (R42); another register reads what was written to it. -/
@[simp] theorem g_zero (h : Hart) (s : State) : s.g h 0 = 0 := by simp [State.g]

theorem g_setG (h : Hart) (d r : Fin 32) (v : Word) (s : State) :
    (setG h d v s).g h r = if r = d ∧ d ≠ 0 then v else s.g h r := by
  unfold setG
  by_cases hd : d = 0
  · simp [hd]
  · by_cases hr : r = d
    · subst hr; simp [State.g, hd]
    · have : r.val ≠ d.val := fun e => hr (Fin.ext e)
      simp [State.g, hd, hr, SMap.get_put_other _ _ _ this]

theorem p_setP (h : Hart) (d r : Fin 8) (v : Word) (s : State) :
    (setP h d v s).p h r = if r = d ∧ d ≠ 0 then v else s.p h r := by
  unfold setP
  by_cases hd : d = 0
  · simp [hd]
  · by_cases hr : r = d
    · subst hr; simp [State.p, hd]
    · have : r.val ≠ d.val := fun e => hr (Fin.ext e)
      simp [State.p, hd, hr, SMap.get_put_other _ _ _ this]

theorem v_setV (h : Hart) (d r : Fin 16) (v : Vec) (s : State) :
    (setV h d v s).v h r = if r = d then v else s.v h r := by
  unfold setV
  by_cases hr : r = d
  · subst hr; simp [State.v]
  · have : r.val ≠ d.val := fun e => hr (Fin.ext e)
    simp [State.v, hr, SMap.get_put_other _ _ _ this]

@[simp] theorem pc_setG (h : Hart) (d : Fin 32) (v : Word) (s : State) : (setG h d v s).pc h = s.pc h := by
  unfold setG; split <;> simp [State.pc]

@[simp] theorem chan_setChan_same (n : Nat) (c : DmaChan) (s : State) : (setChan n c s).chan n = c := by
  simp [State.chan, setChan]
@[simp] theorem chan_setFld (f : Fld) (v n : Nat) (s : State) : (setFld f v s).chan n = s.chan n := rfl
@[simp] theorem chan_intr (id n : Nat) (s : State) : (intr id s).chan n = s.chan n := rfl

@[simp] theorem queue_setQueue_same (q : Nat) (v : QueueState) (s : State) : (setQueue q v s).queue q = v := by
  simp [State.queue, setQueue]
theorem queue_setQueue_other {q r : Nat} (v : QueueState) (s : State) (h : r ≠ q) : (setQueue q v s).queue r = s.queue r := by
  simp [State.queue, setQueue, SMap.get_put_other _ _ _ h]
@[simp] theorem queue_setFld (f : Fld) (v q : Nat) (s : State) : (setFld f v s).queue q = s.queue q := rfl
@[simp] theorem queue_intr (id q : Nat) (s : State) : (intr id s).queue q = s.queue q := rfl

/-- Storing bytes keeps the canonical form of memory. -/
theorem putBytes_wf (a : Nat) (l : List Byte) (s : State) (h : SMap.wf s.mem (0 : Byte) = true) :
    SMap.wf (putBytes a l s).mem (0 : Byte) = true := by
  have key : ∀ (l : List Byte) (p : List Host.Cell × Nat), SMap.wf p.1 (0 : Byte) = true →
      SMap.wf (l.foldl (fun p b => (SMap.store p.1 p.2 b 0, p.2 + 1)) p).1 (0 : Byte) = true := by
    intro l
    induction l with
    | nil => intro p hp; exact hp
    | cons b t ih => intro p hp; exact ih _ (SMap.wf_store p.2 b hp)
  exact key l (s.mem, a) h

/-- What a byte reads after bytes are stored: the byte stored there, or the old one. -/
theorem byte_putBytes (a : Nat) (l : List Byte) (s : State) (c : Nat) (h : SMap.wf s.mem (0 : Byte) = true) :
    (putBytes a l s).byte c = if a ≤ c ∧ c < a + l.length then l.getD (c - a) 0 else s.byte c := by
  have key : ∀ (l : List Byte) (m : List Host.Cell) (a : Nat), SMap.wf m (0 : Byte) = true →
      SMap.get (l.foldl (fun p b => (SMap.store p.1 p.2 b 0, p.2 + 1)) (m, a)).1 c (0 : Byte) =
        if a ≤ c ∧ c < a + l.length then l.getD (c - a) 0 else SMap.get m c 0 := by
    intro l
    induction l with
    | nil =>
      intro m a _
      have : ¬ (a ≤ c ∧ c < a) := by omega
      simp [this]
    | cons b t ih =>
      intro m a hm
      rw [List.foldl_cons, ih _ _ (SMap.wf_store a b hm), SMap.get_store a c b hm]
      by_cases h1 : c = a
      · subst h1; simp
      · by_cases h2 : a + 1 ≤ c ∧ c < a + 1 + t.length
        · have h3 : a ≤ c ∧ c < a + (b :: t).length := by simp only [List.length_cons]; omega
          have h4 : c - a = (c - (a + 1)) + 1 := by omega
          rw [if_pos h2, if_pos h3, h4]; simp
        · have h3 : ¬ (a ≤ c ∧ c < a + (b :: t).length) := by simp only [List.length_cons]; omega
          rw [if_neg h2, if_neg h3, if_neg h1]
  exact key l s.mem a h

end Sys2Proof.Machine
end

