-- ==== Sys2Proof/Laws/Ops.lean ====
section
/-! SUPPORT. What each shared operation can do, said once: every memory operation keeps the canonical form of memory, an event of
a fault set, and the issue of an instruction whose fetch met no fault. -/

namespace Sys2Proof.Machine

/-- Taking entries out of a rising table leaves it rising. -/
theorem SMap.rising_filter {α : Type} (p : Nat × α → Bool) {m : SMap α} {b : Option Nat} (h : SMap.rising m b = true) :
    SMap.rising (m.filter p) b = true := by
  induction m generalizing b with
  | nil => rfl
  | cons e t ih =>
    obtain ⟨k, w⟩ := e
    have hc := (SMap.rising_cons k w t b).1 h
    have hb : SMap.rising t b = true := by
      cases b with
      | none => exact SMap.rising_none hc.2
      | some q => exact SMap.rising_weaken hc.2 (Nat.le_of_lt (hc.1 q rfl))
    simp only [List.filter_cons]
    split
    · exact (SMap.rising_cons k w _ b).2 ⟨hc.1, ih hc.2⟩
    · exact ih hb

/-- Forgetting bytes keeps the canonical form. -/
theorem Memory.wf_filter (p : Host.Cell → Bool) {m : List Host.Cell} (h : Memory.wf m = true) : Memory.wf (m.filter p) = true := by
  simp only [Memory.wf, SMap.wf, Bool.and_eq_true] at h ⊢
  refine ⟨SMap.rising_filter p h.1, ?_⟩
  rw [List.all_eq_true] at *
  exact fun e he => h.2 e (List.mem_of_mem_filter he)

/-- Storing bytes keeps the canonical form. -/
theorem Memory.wf_putBytes (a : Nat) (l : List Byte) {s : State} (h : Memory.wf s.mem = true) :
    Memory.wf (putBytes a l s).mem = true := putBytes_wf a l s h

/-- Memory after reset lists nothing. -/
theorem Memory.wf_reset : Memory.wf State.reset.mem = true := rfl

@[simp] theorem loadTrial_mem (s : State) : (loadTrial s).mem = s.mem := rfl
@[simp] theorem setFlt_mem (b : Blk) (f : FltSet) (s : State) : (setFlt b f s).mem = s.mem := rfl
@[simp] theorem resetRegs_mem (b : Blk) (s : State) : (resetRegs b s).mem = s.mem := rfl
@[simp] theorem restage_mem (b : Blk) (s : State) : (restage b s).mem = s.mem := rfl

theorem failPending_mem (s : State) : (failPending s).mem = s.mem := by
  unfold failPending
  split
  · split <;> rfl
  · rfl

/-- A fold of steps that leave memory alone leaves memory alone. -/
theorem foldl_mem {β : Type} (f : State → β → State) (hf : ∀ s x, (f s x).mem = s.mem) (l : List β) (s : State) :
    (l.foldl f s).mem = s.mem := by
  induction l generalizing s with
  | nil => rfl
  | cons x t ih => rw [List.foldl_cons, ih, hf]

theorem resetQm_mem (s : State) : (resetQm s).mem = s.mem := by
  simp only [resetQm]
  rw [foldl_mem]
  intro t x
  show (postRes _ _ _ _ _).mem = _
  split <;> rfl

theorem forN_mem (n : Nat) (f : Nat → State → State) (hf : ∀ i s, (f i s).mem = s.mem) (s : State) : (forN n f s).mem = s.mem :=
  foldl_mem (fun t i => f i t) (fun s i => hf i s) _ s

theorem setPhases_mem (k n : Nat) (s : State) : (setPhases k n s).mem = s.mem := by
  simp only [setPhases]
  rw [forN_mem]
  · rfl
  · intro i s; rfl

theorem railTo_mem (k st : Nat) (s : State) : (railTo k st s).mem = s.mem := by
  simp only [railTo]
  split <;> rfl

theorem setRail_mem (k : Nat) (v : RailState) (s : State) : (setRail k v s).mem = s.mem := rfl

theorem railHold_mem (k : Nat) (s : State) : (railHold k s).mem = s.mem := by
  simp only [railHold]
  split
  · rw [setRail_mem, setPhases_mem, railTo_mem]
  · simp only [railGoal, setRail_mem, setPhases_mem, railTo_mem]

theorem neighboursHold_mem (k : Nat) (s : State) : (neighboursHold k s).mem = s.mem := by
  unfold neighboursHold
  apply foldl_mem
  intro s j
  split
  · exact railHold_mem j s
  · rfl

/-- A block reset touches no memory. -/
theorem blockResetClear_mem (b : Blk) (s : State) : (blockResetClear b s).mem = s.mem := by
  cases b <;> simp only [blockResetClear] <;> try rfl
  · exact resetQm_mem s
  · split <;> rfl
  · simp only [resetRail, restage_mem]; rw [neighboursHold_mem]

theorem startBlockReset_mem (b : Blk) (s : State) : (startBlockReset b s).mem = s.mem := by
  unfold startBlockReset
  split
  · rfl
  · exact blockResetClear_mem b _

/-- A system reset keeps the canonical form: it forgets bytes. -/
theorem Memory.wf_systemClear {s : State} (h : Memory.wf s.mem = true) : Memory.wf (systemClear s).mem = true := by
  have : (systemClear s).mem = s.mem.filter (fun e => isNvm e.1) := by
    simp only [systemClear, setFld_mem, loadTrial_mem, failPending_mem]
  rw [this]; exact Memory.wf_filter _ h

/-- A warm reset keeps the canonical form: it forgets the dose accumulators. -/
theorem Memory.wf_warmClear {s : State} (h : Memory.wf s.mem = true) : Memory.wf (warmClear s).mem = true := by
  refine Memory.wf_filter _ ?_
  show Memory.wf (failPending s).mem = true
  rw [failPending_mem]; exact h

theorem Memory.wf_chipReset (b : Blk) (src : Nat) {s : State} (h : Memory.wf s.mem = true) :
    Memory.wf (chipReset b src s).mem = true := by
  unfold chipReset
  apply Memory.wf_systemClear
  simp only [setFlag, setFld_mem]
  exact Memory.wf_putBytes _ _ h

theorem Memory.wf_takeReactions (b : Blk) (src : Nat) {s : State} (h : Memory.wf s.mem = true) :
    Memory.wf (takeReactions b src s).mem = true := by
  have key : ∀ t : State, Memory.wf t.mem = true → ∀ c d : Prop, [Decidable c] → [Decidable d] →
      Memory.wf (if c then chipReset b src t else if d then startBlockReset b t else t).mem = true := by
    intro t ht c d _ _
    by_cases hc : c
    · rw [if_pos hc]; exact Memory.wf_chipReset b src ht
    · by_cases hd : d
      · rw [if_neg hc, if_pos hd, startBlockReset_mem]; exact ht
      · rw [if_neg hc, if_neg hd]; exact ht
  simp only [takeReactions]
  refine key _ ?_ _ _
  split <;> exact h

/-- An event keeps the canonical form of memory: its reactions write the first-error record and may forget bytes. -/
theorem Memory.wf_raise (b : Blk) (src : Nat) (e : Ev) {s : State} (h : Memory.wf s.mem = true) :
    Memory.wf (raise b src e s).mem = true := by
  simp only [raise]
  split
  · exact h
  · split
    · exact h
    · exact Memory.wf_takeReactions b src h

theorem Memory.wf_raiseCond (b : Blk) (src : Nat) (e : Ev) {s : State} (h : Memory.wf s.mem = true) :
    Memory.wf (raiseCond b src e s).mem = true := by
  simp only [raiseCond]
  split
  · exact h
  · exact Memory.wf_raise b src e h

theorem endCond_mem (b : Blk) (src : Nat) (s : State) : (endCond b src s).mem = s.mem := rfl

theorem Memory.wf_reportUe (w : Who) (typ a : Nat) {s : State} (h : Memory.wf s.mem = true) :
    Memory.wf (reportUe w typ a s).mem = true := by
  simp only [reportUe]
  split <;> first | exact h | exact Memory.wf_raise _ _ _ h

theorem Memory.wf_reportCe (w : Who) (typ a : Nat) {s : State} (h : Memory.wf s.mem = true) :
    Memory.wf (reportCe w typ a s).mem = true := by
  simp only [reportCe]
  split <;> first | exact h | exact Memory.wf_raise _ _ _ h

/-- A fold of steps that keep the canonical form keeps it. -/
theorem Memory.wf_foldl {β : Type} (f : State → β → State) (hf : ∀ s x, Memory.wf s.mem = true → Memory.wf (f s x).mem = true)
    (l : List β) {s : State} (h : Memory.wf s.mem = true) : Memory.wf (l.foldl f s).mem = true := by
  induction l generalizing s with
  | nil => exact h
  | cons x t ih => exact ih (hf s x h)

theorem Memory.wf_eccRead (w : Who) (typ a n : Nat) {s : State} (h : Memory.wf s.mem = true) :
    Memory.wf (eccRead w typ a n s).2.mem = true := by
  simp only [eccRead]
  split
  · exact Memory.wf_reportUe _ _ _ h
  · exact Memory.wf_foldl _ (fun s x hs => Memory.wf_reportCe _ _ _ hs) _ h

theorem Memory.wf_captureOnly (b : Blk) (m typ a : Nat) {s : State} (h : Memory.wf s.mem = true) :
    Memory.wf (captureOnly b m typ a s).mem = true := by
  simp only [captureOnly]
  split <;> exact h

theorem Memory.wf_badAddr (w : Who) (typ a : Nat) {s : State} (h : Memory.wf s.mem = true) :
    Memory.wf (badAddr w typ a s).2.mem = true := Memory.wf_raise _ _ _ h

/-- An access of the register space that no register takes keeps the canonical form: it leaves a capture. -/
theorem Memory.wf_regRefuse (w : Who) (typ a : Nat) {s : State} (h : Memory.wf s.mem = true) :
    Memory.wf (regRefuse w typ a s).2.mem = true := by
  simp only [regRefuse]
  split
  · exact Memory.wf_badAddr _ _ _ h
  · exact Memory.wf_captureOnly _ _ _ _ h

theorem Memory.wf_checkRead (w : Who) (typ a n : Nat) {s : State} (h : Memory.wf s.mem = true) :
    Memory.wf (checkRead w typ a n s).2.mem = true := by
  simp only [checkRead]
  split
  · exact Memory.wf_raise _ _ _ h
  · exact h
  · split <;> [exact Memory.wf_eccRead _ _ _ _ h; exact h]
  · exact h
  · exact Memory.wf_regRefuse _ _ _ h
  · split <;> [exact Memory.wf_raise _ _ _ h; exact Memory.wf_eccRead _ _ _ _ h]

theorem Memory.wf_checkWrite (w : Who) (a n : Nat) {s : State} (h : Memory.wf s.mem = true) :
    Memory.wf (checkWrite w a n s).2.mem = true := by
  simp only [checkWrite]
  split <;> try exact h
  · exact Memory.wf_raise _ _ _ h
  · exact Memory.wf_regRefuse _ _ _ h
  · split <;> [exact Memory.wf_raise _ _ _ h; exact h]
  · split <;> [exact Memory.wf_raise _ _ _ h; exact h]
  · split <;> [exact Memory.wf_raise _ _ _ h; exact h]
  · split <;> [exact Memory.wf_raise _ _ _ h; exact h]

theorem Memory.wf_eccStore (w : Who) (a : Nat) (l : List Byte) {s : State} (h : Memory.wf s.mem = true) :
    Memory.wf (eccStore w a l s).2.mem = true := by
  simp only [eccStore]
  split
  · exact Memory.wf_reportUe _ _ _ h
  · exact Memory.wf_putBytes a l h

/-- A read of memory keeps its canonical form. -/
theorem Memory.wf_memRead (w : Who) (a n : Nat) {s : State} (h : Memory.wf s.mem = true) :
    Memory.wf (memRead w a n s).2.mem = true := by
  have := Memory.wf_checkRead w w.rd a n h
  simp only [memRead]
  split <;> exact this

/-- Storing any run of bytes one by one keeps the canonical form. -/
theorem Memory.wf_foldStore {β : Type} (key : β → Nat) (val : β → Byte) (l : List β) {m : List Host.Cell}
    (h : Memory.wf m = true) : Memory.wf (l.foldl (fun m e => SMap.store m (key e) (val e) 0) m) = true := by
  induction l generalizing m with
  | nil => exact h
  | cons e t ih => exact ih (SMap.wf_store (key e) (val e) h)

/-- What a held line settles to keeps the canonical form (R90). -/
theorem Memory.wf_settleLines (a n : Nat) {s : State} (h : Memory.wf s.mem = true) :
    Memory.wf (settleLines a n s).mem = true := by
  simp only [settleLines]
  split
  · exact h
  · split
    · exact Memory.wf_foldStore _ _ _ h
    · exact h

/-- Dirty lines left over a write that snoops no cache keep the canonical form (R90). -/
theorem Memory.wf_writeUnder (a n : Nat) (s : State) {t : State} (h : Memory.wf t.mem = true) :
    Memory.wf (writeUnder a n s t).mem = true := by
  simp only [writeUnder]
  refine Memory.wf_foldStore _ _ _ ?_
  split <;> exact h

/-- A write of memory keeps its canonical form. -/
theorem Memory.wf_memWrite (w : Who) (a : Nat) (l : List Byte) {s : State} (h : Memory.wf s.mem = true) :
    Memory.wf (memWrite w a l s).2.mem = true := by
  simp only [memWrite]
  split
  · exact h
  · have := Memory.wf_checkWrite w a l.length h
    split
    · exact this
    · exact this
    · exact Memory.wf_eccStore w a _ this

/-- An event whose FLT_STAT bit is already set changes the fault set of its block and nothing else (R419, R423). -/
theorem raise_standing (b : Blk) (src : Nat) (e : Ev) (s : State) (h : (s.fltSet b).stat.getLsbD src = true) :
    ∃ f, raise b src e s = setFlt b f s := by
  simp only [raise]
  split
  · exact ⟨_, rfl⟩
  · exact ⟨_, rfl⟩

@[simp] theorem fltSet_setFlt_same (b : Blk) (f : FltSet) (s : State) : (setFlt b f s).fltSet b = f := by
  simp [State.fltSet, setFlt]

/-- An instruction whose fetch met no fault: an illegal encoding and a missing level trap, and otherwise its body decides (R60);
a vector or pixel opcode on Rook is an illegal encoding (R72). -/
theorem issue_ready {h : Hart} {s u : State} (hr : s.ready h u) (word : Nat) (hk : rookIll h word = false) (ill : HartState → Option Nat) (level : Nat)
    (body : State → Option Trap × State) :
    issue h word ill level body s = (match ill (u.hart h) with
      | some sub => except h ⟨6, sub, BitVec.ofNat 64 word⟩ u
      | none => if (u.hart h).pl < level then except h ⟨4, 0, BitVec.ofNat 64 word⟩ u
        else match (body u).1 with | some x => except h x (body u).2 | none => (body u).2) := by
  obtain ⟨h1, h2, h3⟩ := hr
  simp only [issue, h1, h2, h3, hk, and_self, if_true, if_false, Bool.false_eq_true]
  all_goals rfl

/-- On a main core no opcode is one that Rook lacks. -/
theorem rookIll_main {h : Hart} (hm : isRook h = false) (word : Nat) : rookIll h word = false := by simp [rookIll, hm]

/-- An instruction of a context that does not run, or whose clock stands, does nothing. -/
theorem issue_idle {h : Hart} {s : State} (hs : ¬ ((s.hart h).st = .running ∧ s.coreRuns h = true)) (word : Nat)
    (ill : HartState → Option Nat) (level : Nat) (body : State → Option Trap × State) : issue h word ill level body s = s := by
  unfold issue
  rw [if_neg hs]

/-- Writing a general register and going on writes that register and the pc, and g0 keeps reading zero (R45). -/
theorem wroteG_adv (h : Hart) (d : Fin 32) (v : Word) (u : State) : wroteG h d v u (advance h (setG h d v u)) := by
  constructor
  · by_cases hd : d = 0
    · exact ⟨(u.hart h).g, by simp [hd, advance, setPc, setG, State.pc]⟩
    · exact ⟨SMap.put (u.hart h).g d.val v, by simp [hd, advance, setPc, setG, State.pc]⟩
  · intro r; simp [advance, g_setG]; by_cases hr : r = d <;> simp [hr]

/-- An illegal encoding enters the trap with cause 0x06, its subcause and the instruction word (R60). -/
theorem except_illegal (h : Hart) (sub w : Nat) (u : State) :
    except h ⟨6, sub, BitVec.ofNat 64 w⟩ u = enterTrap h (BitVec.ofNat 64 (sub * 256 + 6)) (BitVec.ofNat 64 w) (u.hart h).pc u := by
  simp [except, parks, Trap.cause]

end Sys2Proof.Machine
end

