-- ==== Sys2Proof/Laws/Stream.lean ====
section
/-! SUPPORT. What is known of the forward stream of a port: lengths of packets, the blocks of a run, and that a port whose
forwarded clock stands sends nothing. -/

namespace Sys2Proof.Machine

@[simp] theorem packet_length (ws : List Word) : (packet ws).length = ws.length + 1 := by simp [packet]

@[simp] theorem leWords_length (n x : Nat) : (leWords n x).length = n := by
  induction n generalizing x with
  | zero => rfl
  | succ n ih => simp [leWords, ih]

/-- A ROW packet has 38 words, a DARK packet 2 (Table: Packet types). -/
theorem rowPacket_length (n i k : Nat) (t : TePkt) : (rowPacket n i k t).length = if t.dark then 2 else 38 := by
  unfold rowPacket
  split <;> simp

/-- A PARAM packet has 6 words. -/
@[simp] theorem paramPacket_length (s : State) (p frame k c : Nat) : (s.paramPacket p frame k c).length = 6 := by
  simp [State.paramPacket]

/-- Both lanes begin a run with its control block. -/
@[simp] theorem fwdRun_block_zero (r : FwdRun) (lane : Nat) : r.block lane 0 = r.start.block lane := rfl

/-- A block whose word the run holds carries it. -/
theorem fwdRun_block_word {r : FwdRun} {lane b : Nat} {x : Word} (h : r.words[2 * b + lane]? = some x) :
    r.block lane (b + 1) = .data x := by
  simp [FwdRun.block, h]

/-- The coder's groups of a byte are ten bits. -/
@[simp] theorem charBits_length (w : BitVec 10) : (charBits w).length = 10 := by simp [charBits]

@[simp] theorem dataChars_length (l : List Byte) (plus : Bool) : (dataChars l plus).1.length = 10 * l.length := by
  induction l generalizing plus with
  | nil => rfl
  | cons b l ih => simp only [dataChars, List.length_append, charBits_length, ih, List.length_cons]; omega

@[simp] theorem scramble_length (l : List Bool) (r : BitVec 58) : (scramble l r).1.length = l.length := by
  induction l generalizing r with
  | nil => rfl
  | cons d l ih => simp [scramble, ih]

/-- A port whose forwarded clock stands sends nothing (R226). -/
theorem fwdBlock_idle {s : State} {p : Nat} (h : s.fckRuns p = false) (lane b : Nat) : s.fwdBlock p lane b = none := by
  simp [State.fwdBlock, h]

end Sys2Proof.Machine
end

