-- ==== Sys2Proof/Tests/Slice0.lean ====
section
/-! SUPPORT. The author's tests: ill-formed commands are refused by the check, worked examples of the manual, and for every statement
with hypotheses a concrete state and operands that meet them. -/

set_option Elab.async false

namespace Sys2Proof.Tests

open Sys2Proof Sys2Proof.Machine

/-- The state after a command (or the same, where it stops). -/
def after (c : Instr) (s : State) : State := match exec c s with
  | .next t => t
  | _ => s

/-- Change a context. -/
def hart (h : Hart) (f : HartState → HartState) (s : State) : State := setHart h (f (s.hart h)) s

/-- Context 0 of core 0 at a level, running in the boot ROM's place of DRAM or, at monitor level, in the boot ROM. -/
def at_ (level : Nat) (s : State) : State := hart 0 (fun k => { k with st := .running, status := BitVec.ofNat 64 level }) s

/-- Reset, with g1, g2 and g3 loaded. -/
def sG (a b c : Nat) : State :=
  setG 0 1 (BitVec.ofNat 64 a) (setG 0 2 (BitVec.ofNat 64 b) (setG 0 3 (BitVec.ofNat 64 c) State.reset))

/-- DRAM trained, so that it answers; the contexts of core 0 execute there. -/
def sDram (s : State) : State :=
  setFld F.ddrCfgSIZE 4 (setFld F.ddrStatSTATE 2 (hart 0 (fun k => { k with pc := 0x800000000, ivec := 0x800001000, mivec := 0x100 }) s))

/-- Context 0 of core 0 at task or kernel level in DRAM. -/
def sLow (level : Nat) (s : State) : State := at_ level (sDram s)

/-- Vectors enabled at monitor level. -/
def sVec (s : State) : State := hart 0 (fun k => { k with status := k.status ||| 0x100 }) s

/-- An ASID table and tables in general scratch that map 0x11800000 to 0x119FFFFF one to one, pinned, for ASID 1. -/
def sMapped (s : State) : State :=
  setFld F.mmuAsidBaseBASE 0x230 (putBytes 0x11800008 (leBytes 8 0x11820001) (putBytes 0x11820000 (leBytes 8 0x11840003)
    (putBytes 0x11840460 (leBytes 8 0x11800119) s)))


/-! Ill-formed commands. -/

theorem illformed_registerWrite_width : ¬ WellFormed (.registerWrite 0 0x20010000 24 0) := by decide
theorem illformed_registerWrite_value : ¬ WellFormed (.registerWrite 0 0x20010000 32 0x100000000) := by decide
theorem illformed_registerWrite_address : ¬ WellFormed (.registerWrite 0 0x10000000 32 0) := by decide
theorem illformed_hsTimeout : ¬ WellFormed (.hsTimeout ⟨.mel, .mel, 0, .none⟩) := by decide
theorem illformed_layerFetchBurst : ¬ WellFormed (.layerFetchBurst 0 0 65) := by decide
theorem illformed_teBroadcastWrite : ¬ WellFormed (.teBroadcastWrite 0 0x8000 32 0) := by decide
theorem illformed_thmSample : ¬ WellFormed (.thmSample [] []) := by decide
theorem illformed_chainFrameRx : ¬ WellFormed (.chainFrameRx 0 [] true false true) := by decide
theorem illformed_digestWalk : ¬ WellFormed (.digestWalk 0 true ⟨[], 0, 0, [], false⟩) := by decide
theorem illformed_digestResult : ¬ WellFormed (.digestResult 0 []) := by decide
theorem illformed_dmxPacket : ¬ WellFormed (.dmxPacket 0 (List.replicate 513 0)) := by decide +kernel
theorem illformed_rdmRequest : ¬ WellFormed (.rdmRequest (List.replicate 258 0)) := by decide +kernel
theorem illformed_offer : ¬ WellFormed (.offer 0 0 []) := by decide
theorem illformed_rxPacket : ¬ WellFormed (.rxPacket 0 { seq := 0, ts := 0, marker := false, samples := [4096] }) := by decide
theorem illformed_cartPresence : ¬ WellFormed (.cartPresence { idA := [0] }) := by decide
theorem illformed_retReceived : ¬ WellFormed (.retReceived 0 { pos := 0, slot := 0, refresh := 0 }) := by decide
theorem illformed_canFrameRx : ¬ WellFormed (.canFrameRx 0 ⟨0, false, false, true, false, false, 15, List.replicate 65 0⟩) := by decide
theorem wellformed_registerWrite : WellFormed (.registerWrite 255 0x20010000 32 0xFFFFFFFF) := by decide


/-! Melfy. A `witness_` theorem shows a state and operands that meet the hypotheses of the statement it names. -/

theorem witness_ready : (sG 7 3 0).ready 0 (sG 7 3 0) := ⟨rfl, rfl, rfl⟩
theorem witness_ready_vectors : (sVec (sG 7 3 0)).ready 0 (sVec (sG 7 3 0)) := ⟨rfl, rfl, rfl⟩
theorem witness_ready_task : (sLow 0 (sG 7 3 0)).ready 0 (sLow 0 (sG 7 3 0)) := ⟨rfl, rfl, by decide +kernel⟩
theorem witness_ready_kernel : (sLow 1 (sG 7 3 0)).ready 0 (sLow 1 (sG 7 3 0)) := ⟨rfl, rfl, by decide +kernel⟩

/-- Words of the manual's worked examples: ADDI g5, g30, -64, and PLERP.16 v4, v2, v3 under p1. -/
theorem test_word_addi : wordI 0x02 ⟨5, 30, 0xFFC0⟩ = 0x08BEFFC0 := by decide
theorem test_word_plerp : wordV 0x3E 4 ⟨4, 2, 3, 1, 1, 0⟩ = 0xF908CA80 := by decide

/-- InstructionWords: the same words read back, one word of each further family written out from the forms, and words that no table
lists. -/
theorem test_decode_examples : decodeMelfy 0 0x08BEFFC0 = some (.addi 0 ⟨5, 30, 0xFFC0⟩) ∧
    decodeMelfy 3 0xF908CA80 = some (.plerp 3 ⟨4, 2, 3, 1, 1, 0⟩) ∧ decodeMelfy 0 0 = none ∧ decodeMelfy 0 0x04000019 = none := by decide
theorem test_decode_integer : decodeMelfy 0 0b000001_00011_00001_00010_00_1_00000000 = some (.add 0 { d := 3, a := 1, b := 2, w := true }) ∧
    decodeMelfy 0 0b001011_00011_00001_11_1_0000000_000100 = some (.shi 0 { d := 3, a := 1, kind := 3, w := true, sh := 4 }) := by decide
theorem test_decode_memory : decodeMelfy 0 0b010110_00011_00001_0000000000001000 = some (.ld 0 ⟨3, 1, 8⟩) ∧
    decodeMelfy 0 0b110000_00011_00001_00010_0000_0_0_1_1001 = some (.atomicCas 0 { d := 3, a := 1, b := 2, wide := true }) ∧
    decodeMelfy 0 0b111101_0010_00001_00011_010_01_10_1_0000 =
      some (.vst 0 { vt := 2, ga := 1, bx := 3, pg := 2, esz := 1, mode := 2 }) := by decide
theorem test_decode_control : decodeMelfy 0 0b100010_00001_00010_1111111111111111 = some (.blt 0 ⟨1, 2, 0xFFFF⟩) ∧
    decodeMelfy 0 0b101001_011_0000000_0000000000000100 = some (.bpa 0 { p := 3, off := 4 }) ∧
    decodeMelfy 0 0b111000_00011_00001_01000_00000001010 = some (.cswp 0 ⟨3, 1, 8⟩) ∧
    decodeMelfy 0 0b111001_001_010_011_00100_1000_00000000 = some (.psetn 0 { pd := 1, pa := 2, pb := 3, g := 4 }) ∧
    decodeMelfy 0 0b111011_0001_0010_0011_100_01_0010_00101 = some (.vcmplt 0 ⟨1, 2, 3, 4, 1, 5⟩) := by decide
theorem test_word_traps : let t := runWord 0 0 State.reset
    (match t with | .next s => ((s.hart 0).mcause, (s.hart 0).mtval) | _ => (0, 0)) = (0x006, 0) ∧
    (match runWord 0 0x08BEFFC0 State.reset with | .next s => s.g 0 5 | _ => 0) = BitVec.ofNat 64 (2 ^ 64 - 64) := by decide +kernel

/-- PLERP's worked example: a = 0x1000, b = 0x9200, t = 0x4000 give 0x3080; PLUT then gives 0x0A40 from T[48], T[49]. -/
theorem test_plerp : elem 16 ((after (.plerp 0 ⟨4, 2, 3, 0, 1, 0⟩)
    (setV 0 2 0x1000 (setV 0 3 0x9200 (setV 0 4 0x4000 (sVec State.reset))))).v 0 4) 0 = 0x3080 := by decide +kernel
theorem test_plut : elem 16 ((after (.plut 0 ⟨4, 2, 3, 1, 1, 1⟩) (setP 0 1 1 (setV 0 2 0x3080 (putBytes (0x11800000 + 96)
    (leBytes 4 0x0A800A00) (sVec (sG 0x11800000 0 0)))))).v 0 4) 0 = 0x0A40 := by decide +kernel

/-- R48: division by zero and the signed overflow. -/
theorem test_div_zero : (after (.div 0 { d := 3, a := 1, b := 0 }) (sG 7 3 0)).g 0 3 = BitVec.allOnes 64 ∧
    (after (.rem 0 { d := 3, a := 1, b := 0 }) (sG 7 3 0)).g 0 3 = 7 := by decide +kernel
theorem test_div_overflow : (after (.div 0 { d := 3, a := 1, b := 2 }) (sG (2 ^ 63) (2 ^ 64 - 1) 0)).g 0 3 = BitVec.ofNat 64 (2 ^ 63) ∧
    (after (.rem 0 { d := 3, a := 1, b := 2 }) (sG (2 ^ 63) (2 ^ 64 - 1) 0)).g 0 3 = 0 := by decide +kernel
theorem test_add_wraps : (after (.add 0 { d := 1, a := 1, b := 2 }) (sG (2 ^ 64 - 1) 1 0)).g 0 1 = 0 := by decide +kernel
theorem test_add_word : (after (.add 0 { d := 1, a := 1, b := 2, w := true }) (sG 0x7FFFFFFF 1 0)).g 0 1 = 0xFFFFFFFF80000000 := by
  decide +kernel
theorem test_g0_reads_zero : (after (.add 0 { d := 0, a := 1, b := 2 }) (sG 7 3 0)).g 0 0 = 0 := by decide +kernel
theorem test_sra : (after (.sra 0 { d := 3, a := 1, b := 2 }) (sG (2 ^ 63) 63 0)).g 0 3 = BitVec.allOnes 64 := by decide +kernel
theorem test_mulh : (after (.mulh 0 { d := 3, a := 1, b := 2 }) (sG (2 ^ 64 - 1) 2 0)).g 0 3 = BitVec.allOnes 64 := by decide +kernel
theorem test_clz : (after (.clz 0 { d := 3, a := 1, b := 0 }) (sG 1 0 0)).g 0 3 = 63 := by decide +kernel
theorem test_lui : (after (.lui 0 ⟨3, 0, 0x8000⟩) State.reset).g 0 3 = 0xFFFFFFFF80000000 := by decide +kernel
theorem test_insh : (after (.insh 0 { d := 1, h := 3, imm := 0xABCD }) (sG 7 0 0)).g 0 1 = 0xABCD000000000007 := by decide +kernel
theorem test_shi_ror : (after (.shi 0 { d := 3, a := 1, kind := 3, w := true, sh := 4 }) (sG 0xF 0 0)).g 0 3 = 0xFFFFFFFFF0000000 := by
  decide +kernel

/-- InstructionTraps: a non-zero field, W where it is not listed, an unlisted control register, VE 0, element size 0b11, a misaligned
address, an instruction below its level. -/
theorem test_illegal_field : ((after (.add 0 { d := 1, a := 1, b := 2, z := 1 }) (sG 7 3 0)).hart 0).mcause = 0x206 := by decide +kernel
theorem test_illegal_w : ((after (.and 0 { d := 1, a := 1, b := 2, w := true }) (sG 7 3 0)).hart 0).mcause = 0x006 := by decide +kernel
theorem test_illegal_register : crInfo 13 = none ∧ ((after (.crd 0 ⟨1, 0, 13⟩) State.reset).hart 0).mcause = 0x306 := by decide +kernel
theorem test_vectors_off : ((after (.vadd 0 ⟨1, 2, 3, 0, 0, 0⟩) State.reset).hart 0).mcause = 0x106 := by decide +kernel
theorem test_element_size : ((after (.vadd 0 ⟨1, 2, 3, 0, 3, 0⟩) (sVec State.reset)).hart 0).mcause = 0x006 := by decide +kernel
theorem test_misaligned : let t := (after (.lw 0 ⟨1, 2, 2⟩) State.reset).hart 0
    t.mcause = 5 ∧ t.mtval = 2 := by decide +kernel
theorem test_below_level : let t := (after (.eret 0 ⟨0, 0, 0⟩) (sLow 0 State.reset)).hart 0
    t.cause = 4 ∧ t.tval.toNat = 0x38 * 2 ^ 26 + 2 ∧ t.pl = 1 ∧ t.pc = 0x800001000 ∧ t.epc = 0x800000000 := by decide +kernel

/-- LoadsAndStores and AtomicsReadModifyWrite: an aligned address in general scratch. -/
theorem witness_loads : (dataXlate 0 .read 0x11800008 (sG 0x11800000 0 0)) = (.ok (0x11800008, true), sG 0x11800000 0 0) ∧
    (sG 0x11800000 0 0).plainMem 0x11800008 8 := ⟨rfl, by decide +kernel, by decide +kernel, by decide +kernel⟩
theorem test_load_sign : (after (.lh 0 ⟨4, 1, 2⟩) (putBytes 0x11800002 [0xFE, 0xFF] (sG 0x11800000 0 0))).g 0 4 = 0xFFFFFFFFFFFFFFFE := by
  decide +kernel
theorem witness_stores : Memory.wf (sG 0x11800000 0 0).mem = true ∧
    dataXlate 0 .write 0x11800000 (sG 0x11800000 0 0) = (.ok (0x11800000, true), sG 0x11800000 0 0) := ⟨by decide +kernel, rfl⟩
theorem test_store : (after (.sw 0 ⟨2, 1, 4⟩) (sG 0x11800000 0x11223344 0)).bytes 0x11800000 9 =
    [0, 0, 0, 0, 0x44, 0x33, 0x22, 0x11, 0] := by decide +kernel
theorem test_cas : let s := sG 0x11800000 9 0
    (after (.atomicCas 0 { d := 3, a := 1, b := 2, wide := false }) s).bytes 0x11800000 4 = [9, 0, 0, 0] ∧
    (after (.atomicCas 0 { d := 2, a := 1, b := 2, wide := false }) s).bytes 0x11800000 4 = [0, 0, 0, 0] := by decide +kernel
theorem test_atomic_min : let s := putBytes 0x11800000 [0xFF, 0xFF, 0xFF, 0xFF] (sG 0x11800000 1 0)
    (after (.atomicMin 0 { d := 3, a := 1, b := 2, wide := false }) s).bytes 0x11800000 4 = [0xFF, 0xFF, 0xFF, 0xFF] ∧
    (after (.atomicMin 0 { d := 3, a := 1, b := 2, wide := false }) s).g 0 3 = BitVec.allOnes 64 := by decide +kernel

/-- BranchesAndJumps: offsets count words; JLR drops the low bits. -/
theorem test_blt : ((after (.blt 0 ⟨1, 2, 0xFFFF⟩) (hart 0 (fun k => { k with pc := 0x100 }) (sG (2 ^ 64 - 1) 0 0))).hart 0).pc = 0xFC := by
  decide +kernel
theorem test_jlr : let t := (after (.jlr 0 ⟨1, 1, 3⟩) (hart 0 (fun k => { k with pc := 0x100 }) (sG 0x204 0 0))).hart 0
    t.pc = 0x204 ∧ SMap.get t.g 1 0 = 0x104 := by decide +kernel
theorem test_bpa : ((after (.bpa 0 { p := 0, off := 4 }) State.reset).hart 0).pc = 16 ∧
    ((after (.bpz 0 { p := 0, off := 4 }) State.reset).hart 0).pc = 4 := by decide +kernel

/-- TrapEntryAndReturn: each bank, a trap in a trap, ERET from each level, and an NMI to deliver. -/
theorem test_syscall_kernel : let t := (after (.syscall 0 ⟨0, 0, 0⟩) (sLow 0 State.reset)).hart 0
    t.cause = 0x20 ∧ t.epc = 0x800000000 ∧ t.pl = 1 ∧ t.sb 6 = true := by decide +kernel
theorem test_trap_in_kernel_trap : let t := (enterTrap 0 0x20 5 8 (hart 0 (fun k => { k with status := 0x41 }) State.reset)).hart 0
    t.mcause = 0x20 ∧ t.mtval = 5 ∧ t.mepc = 8 ∧ t.pl = 2 ∧ bits t.status.toNat 11 10 = 1 := by decide +kernel
theorem test_trap_in_monitor_trap : let t := enterTrap 0 0x20 0 8 (hart 0 (fun k => { k with status := 0x2002 }) State.reset)
    (t.hart 0).st = .dead ∧ (t.fltSet .mel).stat.getLsbD 3 = true ∧ (t.fltSet .mel).cap.addr = 8 := by decide +kernel
theorem test_eret_kernel : let t := (after (.eret 0 ⟨0, 0, 0⟩) (hart 0 (fun k => { k with status := 0x61, epc := 0x900 }) (sLow 1 State.reset))).hart 0
    t.pl = 0 ∧ t.sb 4 = true ∧ t.sb 6 = false ∧ t.pc = 0x900 := by decide +kernel
theorem test_eret_monitor : let t := (after (.eret 0 ⟨0, 0, 0⟩) (hart 0 (fun k => { k with status := 0x2402, mepc := 0x900 }) State.reset)).hart 0
    t.pl = 1 ∧ t.sb 13 = false ∧ t.pc = 0x900 := by decide +kernel
theorem witness_nmi : let s := { State.reset with nmi := [5] }
    s.coresOn = true ∧ s.nmiNext = some 5 ∧ s.nmiHart 5 = 0 ∧ (s.hart 0).sb 13 = false ∧
    ((after .nmiDelivery s).hart 0).mcause = BitVec.ofNat 64 (2 ^ 63 + 2 ^ 62 + 5) := by decide +kernel
theorem test_yield : ((after (.yield 0 ⟨0, 0, 0⟩) (sLow 0 State.reset)).hart 0).cause = 0x31 ∧
    ((after (.yield 0 ⟨0, 0, 0⟩) (sLow 1 State.reset)).hart 0).pc = 0x800000004 := by decide +kernel

/-- ControlRegisterAccess: registers that each level may read and write, .cycle aside. -/
theorem witness_control_registers : crMay false 0 0 = true ∧ crMay true 0 4 = true ∧ crMay true 1 0 = true ∧ crMay true 2 20 = true ∧
    crMay true 2 5 = false ∧ crMay true 0 0 = false := by decide
theorem test_cset : let t := after (.cset 0 ⟨3, 1, 8⟩) (hart 0 (fun k => { k with scratch := 0xF0 }) (sG 0x0F 0 0))
    (t.hart 0).scratch = 0xFF ∧ t.g 0 3 = 0xF0 := by decide +kernel
theorem test_status_keeps_level : ((after (.cwr 0 ⟨0, 1, 0⟩) (sG 0x110 0 0)).hart 0).status = 0x112 := by decide +kernel

/-- ContextInstructions: a STOPPED, a PARKED, a WAITING and a DEAD peer, and the context itself. -/
theorem test_ctxstart : ((after (.ctxstart 0 ⟨0, 1, 0⟩) (sG 1 0 0)).hart 1).st = .running ∧
    ((after (.ctxstart 0 ⟨0, 1, 0⟩) (hart 1 (fun k => { k with st := .waiting }) (sG 1 0 0))).hart 1).st = .waiting := by decide +kernel
theorem test_ctxstart_delivers : let t := (after (.ctxstart 0 ⟨0, 1, 1⟩)
      (hart 1 (fun k => { k with st := .parked, status := 0x8000, cause := 1, epc := 0x40, tval := 0x48, ivec := 0x200 }) (sG 1 0 0))).hart 1
    t.st = .running ∧ t.pl = 1 ∧ t.pc = 0x200 ∧ t.cause = 1 ∧ t.epc = 0x40 ∧ t.tval = 0x48 := by decide +kernel
theorem test_ctx_dead : let t := (after (.ctxgrd 0 ⟨3, 1, 2⟩) (hart 1 (fun k => { k with st := .dead }) (sG 1 0 0))).hart 0
    t.mcause = 0x404 ∧ t.mtval = 1 := by decide +kernel
theorem test_ctxcwr_level : ((after (.ctxcwr 0 ⟨2, 1, 0⟩) (sLow 1 (sG 1 2 0))).hart 1).pl = 1 := by decide +kernel
theorem test_ctxstop_self : ((after (.ctxstop 0 ⟨0, 1, 0⟩) (sG 0 0 0)).hart 0).st = .stopped := by decide +kernel

/-- FencesAndInvalidations: a translation that TLBINV selects and one it does not. -/
theorem witness_fences : dataXlate 0 .read 0x11800000 (sG 0x11800000 0 0) = (.ok (0x11800000, true), sG 0x11800000 0 0) ∧
    (sG 0x11800000 0 0).hart 0 = (sG 0x11800000 0 0).hart 0 := ⟨rfl, rfl⟩
theorem test_tlbinv : let e (a : Nat) : TlbEntry := ⟨.cluster 0, a, false, 0x1000, 0x1000, 0x800000000, 0⟩
    (after (.tlbinv 0 ⟨0, 1, 2⟩) { sG 5 0x1800 0 with mel := { (sG 5 0x1800 0).mel with tlb := [e 5, e 6] } }).mel.tlb = [e 6] := by
  decide +kernel

/-- PredicateResults, VectorResults, VectorMemory. -/
theorem test_pfirst : (after (.pfirst 0 { pd := 2, pa := 1, pb := 0, g := 0 }) (setP 0 1 0x68 State.reset)).p 0 2 = 0x8 := by decide +kernel
theorem test_psetn : (after (.psetn 0 { pd := 1, pa := 0, pb := 0, g := 1 }) (sG 8 0 0)).p 0 1 = 0xFF ∧
    (after (.psetn 0 { pd := 1, pa := 0, pb := 0, g := 1 }) (sG 64 0 0)).p 0 1 = BitVec.allOnes 64 := by decide +kernel
theorem test_vadd_inactive : let t := (after (.vadd 0 ⟨3, 1, 2, 1, 0, 0⟩)
      (setP 0 1 1 (setV 0 1 0x0202 (setV 0 2 0x01FF (setV 0 3 0x0909 (sVec State.reset)))))).v 0 3
    elem 8 t 0 = 1 ∧ elem 8 t 1 = 9 := by decide +kernel
theorem test_pmulg : elem 16 ((after (.pmulg 0 ⟨3, 1, 2, 0, 1, 0⟩) (setV 0 1 0x8000 (setV 0 2 0x4000 (sVec State.reset)))).v 0 3) 0 = 0x8000 := by
  decide +kernel
theorem test_ppack : elem 16 ((after (.ppack 0 ⟨3, 1, 2, 0, 1, 0⟩) (setV 0 1 300 (setV 0 2 20 (sVec State.reset)))).v 0 3) 0 = 0xFFF := by
  decide +kernel
theorem test_vcmp : (after (.vcmplt 0 ⟨1, 1, 2, 0, 1, 0⟩) (setV 0 1 0x8000 (setV 0 2 0x0001 (sVec State.reset)))).p 0 1 = 1 := by decide +kernel
theorem test_vredadd : (after (.vredadd 0 ⟨0, 1, 0, 1, 1, 3⟩) (setP 0 1 3 (setV 0 1 0x00020001FFFF (sVec State.reset)))).g 0 3 = 0x10000 := by
  decide +kernel
theorem witness_reduction : let s := setP 0 1 3 (sVec State.reset)
    [0, 1].Nodup ∧ ∀ i < 32, i ∈ [0, 1] ↔ s.actE 0 1 i := by decide +kernel
theorem witness_vector_memory : let s := setP 0 1 3 (sVec (sG 0x11800000 4 0))
    ((s.hart 0).pl = 2 ∨ (s.hart 0).ptroot.getLsbD 0 = false) ∧ Memory.wf s.mem = true ∧
    ∀ m : Fin 3, ∀ i < 2, let a := s.vaddr 0 { vt := 1, ga := 1, bx := 2, pg := 1, esz := 1, mode := m.castSucc } i
      a % 2 = 0 ∧ (s.region a = .scratch ∧ s.region (a + 1) ≠ .none) := by decide +kernel
theorem test_vst_strided : (after (.vst 0 { vt := 1, ga := 1, bx := 2, pg := 1, esz := 1, mode := 1 })
    (setP 0 1 3 (setV 0 1 0x22221111 (sVec (sG 0x11800000 4 0))))).bytes 0x11800000 8 = [0x11, 0x11, 0, 0, 0x22, 0x22, 0, 0] := by decide +kernel
theorem test_vld_indexed : elem 16 ((after (.vld 0 { vt := 1, ga := 1, bx := 2, pg := 1, esz := 1, mode := 2 })
    (setP 0 1 1 (setV 0 2 3 (putBytes 0x11800006 [0x34, 0x12] (sVec (sG 0x11800000 0 0)))))).v 0 1) 0 = 0x1234 := by decide +kernel

/-- ParkedAndPartialFaults: element 1 of a strided load is misaligned; a task-level page fault with FPK 1. -/
theorem witness_partial : let s := setP 0 1 3 (putBytes 0x11800000 [0x34, 0x12] (sVec (sG 0x11800000 3 0)))
    let f : VmForm := { vt := 1, ga := 1, bx := 2, pg := 1, esz := 1, mode := 1 }
    s.vaddr 0 f 0 % 2 = 0 ∧ s.vaddr 0 f 1 % 2 ≠ 0 ∧ s.actE 0 1 0 ∧ s.actE 0 1 1 ∧
    (let t := after (.vld 0 f) s
     (t.hart 0).mcause = 0x507 ∧ (t.hart 0).vstart = 1 ∧ (t.hart 0).mtval = 0x11800003 ∧ elem 16 (t.v 0 1) 0 = 0x1234) := by decide +kernel
theorem witness_parks : let s := hart 0 (fun k => { k with status := 0x8000 }) (sLow 0 State.reset)
    (s.hart 0).pl = 0 ∧ (s.hart 0).sb 15 = true ∧ (s.hart 0).sb 6 = false ∧
    ((except 0 ⟨2, 0, 0x5000⟩ s).hart 0).st = .parked ∧ ((except 0 ⟨5, 0, 0x5001⟩ s).hart 0).pl = 1 := by decide +kernel

/-- Two interrupts of equal PRIO: the lower identifier is taken. -/
def sIrq : State :=
  setFlag (F.melIrqRouteEN.at 8) true (setFlag (F.melIrqRouteEN.at 12) true { hart 0 (fun k => { k with status := 0x12, mivec := 0x100 }) State.reset
    with evt := [2, 3] })

/-- InterruptsAndSoftwareEvents. -/
theorem witness_interrupt : sIrq.presented 0 = [2, 3] ∧ sIrq.nmiDue 0 = false ∧ sIrq.coresOn = true ∧
    (let t := after (.interruptTake 0) sIrq
     (t.hart 0).mcause = BitVec.ofNat 64 (2 ^ 63 + 2) ∧ t.evt = [3] ∧ t.mel.inService = [2]) ∧
    State.reset.presented 0 = [] := by decide +kernel
theorem witness_wfi : ((after (.wfiWake 0) (hart 0 (fun k => { k with st := .waiting }) sIrq)).hart 0).st = .running := by decide +kernel
theorem witness_timer : let s := hart 0 (fun k => { k with status := 0x4000, tmr := 9 }) (sLow 0 State.reset)
    let u := after (.preemptionTimerExpiry 0) (hart 0 (fun k => { k with status := 0x4000, tmr := 9 }) s)
    (u.hart 0).tcnt = 9 ∧ (u.hart 0).tmrPending = true ∧ ((after (.preemptionTrap 0) u).hart 0).cause = 0x30 := by decide +kernel
theorem test_eoi : let s := after (.softwareInterrupt 0x5) State.reset
    s.pendingIds = [33, 35] ∧ (after (.eoi 33) s).pendingIds = [35] ∧ s.inReset .mel = false := by decide +kernel

/-! DMA, queues, check values, timers and mailboxes. -/

/-- A descriptor in general scratch: FILL of one row of 8 bytes at 0x11800100, both sides physical, LAST and IRQ. -/
def fillDesc : List Byte :=
  leBytes 4 (2 * 2 ^ 28 + 2 ^ 27 + 2 ^ 26 + 2 ^ 24 + 0x55) ++ leBytes 4 0 ++ leBytes 8 0 ++ leBytes 8 0x11800100 ++ leBytes 4 8 ++ leBytes 4 1 ++
  leBytes 4 0 ++ leBytes 4 0 ++ leBytes 8 0x0807060504030201 ++ leBytes 8 0 ++ leBytes 8 0

/-- Channel 12 RUNNING on that descriptor. -/
def sFill : State :=
  setChan 12 { stage := .data, desc := some (parseDesc fillDesc) } (setFld (F.dmaChStatSTATE.dma 12) 1 State.reset)

/-- DmaCommandsAndFill: START from IDLE (its descriptor cannot be read under ASID 0) and while RUNNING, a PAUSED and a PARKED channel
with and without a descriptor, and the burst of a FILL. -/
theorem witness_dma_start : State.reset.inReset .mmu = false ∧ State.reset.chSt 12 = 0 ∧
    ((after (.dmaStart 12) State.reset).chSt 12 = 3 ∨ (after (.dmaStart 12) State.reset).chSt 12 = 4) ∧
    ((after (.dmaStart 12) sFill).fltSet .mmu).stat.getLsbD 1 = true ∧ after (.dmaStart 7) State.reset = State.reset := by decide +kernel
theorem witness_dma_commands : (after (.dmaPause 12) sFill).chSt 12 = 2 ∧ (after (.dmaResume 12) (after (.dmaPause 12) sFill)).chSt 12 = 1 ∧
    (sFill.chan 12).desc ≠ none ∧ (after (.dmaAbort 12) sFill).chSt 12 = 0 ∧
    (after (.dmaAbort 12) sFill).fld (F.dmaChStatRESULT.dma 12) = 0x41 ∧
    (after (.dmaAbort 12) (setChan 12 {} sFill)).fld (F.dmaChStatRESULT.dma 12) = 0x41 := by decide +kernel
theorem witness_descriptor : descBad fillDesc (parseDesc fillDesc) true = false ∧ descBad fillDesc (parseDesc fillDesc) false = true := by
  decide +kernel
theorem witness_fill : sFill.outranked 12 = false ∧ (parseDesc fillDesc).kind = 2 ∧ (parseDesc fillDesc).physDst = true ∧
    Memory.wf sFill.mem = true ∧ (sFill.region 0x11800100 = .scratch ∧ sFill.region 0x11800107 ≠ .none) ∧
    (let t := after (.dmaTransferBurst 12) sFill
     t.bytes 0x118000FF 10 = [0, 1, 2, 3, 4, 5, 6, 7, 8, 0] ∧ (t.chan 12).stage = .status ∧ t.fld (F.dmaChPosROW.dma 12) = 1) := by decide +kernel

/-- Channel 12 with that descriptor at 0x11900000 under ASID 1. -/
def sRun : State := sMapped (putBytes 0x11900000 fillDesc (setFld (F.dmaChDescADDR.dma 12) 0x11900000 (setFld (F.dmaChCtrlASID.dma 12) 1 State.reset)))

theorem witness_dma_run : let t := after (.dmaStart 12) sRun
    t.chSt 12 = 1 ∧ (t.chan 12).desc = some (parseDesc fillDesc) ∧
    ((after (.dmaTransferBurst 12) t).chan 12).stage = .status := by decide +kernel
theorem witness_dma_malformed : let t := after (.dmaStart 12) (setFlag F.mmuCtrlPHYSOK false sRun)
    t.chSt 12 = 4 ∧ t.fld (F.dmaChStatRESULT.dma 12) = 0x40 := by decide +kernel

/-- DmaCompletionAndFaults: a channel at the STATUS word of its descriptor; what a fault records, by cause. -/
theorem witness_dma_complete : let s := setChan 12 { stage := .status, desc := some (parseDesc fillDesc) } (setFld (F.dmaChStatSTATE.dma 12) 1 sRun)
    let t := after (.descriptorComplete 12) s
    t.chSt 12 = 0 ∧ t.fld (F.dmaChStatCOUNT.dma 12) = 1 ∧ t.evt = [93] ∧ t.bytes 0x11900038 4 = [0x55, 0, 0, 0x80] ∧
    (ioWrite (dmaWho 12) .general false 1 0x11900038 (leBytes 8 (s.gt % 2 ^ 32 * 2 ^ 32 + 2 ^ 31 + 0x55)) s).1 = none := by decide +kernel
theorem witness_dma_fault : sFill.flag F.mmuFltqEN = false ∧ (chFault 12 2 ⟨2, 0⟩ 0x1234 sFill).chSt 12 = 3 ∧
    (chFault 12 2 ⟨1, 0⟩ 0x1234 sFill).chSt 12 = 4 ∧ ((chFault 12 2 ⟨1, 0⟩ 0x1234 sFill).fltSet .mmu).stat.getLsbD 6 = true ∧
    (81 + 12) ∈ (chFault 12 2 ⟨2, 0⟩ 0x1234 sFill).evt ∧
    (chFault 12 2 ⟨2, 0⟩ 0x1234 sFill).fld ((F.dmaChFrecW.dma 12).at 8) = 0x1234 := by decide +kernel

/-- Queue 40 enabled with a quota of 8 cells. -/
def sQ (s : State) : State := setFlag (F.qmQCfgEN.q 40) true (setFld (F.qmQCfgQUOTA.q 40) 8 s)

/-- A command of slot 3 on queue 40. -/
def op (len : Nat) : QmOp := { slot := 3, len := BitVec.ofNat 16 len, asid := 1, queue := 40 }

/-- The command is performed and its completion posted. -/
def ran (c : Instr) (s : State) : State := after (.queueCmdComplete 3) (after c s)

/-- RESULT of slot 3. -/
def res (s : State) : Nat := s.fld (F.qmSlotResRESULT.slot 3)

/-- Queue 40 holding one item of two bytes that a hardware block pushed. -/
def sItem : State := (hwPush 40 [0x11, 0x22] (sQ State.reset)).2

theorem witness_qm_ready : (sQ State.reset).qmReady (op 4) := by
  refine ⟨?_, ?_, ?_, ?_, ?_, ?_, ?_, ?_⟩ <;> decide +kernel

/-- QueueCommandsAndCompletion: a push of an idle item with quota for one cell more, an empty queue, an item too long for the buffer,
a mark, a lost mark, a rewind, an unmark, a reset. -/
theorem witness_push_idle : let t := ran (.pushIdle (op 0)) (sQ State.reset)
    res t = 0 ∧ (t.queue 40).a.items = 1 ∧ (t.queue 40).a.cells = 1 ∧ (sQ State.reset).freeCells = 16384 ∧
    t.fld (F.qmSlotResSTATE.slot 3) = 2 ∧ t.fld (F.qmSlotResITEMS.slot 3) = 1 := by decide +kernel
theorem witness_pop_refused : res (ran (.pop (op 4)) (sQ State.reset)) = 1 ∧ res (ran (.pop (op 1)) sItem) = 4 ∧
    (sItem.queue 40).a.head = some 0 ∧ (SMap.get sItem.qm.cells 0 {}).last = true := by decide +kernel
theorem witness_flush : sItem.parkedPushCells 40 = [] ∧ SMap.rising sItem.qm.cells none = true ∧
    ((after (.flush (op 0)) sItem).queue 40).a = {} ∧ (after (.flush (op 0)) sItem).qm.cells = [] := by decide +kernel
theorem witness_mark : let m := ran (.mark (op 0)) sItem
    let p := (hwPop 40 m).2
    (m.queue 40).a.marked = true ∧ (p.queue 40).a.items = 0 ∧ ((ran (.rewind (op 0)) p).queue 40).a.items = 1 ∧
    res (ran (.unmark (op 0)) m) = 0 ∧ res (ran (.unmark (op 0)) sItem) = 8 ∧ res (ran (.rewind (op 0)) sItem) = 8 ∧
    res (ran (.rewind (op 0)) (setQueue 40 { sItem.queue 40 with lost := true } sItem)) = 7 := by decide +kernel
theorem witness_queue_reset : let t := after (.queueReset (op 0)) sItem
    (t.queue 40).st = .resetting ∧ after (.queueCmdComplete 3) t = t ∧ after (.queueResetScanEnd 40) t = t ∧
    ((after (.queueResetScanEnd 40) { t with now := t.now + 2560 }).queue 40).a.items = 0 := by decide +kernel

/-- The worked example of the rewind mark: quota 8, three marked items popped and retained, five pushed, the sixth push drops the mark. -/
theorem test_mark_lost : let push := fun (s : State) => (hwPush 40 [1] s).2
    let p := (hwPop 40 (hwPop 40 (hwPop 40 (ran (.mark (op 0)) (push (push (push (sQ State.reset)))))).2).2).2
    let t := push (push (push (push (push p))))
    (t.queue 40).a.cells = 8 ∧ (t.queue 40).lost = false ∧ ((push t).queue 40).lost = true ∧ ((push t).queue 40).a.cells = 6 := by decide +kernel

/-- A push that parked with no cell filled, and a flushed pop. -/
def sParked (push flushed : Bool) : State :=
  let s := setFld (F.qmSlotResSTATE.slot 3) 3 (allocItem 40 false [0, 0] [0] (sQ State.reset))
  { s with qm := { s.qm with parks := [(2, { slot := 3, isPush := push, queue := 40, asid := 1, addr := 0x11900000, len := 2, cells := [0], done := 0,
                                              flushed := flushed })] } }

theorem witness_park : let a := after (.parkAbort 2) (sParked true false)
    a.fld (F.qmSlotResRESULT.slot 3) = 0x0B ∧ (a.queue 40).a.cells = 0 ∧ (after (.parkResume 2) (sParked false true)).fld (F.qmSlotResRESULT.slot 3) = 0x0A ∧
    (let r := after (.parkResume 2) (sMapped (putBytes 0x11900000 [7, 8] (sParked true false)))
     r.fld (F.qmSlotResRESULT.slot 3) = 0 ∧ r.headBytes 40 = [7, 8]) := by decide +kernel

/-- QueuePushAndPop and QueueKeepsItemBytes. -/
theorem witness_push_pop : let s := setFld (F.qmSlotAddrADDR.slot 3) 0x11900000 (sMapped (sQ (putBytes 0x11900000 [7, 8] State.reset)))
    let t := ran (.push (op 2)) s
    (judgePush 40 1 s).1 = none ∧ res t = 0 ∧ t.headBytes 40 = [7, 8] ∧
    (let p := ran (.pop (op 4)) (setFld (F.qmSlotAddrADDR.slot 3) 0x11900010 (sMapped sItem))
     res p = 0 ∧ p.fld (F.qmSlotResLEN.slot 3) = 2 ∧ p.bytes 0x11900010 3 = [0x11, 0x22, 0] ∧ p.qm.cells = []) := by decide +kernel
theorem witness_hw_push : (hwPush 40 [0x11, 0x22] (sQ State.reset)).1 = true ∧ (sQ State.reset).queue 40 = {} ∧ (hwPop 40 sItem).1 = some [0x11, 0x22] := by
  decide +kernel

/-- ClusterServices: the worked example of CRC-32C over "123456789" in set 0 of cluster 1. -/
theorem test_crc32c : let t := after (.crcDin 1 0 0 0x39) (after (.crcDin 1 0 2 0x38373635) (after (.crcDin 1 0 2 0x34333231)
      (after (.crcAlgWrite 1 0 3) State.reset)))
    crcRes 1 0 t = 0xE3069283 := by decide +kernel
theorem test_crc64 : crcOf (crcAlg 4) [0x31, 0x32, 0x33, 0x34, 0x35, 0x36, 0x37, 0x38, 0x39] = 0x6C40DF5F0B497347 := by decide +kernel

/-- A cluster timer due at 100 with a period of 30, GT being 170: two expiries are missed. -/
def sTimer (per : Nat) : State :=
  setFlag (F.melTmrCtrlEN.tmr 2) true (setFld (F.melTmrCtrlQUEUE.tmr 2) 40 (setFld (F.melTmrCmpCMP.tmr 2) 100 (setFld (F.melTmrPerPER.tmr 2) per
    { sQ State.reset with gtFine := 170 * 1000000000 })))

theorem witness_timer_expiry : let t := after (.timerExpiry 2) (sTimer 30)
    (sTimer 30).gt = 170 ∧ t.fld (F.melTmrCmpCMP.tmr 2) = 190 ∧ t.fld (F.melTmrCtrlMISSED.tmr 2) = 2 ∧
    t.headBytes 40 = leBytes 8 2 ++ leBytes 8 100 ++ leBytes 8 170 ∧
    (after (.timerExpiry 2) (sTimer 0)).flag (F.melTmrCtrlEN.tmr 2) = false := by decide +kernel
theorem witness_mailbox : let c := after (.mbxClaim 3 5) State.reset
    State.reset.flag (F.melMbxCtrlCLAIMED.mbx 3) = false ∧ c.mbxOwned 3 5 = true ∧ after (.mbxClaim 3 6) c = c ∧
    (after (.mbxSend 3 5) c).pendingIds = [36] ∧ (after (.mbxSend 3 6) c).pendingIds ≠ [36] ∧
    (after (.mbxAck 3 3) c).flag (F.melMbxCtrlCLAIMED.mbx 3) = false ∧ after (.mbxAck 3 5) c = c := by decide +kernel

/-! Queue and time, faults, resets, commits, frames, registers. -/

/-- StepRunsFrontCommandOrIdles. -/
theorem witness_idle : State.reset.pending = [] ∧ (State.reset.dom State.reset.active).r ≤ 999500000 ∧
    (match step State.reset with | .next t => t.now | _ => 0) = 1 := by decide +kernel
theorem test_step_runs_front : (match step { sG 7 3 0 with pending := [.add 0 { d := 3, a := 1, b := 2 }, .cancel] } with
    | .next t => (t.g 0 3, t.pending) | _ => (0, [])) = (10, [.cancel]) := by decide +kernel
theorem witness_memory_canonical : Memory.wf State.reset.mem = true ∧ Memory.wf (putBytes 5 [1, 0, 2] State.reset).mem = true ∧
    (putBytes 5 [0, 0] (putBytes 5 [1, 2] State.reset)).mem = [] := by decide +kernel
theorem witness_reset : State.reset.isOff = false ∧ State.reset.rst.held = false ∧ State.reset.rst.rstStuck = false := by decide +kernel

/-- FaultEventsAndReactions: a source without a reset reaction, first and again; a shadowed source; FLT_FORCE; handshake timeouts. -/
theorem witness_fault_event : let s := State.reset
    s.shadowed .mel 3 {} = false ∧ (s.react .mel 3).getLsbD 2 = false ∧ (s.react .mel 3).getLsbD 3 = false ∧
    (let t := raise .mel 3 { addr := 8, mstr := 9, typ := 2 } s
     (t.fltSet .mel).stat = 8 ∧ (t.fltSet .mel).cap.mstr = 9 ∧ (t.fltSet .mel).cap.typ = 2 ∧
     ((raise .mel 4 { addr := 1 } t).fltSet .mel).cap.addr = 8 ∧ ((raise .mel 4 { addr := 1 } t).fltSet .mel).stat = 0x18) := by decide +kernel
theorem witness_shadowed : let s := startBlockReset .mel State.reset
    s.shadowed .mmu 0 { into := some .mel } = true ∧ ((raise .mmu 0 { into := some .mel } s).fltSet .mmu).conseq = 1 ∧
    ((raise .mmu 0 { into := some .mel } s).fltSet .mmu).stat = 0 := by decide +kernel
theorem witness_force : hasSource .can 3 = true ∧ hasSource .can 2 = false ∧ (State.reset.react .can 3).getLsbD 2 = false ∧
    (State.reset.react .can 3).getLsbD 3 = false ∧
    (let t := (after (.fltForce .can 8) State.reset).fltSet .can; t.stat = 8 ∧ t.cap.typ = 7 ∧ t.raw = 0) ∧
    ((after (.fltCapClr .can) (after (.fltForce .can 8) State.reset)).fltSet .can).cap.valid = false := by decide +kernel
theorem witness_hs_timeout : let x : Crossing := ⟨.mel, .nvm, 0x40000000, .hart 0⟩
    let u := raise .mel 0 { addr := 0x40000000, mstr := 0, into := some .nvm } State.reset
    (u.hart 0).st = .running ∧ u.coresOn = true ∧ ((after (.hsTimeout x) State.reset).hart 0).mcause = 0x11 ∧
    ((after (.hsTimeout x) State.reset).hart 0).mtval = 0x40000000 ∧
    ((after (.hsTimeout { x with waiter := .none }) State.reset).fltSet .mel).stat = 1 := by decide +kernel

/-- DeviceAndBlockResets: the block resets of MEL and DDR, their ends and shadows; system and warm resets; the pins. -/
theorem witness_block_reset : let t := startBlockReset .crc State.reset
    t.inReset .crc = true ∧ SMap.find t.blkReset Blk.crc.id = some 16000 ∧ SMap.find t.shadow Blk.crc.id = some 80000 ∧
    SMap.find (startBlockReset .ddr State.reset).blkReset Blk.ddr.id = some 2000000 ∧ after (.blockResetEnd .crc) t = t ∧
    (after (.blockResetEnd .crc) { t with now := 16000 }).inReset .crc = false ∧ after (.resetShadowEnd .crc) t = t ∧
    (after (.resetShadowEnd .crc) { t with now := 80000 }).shadowOf .crc = false ∧
    SMap.rising t.blkReset none = true ∧ SMap.rising t.shadow none = true := by decide +kernel
theorem witness_system_reset : let s := putBytes 0x8010000 [5] (putBytes 0x11800000 [6] State.reset)
    let t := after (.rstCmdSystem 0x5A5) s
    t.mem = [(0x8010000, 5)] ∧ t.flag F.sysRstCauseSYSCMD = true ∧ after (.rstCmdSystem 0x5A4) s = s ∧
    after (.rstCmdWarm 0) s = s := by decide +kernel
theorem witness_reset_pin : let t := after .systemReset State.reset
    t.rst.held = true ∧ t.flag F.sysRstCausePIN = true ∧ (after .systemResetEnd t).rst.held = false ∧ after .rstPinStuck t = t ∧
    (let u := after .rstPinStuck { t with now := 10000000000 }
     (u.fltSet .sys).stat.getLsbD 7 = true ∧ u.rst.rstStuck = true ∧ after .systemReset u = u ∧
     (after .resetPinRearm u).rst.rstStuck = false) := by decide +kernel
theorem witness_svc_pin : let u := after .svcPinStuck State.reset
    (u.fltSet .sys).stat.getLsbD 8 = true ∧ after .warmReset u = u ∧ (after .svcPinRearm u).rst.svcStuck = false := by decide +kernel
theorem witness_warm_reset : State.reset.pwr.st ≠ .s2 ∧
    (let t := after .warmReset { sQ (putBytes 0x11800000 [6] State.reset) with gtFine := 5 }
     t.mem = [(0x11800000, 6)] ∧ t.gtFine = 5 ∧ t.qm = {} ∧ t.flag F.sysRstCauseWARMPIN = true ∧ (t.hart 0).st = .running) ∧
    (after (.rstCmdWarm 0x5A5) State.reset).flag F.sysRstCauseWARMCMD = true := by decide +kernel

/-- The worked example of the commit window: FRAME_START(1000) at GT 0, TARGET 1002, GROUP 0x022. -/
def sWindow (gt : Nat) : State :=
  { setFld F.ptpFrameEpochEPOCH (2 ^ 64 - 8333333333) (setFlag F.ptpCtrlTLEN true State.reset) with gtFine := gt * 1000000000 }

theorem test_commit_window : (sWindow 0).startI 1000 = 0 ∧ (sWindow 0).windowClose 1002 0x022 = 8083333 ∧
    (after (.go 1002 0x022 false) (sWindow 7900000)).commit.pend = some { target := 1002, group := 0x022 } ∧
    (let t := after (.go 1002 0x022 false) (sWindow 8100000)
     t.commit.pend = some { target := 1003, group := 0x022 } ∧ t.flag F.sysCommitStatCOMMITLATE = true ∧ 4 ∈ t.evt) := by decide +kernel

/-- CommitSubmissionAndWindow: ASAP, a second GO, an empty group, CANCEL of a commit that entry 5 submitted, the window of a commit of
DIAG before its instant and at it, and a refusal by SRC in reset. -/
theorem witness_go : (after (.go 0 0x080 true) (sWindow 0)).commit.pend = some { target := 1001, group := 0x080 } ∧
    ((after (.go 9 1 false) (after (.go 1002 0x080 false) (sWindow 0))).fltSet .sys).stat.getLsbD 5 = true ∧
    (after (.go 1002 0 false) (sWindow 0)).fld F.sysCommitCodeCODE = 2 ∧ after .cancel (sWindow 0) = sWindow 0 := by decide +kernel
theorem witness_cancel : let t := after .cancel (setPend (some { target := 9, group := 0x080, sat := some 5 }) (sWindow 0))
    t.commit.pend = none ∧ 681 ∈ t.evt ∧ t.fld (F.satECtrlSTATE.at 0xA0) = 4 := by decide +kernel
theorem witness_window_close : let s := after (.go 1002 0x080 false) (sWindow 0)
    after .commitWindowClose s = s ∧
    (let t := after .commitWindowClose { s with gtFine := 16500000 * 1000000000 }
     t.commit.pend = none ∧ t.commit.armed.length = 1 ∧ 2 ∈ t.evt ∧ t.flag F.sysCommitStatARMED = true) := by decide +kernel
theorem witness_window_refused : let s := { startBlockReset .src (after (.go 1002 1 false) (sWindow 0)) with gtFine := 8200000 * 1000000000 }
    let t := after .commitWindowClose s
    (validate 1 s).1 = some (0, 1) ∧ t.commit.armed = [] ∧ t.fld F.sysCommitStatREFUSEMEMBER = 0 ∧ t.fld F.sysCommitCodeCODE = 1 ∧ 5 ∈ t.evt := by
  decide +kernel

/-- CommitsApplyWhole: a commit of DIAG at its frame. -/
theorem witness_apply : let c : ArmedCommit := { target := 7, group := 0x080, values := [(F.diagCtrlDARKAUDIT.key, 1)], pipeDone := true }
    let s := { State.reset with commit := { State.reset.commit with armed := [c] } }
    c.group.toNat % 32 = 0 ∧ s.diag.stk = [] ∧ (applyCommits 7 s).inForce = [(F.diagCtrlDARKAUDIT.key, 1)] ∧
    (applyCommits 7 s).commit.armed = [] ∧ (applyCommits 6 s).commit.armed ≠ [] := by decide +kernel

/-- FramesAndTimeline: the frame that is due, one before its time, one out of turn; a planned step; the timeline registers. -/
def sFrame : State := { sWindow 100 with tl := { running := true, frame := 999 } }

theorem witness_frame_start : sFrame.timeOn = true ∧ sFrame.startI 1000 ≤ (sFrame.gt : Int) ∧ (sFrame.gt : Int) < sFrame.startI 1001 ∧
    after (.frameStart 1001) sFrame = sFrame ∧ after (.frameStart 999) sFrame = sFrame := by decide +kernel
theorem witness_time_step : let s := { sFrame with ptp := { sFrame.ptp with step := some { n := some 1000, s := some 5000 } } }
    after .timeStep s = s ∧ (after .timeStep { s with gtFine := 200000 * 1000000000 }).gt = 205000 := by decide +kernel
theorem witness_timeline : let s := State.reset
    after (.tlEnWrite false) s = s ∧ (after (.tlEnWrite true) s).flag F.ptpCtrlTLEN = true ∧
    (after (.tlEnWrite false) sFrame).tl.running = false ∧ sFrame.ptp.step = none ∧
    ((after (.frameEpochWrite 5) sFrame).fltSet .ptp).stat.getLsbD 1 = true ∧
    (after (.frameEpochWrite 5) s).fld F.ptpFrameEpochEPOCH = 5 := by decide +kernel

/-- RegisterWritesAndBroadcast: outside every window, of 16 bits, a staged field, an active owner, a locked field, FLT_STAT, a broadcast. -/
theorem witness_register_writes : let s := State.reset
    Blk.ofAddr 0x2FFF0000 = none ∧ ((after (.registerWrite 0 0x2FFF0000 32 0) s).fltSet .sys).stat.getLsbD 6 = true ∧
    ((after (.registerWrite 0 0x20010000 16 5) s).fltSet .mel).cap.valid = true ∧ s.pwr.stopped = [] ∧
    (after (.registerWrite 0 0x20100008 64 0x11800040) s).stg F.cmpListAddrVA = 0x11800040 ∧
    (after (.registerWrite 0 0x20100008 64 0x11800040) s).inF F.cmpListAddrVA = 0 := by decide +kernel
theorem witness_write_active : let s := setInF F.cmpCtrlEN 1 State.reset
    s.cmpActive = true ∧ ((after (.registerWrite 0 0x20020010 32 9) s).fltSet .mmu).stat.getLsbD 1 = true := by decide +kernel
theorem witness_write_locked : let s := setFld F.mmuCtrlLOCK 1 (setFld F.mmuCtrlPHYSOK 1 State.reset)
    ((after (.registerWrite 0 0x20020000 32 0) s).fltSet .mmu).stat.getLsbD 2 = true := by decide +kernel
theorem witness_fault_status : Blk.ofAddr (Blk.mmu.window.1 + 0xF00) = some .mmu ∧
    (let s := raise .mmu 1 {} (raise .mmu 2 {} State.reset)
     ((after (.registerWrite 0 (BitVec.ofNat 40 (Blk.mmu.window.1 + 0xF00)) 32 2) s).fltSet .mmu).stat = 4) := by decide +kernel
theorem test_broadcast : after (.teBroadcastWrite 0 0x600 32 7) State.reset = State.reset ∧ (0x5FC : BitVec 16).toNat % 4 = 0 := by decide +kernel

/-! Surfaces, receivers and composition. -/

/-- A sequence surface of two buffers, two pixels by one, 16-bit 4:4:4. -/
def surf : SurfDesc :=
  { format := 0x10, seq := true, nbuf := 1, width := 2, height := 1, stride0 := 64, stride12 := 64, off1 := 64, off2 := 128,
    bufs := [0x11900000, 0x11901000, 0, 0], delayUs := 0, timed := false, expect := 1, period := 0 }

/-- Handle 5 LIVE on that surface. -/
def sLive : State := setHandle 5 { st := .live, desc := some surf } State.reset

/-- HandleCommands: a free and a live handle, a buffer it lacks, one that is held, a bound handle, BUSY, completion, release. -/
theorem witness_register : let t := after (.register 5) State.reset
    State.reset.inReset .cmp = false ∧ State.reset.fld F.cmpHresSTATE ≠ 1 ∧ t.fld F.cmpHresSTATE = 1 ∧
    ((after (.release 5) t).fltSet .cmp).stat = 2 ∧ (after .handleCmdComplete t).fld F.cmpHresRESULT = 1 ∧
    246 ∈ (after .handleCmdComplete t).evt ∧ (after (.register 5) sLive).cmp.hcmd = some ⟨5, 3, none, false⟩ := by decide +kernel
theorem witness_publish : surf.hasBuf 1 = true ∧ surf.hasBuf 2 = false ∧ sLive.held 5 1 = false ∧ sLive.bound 5 = false ∧
    ((after (.publish 5 1) sLive).handle 5).latest = some 1 ∧ (after (.publish 5 2) sLive).cmp.hcmd = some ⟨5, 7, none, false⟩ ∧
    (after (.publish 6 1) sLive).cmp.hcmd = some ⟨6, 4, none, false⟩ ∧
    ((after (.acquire 5 1) (publishBuf 5 1 0 sLive)).handle 5).buf 1 = { pub := false, time := 0, order := 1 } := by decide +kernel
theorem witness_held : let s := { sLive with cmp := { sLive.cmp with frame := some { n := 1 }, layers := [(0, { mode := .ready, handle := 5, buf := 1 })] } }
    s.held 5 1 = true ∧ (after (.publish 5 1) s).cmp.hcmd = some ⟨5, 5, none, false⟩ := by decide +kernel
theorem witness_bound : let s := setInF (F.srcRxCfgEN.rx 0) 1 (setInF (F.srcRxCfgHANDLE.rx 0) 5 sLive)
    s.bound 5 = true ∧ (after (.publish 5 1) s).cmp.hcmd = some ⟨5, 4, none, false⟩ := by decide +kernel
theorem witness_release : let t := after (.release 5) sLive
    (t.handle 5).st = .releasing ∧ t.commit.armed = [] ∧ ((after (.handleFreed 5) t).handle 5).st = .free ∧
    after (.handleFreed 5) sLive = sLive := by decide +kernel

/-- Receive context 1 on handle 5. -/
def sRx : State := setInF (F.srcRxCfgEN.rx 1) 1 (setInF (F.srcRxCfgHANDLE.rx 1) 5 sLive)

/-- A packet. -/
def pkt (seq : Nat) (marker : Bool) : RxPkt := { seq := BitVec.ofNat 16 seq, ts := 9, marker := marker }

/-- A frame in progress in buffer 0, all of it received. -/
def frame : RxFrame := { ts := 9, handle := 5, buf := some 0, time := 100000, covered := [(0, 0, 2)] }

/-- ReceivedFrames: a context that is off, an old packet, one ahead, a frame without a buffer, codestream bytes, a segment outside the
surface, the marker, a preview frame. -/
theorem witness_rx_order : after (.rxPacket 0 (pkt 7 false)) sRx = sRx ∧
    (let s := setRx 1 { next := some 8 } sRx
     after (.rxPacket 1 (pkt 7 false)) s = s ∧ ((after (.rxPacket 1 (pkt 9 false)) s).rxCtx 1).hold.length = 1) := by decide +kernel
theorem witness_rx_nobuf : let s := setHandle 5 { st := .live, desc := some { surf with nbuf := 0 }, latest := some 0 } sRx
    s.chooseBuf 5 = none ∧ (s.rxCtx 1).frame = none ∧ (after (.rxPacket 1 (pkt 7 false)) s).fld (F.srcRxStatNOBUF.rx 1) = 1 := by decide +kernel
theorem witness_rx_codestream : let s := setInF (F.srcRxCfgKIND.rx 1) 1 (setRx 1 { frame := some frame, next := some 7 } sRx)
    (((after (.rxPacket 1 { (pkt 7 false) with bytes := [1, 2] }) s).rxCtx 1).frame.map RxFrame.bytes) = some [1, 2] := by decide +kernel
theorem witness_rx_geometry : let s := setRx 1 { frame := some frame, next := some 7 } sRx
    let t := after (.rxPacket 1 { (pkt 7 false) with line := 1 }) s
    t.fld (F.srcRxStatERROR.rx 1) = 1 ∧ (t.fltSet .src).stat.getLsbD 4 = true := by decide +kernel
theorem witness_rx_marker : let s := setRx 1 { frame := some frame, next := some 7 } sRx
    let t := after (.rxPacket 1 (pkt 7 true)) s
    (t.handle 5).latest = some 0 ∧ t.fld (F.srcRxStatPUBLISHED.rx 1) = 1 ∧ t.fld (F.srcRxLastT.rx 1) = 100000 ∧ 214 ∈ t.evt ∧
    surf.width * surf.height ≤ frame.covered.foldl (fun a e => a + e.2.2) 0 := by decide +kernel
theorem witness_preview : let s := { setFld F.mmuRtAsidASID 1 (sMapped (setHandle 5 { st := .live, desc := some { surf with format := 2 } }
      (setInF F.srcTxCfgEN 1 State.reset))) with txFrames := [⟨4, 5, 0, 9⟩] }
    let t := after (.previewFrameSent 4) s
    t.txFrames = [] ∧ t.out.length = 1 ∧ 217 ∈ t.evt ∧ after (.previewFrameSent 5) s = s := by decide +kernel
/-- R135: 90 kHz ticks; the timestamp nearest the GT of the frame's first packet. -/
theorem test_media_time : mediaTime 0xFFFFFFFF 0 = -11112 ∧ mediaTime 9 0 = 100000 := by decide +kernel

/-- The worked example of TIMED selection, moved 100 ms on: DELAY_US 30,000, PERIOD_NS 16,666,667. -/
def timedSurf (times : List Int) (s : State) : State :=
  let d := { surf with timed := true, delayUs := 30000, period := 16666667, nbuf := 3 }
  let bufs : SMap BufState := (List.range times.length).map (fun i => (i, ⟨true, times.getD i 0 + 100000000, i + 1⟩))
  setHandle 5 { st := .live, desc := some d, bufs := bufs } (setFld F.ptpFrameEpochEPOCH 100000000 s)

theorem test_timed_selection :
    (timedSurf [-33333333] State.reset).candidate 0 5 1 = some 0 ∧
    (timedSurf [-33333333, -16666667] State.reset).candidate 0 5 2 = some 1 ∧
    (timedSurf [-33333333, -16666667, 0] State.reset).candidate 0 5 3 = some 1 ∧
    (timedSurf [-33333333] State.reset).candidate 0 5 2 = none := by decide +kernel

/-- A list of one layer on handle 5, all of its two pixels at the top left of the picture, and Confluence on it in the period of
frame 7. -/
def oneLayer : List Byte := leBytes 4 (1 <<< 20) ++ List.replicate 28 0 ++ leBytes 4 5 ++ [0, 0, 0, 0, 2, 0, 1, 0, 0, 0, 0, 0, 2, 0, 1, 0] ++
  List.replicate 44 0
def sTake : State :=
  let s := publishBuf 5 1 0 (setInF F.cmpCtrlEN 1 (setInF F.cmpCtrlLISTSRC 1 (setInF F.cmpCtrlHOLDMAX 3 sLive)))
  { s with tl := { running := true, frame := 7 }, gtFine := 60000000 * 1000000000, cmp := { s.cmp with loads := { list := some oneLayer } } }

/-- FramesAreComposed: takes (early, EN 0, a candidate, none), a fetch burst, a line of a zero frame, the deadline, write-back. -/
theorem witness_list_take : after (.listTake 6) sTake = sTake ∧ (recOf oneLayer 0).handle = 5 ∧ layersOf oneLayer = 1 ∧
    sTake.candidate 0 5 8 = some 1 ∧ sTake.corLit = false ∧ sTake.frameStart 7 + 8000 ≤ sTake.gt ∧
    (let t := after (.listTake 7) sTake
     (SMap.get t.cmp.layers 0 {}).mode = .ready ∧ t.fld (F.cmpLyCondCOND.ly 0) = 1 ∧ 245 ∈ t.evt) ∧
    (after (.listTake 7) (setInF F.cmpCtrlEN 0 sTake)).cmp.frame = some { n := 8, zero := true } := by decide +kernel
theorem witness_list_hold : let s := { setHandle 5 { st := .live, desc := some surf } sTake with
        cmp := { sTake.cmp with layers := [(0, { last := some (5, 1), holds := 2 })] } }
    s.candidate 0 5 8 = none ∧ (recOf oneLayer 0).mask = false ∧ s.inF F.cmpCtrlHOLDMAX = 3 ∧
    (let t := after (.listTake 7) s
     (SMap.get t.cmp.layers 0 {}).mode = .holding ∧ t.fld (F.cmpLyCondCOND.ly 0) = 2) := by decide +kernel
theorem witness_fetch : let s := { sTake with cmp := { sTake.cmp with list := oneLayer, frame := some { n := 8 }, layers := [(0, { mode := .ready, handle := 5, buf := 1 })] } }
    surf.rowOf 1 0x11901000 = some (0, 0) ∧ s.burstLine 0 0 0 32 = some 0 ∧
    let t := after (.layerFetchBurst 0 0x11901000 64) s
    (SMap.get t.cmp.layers 0 {}).faultNext = true ∧ (t.fltSet .cmp).stat.getLsbD 5 = true ∧
    (after (.layerFetchBurst 0 0x11901000 64) (setFld F.mmuRtAsidASID 1 (sMapped s))).fld (F.cmpLfStatFILL.ly 0) = 64 := by decide +kernel
theorem witness_zero_line : let s := { State.reset with cmp := { State.reset.cmp with frame := some { n := 8, zero := true } } }
    s.nLayers = 0 ∧ s.corLit = false ∧ Memory.wf s.mem = true ∧ after (.correctionLine 1) s = s := by decide +kernel
theorem witness_deadline : let s := { sTake with cmp := { sTake.cmp with frame := some { n := 8, next := 1024, wbBuf := some 1 } } }
    after (.correctionDeadline 6) s = s ∧ s.frameStart 8 ≤ 66800000 + 400000 ∧
    s.frameStart 8 = 66666666 ∧
    (let w := after (.writebackPublish 8) (setInF F.cmpWbCfgHANDLE 5 s)
     (w.handle 5).latest = some 1 ∧ 247 ∈ w.evt) ∧ after (.writebackPublish 7) s = s := by decide +kernel
/-- A corrected value is 0 where the mask is set. -/
theorem test_masked_value : correctVal 0xFFFF { mask := true } 0xFFFF 0xFFFF = 0 := by decide +kernel
/-- The worked example of correction: tile 37's green subpixel at T = 820 in the image of points 400, 720, 1,040 and 1,360. -/
theorem test_correction_example : bracket [400, 720, 1040, 1360] 820 = (1, false) ∧
    interpCal [400, 720, 1040, 1360] 820 1 (leBytes 2 18493 ++ leBytes 2 (65536 - 96)) (leBytes 2 19824 ++ leBytes 2 (65536 - 160)) = (18909, -116) ∧
    correctVal 30000 { g := 18909, o := -116, wg := 17040 } 0xF000 0xFFFF = 33646 := by decide +kernel
/-- A row of matrix slot 0. -/
def matRow (r c0 c1 c2 : Nat) (s : State) : State :=
  setInF (F.cmpMatRowC0.at (8 * r)) c0 (setInF (F.cmpMatRowC1.at (8 * r)) c1 (setInF (F.cmpMatRowC2.at (8 * r)) c2 s))
/-- The worked example of a matrix slot: BT.709 limited range, Y 502, Cb 448, Cr 640. -/
theorem test_matrix_example : (matRow 0 0x12B4 0 0x1CCC (matRow 1 0x12B4 0xFC93 0xF771 (matRow 2 0x12B4 0x21EE 0 (setInF F.cmpMatPrePRE0 0xF000
    (setInF F.cmpMatPrePRE1 0x8000 (setInF F.cmpMatPrePRE2 0x8000 State.reset)))))).matrix 0 (32128, 28672, 40960) = (47512, 29263, 24082) := by
  decide +kernel

/-! The cartridge, scan programs, ports. -/

/-- An identity copy of the supported layout version, with its CRC. -/
def idCopy : List Byte :=
  let body := List.replicate 0x18 0 ++ leBytes 4 0x1000040 ++ List.replicate 0xFE0 0
  body ++ leBytes 4 (crc32c body)

/-- CartridgePresenceAndAttach: no cartridge, no valid copy, a silent authenticator, BUSY, removal. -/
theorem witness_presence : let t := after (.cartPresence {}) State.reset
    t.fld F.corCartStatSTATE = 1 ∧ 262 ∈ t.evt ∧ after (.cartPresence {}) t = t ∧ after .cartRemoval State.reset = State.reset ∧
    (after .attach State.reset).fld F.corCmdRESULT = 4 := by decide +kernel
theorem witness_attach_bad : let t := after .attach (after (.cartPresence {}) State.reset)
    cartId {} = none ∧ t.cor.busy = some { result := 1 } ∧ t.fld F.corCartStatSTATE = 3 ∧
    ((after .attach t).fltSet .cor).stat.getLsbD 1 = true := by decide +kernel
set_option maxRecDepth 200000 in
theorem witness_identity : (cartId { idA := idCopy }).map (fun e => e.2) = some false ∧ leAt idCopy 0x18 4 = 0x1000040 ∧ idCopy.length = 4096 := by
  decide +kernel
set_option maxRecDepth 200000 in
theorem witness_attach_waits : (after .attach (after (.cartPresence { idA := idCopy }) State.reset)).cor.busy = some { result := 0, waitAuth := true } := by
  decide +kernel
theorem witness_removal : let s := after .attach (after (.cartPresence {}) (putBytes 0x11000000 [9] State.reset))
    let t := after .cartRemoval s
    t.mem = [] ∧ t.fld F.corCartStatSTATE = 0 ∧ (t.fltSet .cor).stat.getLsbD 7 = true ∧ t.fld F.corCmdRESULT = 4 := by decide +kernel
theorem witness_auth_timeout : let s := { State.reset with cor := { State.reset.cor with cart := some {}, busy := some { result := 0 } } }
    after .authTimeout s = s := by decide +kernel

/-- READY with an attached cartridge. -/
def sReady : State :=
  setFld F.corCartStatSTATE 2 { State.reset with cor := { State.reset.cor with cart := some {} } }

/-- CartridgeCommandsAndCheckpoints: not READY, an image that cannot be read, with OVERWRITE and without, a checkpoint without AUTH PASS and with it, one that
ends with data and without, one that is due, deferred and started. -/
theorem witness_cartridge_commands : sReady.fld F.corCmdSTATE ≠ 1 ∧ (after (.prepare false) State.reset).fld F.corCmdRESULT = 6 ∧
    (after (.calWrite false) sReady).cor.busy = some { result := 5 } ∧ (after (.calWrite true) sReady).cor.busy = some { result := 5 } ∧
    (List.replicate 4096 (0 : Byte)).length = 4096 ∧ (after (.prepare false) sReady).cor.busy = some { result := 5 } ∧
    (after .checkpoint sReady).cor.busy = some { result := 0 } ∧ sReady.cor.dosing = false := by decide +kernel
theorem witness_checkpoint : let s := setFld F.corCartStatAUTH 1 sReady
    let t := after .checkpoint s
    t.cor.busy = some { result := 5, ckpt := some ⟨0, none⟩ } ∧ t.cor.slot = 0 ∧ (after .cartCmdComplete t).cor.busy = none ∧
    ((after .checkpointWritten { s with cor := { s.cor with ckpt := some ⟨0, none⟩ } }).fltSet .cor).stat.getLsbD 10 = true := by decide +kernel
theorem witness_checkpoint_written : let s := { sReady with cor := { sReady.cor with ckpt := some ⟨2, some ⟨7, 9, true, [], 0⟩⟩ } }
    (s.cor.ckpt.map (fun r => r.data.isSome)) = some true ∧ after .checkpointWritten sReady = sReady := by decide +kernel
theorem witness_checkpoint_due : let s := { setFld F.corCartStatAUTH 1 sReady with gtFine := 10 ^ 22 }
    s.cor.ckptRef + s.fld F.corCtrlCKPTMIN * 60000000000 ≤ s.gt ∧ (after .ckptDue s).cor.ckpt = some ⟨0, none⟩ ∧
    after .ckptDue { s with gtFine := 0 } = { s with gtFine := 0 } ∧
    (let d := after .ckptDue { s with cor := { s.cor with busy := some { result := 0 } } }
     d.cor.deferred = true ∧ after .ckptDeferredStart d = d ∧
     (after .ckptDeferredStart { d with cor := { d.cor with busy := none } }).cor.ckpt = some ⟨0, none⟩) := by decide +kernel
theorem witness_cmd_complete : let s := { sReady with cor := { sReady.cor with busy := some { result := 0, pair := some (64, 128) } } }
    (after .cartCmdComplete s).cor.produced = some (64, 128) ∧ 261 ∈ (after .cartCmdComplete s).evt := by decide +kernel

/-! Scan programs, the encoding, emitter ports. -/

/-- Port 0 in RUN at code 2, engine 0 enabled and running with a word at pc 0. -/
def sScan (w : Nat) (v : TeState) : State :=
  setTe 0 { v with run := true } (setInF (F.teProgINSN.te 0) w (setInF (F.teCtrlEN.te 0) 1
    (setFld (F.epPstatSTATE.ep 0) 4 (setFld (F.epPstatRATE.ep 0) 2 (setFld F.teScanStatLD 32
      { State.reset with scan := { State.reset.scan with last := some (0, 0) } })))))

/-- ScanPrograms: the words of the worked program, opcode by opcode; a ninth instruction, END, LINE dark, repeated and driven. -/
theorem witness_scan_words :
    (let t := (after (.setc 0) (sScan 0x30000040 {})).teSt 0; (t.c0, t.pc, t.others) = (64, 1, 1)) ∧
    (let t := (after (.brref 0) (sScan 0x50A0C000 {})).teSt 0; t.pc = 5) ∧
    (let t := (after (.brref 0) (setFld F.teScanStatRC 1 (sScan 0x50A0C000 {}))).teSt 0; t.pc = 1) ∧
    (let t := (after (.scanLoop 0) (sScan 0x20200000 { c0 := 64 })).teSt 0; (t.c0, t.pc) = (63, 2)) ∧
    (let t := (after (.scanLoop 0) (sScan 0x20200000 { c0 := 1 })).teSt 0; (t.c0, t.pc) = (0, 1)) ∧
    (let t := (after (.jmp 0) (sScan 0x40E00000 {})).teSt 0; t.pc = 7) ∧
    ((after (.scanEnd 0) (sScan 0 {})).teSt 0).run = false ∧
    (after (.jmp 0) (sScan 0 {})).teSt 0 = (sScan 0 {}).teSt 0 ∧ after (.scanEnd 0) State.reset = State.reset := by decide +kernel
theorem witness_scan_ninth : let s := sScan 0x40E00000 { others := 8 }
    let t := after (.jmp 0) s
    s.teActive 0 = true ∧ s.inReset (Blk.teN 0) = false ∧ (s.teSt 0).slot < 64 ∧ (t.teSt 0).slot = 1 ∧ (t.teSt 0).others = 1 ∧
    t.fld (F.teStatSLOTMISS.te 0) = 1 ∧ (t.fltSet (Blk.teN 0)).stat.getLsbD 3 = true := by decide +kernel
theorem witness_line : let s := sScan 0x10000000 {}
    (after (.line 0) (sScan 0x10000000 { slot := 64 })).teSt 0 = (sScan 0x10000000 { slot := 64 }).teSt 0 ∧
    ((after (.line 0) (sScan 0x10100000 {})).teSt 0).rows = [] ∧ s.forcedDark 0 = false ∧ s.orderRow 0 0 s.rc = 0 ∧
    s.ue = [] ∧ s.ce = [] ∧ s.inFlag F.diagCtrlEN = false ∧ (s.teSt 0).debt = [] ∧
    (after (.line 0) (sScan 0x10000000 { rows := [0] })).fld (F.teStatROWREPEAT.te 0) = 1 := by decide +kernel
set_option maxRecDepth 20000 in
theorem witness_line_drives : let t := after (.line 0) (putBytes 0x10002000 (leBytes 2 33646) (setFld F.teCeilCEIL 0xFFFF (sScan 0x10000000 {})))
    (SMap.find (t.teSt 0).out 0).map (fun p => (p.row, p.words.length, p.words.getD 1 0, p.words.getD 0 7)) = some (0, 192, 0xE98, 0) := by
  decide +kernel
theorem witness_refresh : let s := { State.reset with tl := { running := true, frame := 0 }, gtFine := 60000000 * 1000000000 }
    s.scanM = 32 ∧ s.rstart 0 3 < s.frameStart 1 ∧ s.rstart 0 3 ≤ s.gt ∧ s.pwr.stopped.contains 3 = false ∧ s.scan.last = none ∧
    (List.range 256).all (fun i => !(s.teSt i).run) = true ∧ after (.refreshStart 3) State.reset = State.reset := by decide +kernel
/-- The worked program is well formed, and all of its words differ from a malformed one. -/
theorem test_scan_program : ([0x30000040, 0x50A0C000, 0x10000000, 0x20200000, 0, 0x10010000, 0x20500000, 0].all (fun w => !(wordBad w))) = true ∧
    wordBad 0x60000000 = true ∧ wordBad 1 = true := by decide +kernel
/-- The worked example of the encoding: Y = 33,646, Ld = 32: 24 refreshes of 32 carry ON 233 at step 8, those with j mod 4 = 3 carry 232. -/
theorem test_encoding_example : encodeOn 33646 0xFFFF 32 3 false 0 = (232, 8) ∧ encodeOn 33646 0xFFFF 32 0 false 0 = (233, 8) ∧
    ((List.range 32).map (fun j => (encodeOn 33646 0xFFFF 32 j false 0).1)).sum = 7448 ∧ encodeOn 0xFFFF 0xFFFF 32 5 false 0 = (255, 15) := by
  decide +kernel
/-- M of the worked example: 120 Hz content in the 3840 class, and 240 Hz in the 1920 class. -/
theorem test_refreshes : refreshes 1 (State.reset.inF F.ptpFramePeriodPERIOD) = 32 ∧ refreshes 0 (State.reset.inF F.ptpFramePeriodPERIOD / 2) = 8 := by
  decide +kernel

/-- Port 0 in a state at a code. -/
def sPort (st code : Nat) (v : PortState) : State :=
  setFld (F.epPstatSTATE.ep 0) st (setFld (F.epPstatRATE.ep 0) code { State.reset with ports := [(0, v)] })
def sCap (s : State) : State := setFlag (F.epPstatCAPVALID.ep 0) true (setFld (F.epPstatCAPRATE.ep 0) 3 s)

/-- PortBringUp: BRINGUP with a free and a BUSY sideband, in LOOP; RETRAIN without and with capabilities; DOWN; TRAIN; CAP. -/
theorem witness_bringup : State.reset.epOn 0 = true ∧ State.reset.inReset .ril = false ∧
    (let t := after (.bringup 0) State.reset
     t.epSt 0 = 1 ∧ bit (t.fld F.rilStatBUSY) 0 = true ∧ (t.port 0).up = true) ∧
    ((after (.bringup 0) (setFld F.rilStatBUSY 1 State.reset)).port 0).rilWait = true ∧
    after (.bringup 0) (sPort 5 0 {}) = sPort 5 0 {} := by decide +kernel
theorem witness_retrain : ((after (.retrain 0) State.reset).fltSet (Blk.epN 0)).stat.getLsbD 10 = true ∧
    State.reset.inF F.epRateRATE < 4 ∧ (sCap State.reset).fld (F.epPstatCAPRATE.ep 0) < 4 ∧
    (after (.retrain 0) (sCap State.reset)).epCode 0 = State.reset.inF F.epRateRATE ∧
    (after (.down 0) (sPort 4 2 { up := true })).port 0 = {} := by decide +kernel
theorem witness_train : let s := sPort 1 0 { latched := some 0 }
    after (.trainStart 0) s = s ∧ (after (.trainStart 0) { s with now := 100000 }).epSt 0 = 2 ∧
    after (.trainSuccess 0) s = s ∧ after (.trainTimeout 0) s = s ∧
    (after (.trainSuccess 0) (sPort 2 0 { up := true })).epSt 0 = 3 ∧
    (after (.trainSuccess 0) (sCap (sPort 2 0 { up := true, target := 2 }))).epCode 0 = 1 ∧
    (let t := after (.trainSuccess 0) (sCap (sPort 2 2 { target := 2 })); t.epSt 0 = 4 ∧ 548 ∈ t.evt) ∧
    after (.trainTimeout 0) (sPort 2 0 {}) = sPort 2 0 {} := by decide +kernel
theorem witness_train_fails : let late := fun (s : State) => { s with now := 2000000 }
    ((after (.trainTimeout 0) (late (sPort 2 1 {}))).port 0).tries = 1 ∧
    (let t := after (.trainTimeout 0) (late (sPort 2 0 { tries := 2 })); t.epSt 0 = 6 ∧ t.fld (F.epPstatFAULTCODE.ep 0) = 1) ∧
    (let t := after (.trainTimeout 0) (late (sPort 2 2 { tries := 2 })); t.epSt 0 = 1 ∧ t.epCode 0 = 1 ∧
      (t.fltSet (Blk.epN 0)).stat.getLsbD 3 = true) := by decide +kernel
theorem witness_cap : let s := sPort 3 0 { up := true }
    ((after (.capAnswer 0 0 7) s).port 0).capPos = 1 ∧ after (.capAnswer 0 1 7) s = s ∧
    (after (.capAnswer 0 7 (BitVec.ofNat 64 (2 ^ 63))) (sPort 3 0 { up := true, capPos := 7 })).flag (F.epPstatCAPVALID.ep 0) = true ∧
    after (.capTimeout 0) s = s ∧ ((after (.capTimeout 0) { s with now := 100000 }).port 0).capAgain = true ∧
    (let t := after (.capTimeout 0) { sPort 3 0 { capAgain := true, capPos := 5 } with now := 100000 }
     t.fld (F.epPstatFAULTCODE.ep 0) = 2 ∧ t.fld (F.epPstatFAULTPOS.ep 0) = 5) := by decide +kernel

/-- PortsInUse: loopbacks and their ends, lost lock, error windows, slots, RETs, Rill frames. -/
theorem witness_loop : (after (.loopNes 0 1) State.reset).epSt 0 = 5 ∧ ((after (.loopNep 0 1) (sPort 4 2 {})).fltSet (Blk.epN 0)).stat = 2 ∧
    ((after (.loopFar 0 3) (sPort 4 2 {})).port 0).loop = some (.far 3) ∧ ((after (.loopFar 0 3) State.reset).fltSet (Blk.epN 0)).stat = 2 ∧
    after (.loopEnd 0) State.reset = State.reset ∧ (after (.loopEnd 0) (sPort 5 0 { loop := some (.nes 1) })).epSt 0 = 0 ∧
    ((after (.loopEnd 0) (sPort 5 2 { loop := some (.far 3) })).port 0).ending = true ∧
    (after (.returnBlockLock 0) (sPort 5 2 { loop := some (.far 3), ending := true })).epSt 0 = 4 ∧ blocks64 2 = 1320 ∧
    after (.returnLockLoss 0) State.reset = State.reset ∧ (after (.returnLockLoss 0) (sPort 4 2 {})).epCode 0 = 1 ∧
    (after (.returnLockLoss 0) (sPort 4 1 {})).fld (F.epPstatFAULTCODE.ep 0) = 3 := by decide +kernel
theorem witness_window : let s := { setFld (F.epLimitERRMAX.ep 0) 4 (sPort 4 2 { win := 4 }) with gtFine := 1000000 * 1000000000 }
    ((after (.errWindowClose 0) s).port 0).win = 0 ∧ s.gt / 1000000 = 1 ∧ after (.errWindowClose 0) { s with gtFine := 0 } = { s with gtFine := 0 } ∧
    (after (.errWindowClose 0) { s with ports := [(0, { win := 5 })] }).epCode 0 = 1 := by decide +kernel
theorem witness_slot : let s := { sPort 4 2 {} with scan := { last := some (0, 0) } }
    let t := after (.slotStart 0 0) s
    s.sstart 0 0 0 ≤ s.gt ∧ s.sstart 0 0 0 < s.frameStart 1 ∧ (t.port 0).slots.length = 1 ∧ (t.teSt 7).slot = 1 ∧ (t.teSt 8).slot = 0 ∧
    after (.slotStart 0 0) State.reset = State.reset := by decide +kernel

/-- ForwardStream: the SLOT block of a slot in CAP, whose packets are all DARK, and the lanes after it; the fields of SLOT and TRAIN;
D0.0 and K28.5 of IEEE 802.3 Clause 36; blocks per slot of the table. -/
theorem witness_stream : let s := { sPort 3 0 {} with scan := { last := some (0, 0) } }
    let t := after (.slotStart 0 0) s
    s.epOn 0 = true ∧ s.sstart 0 0 0 ≤ s.gt ∧ (s.port 0).slots = [] ∧ ((t.port 0).fwd.map (fun r => r.words.length)) = some 16 ∧
    ((t.port 0).fwd.map (fun r => r.words.headD 0)) = some (BitVec.ofNat 64 (2 * 2 ^ 60)) ∧ t.fckRuns 0 = true ∧
    t.fwdBlock 0 1 9 = some (.control 0x1E 0) ∧ State.reset.fckRuns 0 = false := by decide +kernel
theorem test_control_blocks : (Ctrl.slot 63 319 9).block 0 = .control 0x78 (BitVec.ofNat 56 (63 * 2 ^ 50 + 319 * 2 ^ 41 + 9 * 2 ^ 37)) ∧
    (Ctrl.train 3 true).block 1 = .control 0x4B 0xFCCCCCCCCCCCCC ∧
    ({ start := .idle, words := [5, 6, 7] } : FwdRun).block 1 1 = .data 6 ∧
    ({ start := .idle, words := [5, 6, 7] } : FwdRun).block 1 2 = .control 0x1E 0 := by decide +kernel
theorem test_line_code : dataChar false 0 = (0b1001110100, false) ∧ dataChar true 0 = (0b0110001011, true) ∧
    comma false = (0b0011111010, true) ∧ (Block.line 2 (.data 0) { plus := false, scr := 0 }).1 = [false, true] ++ List.replicate 64 false := by
  decide +kernel

/-- A slot a port has sent dark, and a return for it. -/
def sentSlot : PSlot := { refresh := 3, slot := 9, frame := 0, slotCyc := 100, pkts := List.replicate 8 {} }
def aRet : Ret := { pos := 2, slot := 9, refresh := 3 }

theorem witness_ret : let s := sPort 4 2 { slots := [sentSlot] }
    after (.retReceived 0 aRet) (sPort 4 2 {}) = sPort 4 2 {} ∧
    (let t := after (.retReceived 0 { aRet with crcOk := false }) s
     t.fld (F.epErrcntRETCRC.ep 0) = 1 ∧ (t.fltSet (Blk.epN 0)).stat.getLsbD 7 = true) ∧
    (aRet.crcOk = true ∧ aRet.crcErr.toNat = 0 ∧ aRet.supplyLow = false ∧ aRet.pllUnlock = false ∧ aRet.rillBad = false) ∧
    (SMap.find (after (.retReceived 0 aRet) s).thm.ret 2).isSome = true := by decide +kernel
theorem witness_rill : let s := setFld F.rilStatBUSY 1 State.reset
    ((after (.rilSend 3) s).fltSet .ril).stat = 2 ∧ (after (.rilSend 2) s).fld F.rilStatBUSY = 3 ∧
    after (.rillLatchReport 0) s = s ∧
    (let t := after (.rilSend 1) State.reset
     after (.rillLatchReport 0) t = t ∧ (t.port 0).rilWait = false ∧ 581 ∈ (after (.rillLatchReport 0) { t with now := 1596000 }).evt) ∧
    (let t := after (.bringup 0) State.reset
     ((after (.rillLatchReport 0) { t with now := 1596000 }).port 0).latched = some 1596000) := by decide +kernel

/-! Pixel diagnostics, rails, temperatures and fans. -/

/-- Diagnostics: BUSY, primary 3, the subpixel commands by state, INIT, completion, the sweep, evidence. -/
theorem witness_diag_busy : let s := setFld F.diagCmdSTATE 1 State.reset
    s.inReset .diag = false ∧ (((after (.diagMask 0 0 0 0) s).fltSet .diag).stat = 2) ∧
    (after (.diagMask 0 3 0 0) State.reset).diag.busy = some (1, false) ∧ State.reset.fld F.diagCmdSTATE ≠ 1 ∧
    after .diagCmdComplete State.reset = State.reset := by decide +kernel
theorem witness_diag_subpixel : let st := fun (v : SubSt) => setSub 0 v State.reset
    (State.reset.sub 0).st = 4 ∧ ((after (.diagMask 0 0 0 0) State.reset).sub 0).st = 5 ∧ ((after (.diagMask 0 0 0 0) State.reset).sub 0).fw = true ∧
    (let t := after (.diagMask 0 0 0 0) (st { st := 1 }); (t.sub 0).fw = true ∧ (t.sub 0).st = 1) ∧
    (after (.diagMask 0 0 0 0) (st { st := 1, fw := true })).diag.busy = some (0, false) ∧
    ((after (.diagUnmask 0 0 0 0) (st { st := 5, fw := true })).sub 0) = { st := 4 } ∧
    ((after (.diagUnmask 0 0 0 0) (st { st := 3, fw := true })).sub 0).fw = false ∧
    (after (.diagUnmask 0 0 0 0) (st { st := 0 })).diag.busy = some (0, false) ∧
    ((after (.diagClear 0 0 0 0) (st { st := 2, fw := true })).sub 0).st = 5 ∧
    ((after (.diagClear 0 0 0 0) (st { st := 2 })).sub 0).st = 4 ∧ (after (.diagClear 0 0 0 0) State.reset).diag.busy = some (5, false) := by
  decide +kernel
theorem witness_diag_complete : let s := { setInF F.diagCtrlEN 1 State.reset with diag := { State.reset.diag with busy := some (0, true) } }
    let t := after .diagCmdComplete s
    t.diag.inited = true ∧ t.fld F.diagCmdSTATE = 2 ∧ 277 ∈ t.evt ∧ (after .diagInit s).diag.busy = some (2, true) ∧
    State.reset.inFlag F.diagCtrlEN = false := by decide +kernel
theorem witness_sweep : let s := { setInF F.diagCtrlEN 1 State.reset with tl := { running := true, frame := 512 } }
    s.diag.swept ≠ some 2 ∧ s.diag.sweeping = false ∧ s.inReset .diag = false ∧ s.pwr.stopped.contains 4 = false ∧
    after .diagSweep State.reset = State.reset ∧ after .sweepComplete s = s ∧
    280 ∈ (after .sweepComplete { s with diag := { s.diag with sweeping := true } }).evt := by decide +kernel
theorem witness_sweep_one : let s := { setSub 0 { st := 0 } (setInF F.diagCtrlAGEMAX 3 (setFld F.diagMapVaVA 0x11900000 (setFld F.mmuRtAsidASID 1 (sMapped State.reset))))
        with tl := { running := true, frame := 64 } }
    (match (ioRead { mstr := 255 } .rt false 1 0x11900000 4 s).1 with | .ok l => l | .error _ => []) = [0, 0, 0, 0] ∧
    SMap.get s.diag.ver 0 false = false ∧ (s.sub 0).st = 0 := by decide +kernel
theorem witness_evidence : let t := evidence 0 4 (setSub 0 { st := 0 } State.reset)
    State.reset.evRun 0 = none ∧ 1 < State.reset.confirm 3 ∧ 1 < State.reset.confirm 4 ∧ 1 < State.reset.confirm 5 ∧
    t.evRun 0 = some ⟨0, 4, 1⟩ ∧ (t.sub 0).st = 0 ∧ ((evidence 0 1 State.reset).sub 0).st = 0 := by decide +kernel

/-- Rail 7 in a state; its setpoint model of the worked example. -/
def sRail (st : Nat) (r : RailState) (s : State) : State := setFld (F.railStatSTATE.rail 7) st (setRail 7 r s)
def sModel : State :=
  setInF (F.railModelV0.rail 7) 3100 (setInF (F.railModelKS.rail 7) 20 (setInF (F.railModelRD.rail 7) 20 (setInF (F.railModelIU.rail 7) 375
    (setInF (F.railModelTC.rail 7) 2000 (setInF (F.railVlimVMIN.rail 7) 2600 (setInF (F.railVlimVMAX.rail 7) 4200
      (setInF (F.railCtrlPHINST.rail 7) 15 (setFld (F.railProtSHED.rail 7) 25 (setInF (F.railVlimVIDLE.rail 7) 2800
        (setFld (F.railProtUVMARGIN.rail 7) 10 (setFld (F.railProtOVMARGIN.rail 7) 10 State.reset)))))))))))

/-- The worked example of the setpoint: 3,510 mV with 3 phases. -/
theorem test_setpoint_example : sModel.setpoint 7 15 20000 720 = (3510, 3) ∧ sModel.setpoint 7 0 0 720 = (2600, 1) := by decide +kernel

/-- RailStates: START, HOLD, TRACK and back, OFF, RESTART, a rise, a late forecast. -/
theorem witness_rail_start : let s := setFld F.corCartStatSTATE 2 (setInF (F.railCtrlEN.rail 7) 1 sModel)
    s.startOk 7 = true ∧ (after (.railStart 7) s).railSt 7 = 1 ∧ after (.railStart 7) sModel = sModel ∧
    (after (.railHoldEntry 7 2800) sModel).railSt 7 = 0 ∧
    (let t := after (.railStart 7) s
     (after (.railHoldEntry 7 2750) t).railSt 7 = 2 ∧ (after (.railHoldEntry 7 2500) t).railSt 7 = 1 ∧ (t.rail 7).slewOff = false ∧
     t.railReset 7 = false) := by decide +kernel
theorem witness_rail_track : let s := { sRail 2 {} sModel with swc := [(2, { on := true, since := 0 })], now := 2000 }
    let t := after (.railTrackEntry 7) s
    neighbours 7 = [6, 8] ∧ s.railReset 6 = false ∧ s.railReset 8 = false ∧ s.railSt 6 = 0 ∧ s.railSt 8 = 0 ∧
    t.railSt 7 = 3 ∧ (t.rail 7).eff = some (4200, 4) ∧ after (.railTrackEntry 7) sModel = sModel ∧ after (.railTrackExit 7) t = t ∧
    (after (.railTrackExit 7) { t with swc := [(2, { on := false, since := 0 })] }).railSt 7 = 2 := by decide +kernel
theorem witness_rail_off : let s := sRail 2 { slewOff := true, segs := [⟨0, 2600, 2600, 10⟩] } sModel
    s.railOn 7 = true ∧ s.railTarget 7 = 2600 ∧ (after (.railSlewOff 7) s).railSt 7 = 0 ∧ after (.railSlewOff 7) sModel = sModel ∧
    after (.railRestart 7) s = s ∧
    (after (.railRestart 7) (setFlag (F.railStatNEEDRESTART.rail 7) true (sRail 4 {} sModel))).flag (F.railStatNEEDRESTART.rail 7) = false := by
  decide +kernel
theorem witness_rail_raise : let s := { sRail 3 { next := some (1, 3510, 3), eff := some (3420, 2), segs := [⟨0, 3420, 3420, 10⟩] } sModel with
        tl := { running := true, frame := 0 }, gtFine := 8200000 * 1000000000, swc := [(2, { on := true })] }
    let t := after (.railRaise 0) s
    s.frameStart 1 ≤ s.gt + s.railLead ∧ (List.range 24).all (fun j => j == 7 || !(s.railOn j)) = true ∧ (t.rail 7).eff = some (3510, 3) ∧
    after (.railRaise 1) s = s ∧
    (let u := railLate 7 0 (sRail 3 {} sModel)
     u.fld (F.railCntFCLATE.rail 7) = 1 ∧ (u.rail 7).next = some (1, 4200, 4) ∧ (u.fltSet (Blk.railN 7)).stat.getLsbD 9 = true) := by
  decide +kernel
theorem witness_rail_raise_none : let s := { sRail 3 { next := some (1, 3400, 2), eff := some (3420, 2) } sModel with
        tl := { running := true, frame := 0 }, gtFine := 8200000 * 1000000000, swc := [(2, { on := true })] }
    ((after (.railRaise 0) s).rail 7).eff = some (3420, 2) := by decide +kernel

/-- RailProtection: each protection with and without its condition; a phase that fails, at its limit, and the last one. -/
theorem witness_rail_trips : let s := { sRail 3 { eff := some (3000, 1), segs := [⟨0, 3000, 3000, 10⟩] } sModel with now := 5000000 }
    s.railOn 7 = true ∧ s.railVhi 7 = 3000 ∧ s.railTarget 7 = 3000 ∧
    (let t := after (.ov 7 3101) s; t.railSt 7 = 4 ∧ (t.rail 7).low = true) ∧ after (.ov 7 3100) s = s ∧
    (after (.uv 7 2899) s).railSt 7 = 4 ∧ after (.uv 7 2900) s = s ∧ (after (.oc 7) s).railSt 7 = 4 ∧ after (.oc 7) sModel = sModel ∧
    (after (.startFail 7) { sRail 1 {} sModel with now := 2000000 }).railSt 7 = 4 ∧ after (.startFail 7) s = s ∧
    (after (.senseFail 7 199) s).railSt 7 = 4 ∧ (after (.senseFail 7 6501) s).railSt 7 = 4 ∧ after (.senseFail 7 200) s = s := by decide +kernel
theorem witness_phase_fail : let s := setFld (F.railStatPHACTIVE.rail 7) 3 (sRail 3 { eff := some (3000, 2) } sModel)
    (after (.phaseFail 7 0) s).fld (F.railStatPHACTIVE.rail 7) = 6 ∧ after (.phaseFail 7 2) s = s ∧
    (after (.phaseCurrentLimit 7 1) s).fld (F.railCntILIM.rail 7) = 1 ∧
    (after (.phaseFail 7 0) (setInF (F.railCtrlPHINST.rail 7) 1 s)).railSt 7 = 4 := by decide +kernel

/-- ThermalAndFans: a sensor's judgement, the throttle, a freeze, tach windows, spin-up, modes. -/
theorem witness_sensor : ((judge 37 (some 1344) State.reset).sensor 37).val = 1344 ∧
    (let s := { State.reset with thm := { State.reset.thm with sens := [(37, { val := 1408, has := true, prev := some 1408, bad := 2 })] } }
     ((judge 37 (some (-2048)) s).sensor 37).lost = true ∧ 610 ∈ (judge 37 (some (-2048)) s).evt ∧
     ((judge 37 (some (-2048)) s).sensor 37).val = 1408) ∧
    State.reset.thm.last ≠ some 0 ∧ State.reset.inReset .thm = false ∧ State.reset.pwr.stopped.contains 10 = false := by decide +kernel
theorem witness_throttle : State.reset.inF F.thmThrotTMIN ≤ 65535 ∧ State.reset.fld F.thmStatTHROTTLE ≤ 65535 ∧
    State.reset.inF F.thmDerateFLOOR ≤ 65535 ∧ State.reset.excess = (0, none) ∧ (throttleStep 10 0 false State.reset).fld F.thmStatTHROTTLE = 65535 := by
  decide +kernel
/-- The worked example: E 48 and TGAIN 3,277 give 55,704, E 112 gives 42,596. -/
theorem test_throttle_example : let s := fun (shown : Nat) => setInF F.thmThrotTGAIN 3277 (setInF F.thmThrotTILETLIM 1360
      (setFld F.thmStatTHROTTLE 60000 (setFld (valueFld 37) shown { State.reset with thm := { State.reset.thm with conds := [(74, { on := true })] } })))
    (throttleStep 10 0 false (s 1408)).fld F.thmStatTHROTTLE = 55704 ∧ (throttleStep 10 0 false (s 1472)).fld F.thmStatTHROTTLE = 42596 := by
  decide +kernel
theorem witness_freeze : let s := { State.reset with thm := { State.reset.thm with frozen := some 5 } }
    after .throttleHoldEnd s = s ∧ (after .throttleHoldEnd { s with gtFine := 5000000000 }).thm.frozen = none := by decide +kernel
theorem witness_fan : let s := setFld (F.fanChCfgMODE.fan 2) 2 (setFld (F.fanChStatDUTY.fan 2) 50 (setFld (F.fanChCfgSTALLRPM.fan 2) 30 State.reset))
    s.inReset .fan = false ∧ (after (.fanTachWindow 2 40) s).fld (F.fanChStatRPM.fan 2) = 1200 ∧
    (let t := after (.fanTachWindow 2 9) s
     t.flag (F.fanChStatSTALL.fan 2) = false ∧
     (let u := after (.fanTachWindow 2 9) t; u.flag (F.fanChStatSTALL.fan 2) = true ∧ 617 ∈ u.evt ∧
      (after (.fanModeWrite 2 0) u).flag (F.fanChStatSTALL.fan 2) = false)) := by decide +kernel
theorem witness_spinup : let s := { setFld (F.fanChCfgMODE.fan 2) 2 State.reset with fan := [(2, { spin := some 0 })] }
    after (.fanSpinupEnd 2) s = s ∧ (SMap.get (after (.fanSpinupEnd 2) { s with now := 1000000000 }).fan 2 {}).spin = none ∧
    after (.fanSpinupEnd 3) s = s := by decide +kernel

/-! Rook. -/

/-- A parameter block without the zeros that end it: every input enabled for its groups, SW_T periods at their defaults, zone 0 of set 0 as given. -/
def rBlock (zone : List Byte) : List Byte :=
  let input := fun (gs filt mode : Nat) => leBytes 1 1 ++ leBytes 1 gs ++ leBytes 1 filt ++ leBytes 1 mode ++ leBytes 2 100 ++ List.replicate 10 0
  leBytes 4 0x4B4F4F52 ++ leBytes 4 1 ++ leBytes 8 0 ++ input 255 20 1 ++ input 1 20 0 ++ input 2 20 0 ++ input 4 20 2 ++
    (List.range 8).flatMap (fun g => leBytes 2 (0x1000 + g) ++ List.replicate 6 0) ++
    leBytes 2 64 ++ leBytes 2 100 ++ leBytes 2 1000 ++ leBytes 2 200 ++ leBytes 2 500 ++ leBytes 1 10 ++ List.replicate 101 0 ++
    zone

/-- Rook in a state, with that block in force, ESTOP, DOOR and CURTAIN closed, the hands satisfied and the rails good. -/
def sRook (st : Nat) : State :=
  setFld F.rookStatSTATE st { State.reset with rook := { State.reset.rook with
    block := rBlock [], chan := 63, thSat := true, thBlocked := false, railBad := 0, req := 255 } }

/-- The same, with no cause in group 0. -/
def sPermit : State := setFld F.rookCauseCAUSE 0 (sRook 1)

/-- RookMailbox: BUSY, HALT, REQ, RESTART with panel causes and without, a bad buffer, blocks, LOCK, UNLOCK, READs, NONCE, completion. -/
theorem witness_rook_mailbox : let s := sRook 1
    s.inReset .rook = false ∧ s.fld F.rookResSTATE ≠ 1 ∧ s.rookSt ≠ 4 ∧ s.rookBufOk 48 = false ∧
    ((after (.req 1 7) (setFld F.rookResSTATE 1 s)).fltSet .rook).stat.getLsbD 1 = true ∧ (after (.req 1 7) (sRook 4)).rook.busy = some 9 ∧
    (let t := after (.req 1 7) s; t.rook.req = 1 ∧ (t.causes 1).getLsbD 0 = true ∧ t.fld F.rookResSEQ = 7) ∧
    (after (.paramLoad 7) s).rook.busy = some 7 ∧ after .rookCmdComplete s = s ∧
    621 ∈ (after .rookCmdComplete { s with rook := { s.rook with busy := some 0 } }).evt := by decide +kernel
theorem witness_rook_restart : let s := setFld (F.rookCauseCAUSE.at 16) 0x20 (setFld F.rookCauseCAUSE 8 (sRook 1))
    (s.causes 0).getLsbD 3 = true ∧ s.causeMode 3 = 1 ∧ (after (.rookRestart 1 7) s).rook.busy = some 8 ∧
    (let t := after (.rookRestart 4 7) s; t.rook.busy = some 0 ∧ (t.causes 2).getLsbD 5 = false) := by decide +kernel
/-- The command buffer in general scratch. -/
def sBuf (s : State) : State := setFld F.rookAddrADDR (0x11900000 / 64) s
theorem witness_rook_lock : let s := sBuf (sRook 1)
    let l : Option (BitVec 384 × BitVec 384) := some (0, 0)
    s.rookBufOk 4656 = true ∧ (memRead rookWho s.rookBuf 48 s).2 = s ∧ s.rook.lock = none ∧ (after (.lock 7) s).rook.busy = some 0 ∧
    (after (.lock 7) { s with rook := { s.rook with lock := l } }).rook.busy = some 2 ∧
    (after (.unlock 7) s).rook.busy = some 6 ∧ (memRead rookWho s.rookBuf 193 s).2.rook.nonce = none := by decide +kernel
set_option maxRecDepth 20000 in
theorem witness_rook_load : let s := sBuf (sRook 1)
    let l : Option (BitVec 384 × BitVec 384) := some (0, 0)
    s.rook.waiting = false ∧ s.allOff = true ∧ (memRead rookWho s.rookBuf 4608 s).2.rook.lock = none ∧
    (after (.paramLoad 7) s).rook.busy = some 4 ∧ (after (.paramLoad 7) { s with rook := { s.rook with lock := l } }).rook.busy = some 2 ∧
    (after (.paramLoad 7) (setGroup 0 { hs := { gate := true } } s)).rook.busy = some 3 := by decide +kernel
set_option maxRecDepth 20000 in
theorem witness_rook_read : let s := sBuf (sRook 1)
    (memWrite rookWho s.rookBuf (s.rblock ++ digestBytes s.rookDigest) s).1 = none ∧
    (memWrite rookWho s.rookBuf (s.rook.log.flatMap logBytes) s).1 = none ∧ (after (.logRead 7) s).rook.busy = some 0 ∧
    (after (.nonce 7) s).fld F.rookResSEQ = 7 := by decide +kernel

/-- Rook time in ns. -/
def rt (t : Nat) (s : State) : State := { s with rook := { s.rook with osc := 10000 * t } }

/-- SwitchPairs: closing, opening together and in order, a switch fault, tests and their ends, an overdue test, SW_CLOSED. -/
theorem witness_switch_close : let s := rt 20000 sPermit
    s.permit 0 = true ∧ s.rookSince 0 10000 = true ∧ s.mustOpen 0 = false ∧
    (let t := after (.groupClose 0) s
     (t.rgroup 0).ls.gate = true ∧ after (.groupCloseHsOn 0) t = t ∧
     ((after (.groupCloseHsOn 0) (rt 40000 t)).rgroup 0).hs.gate = true) ∧
    after (.groupClose 0) (sRook 0) = sRook 0 ∧ after (.groupSafetyOpen 0) s = s := by decide +kernel
theorem witness_switch_open : let on : RGroup := { hs := { gate := true }, ls := { gate := true } }
    let s := setGroup 0 on (setFld F.rookCauseCAUSE 8 (sRook 1))
    s.mustOpen 0 = true ∧ ((after (.groupSafetyOpen 0) s).rgroup 0).ls.gate = false ∧ after (.groupOrderlyOpen 0) s = s ∧
    (let f := setGroup 0 on (setFld F.rookCauseCAUSE 1 (sRook 1))
     let t := after (.groupOrderlyOpen 0) f
     f.permit 0 = false ∧ f.mustOpen 0 = false ∧ (t.rgroup 0).hs.gate = false ∧ (t.rgroup 0).ls.gate = true ∧ (t.rgroup 0).opening = true ∧
     after (.groupOrderlyLsOff 0) t = t ∧ ((after (.groupOrderlyLsOff 0) (rt 20000 t)).rgroup 0).ls.gate = false) := by decide +kernel
theorem witness_switch_fault : let s := rt 10000000 (setGroup 0 { hs := { rb := true } } (sRook 1))
    s.rbWrong ((s.rgroup 0).sw true) = true ∧ s.rbWrong ((s.rgroup 0).sw false) = false ∧
    s.rbWrong { rb := true, rbAt := 9980001 } = false ∧ s.rbWrong { rb := true, since := 9480000 } = true ∧
    s.rbWrong { rb := true, since := 9480001 } = false ∧
    (let t := after (.switchFault 0 true) s; t.rookSt = 2 ∧ t.rook.faults = [.switch 0 true] ∧ t.fld F.rookStatCAPPED = 1) ∧
    after (.switchFault 0 false) s = s := by decide +kernel
theorem witness_switch_test : let s := { rt 100000000 (setGroup 0 { hs := { gate := true }, ls := { gate := true } } (sRook 1)) with now := 100000000 }
    s.testDue 0 = some true ∧ s.inForced 0 = false ∧ (s.inWindow 0 (s.testDueAt 0 true)).isSome = true ∧
    s.inWindow 0 (s.testDueAt 0 true - 100000000) = none ∧
    (let t := after (.switchTest 0) s
     (t.rgroup 0).hs.testing = true ∧ after (.switchTestEnd 0 true) s = s ∧
     (let e := rt 100001000 t
      e.rookSince (t.rgroup 0).hs.since (e.rp 0x90 2) = true ∧ ((after (.switchTestEnd 0 false) e).rgroup 0).hs.passed = 100001000 ∧
      ((after (.switchTestEnd 0 true) e).rgroup 0).hs.fails = 1 ∧
      (let f := after (.switchTestEnd 0 true) (setGroup 0 { (e.rgroup 0) with hs := { (e.rgroup 0).hs with fails := 1 } } e)
       f.rook.faults = [.switch 0 true]))) ∧
    (sRook 1).testDue 0 = none := by decide +kernel
theorem witness_test_forced : let s := { rt 1000000000 (setGroup 0 { hs := { gate := true }, ls := { gate := true } } (sRook 1)) with now := 1000000000 }
    s.testOverdue 0 true = true ∧ SMap.get (after (.testForced 0) s).rook.forced 0 0 = 1 ∧
    after (.testForced 0) (sRook 1) = sRook 1 ∧
    (let f := { s with rook := { s.rook with forced := [(0, 2)] } }
     f.inForced 0 = true ∧ (f.rgroup 0).lastHs = false ∧ ((after (.switchTest 0) f).rgroup 0).hs.testing = true) ∧
    (let t := after (.readbackChange 0 true true) (setGroup 0 { ls := { rb := true } } s)
     t.fld F.rookStatCLOSED = 1 ∧ 623 ∈ t.evt ∧ t.swLine 0 = ⟨true, 1000000000⟩) ∧
    ((after (.readbackChange 0 true true) s).swLine 0).on = false := by decide +kernel

/-- RookInputsAndEndgame: a demand, an ended AUTO cause, single faults, filters, pulses, discrepancies, hands, SACK, RAIL_OK, the cartridge. -/
theorem witness_demand : let s := { sRook 1 with rook := { (sRook 1).rook with chan := 0x3E } }
    s.demand 0 = true ∧ (s.rinGroups 0).getLsbD 0 = true ∧ ((rookEval s).causes 0).getLsbD 3 = true ∧ s.causeMode 4 = 0 ∧ s.causeEnded 0 4 = true ∧
    ((rookEval (setFld F.rookCauseCAUSE 0x10 s)).causes 0).getLsbD 4 = false := by decide +kernel
theorem witness_single_fault : (List.range 16).all (fun n => !(((sRook 1).react .rook (BitVec.ofNat 5 n).toNat).getLsbD 3)) = true ∧
    (let t := singleFault (.disc 0) (sRook 1)
     t.rookSt = 2 ∧ (singleFault (.disc 1) t).rookSt = 3 ∧ (singleFault (.disc 0) t).rookSt = 2 ∧ sameSource t.rook.faults (.chan 0 1) = true ∧
     (singleFault (.disc 0) (sRook 3)).rookSt = 3) := by decide +kernel
/-- A run of FILT is 100 samples of the 2 ms; a sample that a test pulse excludes is passed over. -/
theorem witness_filter : let s := rt 4000000 (sRook 1)
    let low := List.replicate 100 false
    after (.inputFilterChange 0 ⟨true, low⟩) s = s ∧ after (.inputFilterChange 0 ⟨false, low.drop 1⟩) s = s ∧
    (let t := after (.inputFilterChange 0 ⟨false, low⟩) s
     t.rook.chan = 0x3E ∧ (SMap.get t.rook.inputs 0 {}).differ = some 4000000 ∧ t.rinEn 0 = true ∧
     (after (.discrepancy 0) (rt 104000000 t)).rook.faults = [.disc 0] ∧ after (.discrepancy 0) t = t ∧ after (.discrepancy 1) t = t) ∧
    excluded 300000 0 = true ∧ excluded 300001 0 = false ∧ excluded 5000000 1 = true ∧ excluded 5000000 0 = false ∧
    (rt 12000000 s).sampleRun (fun t => excluded t 0) 2000000 low (fun b => !b) = false ∧
    (rt 12000000 s).sampleRun (fun t => excluded t 0) 2000000
      (List.replicate 85 false ++ List.replicate 16 true ++ List.replicate 15 false) (fun b => !b) = true := by decide +kernel
theorem witness_pulses : let a := after (.tpoPulse 0 0x3FF) (rt 4000000 (sRook 1))
    a.rook.faults = [] ∧ SMap.get a.rook.pulses 0 0 = 1 ∧ after (.tpoPulse 0 0x3FF) a = a ∧
    (after (.tpoPulse 0 0x3FF) (rt 14000000 a)).rook.faults ≠ [] ∧ (after (.tpoPulse 0 0x3FF) (rt 24000000 a)).rook.faults = [] := by
  decide +kernel
theorem witness_hands : let s := rt 4000000 { sRook 1 with rook := { (sRook 1).rook with thSat := false } }
    let on := List.replicate 100 (true, false)
    let t := after (.handActuated ⟨0, on⟩) s
    (t.hand 0).act = true ∧ t.rook.thFirst = some 4000000 ∧ (after (.handActuated ⟨1, on⟩) (rt 504000000 t)).rook.thSat = true ∧
    (after (.handActuated ⟨1, on⟩) (rt 504000001 t)).rook.thSat = false ∧ after (.handActuated ⟨0, on⟩) t = t ∧
    (after (.handReleased ⟨0, List.replicate 50 (false, true)⟩) t).rook.thFirst = none ∧ after (.handReleased ⟨0, on⟩) t = t ∧ s.rinEn 2 = true ∧
    (let off := { s with rook := { s.rook with block := [0] } }; off.rinEn 2 = false ∧ after (.pairFault ⟨0, []⟩) off = off) := by
  decide +kernel
set_option maxRecDepth 20000 in
theorem witness_pair_fault : (after (.pairFault ⟨0, List.replicate 1400 (true, true)⟩) (rt 40000000 (sRook 1))).rook.faults = [.pair 0] := by
  decide +kernel
theorem witness_sack : let s := setFld F.rookCauseCAUSE 8 (sRook 1)
    after (.sackRelease 99999) s = s ∧ ((after (.sackRelease 100000) s).causes 0).getLsbD 3 = false ∧ after (.sackRelease 2000001) s = s ∧
    (after (.sackRelease 5000000) (sRook 2)).rookSt = 1 ∧ (after (.sackRelease 10000001) s).rook.sackStuck = true ∧
    (let t := after (.sackRelease 10000001) s
     after (.sackRelease 100000) t = t ∧ after .sackRearm t = t ∧ (after .sackRearm (rt 1000000000 t)).rook.sackStuck = false) := by decide +kernel
theorem witness_rail_ok : let good := setFld (F.railStatSTATE.rail 0) 2 (setFld (F.railStatSTATE.rail 1) 3 (setFld (F.railStatSTATE.rail 2) 2
      { sRook 1 with rook := { (sRook 1).rook with railBad := 1 } }))
    good.railOk 0 = true ∧ (sRook 1).railOk 0 = false ∧ ((after (.railOkChange 0) (sRook 1)).causes 0).getLsbD 1 = true ∧
    (let t := after (.railOkChange 0) good
     SMap.find t.rook.railSince 0 = some 0 ∧ after (.railCauseClear 0) t = t ∧
     (after (.railCauseClear 0) (rt 1000000 t)).rook.railBad = 0) := by decide +kernel
theorem witness_rook_cart : let s := sRook 1
    after (.rookCartDetect ⟨false, 49⟩) s = s ∧ after (.rookCartDetect ⟨true, 4999⟩) s = s ∧
    (let t := after (.rookCartDetect ⟨false, 50⟩) s
     t.rook.cartAbsent = true ∧ (t.causes 5).getLsbD 9 = true ∧ (after (.rookCartDetect ⟨true, 5000⟩) t).rook.cartAbsent = false) := by decide +kernel

/-- RookStatesAndTap: INIT and its ends, HALT, the expiry, tapped, lost and driven packets, bins, DIAG's lines. -/
theorem witness_rook_init : let i : RookInit := { selfTest := true }
    (sRook 0).rook.waiting = false ∧ (sRook 0).pwr.domsOff.contains 8 = false ∧ (sRook 0).pwr.st ≠ .off ∧ (sRook 0).rook.stored = none ∧
    (after (.rookInitComplete { i with selfTest := false }) (sRook 0)).rookSt = 4 ∧
    (after (.rookInitComplete { i with blockOk := true }) { sRook 0 with rook := { (sRook 0).rook with stored := some (rBlock []) } }).rookSt = 1 ∧
    after (.rookInitComplete i) (sRook 1) = sRook 1 ∧ (after .halt (sRook 1)).rookSt = 4 ∧ after .halt (sRook 4) = sRook 4 := by decide +kernel
theorem witness_expiry : let s := rt 600000000000 (setFld F.rookStatCAPPED 3 (sRook 2))
    s.rookSince 0 (s.rp 0x9A 1 * 60000000000) = true ∧
    (let t := after .endgameExpiry s; t.rookSt = 3 ∧ t.fld F.rookStatHELD = 3 ∧ (t.causes 1).getLsbD 11 = true) ∧
    after .endgameExpiry (sRook 2) = sRook 2 := by decide +kernel

/-- Zone 0 over the first tile, limits as given. -/
def aZone (sum site : Nat) : List Byte :=
  leBytes 8 (2 ^ 63 + 63 * 2 ^ 48 + 63 * 2 ^ 32) ++ leBytes 8 sum ++ leBytes 2 site ++ [1, 1, 1, 1] ++ List.replicate 10 0
def sTap (zone : List Byte) (pkt : TePkt) (tap : BitVec 8) : State :=
  let s := setFld (F.epPstatSTATE.ep 0) 4 (sRook 1)
  { s with rook := { s.rook with block := rBlock zone }, ports := [(0, { slots := [{ sentSlot with pkts := [pkt], tap := tap }] })] }
set_option maxRecDepth 20000 in
theorem witness_tap : let k : TePkt := { dark := false, row := 1, words := List.replicate 192 0x11 }
    (let t := after (.tapPacket 0 0) (sTap (aZone 1000 100) {} 0); t.tapBins 0 0 = []) ∧
    (let t := after (.tapPacket 0 0) (sTap (aZone 1000 100) k 0)
     (t.tapBins 0 0).headD {} = ⟨192 * 2, 192 * 254 * 2, 192 * 255 * 2⟩ ∧ t.rook.zoneHot = 0) ∧
    ((after (.tapPacket 0 0) (sTap (aZone 1000 1) k 0)).causes 0).getLsbD 6 = true ∧ after (.tapPacket 0 0) (sRook 1) = sRook 1 := by
  decide +kernel
theorem witness_tap_lost : let s := sTap [] {} 0
    (List.range 16).all (fun z => !((s.rzone (s.tapSet 0) z).en)) = true ∧ ((after (.tapLost 0 0) s).fltSet .rook).stat.getLsbD 7 = true ∧
    (let m := { s with rook := { s.rook with misses := [(0, 70)] }, ports := [(0, { slots := [{ sentSlot with miss := true, tap := 2 }] })] }
     ((after (.tapLost 0 0) m).causes 0).getLsbD 8 = true) := by decide +kernel
set_option maxRecDepth 20000 in
theorem witness_bins : let s := rt 1000000 (sRook 1)
    s.rookSince 0 1000000 = true ∧ after .zoneBinClose (sRook 1) = sRook 1 ∧
    (let b := { s with rook := { s.rook with bins := [(3, [⟨1, 2, 4⟩])] } }; (after .zoneBinClose b).rookSt = 4) ∧
    (let b := { s with rook := { s.rook with bins := [(3, [⟨1, 2, 3⟩])] } }
     (List.range 512).all (fun i => let b := (SMap.get b.rook.bins i []).headD {}; b.a + b.b == b.full) = true ∧
     (after .zoneBinClose b).rook.bins = [(3, [{}, ⟨1, 2, 3⟩])]) := by decide +kernel
theorem witness_stuck_lines : let s := { sRook 1 with diag := { (sRook 1).diag with stk := [(0, 3 * 32 * 12288, true)] } }
    s.stuckLines = 8 ∧ (sRook 1).stuckLines = 0 ∧ after (.stuckLineAssert 3) (sRook 1) = sRook 1 ∧ after (.stuckLineDeassert 3) s = s ∧
    (let t := after (.stuckLineAssert 3) s
     (t.causes 3).getLsbD 7 = true ∧ (t.causes 0).getLsbD 7 = false) ∧
    s.hasKeepOut = false ∧ after .stuckOvfLine s = s ∧
    (let k := { setFld F.diagStatOVF 1 (sRook 1) with rook := { (sRook 1).rook with block := rBlock (leBytes 8 (3 * 2 ^ 62) ++ List.replicate 24 0) } }
     k.stuckLines.getLsbD 8 = true ∧ k.hasKeepOut = true ∧ ((after .stuckOvfLine k).causes 6).getLsbD 7 = true) := by decide +kernel
theorem witness_gate_closes : let s := sPermit
    (((after (.groupClose 0) s).rgroup 0).sw false).gate = true ∧ s.permit 0 = true := by decide +kernel

/-! Chain ports, Berranlink, PTP, scheduled actions. -/

/-- Both chain ports run with their links up; CN0 is UPSTREAM and the address is 7. -/
def sChain : State :=
  let port := fun (c : Nat) (s : State) => setFlag (F.chnPortCfgEN.cn c) true (setFld (F.chnPortCfgLINK.cn c) 2 s)
  setFld F.chnAddrADDR 7 (setFlag F.chnAddrVALID true (port 0 (port 1 State.reset)))
/-- A broadcast frame of type 0x0800 that is no UDP; the same with a type of its own. -/
def eth (type : Nat) (body : List Byte) : List Byte := List.replicate 6 0xFF ++ [2, 0, 0, 0, 0, 1] ++ beBytes 2 type ++ body

/-- ChainPorts: modules, links and their rates, frames, HOST, TX items. -/
theorem witness_module : let s := setFld (F.chnPortCfgRATE.cn 1) 2 (setFlag (F.chnPortCfgEN.cn 1) true State.reset)
    s.chnOn = true ∧ ((after (.moduleInsert 1 none) s).fltSet .chn).stat = 8 ∧
    ((after (.moduleInsert 1 (some 25781)) s).fltSet .chn).stat = 0 ∧
    (after (.linkChange 1 true) (after (.moduleInsert 1 (some 25781)) s)).fld (F.chnPortCfgLINK.cn 1) = 2 ∧
    (after (.linkChange 1 true) (after (.moduleInsert 1 none) s)).fld (F.chnPortCfgLINK.cn 1) = 1 ∧
    (after (.linkChange 1 true) (setFld (F.chnPortCfgRATE.cn 1) 0 s)).fld (F.chnPortCfgLINK.cn 1) = 1 ∧
    (after (.linkChange 1 true) (setFld (F.chnPortCfgRATE.cn 1) 1 s)).fld (F.chnPortCfgLINK.cn 1) = 2 ∧
    633 ∈ (after (.moduleRemoval 1) sChain).evt ∧ (after (.linkChange 1 false) sChain).fld (F.chnPortCfgLINK.cn 1) = 0 := by decide +kernel
theorem witness_chain_frame : let s := sChain
    let f := eth 0x9000 (List.replicate 10 7)
    s.linkUp 0 = true ∧ s.linkUp 1 = true ∧ State.reset.linkUp 0 = false ∧ 14 ≤ f.length ∧ frPtp f = none ∧ frTagged f = false ∧
    beAt f 0 6 = 0xFFFFFFFFFFFF ∧ (s.route (blHop ++ f.drop 6)) = (false, true) ∧ frType f ≠ 0x88B5 ∧ s.srcFlow f = false ∧
    s.sacnFor f = false ∧ s.flag F.chnQueuesHOSTEN = false ∧
    SMap.get (hostRx 0 f s).chn.counts 5 0 = 1 ∧ SMap.get (hostRx 0 (eth 0x88B5 []) s).chn.counts 6 0 = 1 ∧
    (let q := sQ (setFlag F.chnQueuesHOSTEN true (setFld F.chnQueuesHOST 40 s))
     (hwPop 40 (hostRx 0 f q)).1 = some (List.replicate 16 0 ++ f)) ∧
    (let h := blHop ++ f.drop 6; after (.chainFrameRx 0 h false true true) s = s) := by decide +kernel
theorem witness_chain_down : let s := setFld (F.chnPortCfgLINK.cn 1) 0 sChain
    s.linkUp 0 = true ∧ s.linkUp 1 = false ∧ after (.chainFrameRx 1 (eth 0x9000 []) true true true) s = s := by decide +kernel
theorem witness_host_tx : let s := setFlag F.chnQueuesTXEN true (setFld F.chnQueuesTX 40 (sQ sChain))
    let item := fun (p : Nat) => BitVec.ofNat 8 p :: List.replicate 15 0 ++ eth 0x9000 [1, 2]
    after .hostTx sChain = sChain ∧ (hwPop 40 s).1 = none ∧ (item 3).length = 32 ∧
    (after .hostTx (hwPush 40 (item 3) s).2).out.length = 2 ∧ (after .hostTx (hwPush 40 (item 2) s).2).out.length = 1 ∧
    SMap.get (after .hostTx (hwPush 40 (item 0) s).2).chn.counts 5 0 = 1 := by decide +kernel

/-- BerranlinkFrames: ASSIGN taken and too long, STATUS, walks, results, WAKE. -/
theorem witness_assign : let t := after (.chainAssign 1 1023) sChain
    t.fld F.chnAddrADDR = 1023 ∧ t.fld F.chnAddrUPSTREAM = 1 ∧ 629 ∈ t.evt ∧ t.out.length = 1 ∧
    (let u := after (.chainAssign 1 1024) sChain; u.flag F.chnAddrVALID = false ∧ (u.fltSet .chn).stat.getLsbD 7 = true) ∧
    (after (.chainAssign 0 3) (setFld (F.chnPortCfgLINK.cn 1) 0 sChain)).out = [] := by decide +kernel
theorem witness_status : let s := { setFld F.chnStatusPERIOD 100 sChain with now := 100000000 }
    (after .statusSend s).out.length = 1 ∧ (after .statusSend s).chn.statusAt = 100000000 ∧ after .statusSend sChain = sChain ∧
    s.linkUp (s.fld F.chnAddrUPSTREAM) = true := by decide +kernel
theorem witness_walk : let w : Walk := { ref := List.replicate 16 0, epoch := 5, mismatch := 0, addrs := [], overflow := false }
    let t := after (.digestWalk 0 true w) sChain
    t.flag F.chnWalkMATCH = true ∧ t.out.length = 1 ∧ 630 ∈ t.evt ∧ t.chn.walked = true ∧
    (after (.digestWalk 0 true w) t).fld F.chnWalkWALKDUP = 1 ∧ after (.digestWalk 1 true w) sChain = sChain ∧
    (after (.digestWalk 0 true { w with ref := List.replicate 16 1 }) sChain).flag F.chnWalkMATCH = false ∧
    (after (.digestResult 1 (eth 0x88B5 [])) sChain).out.length = 1 ∧ after (.digestResult 0 (eth 0x88B5 [])) sChain = sChain := by decide +kernel
theorem witness_wake : sChain.pwr.seq = none ∧ sChain.pwr.st = .a ∧ 634 ∈ (after (.wake 0 none) sChain).evt ∧
    634 ∈ (after (.wake 0 (some (7, 9))) sChain).evt ∧ after (.wake 0 (some (8, 9))) sChain = sChain ∧
    (let s := { sChain with pwr := { sChain.pwr with st := .s1, domsOff := [7] } }
     let t := after (.wake 0 none) (setFld F.pwrWakeEnS1 1 s)
     bit (t.fld F.pwrStatWAKE) 0 = true ∧ t.fld F.pwrStatSTATE = 3 ∧ bit ((setFld F.pwrWakeEnS1 0 s).fld F.pwrWakeEnS1) 0 = false) := by
  decide +kernel

/-- Domain 0 active in a state with a clock; a threshold of 20 µs. -/
def sPtp (st : Nat) (v : DomState) : State :=
  let s := setFlag (F.ptpDomCfgEN.dom 0) true (setFld (F.ptpDomStatSTATE.dom 0) st (setFld F.ptpCtrlSTEPTHR 20 State.reset))
  { s with ptp := { s.ptp with dom := [(0, v)], set := v.set } }
/-- The other domain LOCKED beside it. -/
def sBoth (st : Nat) (v : DomState) : State :=
  let s := setFlag (F.ptpDomCfgEN.dom 1) true (setFld (F.ptpDomStatSTATE.dom 1) 3 (sPtp st v))
  { s with ptp := { s.ptp with dom := [(0, v), (1, { set := true })] } }

/-- DomainsAndCastling: samples (off, the first, held, in a run, the eighth, tracked, a run that ends), masters, HOLDOVER, Castling, RATIO. -/
theorem witness_sync : State.reset.fld F.ptpCtrlACTIVE = 0 ∧ State.reset.ptpOn = true ∧ after (.ptpSyncSample 0 0 0) State.reset = State.reset ∧
    (let t := after (.ptpSyncSample 0 (-7) 0) (sPtp 2 { dt := 9000000000 })
     (t.dom 0).dt = -7000000000 ∧ t.fld (F.ptpDomStatOFFSET.dom 0) = 16 ∧ (t.dom 0).set = true) ∧
    (let t := after (.ptpSyncSample 0 7 0) (sPtp 2 { dt := 9000000000 }); t.gtFine = 7000000000) ∧
    (let t := after (.ptpSyncSample 0 30000 0) (sPtp 3 { set := true })
     (t.dom 0).held = 1 ∧ (t.dom 0).first = some (-30000) ∧ 663 ∈ t.evt ∧ t.fld F.ptpCtrlACTIVE = 0) ∧
    (let t := after (.ptpSyncSample 0 30000 0) (setFlag F.ptpCtrlCASTLEAUTO true (sBoth 3 { set := true }))
     t.fld F.ptpCtrlACTIVE = 1 ∧ 662 ∈ t.evt) := by decide +kernel
theorem witness_sync_run : let v : DomState := { set := true, first := some (-30000), held := 6 }
    ((after (.ptpSyncSample 0 31000 0) (sPtp 3 v)).dom 0).held = 7 ∧
    (let t := after (.ptpSyncSample 0 31000 0) (sPtp 3 { v with held := 7 })
     (t.dom 0).jump = some 31000 ∧ t.gtFine = 31000000000000 ∧ (t.dom 0).held = 0) ∧
    ((after (.ptpSyncSample 0 31000 0) (setFlag F.ptpCtrlTLEN true (sPtp 3 { v with held := 7 }))).ptp.step) = some { s := some 31000 } ∧
    (let t := after (.ptpSyncSample 0 31000 0) (sBoth 3 { v with held := 7 }); t.gtFine = 0 ∧ ((sBoth 3 v).dom 1).jump = none) ∧
    (let t := after (.ptpSyncSample 0 31000 0) (setFld F.ptpCtrlACTIVE 1 (sBoth 3 { v with held := 7 }))
     (t.dom 0).dt = 31000000000000 ∧ t.gtFine = 0) := by decide +kernel
theorem witness_sync_tracks : let t := after (.ptpSyncSample 0 (-100) 0) (sPtp 2 { set := true, good := 15 })
    t.fld (F.ptpDomStatSTATE.dom 0) = 3 ∧ 665 ∈ t.evt ∧
    (after (.ptpSyncSample 0 (-101) 0) (sPtp 2 { set := true, good := 15 })).fld (F.ptpDomStatSTATE.dom 0) = 2 ∧
    (after (.ptpSyncSample 0 (-1001) 0) (sPtp 3 { set := true, bad := 3 })).fld (F.ptpDomStatSTATE.dom 0) = 2 ∧
    (after (.ptpSyncSample 0 (-1000) 0) (sPtp 3 { set := true, bad := 3 })).fld (F.ptpDomStatSTATE.dom 0) = 3 ∧
    (let u := after (.ptpSyncSample 0 5 0) (sPtp 3 { set := true, first := some 30000, held := 4 })
     (u.dom 0).held = 0 ∧ (u.fltSet .ptp).stat.getLsbD 3 = true) := by decide +kernel
theorem witness_master : let t := after (.ptpMessage 0 (.master 1)) (sPtp 1 {})
    t.fld (F.ptpDomStatSTATE.dom 0) = 2 ∧ t.fld (F.ptpDomStatPORT.dom 0) = 1 ∧
    (after (.ptpMessage 0 (.master 1)) (sPtp 3 {})).fld (F.ptpDomStatSTATE.dom 0) = 3 ∧
    after (.ptpMessage 0 .become) (sPtp 1 {}) = sPtp 1 {} ∧
    (after (.ptpMessage 0 .become) (setFlag (F.ptpDomCfgMASTEREN.dom 0) true (sPtp 1 {}))).fld (F.ptpDomStatSTATE.dom 0) = 5 ∧
    after (.holdoverEntry 0) State.reset = State.reset ∧ after (.holdoverEntry 0) (sPtp 4 {}) = sPtp 4 {} ∧
    (after (.holdoverEntry 0) (sPtp 2 { set := true })).fld (F.ptpDomStatSTATE.dom 0) = 1 ∧
    (let u := after (.holdoverEntry 0) (sPtp 3 { set := true, f := 5, r := 9 })
     (u.dom 0).r = 5 ∧ u.fld (F.ptpDomStatSTATE.dom 0) = 4 ∧ (u.fltSet .ptp).stat.getLsbD 6 = true) := by decide +kernel
theorem witness_castle : let s := sBoth 3 { set := true }
    s.domDiff 1 = 0 ∧ (after .castle s).fld F.ptpCtrlACTIVE = 1 ∧ s.pwr.stopped.contains 10 = false ∧ s.rst.held = false ∧
    ((after .castle (sPtp 3 {})).fltSet .ptp).stat.getLsbD 5 = true ∧ ((after .castleStep (sPtp 3 {})).fltSet .ptp).stat.getLsbD 5 = true ∧
    (let far := { s with ptp := { s.ptp with dom := [(0, {}), (1, { set := true, dt := 10 ^ 15 })] } }
     ((after .castle far).fltSet .ptp).stat.getLsbD 5 = true ∧ (after .castleStep far).gtFine = 10 ^ 15 ∧
     (after .castleStep (setFlag F.ptpCtrlTLEN true far)).ptp.step = some { s := none }) := by decide +kernel
theorem witness_ratio : let s := { setFld F.ptpCtrlGTSTATE 2 (setFld F.pwrAonCntCNT 32768 State.reset) with gtFine := 10 ^ 18, pwr := { State.reset.pwr with calBad := false } }
    (after .aonRatioCalibrate s).fld F.pwrAonRatioRATIO = 131072000000000 ∧ after .aonRatioCalibrate State.reset = State.reset ∧
    (after .aonRatioCalibrate { s with pwr := { s.pwr with calBad := true } }).pwr.calBad = false := by decide +kernel
/-- The worked example: a step of −5 ms at 120 Hz, applied in frame 600: K is −1 and FRAME_EPOCH moves to −8,333,333. -/
theorem test_step_example : stepK (-5000000) 546133333333 = -1 ∧
    (let s := setFlag F.ptpCtrlTLEN true (setFld F.ptpFrameEpochEPOCH 1 (setInF F.ptpFramePeriodPERIOD 546133333333 (sPtp 3 { set := true })))
     let t := applyStep 600 (some (-5000000)) { s with gtFine := 5000100000 * 1000000000 }
     s.frameStart 600 = 5000000000 ∧ s.frameStart 601 = 5008333334 ∧ toInt 64 (t.fld F.ptpFrameEpochEPOCH) = -8333333 ∧
     t.gtFine = 4995100000 * 1000000000 ∧ t.frameStart 601 = 5000000000) := by decide +kernel

/-- Entry 5 of a kind in a state, for an instant, with an argument. -/
def sSat (kind st time arg : Nat) : State :=
  setFlag F.satCtrlEN true (setFld (F.satECtrlKIND.sat 5) kind (setFld (F.satECtrlSTATE.sat 5) st (setFld (F.satETimeTIME.sat 5) time
    (setFld (F.satEArgARG.sat 5) arg (setFld (F.satECtrlTOL.sat 5) 1 (setFld (F.satECtrlDEF.sat 5) 0 State.reset))))))

/-- ScheduledActions: ARM refused, late and in time; DISARM; submissions refused, late and in time. -/
theorem witness_arm : let s := sSat 5 0 99999999 0
    s.inReset .sat = false ∧ 65536 ≤ s.inF F.ptpFramePeriodPERIOD ∧ s.dueFrame 5 = 12 ∧
    ((after (.arm 5) (sSat 0 0 0 0)).fltSet .sat).stat = 2 ∧ (after (.arm 5) s).fld (F.satECtrlSTATE.sat 5) = 1 ∧
    (let t := after (.arm 5) (sSat 1 0 100 1)
     (sSat 1 0 100 1).earliestOpen 1 = 2 ∧ t.fld (F.satECtrlSTATE.sat 5) = 1) ∧
    (let t := after (.arm 5) { s with gtFine := 200000000 * 1000000000 }
     t.fld (F.satECtrlSTATE.sat 5) = 3 ∧ (t.fltSet .sat).stat.getLsbD 4 = true) := by decide +kernel
theorem witness_disarm : after (.disarm 5) (sSat 5 0 0 0) = sSat 5 0 0 0 ∧ ((after (.disarm 5) (sSat 2 1 0 0)).fltSet .sat).stat.getLsbD 3 = true ∧
    (after (.disarm 5) (sSat 5 1 0 0)).fld (F.satECtrlSTATE.sat 5) = 0 ∧ 681 ∈ (after (.disarm 5) (sSat 5 3 0 0)).evt := by decide +kernel
theorem witness_submit : let s := { sSat 1 1 99999999 1 with gtFine := 83400000 * 1000000000 }
    s.startI (12 - 2) + 16000 ≤ (s.gt : Int) ∧ s.commit.pend = none ∧ (List.range 5).all (fun i => !(s.satDue i)) = true ∧ s.earliestOpen 1 = 12 ∧
    (let t := after (.satCommitSubmit 5) s
     t.commit.pend = some ⟨12, 1, some 5⟩ ∧ t.fld (F.satECtrlSTATE.sat 5) = 2 ∧ t.flag (F.satECtrlLATE.sat 5) = false) ∧
    after (.satCommitSubmit 5) { s with gtFine := 0 } = { s with gtFine := 0 } ∧
    (after (.satCommitSubmit 5) { s with gtFine := 300000000 * 1000000000 }).fld (F.satECtrlSTATE.sat 5) = 3 := by decide +kernel

/-! DMX and CAN, updates, power. -/

/-- DMX on, its queue enabled, a UID. -/
def sDmx : State := sQ (setFlag F.dmxCfgEN true (setFld F.dmxCfgQUEUE 40 (setFld F.dmxUidUID 0x700000000005 (setFld F.dmxCfgLOSSMS 1000 State.reset))))
/-- An RDM packet to a UID, of a command class and parameter, with its checksum. -/
def rdm (dst cc pid : Nat) (data : List Byte) : List Byte :=
  let b := [0xCC, 1, 24] ++ beBytes 6 dst ++ List.replicate 11 0 ++ [BitVec.ofNat 8 cc] ++ beBytes 2 pid ++ [BitVec.ofNat 8 data.length] ++ data
  b ++ beBytes 2 (rdmSum b)

/-- DmxAndRdm: packets with and without loss, an alternate start code, DMX_LOSS, RDM packets bad, for discovery, for the device and not. -/
theorem witness_dmx : State.reset.dmxOn = false ∧ sDmx.dmxOn = true ∧ sDmx.flag F.dmxStatLOSS = false ∧
    (let t := after (.dmxPacket 0 [1, 2, 3]) sDmx
     t.fld F.dmxStatSLOTS = 3 ∧ t.fld (F.dmxSlotsSLOTS.at 0) = 0x030201 ∧ t.fld F.dmxStatPACKETS = 1) ∧
    (let t := after (.dmxPacket 0 []) (setFlag F.dmxStatLOSS true sDmx); t.flag F.dmxStatLOSS = false ∧ 750 ∈ t.evt) ∧
    (hwPop 40 (after (.dmxPacket 0x17 [9]) sDmx)).1 = some [0x17, 9] ∧ after .dmxLoss sDmx = sDmx ∧
    (after .dmxLoss { sDmx with now := 1000000000 }).flag F.dmxStatLOSS = true := by decide +kernel
theorem witness_rdm : let q := rdm 0x700000000005 0x20 0x60 []
    let d := rdm 0xFFFFFFFFFFFF 0x10 1 (beBytes 6 0 ++ beBytes 6 0xFFFFFFFFFFFE)
    rdmOk q = true ∧ rdmOk d = true ∧ leAt q 0 1 = 0xCC ∧ beAt q 20 1 = 0x20 ∧ beAt d 20 1 = 0x10 ∧ beAt d 21 2 = 1 ∧
    (after (.rdmRequest (q.drop 1)) sDmx).fld F.dmxStatRDMBAD = 1 ∧ (after (.rdmRequest d) sDmx).out.length = 1 ∧
    after (.rdmRequest d) (setFlag F.dmxCfgMUTED true sDmx) = setFlag F.dmxCfgMUTED true sDmx ∧
    (let t := after (.rdmRequest q) sDmx; t.dmx.req = some 0 ∧ 749 ∈ t.evt) ∧
    (after (.rdmRequest q) (setFld F.dmxCfgQUEUE 41 sDmx)).dmx.req = none ∧
    after (.rdmRequest (rdm 0x700000000006 0x20 0x60 [])) sDmx = sDmx := by decide +kernel
theorem witness_rdm_response : let s := { sDmx with dmx := { req := some 0 } }
    ((after (.rdmSend 0) s).fltSet .dmx).stat = 2 ∧ ((after (.rdmSend 3) sDmx).fltSet .dmx).stat = 2 ∧
    (let t := after (.rdmSend 3) s
     t.flag F.dmxStatRESPBUSY = true ∧ after .rdmResponseSent t = t ∧
     (after .rdmResponseSent { t with now := 176000 }).out = [.rdm [0, 0, 0]] ∧ after .rdmLate { t with now := 1800000 } = { t with now := 1800000 }) ∧
    (after (.rdmSend 3) { s with now := 1800001 }).dmx.late = true ∧ after .rdmLate s = s ∧
    (after .rdmLate { s with now := 1800000 }).fld F.dmxStatRDMLATE = 1 ∧ after .rdmLate sDmx = sDmx := by decide +kernel

/-- CAN port 1 on with a filter for identifier 0x123, on queue 40. -/
def sCan : State :=
  sQ (setFlag (F.canPortCtrlEN.can 1) true (setFld (F.canPortStatSTATE.can 1) 0 (setFlag (F.canPortFltIdEN.can 1) true (setFld (F.canPortFltIdID.can 1) 0x123
    (setFld (F.canPortFltMaskMASK.can 1) 0x7FF (setFld (F.canPortQueuesRXQ.can 1) 40 (setFld (F.canPortQueuesTXQ.can 1) 40 State.reset)))))))
def canFrame (id : Nat) : CanFrame := { id := BitVec.ofNat 29 id, ide := false, rtr := false, fdf := false, brs := false, esi := false, dlc := 2, data := [7, 8] }
def canItem : List Byte := leBytes 8 (0x123 + 2 * 2 ^ 36) ++ leBytes 8 0 ++ [7, 8]

/-- CanPorts: frames accepted, filtered out and lost; items bad and sent; success, errors, bus-off and its end. -/
theorem witness_can_rx : sCan.canOn 1 = true ∧ (List.range 32).all (fun k => decide (sCan.fld ((F.canPortFltIdEN.can 1).at (16 * k)) ≤ 1)) = true ∧
    (let t := after (.canFrameRx 1 (canFrame 0x123)) sCan
     t.fld (F.canPortStatRXD.can 1) = 1 ∧ (hwPop 40 t).1 = some (leBytes 8 (0x123 + 2 * 2 ^ 36) ++ leBytes 8 0 ++ [7, 8])) ∧
    (after (.canFrameRx 1 (canFrame 0x124)) sCan).fld (F.canPortStatRXD.can 1) = 0 ∧ sCan.canFilter 1 false 0x124 = none ∧
    (let t := after (.canFrameRx 1 (canFrame 0x123)) (setFld (F.canPortQueuesRXQ.can 1) 41 sCan)
     t.fld (F.canPortCntRXLOST.can 1) = 1 ∧ (t.fltSet .can).stat.getLsbD 4 = true) ∧
    after (.canFrameRx 0 (canFrame 0x123)) sCan = sCan := by decide +kernel
theorem witness_can_tx : let s := (hwPush 40 canItem sCan).2
    let t := after (.canTxItem 1) s
    (sCan.canPort 1).cur = none ∧ (hwPop 40 s).1 = some canItem ∧ (hwPop 40 sCan).1 = none ∧ (t.canPort 1).cur = some canItem ∧
    t.out = [.can 1 canItem] ∧ after (.canTxItem 1) t = t ∧ after (.canTxDone 1) s = s ∧
    (after (.canTxDone 1) t).fld (F.canPortStatTXD.can 1) = 1 ∧
    (let b := after (.canTxItem 1) (hwPush 40 [1] sCan).2; b.fld (F.canPortCntTXBAD.can 1) = 1 ∧ 754 ∈ b.evt) := by decide +kernel
theorem witness_can_errors : let s := setFld (F.canPortStatTEC.can 1) 250 (setFld (F.canPortStatSTATE.can 1) 1 sCan)
    let t := after (.canBusError 1 true 8 3) s
    t.fld (F.canPortStatTEC.can 1) = 255 ∧ (t.canPort 1).past255 = true ∧ after (.busOff 1) s = s ∧
    (after (.canBusError 1 false 1 3) s).fld (F.canPortStatREC.can 1) = 1 ∧
    (after (.canBusError 1 true 8 3) (setFlag (F.canPortCtrlLISTEN.can 1) true s)).fld (F.canPortStatTEC.can 1) = 250 ∧
    (let b := after (.busOff 1) t
     b.fld (F.canPortStatSTATE.can 1) = 2 ∧ (b.fltSet .can).stat.getLsbD 3 = true ∧ after (.busOffRecoveryEnd 1) b = b ∧
     (let e := after (.busOffRecoveryEnd 1) (after (.canRestart 1) b); e.fld (F.canPortStatSTATE.can 1) = 0 ∧ e.fld (F.canPortStatTEC.can 1) = 0)) ∧
    after (.canRestart 1) sCan = sCan := by decide +kernel

/-- Bank 0 runs, GOOD, and UPD is enabled on the chain. -/
def sUpd (st : Nat) (sess : Option UpdSess) (fwd : List FwdSess) : State :=
  let s := setFlag F.updCtrlEN true sChain
  { s with upd := { s.upd with running := some 0, sess := sess, fwd := fwd, recs := { s.upd.recs with bank := [(0, { st := st })] } } }
/-- A header of one block that passes check 1. -/
def aHdr : List Byte :=
  leBytes 4 0x55464C55 ++ leBytes 2 1 ++ List.replicate 6 0 ++ leBytes 4 3 ++ leBytes 4 9 ++ leBytes 4 2 ++ leBytes 4 5 ++ leBytes 2 1 ++
    List.replicate 482 0
def aSess : UpdSess := { src := 1, id := 77, header := aHdr, key := [] }
def aFwd : FwdSess := { port := 1, id := 5 }

/-- UpdateSessions: offers off, bad, in TRIAL, while an activation is armed, and to be judged; the headers of the running bank read as given. -/
theorem witness_offer : let s := sUpd 4 none []
    s.updHears 0 = true ∧ State.reset.updHears 0 = false ∧ sChain.updHears 0 = true ∧ sChain.flag F.updCtrlEN = false ∧ s.rst.recovery = false ∧
    hdrBad aHdr = false ∧ hdrBad [] = true ∧ headerCode 0 [] = 1 ∧ leAt [] 0 4 ≠ 0x55464C55 ∧
    ((after (.offer 0 77 []) s).fltSet .upd).stat.getLsbD 3 = true ∧ (after (.offer 0 77 []) s).fld F.updSessLASTCODE = 1 ∧
    (s.bank 0).st ≠ 3 ∧ ((sUpd 3 none []).bank 0).st = 3 ∧ (s.bank 1).st ≠ 2 ∧ s.upd.recs.resume = none ∧ Memory.wf s.mem = true ∧
    s.activationArmed (fun k => (s.bank k).st == 2) = false ∧
    (let a := setFld F.satECtrlSTATE 1 (setFld F.satECtrlKIND 2 (setFld F.satEArgARG 1 { s with upd := { s.upd with recs := { s.upd.recs with
        bank := [(0, { st := 4 }), (1, { st := 2 })] } } }))
     a.activationArmed (fun k => (a.bank k).st == 2) = true) := by decide +kernel
theorem witness_bank_base : bankBase 0 = 0x40000000 := by simp [bankBase]
theorem witness_running_header : let s := putBytes 0x40000000 aHdr (sUpd 4 none [])
    imageId aHdr = imageId (s.bankHdr 0) ∧ hdrDigest aHdr = hdrDigest (s.bankHdr 0) ∧ imageId [] ≠ imageId (s.bankHdr 0) := by
  simp only [State.bankHdr, witness_bank_base]
  decide +kernel
theorem witness_clash : let s := putBytes 0x40000000 (aHdr.take 48 ++ [1]) (sUpd 4 none [])
    imageId aHdr = imageId (s.bankHdr 0) ∧ hdrDigest aHdr ≠ hdrDigest (s.bankHdr 0) := by
  simp only [State.bankHdr, witness_bank_base]
  decide +kernel
theorem witness_forward : let s := fun (f : FwdSess) => sUpd 4 (some { aSess with raw := [(0, [1])] }) [f]
    (s aFwd).updHears 1 = true ∧ aFwd.ended = false ∧ aSess.ended = false ∧
    after (.answer 1 5 0 0) (s { aFwd with open_ := true }) = s { aFwd with open_ := true } ∧
    ((after (.answer 1 5 0 0) (s aFwd)).upd.fwd.map FwdSess.open_) = [true] ∧ ((after (.answer 1 5 9 0) (s aFwd)).upd.fwd.map FwdSess.ended) = [true] ∧
    (after (.blockResult 1 5 0 0) (s { aFwd with open_ := true, flight := [0], next := 1 })).upd.fwd.map FwdSess.flight = [[]] ∧
    (after (.blockResult 1 5 0 14) (s { aFwd with open_ := true, flight := [0], next := 1 })).out.length = 1 ∧
    (after (.final 1 5 0) (s aFwd)).fld F.updSessFWD = 2 ∧ (after (.abortFrame 1 5 0) (s aFwd)).fld F.updSessFWD = 2 ∧
    after (.sessionTimeout (some 1)) (s aFwd) = s aFwd ∧
    ((after (.sessionTimeout (some 1)) { s aFwd with now := 2000000000 }).fltSet .upd).stat.getLsbD 7 = true := by decide +kernel
theorem witness_data : let s := sUpd 4 (some aSess) []
    let l : List Byte := List.replicate 32 0
    (aSess.src = 0 + 1 ∧ aSess.id = (77 : BitVec 32).toNat ∧ hdrBlocks aSess.header = 1) ∧
    l.length = 32 + leAt l 8 4 ∧ leAt l 0 2 = 0 ∧ crc32c (l.drop 32) = leAt l 12 4 ∧ leAt l 2 1 = 0 ∧ leAt ([0, 0, 2] ++ l.drop 3) 2 1 = 2 ∧
    ((after (.data 0 77 1 0 l) s).upd.sess = some { aSess with heard := 0 }) ∧
    (let b := l.take 12 ++ [1] ++ l.drop 13
     crc32c (b.drop 32) ≠ leAt b 12 4 ∧ ((after (.data 0 77 0 0 b) s).fltSet .upd).stat.getLsbD 4 = true ∧
     (after (.data 0 77 0 0 b) (sUpd 4 (some { aSess with crcBad := [(0, 3)] }) [])).upd.sess = none) := by decide +kernel
theorem witness_session_ends : let s := sUpd 4 (some aSess) []
    ((after (.done 0 77) s).upd.sess.map UpdSess.done) = some true ∧
    (after (.done 0 77) (sUpd 4 (some { aSess with result := some 0 }) [])).upd.sess = none ∧
    (after (.abortFrame 0 77 0x13) s).upd.recs.resume = some aSess ∧ (after (.abortFrame 0 77 1) s).upd.recs.resume = none ∧
    aSess.full = false ∧ { aSess with plain := [(0, [])] : UpdSess }.full = true ∧ after .imageComplete s = s ∧
    after (.sessionTimeout none) s = s ∧ (after (.sessionTimeout none) { s with now := 2000000000 }).upd.recs.resume = some aSess ∧
    after (.blockWriteDone 0 0) s = s ∧ s.inReset .nvm = false ∧
    (let w := sUpd 4 (some { aSess with writing := [(0, ([], []))] }) []
     ((after (.blockWriteDone 0 1) w).fltSet .upd).stat.getLsbD 8 = true ∧ ((after (.blockWriteDone 0 2) w).fltSet .nvm).stat.getLsbD 5 = true) := by
  decide +kernel

/-- UpdateCommands: off, BUSY, LOCAL commands, ABANDON, CONFIRM, ROLLBACK, ACTIVATE, ERASE, HASH, completion, a trial, UPD_CTRL, ROM_BOOT. -/
theorem witness_upd_cmd : let s := sUpd 4 none []
    s.updOn = true ∧ ({ s with rst := { s.rst with held := true } }).updOn = false ∧ s.live = none ∧
    ((after .confirm { s with upd := { s.upd with busy := some none } }).fltSet .upd).stat.getLsbD 1 = true ∧
    (after .confirm s).upd.busy = some (some 0) ∧ (after .confirm (sUpd 3 none [])).upd.busy = some (some 0) ∧
    s.fallback 0 = false ∧ (after .rollback s).upd.busy = some (some 0x18) ∧ (after (.activate 1) s).upd.busy = some (some 0x17) ∧
    (after (.erase 0) s).upd.busy = some (some 0x19) ∧ s.activationArmed (fun _ => true) = false ∧ s.upd.running ≠ some 1 ∧
    after .updCmdComplete s = s ∧ 741 ∈ (after .updCmdComplete { s with upd := { s.upd with busy := some (some 3) } }).evt := by decide +kernel
theorem witness_upd_local : let s := setFld F.updAddrADDR 0x11900000 (sUpd 4 none [])
    let x := { aSess with src := 3 }
    (updRead 0 512 s).1 = some (List.replicate 512 0) ∧ (updRead 0 512 (setFld F.updAddrADDR 0x100 s)).1 = none ∧
    (updRead 32 0 s).1 = some [] ∧ leAt (List.replicate 32 0) 0 2 < hdrBlocks x.header ∧
    ((after .localDone { s with upd := { s.upd with sess := some x } }).upd.busy) = some none ∧
    ((after .localDone { s with upd := { s.upd with sess := some { x with result := some 0 } } }).upd.busy) = some (some 0) ∧
    (after .abandon { s with upd := { s.upd with sess := some x } }).fld F.updSessLASTCODE = 0x0B ∧ (after .localOffer (setFlag F.updCtrlEN false s)).upd.busy = some (some 0x14) := by
  decide +kernel
theorem witness_upd_rollback : let s := { sUpd 3 none [] with upd := { (sUpd 3 none []).upd with recs := { (sUpd 3 none []).upd.recs with bank := [(0, { st := 3 }), (1, { st := 4 })] } } }
    s.fallback 0 = true ∧ ((after .rollback s).bank 0).st = 5 ∧ (after .rollback s).upd.recs.boot = 1 ∧ after .trialExpired s = s ∧
    ((after .trialExpired { s with now := 10 ^ 12 }).bank 0).st = 5 ∧
    (let a := { s with upd := { s.upd with recs := { s.upd.recs with bank := [(0, { st := 4 }), (1, { st := 2, boots := 2 })] } } }
     (after (.activate 1) a).bank 1 = { st := 3, boots := 0 } ∧ (after (.activate 1) a).upd.recs.boot = 1 ∧
     (let e := setFld F.satECtrlSTATE 1 (setFld F.satECtrlKIND 2 (setFld F.satEArgARG 1 a))
      e.activationArmed (fun k => k == 1) = true ∧ (after (.erase 1) e).upd.busy = some (some 0x0D) ∧ (after (.activate 1) e).upd.busy = some (some 0x0D))) ∧
    (after (.updCtrlWrite 0xC0020064) s).fld F.updCtrlTRIALS = 100 := by decide +kernel
theorem witness_rom_boot : let s := { State.reset with upd := { State.reset.upd with recs := { State.reset.upd.recs with bank := [(0, { st := 4 })] } } }
    s.rst.romWait = true ∧ s.rst.held = false ∧ s.updOn = true ∧ s.inReset .mel = false ∧ s.pwr.stopped.contains 6 = false ∧
    s.fld F.ddrStatSTATE = 0 ∧ (after (.romBoot false) s).fld F.ddrStatSTATE = 1 ∧ s.fallback 0 = false ∧ (s.bank s.upd.recs.boot).st = 4 ∧
    after (.romBoot false) (setFld F.ddrStatSTATE 1 s) = setFld F.ddrStatSTATE 1 s ∧
    (after (.romBoot true) (setFld F.ddrStatSTATE 2 s)).rst.recovery = true := by decide +kernel

/-! Power states, power-on and DRAM. -/

/-- A sequence in progress, with steps stopped and domains off. -/
def sSeq (q : PwrSeq) (stopped domsOff : List Nat) (s : State) : State :=
  { s with pwr := { s.pwr with seq := some q, stopped := stopped, domsOff := domsOff } }
def entering (t : PwrSt) (step : Nat) (agreed : Bool) : PwrSeq := { target := t, dir := .enter, step := step, agreed := agreed, since := 0 }
def sAt (st : PwrSt) : State := { State.reset with pwr := { State.reset.pwr with st := st } }

/-- PowerSequence: requests in each state, BUSY, refused at once, OFF. -/
theorem witness_power_requests : (sAt .a).pwr.st ≠ .off ∧ after .powerRequestS1 (sAt .off) = sAt .off ∧
    (after .powerRequestS1 (sSeq (entering .s1 1 false) [] [] (sAt .a))).fld F.pwrStatRESULT = 2 ∧
    6 ∈ (after .powerRequestA (sAt .a)).evt ∧ 6 ∈ (after .powerRequestS1 (sAt .s1)).evt ∧ 6 ∈ (after .powerRequestS2 (sAt .s2)).evt ∧
    (after .powerRequestS1 (sAt .a)).pwr.seq = some (entering .s1 1 false) ∧ ((after .powerRequestS2 (sAt .s1)).pwr.seq.map PwrSeq.step) = some 7 ∧
    (sAt .a).rookSt < 2 ∧ (after .powerRequestS2 (sAt .a)).pwr.seq = some (entering .s2 1 false) ∧
    (let t := after .powerRequestS2 (setFld F.rookStatSTATE 3 (sAt .a))
     t.pwr.seq = none ∧ t.fld F.pwrStatREASON = 1 ∧ (t.fltSet .sys).stat.getLsbD 9 = true) ∧
    (let t := after .pfail (sAt .s1)
     (t.pwr.seq.map PwrSeq.dir) = some .off ∧ after .powerRequestOff t = t) ∧
    (after .powerRequestOff (sAt .s2)).pwr.st = .off := by decide +kernel
/-- A step that agrees in each of its kinds, one that does not, its end, its refusal. -/
theorem witness_power_agree : ([1, 2, 3, 4, 5, 7, 8, 9, 10, 11].all (fun k => decide ((after .powerStepAgree (sSeq (entering .s2 k false) [] [] (sAt .a))).pwr.stopped = [k]))) = true ∧
    (let s := sSeq (entering .s2 6 false) [] [] (sAt .a)
     after .powerStepAgree s = s ∧ (after .powerStepAgree { s with mel := { s.mel with harts := [] } }).pwr.stopped = [6]) ∧
    (after .powerStepAgree (sSeq (entering .s2 11 false) [] [] (sAt .a))).fld F.ddrStatSTATE = 3 ∧ after .powerStepAgree (sAt .a) = sAt .a := by
  decide +kernel
theorem witness_power_timeout : let s := fun (k : Nat) => sSeq (entering .s2 k false) ((List.range k).drop 1) [] (sAt .a)
    after .powerStepTimeout (s 6) = s 6 ∧
    ([4, 5, 6, 7, 8, 9, 10].all (fun k =>
      let t := after .powerStepTimeout { s k with now := 1000000 }
      decide (t.pwr.stopped = (List.range (k - 1)).drop 1 ∧ t.fld F.pwrStatSTEP = k ∧ t.fld F.pwrStatSTATE = 3))) = true ∧
    (after .powerStepTimeout { s 6 with now := 1000000 }).fld F.pwrStatREASON = 4 := by decide +kernel
theorem witness_power_next : let s := fun (t : PwrSt) (k : Nat) => { sSeq (entering t k true) [] [] (sAt .a) with now := 10000000 }
    after .powerStepDelayEnd { s .s1 1 with now := 0 } = { s .s1 1 with now := 0 } ∧
    ((after .powerStepDelayEnd (s .s1 5)).pwr.seq.map PwrSeq.step) = some 6 ∧ (after .powerStepDelayEnd (s .s1 5)).pwr.domsOff = [0, 1, 2] ∧
    ((after .powerStepDelayEnd (s .s2 10)).pwr.seq.map PwrSeq.step) = some 11 ∧ (s .s1 6).pwr.wakeLatch = none ∧
    (let t := after .powerStepDelayEnd (s .s1 6); t.pwr.st = .s1 ∧ 6 ∈ t.evt) ∧
    ((after .powerStepDelayEnd (s .s2 11)).pwr.seq.map (fun q => q.doms.length)) = some 11 := by decide +kernel
/-- Domains off and on, and the restart of step 10 after S2: the worked example of time across sleep. -/
theorem witness_power_domains : let q : PwrSeq := { (entering .s2 11 true) with doms := [10] }
    let s := sSeq q ((List.range 12).drop 1) ((List.range 10)) (sAt .a)
    (let t := after .domainSwitch s; t.pwr.st = .s2 ∧ t.pwr.domsOff = List.range 11) ∧
    ((after .domainSwitch (sSeq { q with doms := [9, 10] } [] [0] (sAt .a))).pwr.domsOff = [0, 9]) ∧
    ((after .domainSwitch (sSeq { q with dir := .leave, doms := [10] } [] [9, 10] (sAt .s2))).pwr.domsOff = [9]) ∧
    after .domainSwitch (sSeq { q with doms := [] } [] [] (sAt .a)) = sSeq { q with doms := [] } [] [] (sAt .a) := by decide +kernel
theorem test_time_across_sleep : let s := setFld F.pwrAonCntCNT 117967159 (setFld F.pwrAonRatioRATIO 0x00007734F7C00000
      { sSeq { target := .s2, dir := .leave, step := 11, agreed := true, since := 0 } ((List.range 11).drop 1) [] (sAt .s2) with now := 1000000 })
    let t := after .powerStepDelayEnd s
    t.gtFine = 3599999989526 * 1000000000 ∧ t.fld F.ptpCtrlGTSTATE = 3 ∧ t.pwr.stopped = (List.range 10).drop 1 := by decide +kernel
theorem witness_wake_event : let s := setFld F.pwrWakeEnS1 0x81 (sAt .s1)
    let d := { s with pwr := { s.pwr with domsOff := [0, 1, 2] } }
    after (.wakeEvent 2) s = s ∧ (after (.wakeEvent 7) d).fld F.pwrStatWAKE = 0x80 ∧
    (let q := sSeq (entering .s1 6 true) [] [] (setFld F.pwrWakeEnS1 0x81 (sAt .a)); (after (.wakeEvent 7) q).pwr.wakeLatch = some 7) ∧
    (let q := sSeq (entering .s1 2 false) [1] [] (setFld F.pwrWakeEnS1 0x81 (sAt .a)); (after (.wakeEvent 7) q).fld F.pwrStatREASON = 0x0B) ∧
    (let r := setFld F.pwrRtcAlarmALARM 5 (setFld F.pwrWakeEnS1 8 (sAt .s1)); after (.wakeEvent 3) r = r) := by decide +kernel

/-- PowerOnAndDram: the supplies, the power-on reset, scrub reads, training, refresh rates. -/
theorem witness_power_on : let s := sAt .off
    let low := { s with pwr := { s.pwr with supplyEn := false, supplyOk := false } }
    s.pwr.supplyEn = true ∧ after .supplyEnRise s = s ∧ after .supplyEnRise low = low ∧
    (after .supplyEnRise { low with now := 500000000 }).pwr.supplyEn = true ∧ after .supplyRetry s = s ∧
    (after .supplyRetry { s with now := 50000000 }).pwr.supplyEn = false ∧ after .powerOnResetEnd s = s ∧
    (let t := after .powerOnResetEnd (putBytes 0x8010000 [1] (putBytes 0x8020000 [2] (putBytes 0x11800000 [3] { s with now := 2200000 })))
     t.mem = [(0x8020000, 2)] ∧ t.flag F.sysRstCausePOWERON = true ∧ t.rst.romWait = true ∧ t.pwr = {}) ∧
    after .supplyEnRise (sAt .a) = sAt .a := by decide +kernel
theorem witness_scrub : let s := setFlag F.ddrScrubEN true (setFld F.ddrCfgSIZE 4 (setFld F.ddrStatSTATE 2 State.reset))
    s.region 0x800000010 = .dram ∧ after (.scrubRead 1 0) s = s ∧ after (.scrubRead 1 1) State.reset = State.reset ∧
    (let t := after (.scrubRead 1 1) s; t.ce = [] ∧ t.fld F.ddrEccCE = 1 ∧ (t.fltSet .ddr).stat.getLsbD 4 = true) ∧
    (let t := after (.scrubRead 1 2) s; t.ue = [0x80000001] ∧ (t.fltSet .ddr).stat.getLsbD 3 = true) := by decide +kernel
theorem witness_training : let s := setFld F.ddrStatSTATE 1 State.reset
    (after (.ddrTrainingEnd true) s).fld F.ddrStatSTATE = 2 ∧ ((after (.ddrTrainingEnd false) s).fltSet .ddr).stat.getLsbD 5 = true ∧
    after (.ddrTrainingEnd true) State.reset = State.reset ∧
    (let r := setFld F.ddrStatSTATE 2 State.reset
     let t := after (.ddrTherm 1 5 true) r
     t.ddrHot = 2 ∧ (t.fltSet .ddr).raw.getLsbD 6 = true ∧ ((after (.ddrTherm 1 3 false) t).fltSet .ddr).raw.getLsbD 6 = false) ∧
    after (.ddrTherm 1 5 true) s = s := by decide +kernel

/-! Rules beside the statements. -/

/-- R19: a crossing that a channel, a queue operation, a real-time read or a tile engine waits on. -/
theorem test_hs_timeout_waiters : let x := fun (w : Waiter) => ({ blk := .mmu, into := .mel, addr := 0x11900000, waiter := w } : Crossing)
    (let t := after (.hsTimeout (x (.dma 12 false true))) sFill
     t.chSt 12 = 4 ∧ (t.fltSet .mmu).stat.getLsbD 0 = true) ∧
    (let s := setFld (F.qmSlotAddrADDR.slot 3) 0x11900000 (sMapped (sQ State.reset))
     res (ran (.push (op 2)) (after (.hsTimeout (x (.slot 3 false))) s)) = 0x11) ∧
    (let s := sScan 0x40E00000 {}
     (after (.hsTimeout { x (.te 0) with blk := .te 0 }) s).fld (F.teStatSLOTMISS.te 0) = 1) := by decide +kernel
/-- R72: a Rook context traps an instruction that it does not have, and one that is not there by its level. -/
theorem test_rook_context : let s := setFld F.rookStatSTATE 1 State.reset
    (let t := (after (.vadd 64 ⟨1, 2, 3, 0, 0, 0⟩) s).hart 64; (t.cause, t.mcause)) = (0, 6) := by decide +kernel
/-- R94: PAUSE in the middle of a row stops at the next 64-byte boundary of the destination. -/
theorem test_pause_boundary : (after (.dmaPause 12) (setFld (F.dmaChPosBYTE.dma 12) 4 sFill)).chSt 12 = 1 ∧
    (after (.dmaPause 12) sFill).chSt 12 = 2 := by decide +kernel
/-- R171: ATTACH in ABSENT ends REMOVED; R238: RETRAIN without CAP_VALID raises NO_CAP in LOOP too. -/
theorem test_attach_absent : (after .attach { State.reset with cor := { State.reset.cor with cart := some {} } }).fld F.corCmdRESULT = 4 ∧
    ((after (.retrain 0) (sPort 5 0 { loop := some (.nes 0) })).fltSet (Blk.epN 0)).stat.getLsbD 10 = true := by decide +kernel
/-- R203: END as the ninth instruction darkens its slot and counts SLOT_MISS. -/
theorem test_ninth_end : let t := after (.scanEnd 0) (sScan 0 { others := 8 })
    t.fld (F.teStatSLOTMISS.te 0) = 1 ∧ (t.teSt 0).run = false := by decide +kernel
/-- R304, R408: S2 asked for in S1 needs Rook's agreement. -/
theorem test_s2_needs_rook : let t := after .powerRequestS2 (setFld F.rookStatSTATE 3 (sAt .s1))
    t.pwr.seq = none ∧ (t.fltSet .sys).stat.getLsbD 9 = true := by decide +kernel

end Sys2Proof.Tests
end

section
/-! SUPPORT. Reads of flags and interrupts after an update, and a register file after a merge. -/

namespace Sys2Proof.Machine

/-- A one-bit field reads back the truth value written to it. -/
@[simp] theorem flag_setFlag_same (f : Fld) (v : Bool) (s : State) : (setFlag f v s).flag f = v := by
  have h1 : 1 % 2 ^ f.width ≠ 0 := by
    rw [Nat.mod_eq_of_lt (Nat.one_lt_two_pow (by simp [Fld.width]))]; decide
  cases v <;> simp [State.flag, setFlag, b2n, h1]

theorem flag_setFld_other {f g : Fld} (v : Nat) (s : State) (h : g.key ≠ f.key) : (setFld f v s).flag g = s.flag g := by
  simp only [State.flag, fld_setFld_other v s h]

theorem flag_setFlag_other {f g : Fld} (v : Bool) (s : State) (h : g.key ≠ f.key) : (setFlag f v s).flag g = s.flag g :=
  flag_setFld_other _ s h

@[simp] theorem flag_intr (g : Fld) (id : Nat) (s : State) : (intr id s).flag g = s.flag g := rfl

/-- An identifier that has been raised is pending (R23). -/
@[simp] theorem mem_intr_evt (id : Nat) (s : State) : id ∈ (intr id s).evt := by
  show id ∈ insertN id s.evt
  unfold insertN
  split
  · simpa using ‹s.evt.contains id = true›
  · simp

/-- What a merged register file holds at a key: the last entry merged there, or else what it held. -/
theorem RegFile.get_merge (r l : RegFile) (k d : Nat) :
    SMap.get (r.merge l) k d = (((l.filter (fun e => e.1 == k)).getLast?).map Prod.snd).getD (SMap.get r k d) := by
  induction l generalizing r with
  | nil => rfl
  | cons e l ih =>
    show SMap.get (RegFile.merge (SMap.put r e.1 e.2) l) k d = _
    rw [ih, SMap.get_put]
    by_cases hk : e.1 = k
    · simp only [hk, List.filter_cons, beq_self_eq_true, if_true, List.getLast?_cons]
      cases (l.filter (fun e => e.1 == k)).getLast? <;> rfl
    · simp [hk, Ne.symm hk]

end Sys2Proof.Machine
end

section
/-! SUPPORT. The commit unit (R32–R36, R40): what each of its operations answers, and what it leaves unchanged. -/

namespace Sys2Proof.Machine

/-! Showing the unit in SYS_COMMIT_STAT changes nothing but that register. -/

@[simp] theorem showCommit_commit (s : State) : (showCommit s).commit = s.commit := rfl
@[simp] theorem showCommit_staged (s : State) : (showCommit s).staged = s.staged := rfl
@[simp] theorem showCommit_inForce (s : State) : (showCommit s).inForce = s.inForce := rfl
@[simp] theorem showCommit_late (s : State) : (showCommit s).late = s.late := rfl
@[simp] theorem showCommit_mem (s : State) : (showCommit s).mem = s.mem := rfl

theorem fld_showCommit_other {g : Fld} (s : State)
    (h : ∀ f ∈ [F.sysCommitStatPENDING, F.sysCommitStatARMED, F.sysCommitStatTARGETEFF], g.key ≠ f.key) :
    (showCommit s).fld g = s.fld g := by
  simp only [List.forall_mem_cons] at h
  obtain ⟨hp, ha, ht, -⟩ := h
  simp only [showCommit, setFlag, fld_setFld_other _ _ ht, fld_setFld_other _ _ ha, fld_setFld_other _ _ hp]

@[simp] theorem flag_showCommit_pending (s : State) :
    (showCommit s).flag F.sysCommitStatPENDING = s.commit.pend.isSome := by
  unfold showCommit
  rw [flag_setFld_other _ _ (by decide), flag_setFlag_other _ _ (by decide), flag_setFlag_same]

@[simp] theorem flag_showCommit_armed (s : State) :
    (showCommit s).flag F.sysCommitStatARMED = (s.commit.armed != []) := by
  unfold showCommit
  rw [flag_setFld_other _ _ (by decide), flag_setFlag_same]

@[simp] theorem setPend_commit (p : Option PendCommit) (s : State) :
    (setPend p s).commit = { s.commit with pend := p } := rfl
@[simp] theorem setPend_staged (p : Option PendCommit) (s : State) : (setPend p s).staged = s.staged := rfl
@[simp] theorem setPend_inForce (p : Option PendCommit) (s : State) : (setPend p s).inForce = s.inForce := rfl
@[simp] theorem setPend_mem (p : Option PendCommit) (s : State) : (setPend p s).mem = s.mem := rfl
@[simp] theorem setPend_evt (p : Option PendCommit) (s : State) : (setPend p s).evt = s.evt := rfl
@[simp] theorem flag_setPend_pending (p : Option PendCommit) (s : State) :
    (setPend p s).flag F.sysCommitStatPENDING = p.isSome := flag_showCommit_pending _

/-! Submission (R35, R36, R40). -/

/-- SYS_COMMIT_TGT and SYS_COMMIT_CTRL as GO writes them. -/
def goWritten (f : BitVec 48) (g : BitVec 10) (asap : Bool) (s : State) : State :=
  setFlag F.sysCommitCtrlASAP asap (setFld F.sysCommitCtrlGROUP g.toNat (setFld F.sysCommitTgtTARGET f.toNat s))

theorem exec_go (f : BitVec 48) (g : BitVec 10) (asap : Bool) (s : State) :
    exec (.go f g asap) s = .next (goAt f.toNat g asap (goWritten f g asap s)) := rfl

/-- The registers that GO writes hold neither FRAME_EPOCH nor COMMIT_LEAD. -/
theorem fld_goWritten {x : Fld} (f : BitVec 48) (g : BitVec 10) (asap : Bool) (s : State)
    (h : ∀ y ∈ [F.sysCommitTgtTARGET, F.sysCommitCtrlGROUP, F.sysCommitCtrlASAP], x.key ≠ y.key) :
    (goWritten f g asap s).fld x = s.fld x := by
  simp only [List.forall_mem_cons] at h
  obtain ⟨ht, hg, ha, -⟩ := h
  simp only [goWritten, setFlag, fld_setFld_other _ _ ha, fld_setFld_other _ _ hg, fld_setFld_other _ _ ht]

section
variable (f : BitVec 48) (g : BitVec 10) (asap : Bool) (s : State)

@[simp] theorem goWritten_commit : (goWritten f g asap s).commit = s.commit := rfl
@[simp] theorem goWritten_staged : (goWritten f g asap s).staged = s.staged := rfl
@[simp] theorem goWritten_inForce : (goWritten f g asap s).inForce = s.inForce := rfl
@[simp] theorem goWritten_mem : (goWritten f g asap s).mem = s.mem := rfl
@[simp] theorem goWritten_evt : (goWritten f g asap s).evt = s.evt := rfl

theorem goWritten_windowClose (n : Nat) :
    (goWritten f g asap s).windowClose n g = s.windowClose n g := by
  simp only [State.windowClose, State.startI, State.commitLead,
    fld_goWritten (x := F.ptpFrameEpochEPOCH) f g asap s (by decide),
    fld_goWritten (x := F.sysCommitLeadLEADUS) f g asap s (by decide)]
  rfl

theorem goWritten_earliestOpen : (goWritten f g asap s).earliestOpen g = s.earliestOpen g := by
  simp only [State.earliestOpen, State.frameAt, State.commitLead,
    fld_goWritten (x := F.ptpFrameEpochEPOCH) f g asap s (by decide),
    fld_goWritten (x := F.sysCommitLeadLEADUS) f g asap s (by decide)]
  rfl

end

theorem submit_open {n : Nat} {g : BitVec 10} {s : State} (sat : Option Nat) (h : (s.gt : Int) < s.windowClose n g) :
    submit n g false sat s = setPend (some { target := n, group := g, sat := sat }) s := by
  simp [submit, h]

theorem submit_asap (n : Nat) (g : BitVec 10) (sat : Option Nat) (s : State) :
    submit n g true sat s = setPend (some { target := s.earliestOpen g, group := g, sat := sat }) s := by
  simp [submit]

/-- A commit at the earliest open frame, with COMMIT_LATE (R35). -/
def movedLate (p : PendCommit) (s : State) : State :=
  setFlag F.sysCommitStatCOMMITLATE true (setPend (some { p with target := s.earliestOpen p.group }) s)

theorem submit_late {n : Nat} {g : BitVec 10} {s : State} (sat : Option Nat) (h : s.windowClose n g ≤ (s.gt : Int)) :
    submit n g false sat s = intr 4 (raise .sys 4 {} (movedLate { target := n, group := g, sat := sat } s)) := by
  simp [submit, movedLate, Int.not_lt.2 h]

@[simp] theorem movedLate_commit (p : PendCommit) (s : State) :
    (movedLate p s).commit = { s.commit with pend := some { p with target := s.earliestOpen p.group } } := rfl
@[simp] theorem movedLate_staged (p : PendCommit) (s : State) : (movedLate p s).staged = s.staged := rfl
@[simp] theorem movedLate_mem (p : PendCommit) (s : State) : (movedLate p s).mem = s.mem := rfl
@[simp] theorem movedLate_inForce (p : PendCommit) (s : State) : (movedLate p s).inForce = s.inForce := rfl
@[simp] theorem flag_movedLate_late (p : PendCommit) (s : State) :
    (movedLate p s).flag F.sysCommitStatCOMMITLATE = true := flag_setFlag_same _ _ _
@[simp] theorem flag_movedLate_pending (p : PendCommit) (s : State) :
    (movedLate p s).flag F.sysCommitStatPENDING = true := by
  unfold movedLate
  rw [flag_setFlag_other _ _ (by decide), flag_setPend_pending]
  rfl

theorem exec_go_free {f : BitVec 48} {g : BitVec 10} {asap : Bool} {s : State} (hg : g ≠ 0) (hp : s.commit.pend = none) :
    exec (.go f g asap) s = .next (submit f.toNat g asap none (goWritten f g asap s)) := by
  rw [exec_go, goAt, if_neg hg, goWritten_commit, hp]
  rfl

theorem exec_go_busy {f : BitVec 48} {g : BitVec 10} {asap : Bool} {s : State} (hg : g ≠ 0) (hp : s.commit.pend ≠ none) :
    exec (.go f g asap) s = .next (raise .sys 5 {} (goWritten f g asap s)) := by
  rw [exec_go, goAt, if_neg hg, goWritten_commit, if_pos (Option.isSome_iff_ne_none.2 hp)]

/-! Refusals (R32, R33, R40). -/

/-- What a refusal shows: the member, where there is one, and the code. -/
def showRefused (member : Option Nat) (code : Nat) (s : State) : State :=
  let s := match member with | some m => setFld F.sysCommitStatREFUSEMEMBER m s | none => s
  setFld F.sysCommitCodeCODE code (setFlag F.sysCommitStatREFUSED true s)

theorem commitRefused_eq (member : Option Nat) (code : Nat) (s : State) :
    commitRefused member code s = intr 5 (raise .sys 3 {} (showRefused member code s)) := rfl

@[simp] theorem showRefused_commit (member : Option Nat) (code : Nat) (s : State) :
    (showRefused member code s).commit = s.commit := by cases member <;> rfl
@[simp] theorem showRefused_inForce (member : Option Nat) (code : Nat) (s : State) :
    (showRefused member code s).inForce = s.inForce := by cases member <;> rfl
@[simp] theorem showRefused_mem (member : Option Nat) (code : Nat) (s : State) :
    (showRefused member code s).mem = s.mem := by cases member <;> rfl

theorem flag_showRefused (member : Option Nat) (code : Nat) (s : State) :
    (showRefused member code s).flag F.sysCommitStatREFUSED = true := by
  unfold showRefused
  rw [flag_setFld_other _ _ (by decide), flag_setFlag_same]

theorem fld_showRefused_code (member : Option Nat) {code : Nat} (s : State) (h : code < 2 ^ 16) :
    (showRefused member code s).fld F.sysCommitCodeCODE = code :=
  (fld_setFld_same _ _ _).trans (Nat.mod_eq_of_lt h)

theorem fld_showRefused_member {m : Nat} (code : Nat) (s : State) (h : m < 16) :
    (showRefused (some m) code s).fld F.sysCommitStatREFUSEMEMBER = m := by
  simp only [showRefused, setFlag]
  rw [fld_setFld_other _ _ (by decide), fld_setFld_other _ _ (by decide), fld_setFld_same]
  exact Nat.mod_eq_of_lt h

theorem exec_go_empty (f : BitVec 48) (asap : Bool) (s : State) :
    exec (.go f 0 asap) s = .next (intr 5 (raise .sys 3 {} (showRefused none 2 (goWritten f 0 asap s)))) := by
  rw [exec_go, goAt, if_pos rfl, commitRefused_eq]

/-! CANCEL (R36, R364). -/

theorem exec_cancel (s : State) : exec .cancel s = .next (cancelAt s) := rfl

theorem cancelAt_none {s : State} (h : s.commit.pend = none) : cancelAt s = s := by
  simp only [cancelAt, h]

theorem cancelAt_some {p : PendCommit} {s : State} (h : s.commit.pend = some p) :
    cancelAt s = satFail p.sat (setPend none s) := by
  simp only [cancelAt, h]

@[simp] theorem satFail_commit (e : Option Nat) (s : State) : (satFail e s).commit = s.commit := by cases e <;> rfl

/-- The table of scheduled actions lies above SYS's registers. -/
theorem flag_satFail_pending (e : Option Nat) (s : State) :
    (satFail e s).flag F.sysCommitStatPENDING = s.flag F.sysCommitStatPENDING := by
  cases e with
  | none => rfl
  | some e =>
    refine flag_setFld_other _ _ ?_
    simp only [Fld.key, Fld.at, F.sysCommitStatPENDING, F.satECtrlSTATE]
    omega

theorem satFail_failed (e : Nat) (s : State) :
    (satFail (some e) s).fld (F.satECtrlSTATE.at (0x20 * e)) = 4 ∧ 676 + e ∈ (satFail (some e) s).evt := by
  refine ⟨?_, mem_intr_evt _ _⟩
  show (intr _ (setFld _ 4 s)).fld _ = 4
  rw [fld_intr, fld_setFld_same]
  rfl

/-! The window closes (R32, R34). -/

theorem exec_commitWindowClose (s : State) : exec .commitWindowClose s = .next (closeAt s) := rfl

theorem closeAt_none {s : State} (h : s.commit.pend = none) : closeAt s = s := by
  simp only [closeAt, h]

theorem closeAt_before {p : PendCommit} {s : State} (hp : s.commit.pend = some p)
    (ht : (s.gt : Int) < s.windowClose p.target p.group) : closeAt s = s := by
  simp only [closeAt, hp, if_neg (Int.not_le.2 ht)]

theorem closeAt_due {p : PendCommit} {s : State} (hp : s.commit.pend = some p)
    (ht : s.windowClose p.target p.group ≤ (s.gt : Int)) : closeAt s = closeWindow p s := by
  simp only [closeAt, hp, if_pos ht]

theorem closeWindow_full {p : PendCommit} {s : State} (h : 2 ≤ s.commit.armed.length) :
    closeWindow p s = intr 4 (raise .sys 4 {} (movedLate p s)) := by
  rw [closeWindow, if_pos h]
  rfl

/-- The commit that a window close arms. -/
def armedOf (p : PendCommit) (loads : CmpLoads) (v : State) : ArmedCommit :=
  { target := p.target, group := p.group, values := v.staged.filter (fun e => inGroup p.group e.1), loads := loads,
    pipeDone := !(hasPipe p.group), dispDone := !(hasDisp p.group), sat := p.sat }

@[simp] theorem rookArm_commit (f : Nat) (s : State) : (rookArm f s).commit = s.commit := by unfold rookArm; split <;> rfl
@[simp] theorem rookArm_inForce (f : Nat) (s : State) : (rookArm f s).inForce = s.inForce := by unfold rookArm; split <;> rfl
@[simp] theorem rookArm_mem (f : Nat) (s : State) : (rookArm f s).mem = s.mem := by unfold rookArm; split <;> rfl

/-- The commit unit and Rook once commit `a` is armed. -/
def armCommit (a : ArmedCommit) (v : State) : State :=
  let s := setPend none v
  let s := { s with commit := { s.commit with armed := s.commit.armed ++ [a], last := a.target } }
  if a.group.getLsbD 8 then rookArm a.target s else s

theorem armCommit_commit (a : ArmedCommit) (v : State) :
    (armCommit a v).commit = { pend := none, armed := v.commit.armed ++ [a], last := a.target } := by
  unfold armCommit
  split <;> simp
@[simp] theorem armCommit_inForce (a : ArmedCommit) (v : State) : (armCommit a v).inForce = v.inForce := by
  unfold armCommit
  split <;> simp
@[simp] theorem armCommit_mem (a : ArmedCommit) (v : State) : (armCommit a v).mem = v.mem := by
  unfold armCommit
  split <;> simp

theorem closeWindow_accepted {p : PendCommit} {s v : State} {loads : CmpLoads} (hroom : s.commit.armed.length < 2)
    (hv : validate p.group s = (none, loads, v)) :
    closeWindow p s = intr 2 (showCommit (armCommit (armedOf p loads v) v)) := by
  simp only [closeWindow, if_neg (Nat.not_le.2 hroom), hv]
  rfl

theorem closeWindow_refused {p : PendCommit} {s v : State} {loads : CmpLoads} {m code : Nat}
    (hroom : s.commit.armed.length < 2) (hv : validate p.group s = (some (m, code), loads, v)) :
    closeWindow p s = satFail p.sat (intr 5 (raise .sys 3 {} (showRefused (some m) code (setPend none v)))) := by
  simp only [closeWindow, if_neg (Nat.not_le.2 hroom), hv, commitRefused_eq]

/-- Settles O28: GO, CANCEL and the window close, case by case. -/
theorem commitSubmissionAndWindow : Obligations.CommitSubmissionAndWindow := by
  unfold Obligations.CommitSubmissionAndWindow
  refine ⟨fun f g asap s => ?_, fun p s hp => ⟨?_, ?_, ?_, ?_⟩⟩
  · intro w pends
    have hwin := goWritten_windowClose f g asap s f.toNat
    have hopen := goWritten_earliestOpen f g asap s
    refine ⟨fun hg hp => ⟨?_, ?_, ?_⟩, ?_, ?_, ?_, ?_⟩
    · rintro hlt rfl
      rw [← hwin] at hlt
      rw [exec_go_free hg hp, submit_open none hlt]
      exact ⟨_, rfl, by simp [pends], by simp⟩
    · rintro rfl
      rw [exec_go_free hg hp, submit_asap, hopen]
      exact ⟨_, rfl, by simp [pends], by simp⟩
    · rintro hle rfl
      rw [← hwin] at hle
      rw [exec_go_free hg hp, submit_late none hle]
      exact ⟨_, rfl, by simp [pends, hopen], flag_movedLate_late _ _⟩
    · intro hg hp
      rw [exec_go_busy hg hp]
      rfl
    · rintro rfl
      rw [exec_go_empty]
      exact ⟨_, rfl, flag_showRefused _ _ _, fld_showRefused_code _ _ (by decide), by simp⟩
    · intro hp
      rw [exec_cancel, cancelAt_none hp]
    · intro p hp
      rw [exec_cancel, cancelAt_some hp]
      refine ⟨_, rfl, ?_, ?_, ?_, ?_⟩
      · rw [satFail_commit, setPend_commit]
      · rw [satFail_commit, setPend_commit]
      · rw [flag_satFail_pending, flag_setPend_pending]
        rfl
      · intro e _ he
        rw [he]
        exact satFail_failed e _
  · intro hlt
    rw [exec_commitWindowClose, closeAt_before hp hlt]
  · intro hle hfull
    rw [exec_commitWindowClose, closeAt_due hp hle, closeWindow_full hfull]
    exact ⟨_, rfl, by simp, by simp, by simp, flag_movedLate_late _ _⟩
  · intro hle hroom loads v hv
    have harm := armCommit_commit (armedOf p loads v) v
    rw [exec_commitWindowClose, closeAt_due hp hle, closeWindow_accepted hroom hv]
    refine ⟨_, armedOf p loads v, rfl, ?_, ?_, rfl, rfl, rfl, rfl, mem_intr_evt _ _, ?_, ?_, ?_, ?_⟩
    all_goals simp [harm]
  · intro hle hroom hsat m code loads v hm hcode hv
    rw [exec_commitWindowClose, closeAt_due hp hle, closeWindow_refused hroom hv, hsat]
    exact ⟨_, rfl, by simp, by simp, fld_showRefused_member _ _ hm, fld_showRefused_code _ _ hcode,
      flag_showRefused _ _ _, by simp, by simp⟩

end Sys2Proof.Machine
end

section
/-! SUPPORT. The apply points (R30, R34): what a commit of display members alone brings into force. -/

namespace Sys2Proof.Machine

/-! Values that come into force, or wait for their blocks (log entry 76). -/

/-- The entries of a register file at a key, where a condition on keys goes before. -/
theorem filter_key_filter (l : RegFile) (p : Nat → Bool) (k : Nat) :
    (l.filter (fun e => p e.1)).filter (fun e => e.1 == k) = if p k = true then l.filter (fun e => e.1 == k) else [] := by
  rw [List.filter_filter]
  split
  · rename_i hp
    refine List.filter_congr fun e _ => ?_
    by_cases hk : e.1 = k <;> simp [hk, hp]
  · rename_i hp
    rw [List.filter_eq_nil_iff]
    rintro e - he
    simp only [Bool.and_eq_true, beq_iff_eq] at he
    exact hp (he.1 ▸ he.2)

/-- A key whose block is free takes the last value of the list. -/
theorem get_inForce_intoForce (l : RegFile) (s : State) (k d : Nat) (h : s.keyHeld k = false) :
    SMap.get (intoForce l s).inForce k d =
      (((l.filter (fun e => e.1 == k)).getLast?).map Prod.snd).getD (SMap.get s.inForce k d) := by
  show SMap.get (RegFile.merge s.inForce (l.filter fun e => !(s.keyHeld e.1))) k d = _
  rw [RegFile.get_merge, filter_key_filter l (fun x => !(s.keyHeld x)), if_pos (by simp [h])]

/-- A key whose block is held keeps what was in force, and the last value of the list waits. -/
theorem get_intoForce_held (l : RegFile) (s : State) (k d : Nat) (h : s.keyHeld k = true) :
    SMap.get (intoForce l s).inForce k d = SMap.get s.inForce k d ∧
    SMap.get (intoForce l s).late k d =
      (((l.filter (fun e => e.1 == k)).getLast?).map Prod.snd).getD (SMap.get s.late k d) := by
  constructor
  · show SMap.get (RegFile.merge s.inForce (l.filter fun e => !(s.keyHeld e.1))) k d = _
    rw [RegFile.get_merge, filter_key_filter l (fun x => !(s.keyHeld x)), if_neg (by simp [h])]
    rfl
  · show SMap.get (RegFile.merge s.late (l.filter fun e => s.keyHeld e.1)) k d = _
    rw [RegFile.get_merge, filter_key_filter l s.keyHeld, if_pos h]

/-! A commit of display members other than PTP, EP and ROOK. -/

/-- A key that belongs to a display member (R30). -/
def displayKey (k : Nat) : Bool := (memberOf k).any (fun m => decide (5 ≤ m))

/-- The values of a commit for its display members. -/
def displayValues (c : ArmedCommit) : RegFile := c.values.filter (fun e => displayKey e.1)

/-- Between s and t the display values of commit c came into force, or wait; the staging copies, memory, the commit unit and
DIAG's stuck-on list are as before. -/
structure TookDisplay (c : ArmedCommit) (s t : State) : Prop where
  inForce : t.inForce = (intoForce (displayValues c) s).inForce
  late : t.late = (intoForce (displayValues c) s).late
  staged : t.staged = s.staged
  mem : t.mem = s.mem
  commit : t.commit = s.commit
  stk : t.diag.stk = s.diag.stk

/-- With neither EP, ROOK nor PTP in its group, a commit brings its values into force and touches the scan class alone (R217). -/
theorem dispApply_plain {c : ArmedCommit} (s : State) (h6 : c.group.getLsbD 6 = false) (h8 : c.group.getLsbD 8 = false)
    (h9 : c.group.getLsbD 9 = false) : TookDisplay c s (dispApply c s) := by
  simp only [dispApply, h6, h8, h9, Bool.false_and, whenB, Bool.false_eq_true, if_false]
  generalize hl : c.values.filter _ = l
  have hval : l = displayValues c := by
    rw [← hl]
    refine List.filter_congr fun e _ => ?_
    unfold displayKey
    cases memberOf e.1 <;> rfl
  subst hval
  split
  · exact ⟨rfl, rfl, rfl, rfl, rfl, rfl⟩
  · exact ⟨rfl, rfl, rfl, rfl, rfl, rfl⟩

theorem diagZones_nil {s : State} (ko : List KoRect) (h : s.diag.stk = []) :
    diagZones ko s = modDiag (fun d => { d with ko := ko }) s := by
  simp only [diagZones]
  rw [show (modDiag (fun d => { d with ko := ko }) s).diag.stk = [] from h]
  rfl

/-- The commit store emptied of armed commits. -/
def noneArmed (s : State) : State := { s with commit := { s.commit with armed := [] } }

@[simp] theorem noneArmed_inForce (s : State) : (noneArmed s).inForce = s.inForce := rfl
@[simp] theorem noneArmed_late (s : State) : (noneArmed s).late = s.late := rfl
@[simp] theorem noneArmed_staged (s : State) : (noneArmed s).staged = s.staged := rfl
@[simp] theorem noneArmed_mem (s : State) : (noneArmed s).mem = s.mem := rfl
@[simp] theorem noneArmed_armed (s : State) : (noneArmed s).commit.armed = [] := rfl
@[simp] theorem modDiag_inForce (f : DiagState → DiagState) (s : State) : (modDiag f s).inForce = s.inForce := rfl
@[simp] theorem modDiag_late (f : DiagState → DiagState) (s : State) : (modDiag f s).late = s.late := rfl
@[simp] theorem modDiag_staged (f : DiagState → DiagState) (s : State) : (modDiag f s).staged = s.staged := rfl
@[simp] theorem modDiag_mem (f : DiagState → DiagState) (s : State) : (modDiag f s).mem = s.mem := rfl

/-- The commit whose last apply point has passed leaves the store. -/
theorem retireCommits_single {n : Nat} {c : ArmedCommit} {s : State} (hs : s.commit.armed = [c]) (ht : c.target ≤ n)
    (hp : c.pipeDone = true) : retireCommits n s = intr 3 (showCommit (noneArmed s)) := by
  simp [retireCommits, noneArmed, hs, ht, hp]

/-- The apply points of a frame for one armed commit, all of whose members are display members. -/
theorem applyCommits_display {n : Nat} {c : ArmedCommit} {s : State} (hs : s.commit.armed = [c]) (ht : c.target = n)
    (hp : c.pipeDone = true) (hd : c.dispDone = false) (hto : TookDisplay c s (dispApply c s)) (hstk : s.diag.stk = []) :
    ∃ ko, applyCommits n s =
      intr 3 (showCommit (noneArmed (modDiag (fun d => { d with ko := ko }) (dispApply c s)))) := by
  have harmed : (dispApply c s).commit.armed = [c] := by rw [hto.commit, hs]
  have hdisp : s.commit.armed.foldl (fun s c => applyOne true n c s) s = dispApply c s := by
    simp [hs, applyOne, hd, ht]
  have hpipe : (dispApply c s).commit.armed.foldl (fun s c => applyOne false n c s) (dispApply c s) = dispApply c s := by
    simp [harmed, applyOne, hp]
  refine ⟨(dispApply c s).koZones, ?_⟩
  simp only [applyCommits, hdisp, hpipe]
  rw [diagZones_nil _ (hto.stk.trans hstk)]
  exact retireCommits_single harmed (Nat.le_of_eq ht) hp

/-- Settles O29: the apply point brings the display values into force and retires the commit. -/
theorem commitsApplyWhole : Obligations.CommitsApplyWhole := by
  unfold Obligations.CommitsApplyWhole
  intro n c s hs htarget hp hd _ h6 h8 h9 hstk t last
  have hto := dispApply_plain s h6 h8 h9
  obtain ⟨ko, ht⟩ := applyCommits_display hs htarget hp hd hto hstk
  have hlast : ∀ k, last k = ((displayValues c).filter (fun e => e.1 == k)).getLast? := by
    intro k
    refine congrArg List.getLast? ?_
    rw [displayValues, List.filter_filter]
    refine List.filter_congr fun e _ => ?_
    by_cases hk : e.1 = k
    · simp [hk, displayKey]
    · simp [beq_eq_false_iff_ne.2 hk]
  have hforce : t.inForce = (intoForce (displayValues c) s).inForce := by simp [t, ht, hto.inForce]
  have hlate : t.late = (intoForce (displayValues c) s).late := by simp [t, ht, hto.late]
  refine ⟨by simp [t, ht], by simp [t, ht], by simp [t, ht, hto.staged], by simp [t, ht, hto.mem], ?_, ?_⟩
  · intro k hk
    rw [hforce, get_inForce_intoForce _ _ _ _ hk, ← hlast]
    cases last k <;> rfl
  · intro k hk
    obtain ⟨hkeep, hwait⟩ := get_intoForce_held (displayValues c) s k 0 hk
    refine ⟨by rw [hforce, hkeep], fun e he => ?_⟩
    rw [hlate, hwait, ← hlast, he]
    rfl

end Sys2Proof.Machine
end

section
/-! SUPPORT. The frame timeline (R27, R358, R360, R444): FRAME_START, TIME_STEP and the timeline registers. -/

namespace Sys2Proof.Machine

/-! FRAME_START (R27, R444). -/

theorem exec_frameStart (n : BitVec 48) (s : State) : exec (.frameStart n) s = .next (frameStartAt n.toNat s) := rfl

theorem frameStartAt_early {n : Nat} {s : State} (h : (s.gt : Int) < s.startI n) : frameStartAt n s = s := by
  rw [frameStartAt, if_pos (Or.inr h)]

/-- The state in which frame n begins: n is displayed, a step that waits for a frame takes this one, identifier 1 is raised. -/
def frameShown (n : Nat) (s : State) : State :=
  intr 1 { s with tl := { running := true, frame := n, reached := some n },
                  ptp := { s.ptp with step := s.ptp.step.map (fun p => { p with n := p.n.orElse (fun _ => some n) }) } }

theorem frameStartAt_running {n : Nat} {s : State} (hon : s.timeOn = true) (ht : s.startI n ≤ (s.gt : Int))
    (hen : s.flag F.ptpCtrlTLEN = true) (hrun : s.tl.running = true) :
    frameStartAt n s = if n = s.tl.frame + 1 then satBoundary n (frameBegins n (frameShown n s)) else s := by
  have hdue : ¬ ((!s.timeOn) = true ∨ (s.gt : Int) < s.startI n) := by simp [hon, ht]
  rw [frameStartAt, if_neg hdue, if_pos hen, if_pos hrun]
  by_cases hn : n = s.tl.frame + 1
  · rw [if_pos hn, if_neg (by simp [hn])]
    rfl
  · rw [if_neg hn, if_pos (by simpa using Ne.symm hn)]

/-! TIME_STEP (R358). -/

theorem exec_timeStep (s : State) : exec .timeStep s = .next (timeStepAt s) := rfl

theorem timeStepAt_planned {s : State} {p : StepPlan} {m : Nat} (hon : s.timeOn = true) (hp : s.ptp.step = some p)
    (hm : p.n = some m) :
    timeStepAt s = if s.startI m + 100000 ≤ (s.gt : Int) then closeAt (applyStep m p.s s) else s := by
  simp only [timeStepAt, hp, hm, hon, true_and]

/-! TL_EN (R444). -/

theorem exec_tlEnWrite (en : Bool) (s : State) : exec (.tlEnWrite en) s = .next (tlEnable en s) := rfl

theorem tlEnable_same (s : State) : tlEnable (s.flag F.ptpCtrlTLEN) s = s := by
  rw [tlEnable, if_pos (Or.inr rfl)]

/-- The first frame is reckoned from GT, FRAME_EPOCH and FRAME_PERIOD. -/
theorem firstFrame_setFlag_tlEn (en : Bool) (s : State) (t : Int) :
    (setFlag F.ptpCtrlTLEN en s).firstFrame t = s.firstFrame t := by
  have he : (setFlag F.ptpCtrlTLEN en s).fld F.ptpFrameEpochEPOCH = s.fld F.ptpFrameEpochEPOCH :=
    fld_setFld_other _ _ (by decide)
  simp only [State.firstFrame, State.frameAt, State.startI, he]
  rfl

theorem tlEnable_on {s : State} (hon : s.timeOn = true) (hen : s.flag F.ptpCtrlTLEN = false) :
    tlEnable true s = { setFlag F.ptpCtrlTLEN true s with
      tl := { s.tl with running := false, base := none, first := some (s.firstFrame s.gt) } } := by
  rw [tlEnable, if_neg (by simp [hon, hen]), if_pos rfl, firstFrame_setFlag_tlEn]
  rfl

theorem tlEnable_off {s : State} (hon : s.timeOn = true) (hen : s.flag F.ptpCtrlTLEN = true) (hstep : s.ptp.step = none) :
    tlEnable false s = { setFlag F.ptpCtrlTLEN false s with
      tl := { s.tl with running := false, base := none, first := none } } := by
  rw [tlEnable, if_neg (by simp [hon, hen]), if_neg (by decide)]
  simp only [setFlag, setFld_ptp, setFld_tl, hstep]

/-! FRAME_EPOCH (R360, R444). -/

theorem exec_frameEpochWrite (v : BitVec 64) (s : State) :
    exec (.frameEpochWrite v) s = .next (epochWrite v.toNat s) := rfl

theorem epochWrite_locked {v : Nat} {s : State} (hon : s.timeOn = true) (hen : s.flag F.ptpCtrlTLEN = true)
    (hv : v ≠ s.fld F.ptpFrameEpochEPOCH) : epochWrite v s = raise .ptp 1 { addr := 0x25100018, typ := 2 } s := by
  rw [epochWrite, if_neg (by simp [hon]), if_pos hen, if_neg hv]

/-- Between s and t FRAME_EPOCH, GT, the commit unit and DIAG's stuck-on list (R262) are unchanged. -/
def sameTimeBase (s t : State) : Prop :=
  t.fld F.ptpFrameEpochEPOCH = s.fld F.ptpFrameEpochEPOCH ∧ t.gtFine = s.gtFine ∧ t.commit = s.commit ∧
    t.diag.stk = s.diag.stk

theorem applyCommits_nil {s : State} (n : Nat) (hc : s.commit.armed = []) (hstk : s.diag.stk = []) :
    applyCommits n s = showCommit (modDiag (fun d => { d with ko := s.koZones }) s) := by
  have hr : ∀ t : State, t.commit.armed = [] → retireCommits n t = showCommit t := by
    intro t ht
    have : { t with commit := { t.commit with armed := [] } } = t := by rw [← ht]
    simp [retireCommits, ht, this]
  simp only [applyCommits, hc, List.foldl_nil]
  rw [diagZones_nil _ hstk]
  exact hr _ hc

theorem scanClass_sameTimeBase (n : Nat) (s : State) : sameTimeBase s (scanClass n s) := by
  unfold scanClass
  split
  · split
    · exact ⟨rfl, rfl, rfl, rfl⟩
    · exact ⟨fld_setFld_other _ _ (by decide), rfl, rfl, rfl⟩
  · exact ⟨rfl, rfl, rfl, rfl⟩

/-- A reckoned boundary with nothing armed keeps the time base. -/
theorem boundaryAt_sameTimeBase {s : State} (n : Nat) (hc : s.commit.armed = []) (hstk : s.diag.stk = []) :
    sameTimeBase s (boundaryAt n s) := by
  have ha : sameTimeBase s (applyCommits n s) := by
    rw [applyCommits_nil n hc hstk]
    exact ⟨fld_showCommit_other _ (by decide), rfl, rfl, rfl⟩
  simp only [boundaryAt]
  split
  · exact ha
  · obtain ⟨he, hg, hu, hk⟩ := scanClass_sameTimeBase n (applyCommits n s)
    obtain ⟨he', hg', hu', hk'⟩ := ha
    exact ⟨he.trans he', hg.trans hg', hu.trans hu', hk.trans hk'⟩

/-- With TL_EN 0, no commit and an empty stuck-on list, a write of FRAME_EPOCH stores its value and keeps GT. -/
theorem epochWrite_idle {v : Nat} {s : State} (hon : s.timeOn = true) (hen : s.flag F.ptpCtrlTLEN = false)
    (hp : s.commit.pend = none) (hc : s.commit.armed = []) (hstk : s.diag.stk = []) :
    sameTimeBase (setFld F.ptpFrameEpochEPOCH v s) (epochWrite v s) := by
  rw [epochWrite, if_neg (by simp [hon]), if_neg (by simp [hen])]
  generalize hw : setFld F.ptpFrameEpochEPOCH v s = w
  have hpw : w.commit.pend = none := by rw [← hw]; exact hp
  have hcw : w.commit.armed = [] := by rw [← hw]; exact hc
  have hkw : w.diag.stk = [] := by rw [← hw]; exact hstk
  simp only [hpw, min_self]
  split
  · have h1 := boundaryAt_sameTimeBase (w.frameAt (w.gt : Nat)).toNat hcw hkw
    generalize boundaryAt (w.frameAt (w.gt : Nat)).toNat w = u at h1
    obtain ⟨he, hg, hu, hk⟩ := h1
    rw [closeAt_none (by rw [hu, hpw])]
    obtain ⟨he', hg', hu', hk'⟩ :=
      boundaryAt_sameTimeBase (s := u) (w.frameAt (w.gt : Nat)).toNat (by rw [hu, hcw]) (by rw [hk, hkw])
    exact ⟨he'.trans he, hg'.trans hg, hu'.trans hu, hk'.trans hk⟩
  · rw [closeAt_none hpw]
    exact ⟨rfl, rfl, rfl, rfl⟩

/-- Settles O30: FRAME_START, TIME_STEP and the timeline registers, case by case. -/
theorem framesAndTimeline : Obligations.FramesAndTimeline := by
  unfold Obligations.FramesAndTimeline
  refine ⟨fun n s hon => ⟨?_, ?_, ?_⟩, fun s hon => ⟨?_, ?_, ?_, ?_, ?_⟩⟩
  · intro hlt
    rw [exec_frameStart, frameStartAt_early hlt]
  · intro hle hen hrun
    rw [exec_frameStart, frameStartAt_running hon hle hen hrun]
    constructor
    · intro hn
      rw [if_neg hn]
    · intro hn
      rw [if_pos hn]
      exact ⟨_, rfl, rfl, mem_intr_evt _ _, rfl, rfl⟩
  · intro p m hp hm
    rw [exec_timeStep, timeStepAt_planned hon hp hm]
    exact ⟨fun h => by rw [if_pos h], fun h => by rw [if_neg (Int.not_le.2 h)]⟩
  · rintro en rfl
    rw [exec_tlEnWrite, tlEnable_same]
  · intro hen
    rw [exec_tlEnWrite, tlEnable_on hon hen]
    exact ⟨_, rfl, flag_setFlag_same _ _ _, rfl, rfl, rfl, rfl⟩
  · intro hen hstep
    rw [exec_tlEnWrite, tlEnable_off hon hen hstep]
    exact ⟨_, rfl, flag_setFlag_same _ _ _, rfl, rfl, rfl, rfl⟩
  · intro v hen hv
    rw [exec_frameEpochWrite, epochWrite_locked hon hen hv]
  · intro v hen hp hc hstk
    obtain ⟨he, hg, -, -⟩ := epochWrite_idle (v := v.toNat) hon hen hp hc hstk
    refine ⟨_, exec_frameEpochWrite v s, ?_, hg⟩
    rw [he, fld_setFld_same]
    exact Nat.mod_eq_of_lt v.isLt

end Sys2Proof.Machine
end

section
/-! SUPPORT. The bit fields of an instruction word (R46): each form reads back from its word, at any values of its fields. -/

namespace Sys2Proof.Machine

theorem bits_eq (x hi lo : Nat) : bits x hi lo = x / 2 ^ lo % 2 ^ (hi - lo + 1) := by
  rw [bits, Nat.shiftRight_eq_div_pow]

theorem bit_eq_of_b2n {x i : Nat} {b : Bool} (h : x / 2 ^ i % 2 = b2n b) : bit x i = b := by
  rw [bit, Nat.shiftRight_eq_div_pow, h]
  cases b <;> rfl

theorem b2n_le_one (b : Bool) : b2n b ≤ 1 := by cases b <;> decide

/-- The opcode of a word lies above 26 bits of fields. -/
theorem opcode_eq {w op : Nat} (hop : op < 64) (hlo : op * 2 ^ 26 ≤ w) (hhi : w < op * 2 ^ 26 + 2 ^ 26) : bits w 31 26 = op := by
  rw [bits_eq]; omega

theorem reg5_eq {w lo : Nat} {r : Fin 32} (h : w / 2 ^ lo % 32 = r.val) : reg5 w lo = r :=
  Fin.ext (by simp [reg5, bits_eq, h])

theorem reg4_eq {w lo : Nat} {r : Fin 16} (h : w / 2 ^ lo % 16 = r.val) : reg4 w lo = r :=
  Fin.ext (by simp [reg4, bits_eq, h])

theorem reg3_eq {w lo : Nat} {r : Fin 8} (h : w / 2 ^ lo % 8 = r.val) : reg3 w lo = r :=
  Fin.ext (by simp [reg3, bits_eq, h])

theorem finBits_eq {n w hi lo : Nat} [NeZero n] {r : Fin n} (h : w / 2 ^ lo % 2 ^ (hi - lo + 1) % n = r.val) :
    Fin.ofNat n (bits w hi lo) = r := Fin.ext (by rw [← h, ← bits_eq]; rfl)

theorem bvBits_eq {n w hi lo : Nat} {z : BitVec n} (h : w / 2 ^ lo % 2 ^ (hi - lo + 1) % 2 ^ n = z.toNat) :
    BitVec.ofNat n (bits w hi lo) = z := BitVec.eq_of_toNat_eq (by rw [BitVec.toNat_ofNat, bits_eq, h])

theorem bvOfNat_eq {n w : Nat} {z : BitVec n} (h : w % 2 ^ n = z.toNat) : BitVec.ofNat n w = z :=
  BitVec.eq_of_toNat_eq (by rw [BitVec.toNat_ofNat, h])

theorem formR_word (f : RForm) {w fn : Nat} (hfn : fn < 256) (hw : w = 0x01 * 2 ^ 26 + f.d.val * 2 ^ 21 + f.a.val * 2 ^ 16 +
    f.b.val * 2 ^ 11 + f.z.toNat * 2 ^ 9 + b2n f.w * 2 ^ 8 + fn) :
    bits w 31 26 = 1 ∧ bits w 7 0 = fn ∧ formR w = f := by
  obtain ⟨d, a, b, ww, z⟩ := f
  have hd := d.isLt; have ha := a.isLt; have hb := b.isLt; have hz := z.isLt; have hww := b2n_le_one ww
  simp only at hw
  refine ⟨opcode_eq (by decide) (by omega) (by omega), by rw [bits_eq]; omega, ?_⟩
  rw [formR, RForm.mk.injEq]
  exact ⟨reg5_eq (by omega), reg5_eq (by omega), reg5_eq (by omega), bit_eq_of_b2n (by omega), bvBits_eq (by omega)⟩

theorem formI_word (f : IForm) {w op : Nat} (hop : op < 64)
    (hw : w = op * 2 ^ 26 + f.d.val * 2 ^ 21 + f.a.val * 2 ^ 16 + f.imm.toNat) : bits w 31 26 = op ∧ formI w = f := by
  obtain ⟨d, a, imm⟩ := f
  have hd := d.isLt; have ha := a.isLt; have hi := imm.isLt
  simp only at hw
  refine ⟨opcode_eq hop (by omega) (by omega), ?_⟩
  rw [formI, IForm.mk.injEq]
  exact ⟨reg5_eq (by omega), reg5_eq (by omega), bvOfNat_eq (by omega)⟩

theorem formH_word (f : HForm) {w : Nat} (hw : w = 0x09 * 2 ^ 26 + f.d.val * 2 ^ 21 + f.z.toNat * 2 ^ 18 + f.h.val * 2 ^ 16 +
    f.imm.toNat) : bits w 31 26 = 9 ∧ formH w = f := by
  obtain ⟨d, z, h, imm⟩ := f
  have hd := d.isLt; have hz := z.isLt; have hh := h.isLt; have hi := imm.isLt
  simp only at hw
  refine ⟨opcode_eq (by decide) (by omega) (by omega), ?_⟩
  rw [formH, HForm.mk.injEq]
  exact ⟨reg5_eq (by omega), bvBits_eq (by omega), finBits_eq (by omega), bvOfNat_eq (by omega)⟩

theorem formS_word (f : SForm) {w : Nat} (hw : w = 0x0B * 2 ^ 26 + f.d.val * 2 ^ 21 + f.a.val * 2 ^ 16 + f.kind.val * 2 ^ 14 +
    b2n f.w * 2 ^ 13 + f.z.toNat * 2 ^ 6 + f.sh.val) : bits w 31 26 = 11 ∧ formS w = f := by
  obtain ⟨d, a, kind, ww, z, sh⟩ := f
  have hd := d.isLt; have ha := a.isLt; have hk := kind.isLt; have hz := z.isLt; have hs := sh.isLt; have hww := b2n_le_one ww
  simp only at hw
  refine ⟨opcode_eq (by decide) (by omega) (by omega), ?_⟩
  rw [formS, SForm.mk.injEq]
  exact ⟨reg5_eq (by omega), reg5_eq (by omega), finBits_eq (by omega), bit_eq_of_b2n (by omega), bvBits_eq (by omega),
    finBits_eq (by omega)⟩

theorem formB_word (f : BForm) {w op : Nat} (hop : op < 64)
    (hw : w = op * 2 ^ 26 + f.a.val * 2 ^ 21 + f.b.val * 2 ^ 16 + f.off.toNat) : bits w 31 26 = op ∧ formB w = f := by
  obtain ⟨a, b, off⟩ := f
  have ha := a.isLt; have hb := b.isLt; have ho := off.isLt
  simp only at hw
  refine ⟨opcode_eq hop (by omega) (by omega), ?_⟩
  rw [formB, BForm.mk.injEq]
  exact ⟨reg5_eq (by omega), reg5_eq (by omega), bvOfNat_eq (by omega)⟩

theorem formJ_word (f : JForm) {w op : Nat} (hop : op < 64) (hw : w = op * 2 ^ 26 + f.off.toNat) :
    bits w 31 26 = op ∧ formJ w = f := by
  obtain ⟨off⟩ := f
  have ho := off.isLt
  simp only at hw
  refine ⟨opcode_eq hop (by omega) (by omega), ?_⟩
  rw [formJ, JForm.mk.injEq]
  exact bvOfNat_eq (by omega)

theorem formP_word (f : PForm) {w op : Nat} (hop : op < 64)
    (hw : w = op * 2 ^ 26 + f.p.val * 2 ^ 23 + f.z.toNat * 2 ^ 16 + f.off.toNat) : bits w 31 26 = op ∧ formP w = f := by
  obtain ⟨p, z, off⟩ := f
  have hp := p.isLt; have hz := z.isLt; have ho := off.isLt
  simp only at hw
  refine ⟨opcode_eq hop (by omega) (by omega), ?_⟩
  rw [formP, PForm.mk.injEq]
  exact ⟨reg3_eq (by omega), bvBits_eq (by omega), bvOfNat_eq (by omega)⟩

theorem formA_word (f : AForm) {w fn : Nat} (hfn : fn < 16) (hw : w = 0x30 * 2 ^ 26 + f.d.val * 2 ^ 21 + f.a.val * 2 ^ 16 +
    f.b.val * 2 ^ 11 + f.z.toNat * 2 ^ 7 + b2n f.rel * 2 ^ 6 + b2n f.acq * 2 ^ 5 + b2n f.wide * 2 ^ 4 + fn) :
    bits w 31 26 = 0x30 ∧ bits w 3 0 = fn ∧ formA w = f := by
  obtain ⟨d, a, b, wide, acq, rel, z⟩ := f
  have hd := d.isLt; have ha := a.isLt; have hb := b.isLt; have hz := z.isLt
  have h1 := b2n_le_one wide; have h2 := b2n_le_one acq; have h3 := b2n_le_one rel
  simp only at hw
  refine ⟨opcode_eq (by decide) (by omega) (by omega), by rw [bits_eq]; omega, ?_⟩
  rw [formA, AForm.mk.injEq]
  exact ⟨reg5_eq (by omega), reg5_eq (by omega), reg5_eq (by omega), bit_eq_of_b2n (by omega), bit_eq_of_b2n (by omega),
    bit_eq_of_b2n (by omega), bvBits_eq (by omega)⟩

theorem formX_word (f : XForm) {w fn : Nat} (hfn : fn < 2048)
    (hw : w = 0x38 * 2 ^ 26 + f.d.val * 2 ^ 21 + f.a.val * 2 ^ 16 + f.b.val * 2 ^ 11 + fn) :
    bits w 31 26 = 0x38 ∧ bits w 10 0 = fn ∧ formX w = f := by
  obtain ⟨d, a, b⟩ := f
  have hd := d.isLt; have ha := a.isLt; have hb := b.isLt
  simp only at hw
  refine ⟨opcode_eq (by decide) (by omega) (by omega), by rw [bits_eq]; omega, ?_⟩
  rw [formX, XForm.mk.injEq]
  exact ⟨reg5_eq (by omega), reg5_eq (by omega), reg5_eq (by omega)⟩

theorem formQ_word (f : QForm) {w fn : Nat} (hfn : fn < 16) (hw : w = 0x39 * 2 ^ 26 + f.pd.val * 2 ^ 23 + f.pa.val * 2 ^ 20 +
    f.pb.val * 2 ^ 17 + f.g.val * 2 ^ 12 + fn * 2 ^ 8 + f.z.toNat) :
    bits w 31 26 = 0x39 ∧ bits w 11 8 = fn ∧ formQ w = f := by
  obtain ⟨pd, pa, pb, g, z⟩ := f
  have hd := pd.isLt; have ha := pa.isLt; have hb := pb.isLt; have hg := g.isLt; have hz := z.isLt
  simp only at hw
  refine ⟨opcode_eq (by decide) (by omega) (by omega), by rw [bits_eq]; omega, ?_⟩
  rw [formQ, QForm.mk.injEq]
  exact ⟨reg3_eq (by omega), reg3_eq (by omega), reg3_eq (by omega), reg5_eq (by omega), bvOfNat_eq (by omega)⟩

theorem formV_word (f : VForm) {w op fn : Nat} (hop : op < 64) (hfn : fn < 16) (hw : w = op * 2 ^ 26 + f.vd.val * 2 ^ 22 +
    f.va.val * 2 ^ 18 + f.vb.val * 2 ^ 14 + f.pg.val * 2 ^ 11 + f.esz.val * 2 ^ 9 + fn * 2 ^ 5 + f.ga.val) :
    bits w 31 26 = op ∧ bits w 8 5 = fn ∧ formV w = f := by
  obtain ⟨vd, va, vb, pg, esz, ga⟩ := f
  have hd := vd.isLt; have ha := va.isLt; have hb := vb.isLt; have hp := pg.isLt; have he := esz.isLt; have hg := ga.isLt
  simp only at hw
  refine ⟨opcode_eq hop (by omega) (by omega), by rw [bits_eq]; omega, ?_⟩
  rw [formV, VForm.mk.injEq]
  exact ⟨reg4_eq (by omega), reg4_eq (by omega), reg4_eq (by omega), reg3_eq (by omega), finBits_eq (by omega),
    reg5_eq (by omega)⟩

theorem formVm_word (f : VmForm) {w st : Nat} (hst : st < 2) (hw : w = 0x3D * 2 ^ 26 + f.vt.val * 2 ^ 22 + f.ga.val * 2 ^ 17 +
    f.bx.val * 2 ^ 12 + f.pg.val * 2 ^ 9 + f.esz.val * 2 ^ 7 + f.mode.val * 2 ^ 5 + st * 2 ^ 4 + f.z.toNat) :
    bits w 31 26 = 0x3D ∧ bit w 4 = decide (st = 1) ∧ formVm w = f := by
  obtain ⟨vt, ga, bx, pg, esz, mode, z⟩ := f
  have hd := vt.isLt; have ha := ga.isLt; have hb := bx.isLt; have hp := pg.isLt; have he := esz.isLt; have hm := mode.isLt
  have hz := z.isLt
  simp only at hw
  have h4 : w / 2 ^ 4 % 2 = st := by omega
  refine ⟨opcode_eq (by decide) (by omega) (by omega), bit_eq_of_b2n (h4.trans ?_), ?_⟩
  · interval_cases st <;> rfl
  · rw [formVm, VmForm.mk.injEq]
    exact ⟨reg4_eq (by omega), reg5_eq (by omega), reg5_eq (by omega), reg3_eq (by omega), finBits_eq (by omega),
      finBits_eq (by omega), bvOfNat_eq (by omega)⟩

/-! What the decoder makes of a word of each opcode that has functions (Table: Major opcodes), and of an unlisted function. -/

section
variable {h : Hart} {w : Nat}

theorem decodeMelfy_int (hw : bits w 31 26 = 0x01) : decodeMelfy h w = decodeInt h (formR w) (bits w 7 0) := by
  rw [decodeMelfy, hw]; rfl

theorem decodeMelfy_atomic (hw : bits w 31 26 = 0x30) : decodeMelfy h w = decodeAtomic h (formA w) (bits w 3 0) := by
  rw [decodeMelfy, hw]; rfl

theorem decodeMelfy_system (hw : bits w 31 26 = 0x38) : decodeMelfy h w = decodeSystem h (formX w) (bits w 10 0) := by
  rw [decodeMelfy, hw]; rfl

theorem decodeMelfy_pred (hw : bits w 31 26 = 0x39) : decodeMelfy h w = decodePred h (formQ w) (bits w 11 8) := by
  rw [decodeMelfy, hw]; rfl

theorem decodeMelfy_vecB (hw : bits w 31 26 = 0x3B) : decodeMelfy h w = decodeVecB h (formV w) (bits w 8 5) := by
  rw [decodeMelfy, hw]; rfl

theorem decodeMelfy_vecA (hw : bits w 31 26 = 0x3C) : decodeMelfy h w = decodeVecA h (formV w) (bits w 8 5) := by
  rw [decodeMelfy, hw]; rfl

theorem decodeMelfy_vecMem (hw : bits w 31 26 = 0x3D) :
    decodeMelfy h w = some (if bit w 4 then .vst h (formVm w) else .vld h (formVm w)) := by
  rw [decodeMelfy, hw]; rfl

theorem decodeMelfy_pixel (hw : bits w 31 26 = 0x3E) : decodeMelfy h w = decodePixel h (formV w) (bits w 8 5) := by
  rw [decodeMelfy, hw]; rfl

/-- A word whose opcode names its instruction. -/
theorem decodeMelfy_opcode {α : Type} {form : Nat → α} {c : Hart → α → Instr} {f : α} {op : Nat}
    (hw : bits w 31 26 = op ∧ form w = f) (hc : bits w 31 26 = op → decodeMelfy h w = some (c h (form w))) :
    decodeMelfy h w = some (c h f) := by
  rw [hc hw.1, hw.2]

/-- A word whose function names its instruction. -/
theorem decodeMelfy_function {α : Type} {form : Nat → α} {dec : Hart → α → Nat → Option Instr} {f : α} {op hi lo fn : Nat}
    (hw : bits w 31 26 = op ∧ bits w hi lo = fn ∧ form w = f)
    (hd : bits w 31 26 = op → decodeMelfy h w = dec h (form w) (bits w hi lo)) : decodeMelfy h w = dec h f fn := by
  obtain ⟨hop, hfn, hf⟩ := hw
  rw [hd hop, hfn, hf]

theorem decodeInt_unlisted (f : RForm) {n : Nat} (hn : 0x18 < n) : decodeInt h f n = none :=
  match n, hn with | _ + 25, _ => rfl

theorem decodeAtomic_unlisted (f : AForm) {n : Nat} (hn : 9 < n) : decodeAtomic h f n = none :=
  match n, hn with | _ + 10, _ => rfl

theorem decodeSystem_unlisted (f : XForm) {n : Nat} (hn : 0x1D < n ∨ n ∈ [5, 6, 7, 0xD, 0xE, 0xF, 0x16, 0x17]) :
    decodeSystem h f n = none := by
  obtain hn | hn := hn
  · exact match n, hn with | _ + 30, _ => rfl
  · simp only [List.mem_cons, List.not_mem_nil, or_false] at hn
    obtain rfl | rfl | rfl | rfl | rfl | rfl | rfl | rfl := hn <;> rfl

theorem decodePred_unlisted (f : QForm) {n : Nat} (hn : 8 < n) : decodePred h f n = none :=
  match n, hn with | _ + 9, _ => rfl

theorem decodeVecB_unlisted (f : VForm) {n : Nat} (hn : 11 < n) : decodeVecB h f n = none :=
  match n, hn with | _ + 12, _ => rfl

theorem decodeVecA_unlisted (f : VForm) {n : Nat} (hn : 14 < n) : decodeVecA h f n = none :=
  match n, hn with | _ + 15, _ => rfl

theorem decodePixel_unlisted (f : VForm) {n : Nat} (hn : 9 < n) : decodePixel h f n = none :=
  match n, hn with | _ + 10, _ => rfl

theorem decodeMelfy_unlisted (hop : bits w 31 26 ∉ [0x01, 0x02, 0x03, 0x04, 0x05, 0x06, 0x07, 0x08, 0x09, 0x0A, 0x0B, 0x10,
    0x11, 0x12, 0x13, 0x14, 0x15, 0x16, 0x18, 0x19, 0x1A, 0x1B, 0x20, 0x21, 0x22, 0x23, 0x24, 0x25, 0x26, 0x27, 0x28, 0x29,
    0x2A, 0x30, 0x38, 0x39, 0x3B, 0x3C, 0x3D, 0x3E]) : decodeMelfy h w = none := by
  unfold decodeMelfy
  generalize bits w 31 26 = op at hop
  split
  iterate 40 exact absurd (by decide) hop
  rfl

end

/-- A word that no table lists traps as an illegal encoding (R47). -/
theorem illegalWord_ready {h : Hart} {s u : State} (hr : s.ready h u) (w : Nat) :
    illegalWord h w s = enterTrap h 6 (BitVec.ofNat 64 w) (u.hart h).pc u := by
  obtain ⟨hst, hrun, hfetch⟩ := hr
  have hill : (if rookIll h w = true then some 0 else some 0) = some 0 := ite_self _
  simp only [illegalWord, issue, hst, hrun, and_self, if_true, hfetch, hill]
  exact except_illegal h 0 w u

/-- Settles O3: form by form, a word of a listed opcode and function reads back; the others read as none. -/
theorem instructionWords : Obligations.InstructionWords := by
  unfold Obligations.InstructionWords
  intro h
  refine ⟨fun f => ?_, fun f => ?_, fun f => ?_, fun f => ?_, fun f => ?_, fun f => ?_, fun f => ?_, fun f => ?_, fun f => ?_,
    fun f => ?_, fun f => ?_, fun f => ?_, fun w => ?_, fun w s => ⟨fun c hc => ?_, fun u hr hw => ?_⟩⟩
  · intro is
    and_intros <;> exact decodeMelfy_function (formR_word f (by decide) rfl) decodeMelfy_int
  · intro is
    and_intros <;> exact decodeMelfy_opcode (formI_word f (by decide) rfl) fun hw => by rw [decodeMelfy, hw]; rfl
  · exact decodeMelfy_opcode (formH_word f rfl) fun hw => by rw [decodeMelfy, hw]; rfl
  · exact decodeMelfy_opcode (formS_word f rfl) fun hw => by rw [decodeMelfy, hw]; rfl
  · intro is
    and_intros <;> exact decodeMelfy_opcode (formB_word f (by decide) rfl) fun hw => by rw [decodeMelfy, hw]; rfl
  · and_intros <;> exact decodeMelfy_opcode (formJ_word f (by decide) rfl) fun hw => by rw [decodeMelfy, hw]; rfl
  · and_intros <;> exact decodeMelfy_opcode (formP_word f (by decide) rfl) fun hw => by rw [decodeMelfy, hw]; rfl
  · intro is
    and_intros <;> exact decodeMelfy_function (formA_word f (by decide) rfl) decodeMelfy_atomic
  · intro is
    and_intros <;> exact decodeMelfy_function (formX_word f (by decide) rfl) decodeMelfy_system
  · intro is
    and_intros <;> exact decodeMelfy_function (formQ_word f (by decide) rfl) decodeMelfy_pred
  · intro word
    refine ⟨?_, ?_, ?_⟩ <;> intro is
    · and_intros <;> exact decodeMelfy_function (formV_word f (by decide) (by decide) rfl) decodeMelfy_vecB
    · and_intros <;> exact decodeMelfy_function (formV_word f (by decide) (by decide) rfl) decodeMelfy_vecA
    · and_intros <;> exact decodeMelfy_function (formV_word f (by decide) (by decide) rfl) decodeMelfy_pixel
  · have hvm : ∀ st < 2, decodeMelfy h _ = some (if st = 1 then .vst h f else .vld h f) := fun st hst => by
      obtain ⟨hop, hbit, hf⟩ := formVm_word f hst rfl
      rw [decodeMelfy_vecMem hop, hbit, hf]
      simp only [decide_eq_true_eq]
    exact ⟨hvm 0 (by decide), hvm 1 (by decide)⟩
  · exact ⟨decodeMelfy_unlisted, fun ho hf => by rw [decodeMelfy_int ho, decodeInt_unlisted _ hf],
      fun ho hf => by rw [decodeMelfy_atomic ho, decodeAtomic_unlisted _ hf],
      fun ho hf => by rw [decodeMelfy_system ho, decodeSystem_unlisted _ hf],
      fun ho hf => by rw [decodeMelfy_pred ho, decodePred_unlisted _ hf],
      fun ho hf => by rw [decodeMelfy_vecB ho, decodeVecB_unlisted _ hf],
      fun ho hf => by rw [decodeMelfy_vecA ho, decodeVecA_unlisted _ hf],
      fun ho hf => by rw [decodeMelfy_pixel ho, decodePixel_unlisted _ hf]⟩
  · simp only [runWord, hc]
  · simp only [runWord, hw, illegalWord_ready hr]

end Sys2Proof.Machine
end

section
/-! SUPPORT. One instruction of a context whose fetch met no fault (R60, R64): what its body answers is what it does. -/

namespace Sys2Proof.Machine

/-- An opcode below the vector and pixel groups is one that Rook has (R72). -/
theorem rookIll_of_opcode {w op : Nat} (h : Hart) (hop : bits w 31 26 = op) (hlt : op < 0x3B) : rookIll h w = false := by
  have hle : ¬ (0x3B ≤ op) := by omega
  simp [rookIll, hop, hle]

section
variable {h : Hart} {s u t v : State} {word level : Nat} {ill : HartState → Option Nat} {body : State → Option Trap × State}

theorem issue_next (hr : s.ready h u) (hk : rookIll h word = false) (hill : ill (u.hart h) = none)
    (hl : level ≤ (u.hart h).pl) (hb : body u = (none, t)) : issue h word ill level body s = t := by
  rw [issue_ready hr word hk, hill]
  simp only [Nat.not_lt.2 hl, if_false, hb]

theorem issue_plain {f : State → State} (hr : s.ready h u) (hk : rookIll h word = false) (hill : ill (u.hart h) = none)
    (hl : level ≤ (u.hart h).pl) : issue h word ill level (plain f) s = f u := issue_next hr hk hill hl rfl

theorem issue_except {x : Trap} (hr : s.ready h u) (hk : rookIll h word = false) (hill : ill (u.hart h) = none)
    (hl : level ≤ (u.hart h).pl) (hb : body u = (some x, v)) : issue h word ill level body s = except h x v := by
  rw [issue_ready hr word hk, hill]
  simp only [Nat.not_lt.2 hl, if_false, hb]

end

theorem zeroField_zero {z : Nat} (hz : z = 0) (k : HartState) : zeroField z k = none := by simp [zeroField, hz]

/-! The opcodes of instruction words. -/

theorem opcode_wordR {op fn : Nat} (d a b : Fin 32) (hop : op < 64) (hfn : fn < 2048) : bits (wordR op fn d a b) 31 26 = op := by
  have hd := d.isLt; have ha := a.isLt; have hb := b.isLt
  exact opcode_eq hop (by simp only [wordR]; omega) (by simp only [wordR]; omega)

theorem opcode_wordI {op : Nat} (f : IForm) (hop : op < 64) : bits (wordI op f) 31 26 = op := (formI_word f hop rfl).1
theorem opcode_wordH (f : HForm) : bits (wordH 9 f) 31 26 = 9 := (formH_word f rfl).1
theorem opcode_wordS (f : SForm) : bits (wordS 11 f) 31 26 = 11 := (formS_word f rfl).1

end Sys2Proof.Machine
end

section
/-! SUPPORT. The integer functions and immediate operations (R46, R48), as numbers. -/

namespace Sys2Proof.Machine

/-! Shifts, quotients and remainders of words of any width. -/

theorem ushiftRight_eq_ofNat {n : Nat} (x : BitVec n) (k : Nat) : x >>> k = BitVec.ofNat n (x.toNat / 2 ^ k) :=
  BitVec.eq_of_toNat_eq (by
    rw [BitVec.toNat_ushiftRight, BitVec.toNat_ofNat, Nat.shiftRight_eq_div_pow,
      Nat.mod_eq_of_lt (Nat.lt_of_le_of_lt (Nat.div_le_self _ _) x.isLt)])

theorem sshiftRight_eq_ofInt {n : Nat} (x : BitVec n) (k : Nat) : x.sshiftRight k = BitVec.ofInt n (x.toInt / 2 ^ k) := by
  rw [← BitVec.ofInt_toInt (x := x.sshiftRight k), BitVec.toInt_sshiftRight, Int.shiftRight_eq_div_pow]
  norm_cast

theorem sdivR_eq_quotS {n : Nat} (a b : BitVec n) : sdivR a b = quotS a b := by
  unfold sdivR quotS
  split
  · rfl
  · exact BitVec.eq_of_toInt_eq (by rw [BitVec.toInt_sdiv, BitVec.toInt_ofInt])

theorem sremR_eq_remS {n : Nat} (a b : BitVec n) : sremR a b = remS a b := by
  unfold sremR remS
  split
  · rfl
  · rw [← BitVec.ofInt_toInt (x := a.srem b), BitVec.toInt_srem]

theorem udivR_eq_quotU {n : Nat} (a b : BitVec n) : udivR a b = quotU a b := by
  unfold udivR quotU
  split
  · rfl
  · rw [← BitVec.toNat_udiv, BitVec.ofNat_toNat, BitVec.setWidth_eq]

theorem uremR_eq_remU {n : Nat} (a b : BitVec n) : uremR a b = remU a b := by
  unfold uremR remU
  split
  · rfl
  · rw [← BitVec.toNat_umod, BitVec.ofNat_toNat, BitVec.setWidth_eq]

/-- Two opposite shifts rotate. -/
theorem rotate_eq {n k : Nat} (x : BitVec n) (hk : k < n) : (x >>> k) ||| (x <<< ((n - k) % n)) = x.rotateRight k := by
  rw [BitVec.rotateRight_def, Nat.mod_eq_of_lt hk]
  obtain rfl | hpos := Nat.eq_zero_or_pos k
  · simp
  · rw [Nat.mod_eq_of_lt (by omega)]

end Sys2Proof.Machine
end
section
/-! SUPPORT. The results of the integer functions (Table: Integer functions), as numbers. -/

namespace Sys2Proof.Machine

theorem bits_low (x hi : Nat) : bits x hi 0 = x % 2 ^ (hi + 1) := by rw [bits_eq, Nat.pow_zero, Nat.div_one, Nat.sub_zero]

theorem bits_5_0 (x : Nat) : bits x 5 0 = x % 64 := bits_low x 5
theorem bits_4_0 (x : Nat) : bits x 4 0 = x % 32 := bits_low x 4

theorem bit_eq_testBit (x i : Nat) : bit x i = x.testBit i := by
  rw [bit, Nat.shiftRight_eq_div_pow, Nat.testBit_eq_decide_div_mod_eq]
  rfl

section
variable (w : Bool) (a b : Word)

theorem alu_add : alu .add w a b = if w then sx32 (a + b) else a + b := by
  simp only [alu, alu32, alu64, sx32, BitVec.setWidth_add _ _ (by decide : 32 ≤ 64)]

theorem alu_sub : alu .sub w a b = if w then sx32 (a - b) else a - b := by
  have h : a.setWidth 32 - b.setWidth 32 = (a - b).setWidth 32 := by bv_omega
  simp only [alu, alu32, alu64, sx32, h]

theorem alu_mul : alu .mul w a b = if w then sx32 (a * b) else a * b := by
  simp only [alu, alu32, alu64, sx32, BitVec.setWidth_mul _ _ (by decide : 32 ≤ 64)]

theorem alu_sll : alu .sll w a b = if w then sx32 (a <<< (b.toNat % 32)) else a <<< (b.toNat % 64) := by
  simp only [alu, alu32, alu64, sx32, bits_5_0, bits_4_0, BitVec.setWidth_shiftLeft_of_le (by decide : 32 ≤ 64)]

theorem alu_srl : alu .srl w a b =
    if w then (BitVec.ofNat 32 ((a.setWidth 32).toNat / 2 ^ (b.toNat % 32))).signExtend 64
    else BitVec.ofNat 64 (a.toNat / 2 ^ (b.toNat % 64)) := by
  simp only [alu, alu32, alu64, bits_5_0, bits_4_0, ushiftRight_eq_ofNat]

theorem alu_sra : alu .sra w a b =
    if w then (BitVec.ofInt 32 ((a.setWidth 32).toInt / 2 ^ (b.toNat % 32))).signExtend 64
    else BitVec.ofInt 64 (a.toInt / 2 ^ (b.toNat % 64)) := by
  simp only [alu, alu32, alu64, bits_5_0, bits_4_0, sshiftRight_eq_ofInt]

theorem alu_ror : alu .ror w a b =
    if w then ((a.setWidth 32).rotateRight (b.toNat % 32)).signExtend 64 else a.rotateRight (b.toNat % 64) := by
  simp only [alu, alu32, alu64, bits_5_0, bits_4_0]
  rw [rotate_eq _ (Nat.mod_lt _ (by decide)), rotate_eq _ (Nat.mod_lt _ (by decide))]

theorem alu_div : alu .div w a b = if w then (quotS (a.setWidth 32) (b.setWidth 32)).signExtend 64 else quotS a b := by
  simp only [alu, alu32, alu64, sdivR_eq_quotS]

theorem alu_divu : alu .divu w a b = if w then (quotU (a.setWidth 32) (b.setWidth 32)).signExtend 64 else quotU a b := by
  simp only [alu, alu32, alu64, udivR_eq_quotU]

theorem alu_rem : alu .rem w a b = if w then (remS (a.setWidth 32) (b.setWidth 32)).signExtend 64 else remS a b := by
  simp only [alu, alu32, alu64, sremR_eq_remS]

theorem alu_remu : alu .remu w a b = if w then (remU (a.setWidth 32) (b.setWidth 32)).signExtend 64 else remU a b := by
  simp only [alu, alu32, alu64, uremR_eq_remU]

theorem alu64_slt : alu64 .slt a b = if a.toInt < b.toInt then 1 else 0 := by
  simp only [alu64, BitVec.slt_iff_toInt_lt]

theorem alu64_sltu : alu64 .sltu a b = if a.toNat < b.toNat then 1 else 0 := by
  simp only [alu64, BitVec.ult_iff_toNat_lt]

theorem alu64_min : alu64 .min a b = if a.toInt ≤ b.toInt then a else b := by
  simp only [alu64, BitVec.slt_iff_toInt_lt, ← Int.not_le, ite_not]

theorem alu64_max : alu64 .max a b = if b.toInt ≤ a.toInt then a else b := by
  simp only [alu64, BitVec.slt_iff_toInt_lt, ← Int.not_le, ite_not]

theorem alu64_minu : alu64 .minu a b = if a.toNat ≤ b.toNat then a else b := by
  simp only [alu64, BitVec.ult_iff_toNat_lt, ← Nat.not_le, ite_not]

theorem alu64_maxu : alu64 .maxu a b = if b.toNat ≤ a.toNat then a else b := by
  simp only [alu64, BitVec.ult_iff_toNat_lt, ← Nat.not_le, ite_not]

theorem popc64_eq_countP (x : Nat) : popc64 x = (List.range 64).countP (fun i => x.testBit i) := by
  rw [popc64, List.countP_eq_length_filter]
  simp only [bit_eq_testBit]

theorem clz64_spec : clz64 a.toNat ≤ 64 ∧ (∀ i, 64 ≤ i + clz64 a.toNat → a.getLsbD i = false) ∧
    (clz64 a.toNat < 64 → a.getLsbD (63 - clz64 a.toNat) = true) := by
  unfold clz64 BitVec.getLsbD
  split
  case isTrue h0 => simp [h0]
  case isFalse h0 =>
    have hlog : a.toNat.log2 < 64 := (Nat.log2_lt h0).2 a.isLt
    refine ⟨by omega, fun i hi => ?_, fun _ => ?_⟩
    · exact Nat.testBit_lt_two_pow (Nat.lt_of_lt_of_le (Nat.lt_log2_self) (Nat.pow_le_pow_right (by decide) (by omega)))
    · rw [show 63 - (63 - a.toNat.log2) = a.toNat.log2 by omega]
      exact Nat.testBit_log2 h0

theorem ctz64_spec : ctz64 a.toNat ≤ 64 ∧ (∀ i, i < ctz64 a.toNat → a.getLsbD i = false) ∧
    (ctz64 a.toNat < 64 → a.getLsbD (ctz64 a.toNat) = true) := by
  unfold ctz64 BitVec.getLsbD
  split
  case isTrue h0 => simp [h0]
  case isFalse h0 =>
    simp only [bit_eq_testBit]
    cases hf : (List.range 64).find? (fun i => a.toNat.testBit i) with
    | none =>
      simp only [List.find?_range_eq_none, Bool.not_eq_true'] at hf
      exact ⟨Nat.le_refl _, hf, fun h => absurd h (Nat.lt_irrefl _)⟩
    | some n =>
      obtain ⟨hn, hlt, hlow⟩ := List.find?_range_eq_some.1 hf
      exact ⟨(List.mem_range.1 hlt).le, fun i hi => by simpa using hlow i hi, fun _ => hn⟩

end

end Sys2Proof.Machine
end

section
/-! SUPPORT. Integer instructions (R46, R48): what each leaves of a context that is ready. -/

namespace Sys2Proof.Machine

/-- A word with bits hi..lo replaced. -/
theorem getLsbD_putBits {w : Word} {hi lo : Nat} (v : Nat) (hle : lo ≤ hi) {i : Nat} (hi64 : i < 64) :
    (putBits w hi lo v).getLsbD i = if lo ≤ i ∧ i < hi + 1 then v.testBit (i - lo) else w.getLsbD i := by
  simp only [putBits, BitVec.getLsbD_or, BitVec.getLsbD_and, BitVec.getLsbD_not, BitVec.getLsbD_ofNat, Nat.testBit_shiftLeft,
    Nat.testBit_two_pow_sub_one, Nat.testBit_mod_two_pow, hi64, decide_true, Bool.true_and]
  by_cases hlo : lo ≤ i
  · by_cases hhi : i < hi + 1
    · simp [hlo, hhi, show i - lo < hi - lo + 1 by omega]
    · simp [hlo, hhi, show ¬ (i - lo < hi - lo + 1) by omega]
  · simp [hlo]

/-! What each instruction of this family leaves of a context that is ready. -/

section
variable {h : Hart} {s u : State}

/-- An instruction that writes one general register and goes on. -/
theorem issue_setG (hr : s.ready h u) {word op : Nat} (hop : bits word 31 26 = op) (hlt : op < 0x3B) {ill : HartState → Option Nat}
    (hill : ill (u.hart h) = none) (d : Fin 32) (v : State → Word) :
    wroteG h d (v u) u (issue h word ill 0 (plain (fun s => advance h (setG h d (v s) s))) s) := by
  rw [issue_plain hr (rookIll_of_opcode h hop hlt) hill (Nat.zero_le _)]
  exact wroteG_adv h d (v u) u

theorem intR_wrote (hr : s.ready h u) {f : RForm} (hz : f.z = 0) {o : AluOp} (hw : f.w = true → o.wOk = true) :
    wroteG h f.d (alu o f.w (u.g h f.a) (u.g h f.b)) u (intR o h f s) := by
  have hill : intIll o f (u.hart h) = none := by
    cases hfw : f.w <;> simp_all [intIll]
  have hfn : f.z.toNat * 512 + b2n f.w * 256 + o.fn < 2048 := by
    have := b2n_le_one f.w
    have : o.fn < 256 := by cases o <;> decide
    rw [hz, show (0 : BitVec 2).toNat = 0 from rfl]
    omega
  exact issue_setG hr (opcode_wordR _ _ _ (by decide) hfn) (by decide) hill f.d
    (fun s => alu o f.w (s.g h f.a) (s.g h f.b))

theorem intI_wrote (hr : s.ready h u) (f : IForm) {op : Nat} (hop : op < 0x3B) (o : AluOp) (imm : Word) :
    wroteG h f.d (alu64 o (u.g h f.a) imm) u (intI op o imm h f s) :=
  issue_setG hr (opcode_wordI f (Nat.lt_trans hop (by decide))) hop rfl f.d (fun s => alu64 o (s.g h f.a) imm)

theorem gaZero_zero {f : IForm} (ha : f.a = 0) (k : HartState) : gaZero f k = none := by rw [gaZero, if_pos ha]

theorem lui_wrote (hr : s.ready h u) {f : IForm} (ha : f.a = 0) : wroteG h f.d (sx16 f.imm <<< 16) u (lui h f s) :=
  issue_setG hr (opcode_wordI f (by decide)) (by decide) (gaZero_zero ha _) f.d (fun _ => sx16 f.imm <<< 16)

theorem auipc_wrote (hr : s.ready h u) {f : IForm} (ha : f.a = 0) :
    wroteG h f.d (u.pc h + (sx16 f.imm <<< 16)) u (auipc h f s) :=
  issue_setG hr (opcode_wordI f (by decide)) (by decide) (gaZero_zero ha _) f.d (fun s => s.pc h + (sx16 f.imm <<< 16))

theorem insh_wrote (hr : s.ready h u) {f : HForm} (hz : f.z = 0) :
    wroteG h f.d (putBits (u.g h f.d) (16 * f.h.val + 15) (16 * f.h.val) f.imm.toNat) u (insh h f s) :=
  issue_setG hr (opcode_wordH f) (by decide) (zeroField_zero (by rw [hz]; rfl) _) f.d
    (fun s => putBits (s.g h f.d) (16 * f.h.val + 15) (16 * f.h.val) f.imm.toNat)

theorem shi_wrote (hr : s.ready h u) {f : SForm} (hz : f.z = 0) :
    wroteG h f.d (alu (shiOp f.kind) f.w (u.g h f.a) (BitVec.ofNat 64 f.sh.val)) u (shi h f s) :=
  issue_setG hr (opcode_wordS f) (by decide) (zeroField_zero (by rw [hz]; rfl) _) f.d
    (fun s => alu (shiOp f.kind) f.w (s.g h f.a) (BitVec.ofNat 64 f.sh.val))

end

/-- Settles O1: each result is what the function is as a number; every instruction writes it and goes on. -/
theorem integerResults : Obligations.IntegerResults := by
  unfold Obligations.IntegerResults
  constructor
  · intro h f s u hr hz a b x y k j done
    have run : ∀ {o : AluOp} {v : Word}, (f.w = true → o.wOk = true) → alu o f.w a b = v →
        ∃ t, Host.Outcome.next (ρ := Refusal) (φ := Fault) (intR o h f s) = .next t ∧ wroteG h f.d v u t :=
      fun hw hv => ⟨_, rfl, hv ▸ intR_wrote hr hz hw⟩
    refine ⟨run (fun _ => rfl) (alu_add ..), run (fun _ => rfl) (alu_sub ..), run (fun _ => rfl) (alu_sll ..),
      run (fun _ => rfl) (alu_srl ..), run (fun _ => rfl) (alu_sra ..), run (fun _ => rfl) (alu_mul ..),
      run (fun _ => rfl) (alu_div ..), run (fun _ => rfl) (alu_divu ..), run (fun _ => rfl) (alu_rem ..),
      run (fun _ => rfl) (alu_remu ..), fun hw => ?_⟩
    have run64 : ∀ {o : AluOp} {v : Word}, alu64 o a b = v →
        ∃ t, Host.Outcome.next (ρ := Refusal) (φ := Fault) (intR o h f s) = .next t ∧ wroteG h f.d v u t :=
      fun {o v} hv => run (fun h1 => by rw [hw] at h1; exact absurd h1 (by decide)) (by rw [alu, hw]; exact hv)
    obtain ⟨hclz, hclz0, hclz1⟩ := clz64_spec a
    obtain ⟨hctz, hctz0, hctz1⟩ := ctz64_spec a
    exact ⟨run64 rfl, run64 rfl, run64 rfl, run64 (alu64_slt ..), run64 (alu64_sltu ..), run64 rfl, run64 rfl,
      run64 (alu64_min ..), run64 (alu64_max ..), run64 (alu64_minu ..), run64 (alu64_maxu ..),
      run64 (alu_ror false a b), run64 (congrArg (BitVec.ofNat 64) (popc64_eq_countP a.toNat)),
      ⟨_, hclz, run64 rfl, hclz0, hclz1⟩, ⟨_, hctz, run64 rfl, hctz0, hctz1⟩⟩
  · intro h s u hr done
    refine ⟨fun f => ?_, fun f hz => ⟨_, ⟨_, rfl, insh_wrote hr hz⟩, fun i hi => ?_⟩, fun f hz => ?_⟩
    · intro a m z
      have hm : f.imm.toInt = m.toInt := (BitVec.toInt_signExtend_of_le (by decide)).symm
      rw [hm, ← alu64_slt, ← alu64_sltu]
      exact ⟨⟨_, rfl, intI_wrote hr f (by decide) .add m⟩, ⟨_, rfl, intI_wrote hr f (by decide) .and z⟩,
        ⟨_, rfl, intI_wrote hr f (by decide) .or z⟩, ⟨_, rfl, intI_wrote hr f (by decide) .xor z⟩,
        ⟨_, rfl, intI_wrote hr f (by decide) .slt m⟩, ⟨_, rfl, intI_wrote hr f (by decide) .sltu m⟩,
        fun ha => ⟨⟨_, rfl, lui_wrote hr ha⟩, ⟨_, rfl, auipc_wrote hr ha⟩⟩⟩
    · rw [getLsbD_putBits _ (by omega) hi]
      rfl
    · intro a x k j
      have hsh : (BitVec.ofNat 64 f.sh.val).toNat = f.sh.val :=
        Nat.mod_eq_of_lt (Nat.lt_trans f.sh.isLt (by decide))
      have hk : f.sh.val % 64 = k := Nat.mod_eq_of_lt f.sh.isLt
      have run : ∀ (o : AluOp) {v : Word}, shiOp f.kind = o → alu o f.w a (BitVec.ofNat 64 f.sh.val) = v →
          done (.shi h f) f.d v := fun o v ho hv => ⟨_, rfl, hv ▸ ho ▸ shi_wrote hr hz⟩
      refine ⟨fun h0 => run .sll (by rw [h0]; rfl) ?_, fun h1 => run .srl (by rw [h1]; rfl) ?_,
        fun h2 => run .sra (by rw [h2]; rfl) ?_, fun h3 => run .ror (by rw [h3]; rfl) ?_⟩
      · rw [alu_sll, hsh, hk]
      · rw [alu_srl, hsh, hk]
      · rw [alu_sra, hsh, hk]
      · rw [alu_ror, hsh, hk]

end Sys2Proof.Machine
end

section
/-! SUPPORT. Trap entry and return (R60–R62): the status word bit by bit, and the one bank that each trap enters. -/

namespace Sys2Proof.Machine

theorem testBit_bits (x hi lo j : Nat) : (bits x hi lo).testBit j = (decide (j < hi - lo + 1) && x.testBit (lo + j)) := by
  rw [bits, Nat.testBit_mod_two_pow, Nat.testBit_shiftRight]

theorem bits_lt (x hi lo : Nat) : bits x hi lo < 2 ^ (hi - lo + 1) := Nat.mod_lt _ (Nat.two_pow_pos _)

theorem bits_putBits_same (w : Word) {hi lo : Nat} (v : Nat) (hle : lo ≤ hi) (h64 : hi < 64) :
    bits (putBits w hi lo v).toNat hi lo = v % 2 ^ (hi - lo + 1) := by
  refine Nat.eq_of_testBit_eq fun j => ?_
  rw [testBit_bits, Nat.testBit_mod_two_pow]
  by_cases hj : j < hi - lo + 1
  · have := getLsbD_putBits (w := w) v hle (i := lo + j) (by omega)
    rw [if_pos (by omega), Nat.add_sub_cancel_left] at this
    rw [← this]
    rfl
  · simp [hj]

theorem getLsbD_putBits_other (w : Word) {hi lo i : Nat} (v : Nat) (hle : lo ≤ hi) (h : i < lo ∨ hi < i) :
    (putBits w hi lo v).getLsbD i = w.getLsbD i := by
  by_cases h64 : i < 64
  · rw [getLsbD_putBits v hle h64, if_neg (by omega)]
  · rw [BitVec.getLsbD_of_ge _ _ (by omega), BitVec.getLsbD_of_ge _ _ (by omega)]

theorem bits_putBits_other (w : Word) {hi lo hi' lo' : Nat} (v : Nat) (hle : lo ≤ hi) (hle' : lo' ≤ hi')
    (h : hi' < lo ∨ hi < lo') : bits (putBits w hi lo v).toNat hi' lo' = bits w.toNat hi' lo' := by
  refine Nat.eq_of_testBit_eq fun j => ?_
  rw [testBit_bits, testBit_bits]
  by_cases hj : j < hi' - lo' + 1
  · exact congrArg _ (getLsbD_putBits_other w v hle (by omega))
  · simp [hj]

/-- A single bit reads back the truth value put there. -/
theorem getLsbD_putBits_bit (w : Word) {i : Nat} (b : Bool) (hi : i < 64) : (putBits w i i (b2n b)).getLsbD i = b := by
  rw [getLsbD_putBits _ (Nat.le_refl i) hi, if_pos (by omega), Nat.sub_self]
  cases b <;> rfl

theorem pl_lt (k : HartState) : k.pl < 4 := bits_lt _ 1 0

section
variable (k : HartState) (cause tval epc : Word)

/-! The kernel bank (R61). -/

theorem enterKernel_pl : (k.enterKernel cause tval epc).pl = 1 := bits_putBits_same _ 1 (by decide) (by decide)

theorem enterKernel_kt : (k.enterKernel cause tval epc).sb 6 = true := by
  simp only [HartState.enterKernel, HartState.sb]
  rw [getLsbD_putBits_other _ _ (by decide) (by decide)]
  exact getLsbD_putBits_bit _ true (by decide)

theorem enterKernel_ie : (k.enterKernel cause tval epc).sb 4 = false := by
  simp only [HartState.enterKernel, HartState.sb]
  rw [getLsbD_putBits_other _ _ (by decide) (by decide), getLsbD_putBits_other _ _ (by decide) (by decide)]
  exact getLsbD_putBits_bit _ false (by decide)

theorem enterKernel_pie : (k.enterKernel cause tval epc).sb 5 = k.sb 4 := by
  simp only [HartState.enterKernel, HartState.sb]
  rw [getLsbD_putBits_other _ _ (by decide) (by decide), getLsbD_putBits_other _ _ (by decide) (by decide),
    getLsbD_putBits_other _ _ (by decide) (by decide)]
  exact getLsbD_putBits_bit _ _ (by decide)

theorem enterKernel_ppl : bits (k.enterKernel cause tval epc).status.toNat 3 2 = k.pl := by
  simp only [HartState.enterKernel]
  rw [bits_putBits_other _ _ (by decide) (by decide) (by decide), bits_putBits_other _ _ (by decide) (by decide) (by decide),
    bits_putBits_other _ _ (by decide) (by decide) (by decide), bits_putBits_other _ _ (by decide) (by decide) (by decide),
    bits_putBits_same _ _ (by decide) (by decide)]
  exact Nat.mod_eq_of_lt (pl_lt k)

theorem enterKernel_high {i : Nat} (hi : 7 ≤ i) : (k.enterKernel cause tval epc).sb i = k.sb i := by
  simp only [HartState.enterKernel, HartState.sb]
  rw [getLsbD_putBits_other _ _ (by decide) (by omega), getLsbD_putBits_other _ _ (by decide) (by omega),
    getLsbD_putBits_other _ _ (by decide) (by omega), getLsbD_putBits_other _ _ (by decide) (by omega),
    getLsbD_putBits_other _ _ (by decide) (by omega)]

/-! The monitor bank (R61). -/

theorem enterMonitor_pl : (k.enterMonitor cause tval epc).pl = 2 := bits_putBits_same _ 2 (by decide) (by decide)

theorem enterMonitor_mt : (k.enterMonitor cause tval epc).sb 13 = true := by
  simp only [HartState.enterMonitor, HartState.sb]
  rw [getLsbD_putBits_other _ _ (by decide) (by decide)]
  exact getLsbD_putBits_bit _ true (by decide)

theorem enterMonitor_ie : (k.enterMonitor cause tval epc).sb 4 = false := by
  simp only [HartState.enterMonitor, HartState.sb]
  rw [getLsbD_putBits_other _ _ (by decide) (by decide), getLsbD_putBits_other _ _ (by decide) (by decide)]
  exact getLsbD_putBits_bit _ false (by decide)

theorem enterMonitor_mpie : (k.enterMonitor cause tval epc).sb 12 = k.sb 4 := by
  simp only [HartState.enterMonitor, HartState.sb]
  rw [getLsbD_putBits_other _ _ (by decide) (by decide), getLsbD_putBits_other _ _ (by decide) (by decide),
    getLsbD_putBits_other _ _ (by decide) (by decide)]
  exact getLsbD_putBits_bit _ _ (by decide)

theorem enterMonitor_mppl : bits (k.enterMonitor cause tval epc).status.toNat 11 10 = k.pl := by
  simp only [HartState.enterMonitor]
  rw [bits_putBits_other _ _ (by decide) (by decide) (by decide), bits_putBits_other _ _ (by decide) (by decide) (by decide),
    bits_putBits_other _ _ (by decide) (by decide) (by decide), bits_putBits_other _ _ (by decide) (by decide) (by decide),
    bits_putBits_same _ _ (by decide) (by decide)]
  exact Nat.mod_eq_of_lt (pl_lt k)

end

/-! ERET through the bank of the level (R62). -/

/-- ERET replaces the pc and the status word alone. -/
theorem eret_eq (k : HartState) : k.eret = { k with pc := k.eret.pc, status := k.eret.status } := by
  unfold HartState.eret
  split <;> rfl

theorem eret_kernel {k : HartState} (hpl : k.pl = 1) : k.eret.pc = k.epc ∧ k.eret.pl = bits k.status.toNat 3 2 ∧
    k.eret.sb 4 = k.sb 5 ∧ k.eret.sb 6 = false := by
  have h2 : ¬ k.pl = 2 := by omega
  simp only [HartState.eret, if_neg h2, HartState.sb]
  refine ⟨trivial, ?_, ?_, getLsbD_putBits_bit _ false (by decide)⟩
  · rw [HartState.pl, bits_putBits_other _ _ (by decide) (by decide) (by decide),
      bits_putBits_other _ _ (by decide) (by decide) (by decide), bits_putBits_same _ _ (by decide) (by decide)]
    exact Nat.mod_eq_of_lt (bits_lt _ 3 2)
  · rw [getLsbD_putBits_other _ _ (by decide) (by decide)]
    exact getLsbD_putBits_bit _ _ (by decide)

theorem eret_monitor {k : HartState} (hpl : k.pl = 2) : k.eret.pc = k.mepc ∧ k.eret.pl = bits k.status.toNat 11 10 ∧
    k.eret.sb 4 = k.sb 12 ∧ k.eret.sb 13 = false := by
  simp only [HartState.eret, if_pos hpl, HartState.sb]
  refine ⟨trivial, ?_, ?_, getLsbD_putBits_bit _ false (by decide)⟩
  · rw [HartState.pl, bits_putBits_other _ _ (by decide) (by decide) (by decide),
      bits_putBits_other _ _ (by decide) (by decide) (by decide), bits_putBits_same _ _ (by decide) (by decide)]
    exact Nat.mod_eq_of_lt (bits_lt _ 11 10)
  · rw [getLsbD_putBits_other _ _ (by decide) (by decide)]
    exact getLsbD_putBits_bit _ _ (by decide)

/-! Which bank a trap enters (R61, R62). -/

section
variable {h : Hart} {s : State} (cause tval epc : Word)

theorem enterTrap_kernel (hpl : (s.hart h).pl < 2) (hkt : (s.hart h).sb 6 = false) :
    enterTrap h cause tval epc s = setHart h ((s.hart h).enterKernel cause tval epc) s := by
  simp only [enterTrap, hpl, hkt, Bool.not_false, and_self, if_true]

theorem enterTrap_monitor (hn : ¬ ((s.hart h).pl < 2 ∧ (s.hart h).sb 6 = false)) :
    enterTrap h cause tval epc s = monitorTrap h cause tval epc s := by
  rw [enterTrap, if_neg (by simpa using hn)]

theorem monitorTrap_enter (hmt : (s.hart h).sb 13 = false) :
    monitorTrap h cause tval epc s = setHart h ((s.hart h).enterMonitor cause tval epc) s := by
  simp only [monitorTrap, hmt, Bool.false_eq_true, if_false]

theorem monitorTrap_dead (hmt : (s.hart h).sb 13 = true) : monitorTrap h cause tval epc s =
    if isRook h = true then setHart h { s.hart h with st := .dead } s else
      raise .mel 3 { addr := epc.toNat, mstr := h.val, typ := 0 } (setHart h { s.hart h with st := .dead } s) := by
  simp only [monitorTrap, hmt, if_true, whenB]
  cases isRook h <;> rfl

end

/-- An exception that is no page fault enters the trap at the instruction (R60). -/
theorem except_trap {h : Hart} {x : Trap} {s : State} (hx : parks (s.hart h) x = false) :
    except h x s = enterTrap h x.cause x.tval (s.hart h).pc s := by
  simp only [except, hx, Bool.false_eq_true, if_false]

/-- Only page faults, and partial faults that are page faults, park (R65). -/
theorem parks_of_code (k : HartState) {x : Trap} (hx : x.code ∉ [1, 2, 3, 7]) : parks k x = false := by
  simp only [List.mem_cons, List.not_mem_nil, or_false, not_or] at hx
  obtain ⟨h1, h2, h3, h7⟩ := hx
  simp [parks, h1, h2, h3, h7]

end Sys2Proof.Machine
end

section
/-! SUPPORT. System instructions (R44, R60–R62): what each leaves of a context that is ready. -/

namespace Sys2Proof.Machine

theorem opcode_wordX {fn : Nat} (f : XForm) (hfn : fn < 2048) : bits (wordX fn f) 31 26 = 0x38 :=
  opcode_wordR f.d f.a f.b (by decide) hfn

theorem rookIll_wordX {fn : Nat} (h : Hart) (f : XForm) (hfn : fn < 2048) : rookIll h (wordX fn f) = false :=
  rookIll_of_opcode h (opcode_wordX f hfn) (by decide)

/-- Going on moves the pc of the context and nothing else. -/
theorem advance_eq (h : Hart) (s : State) : advance h s = setHart h { s.hart h with pc := (s.hart h).pc + 4 } s := rfl

section
variable {h : Hart} {s u : State} (hr : s.ready h u) (f : XForm)
include hr

theorem exec_syscall : exec (.syscall h f) s = .next (enterTrap h 0x20 0 (u.hart h).pc u) :=
  congrArg _ ((issue_except hr (rookIll_wordX h f (by decide)) rfl (Nat.zero_le _) rfl).trans
    (except_trap (parks_of_code _ (by decide))))

theorem exec_breakI : exec (.breakI h f) s = .next (enterTrap h 0x21 0 (u.hart h).pc u) :=
  congrArg _ ((issue_except hr (rookIll_wordX h f (by decide)) rfl (Nat.zero_le _) rfl).trans
    (except_trap (parks_of_code _ (by decide))))

theorem exec_yield : exec (.yield h f) s = .next (if (u.hart h).pl = 0 then enterTrap h 0x31 0 (u.hart h).pc u
    else setHart h { u.hart h with pc := (u.hart h).pc + 4 } u) := by
  by_cases hpl : (u.hart h).pl = 0
  · rw [if_pos hpl]
    exact congrArg _ ((issue_except hr (rookIll_wordX (fn := 4) h f (by decide)) rfl (Nat.zero_le _) (if_pos hpl)).trans
      (except_trap (x := ⟨0x31, 0, 0⟩) (parks_of_code _ (by decide))))
  · rw [if_neg hpl]
    exact congrArg _ (issue_next hr (rookIll_wordX (fn := 4) h f (by decide)) rfl (Nat.zero_le _) (if_neg hpl))

theorem exec_wfi (hpl : 1 ≤ (u.hart h).pl) :
    exec (.wfi h f) s = .next (setHart h { u.hart h with st := .waiting, pc := (u.hart h).pc + 4 } u) := by
  refine congrArg _ ((issue_plain hr (rookIll_wordX h f (by decide)) rfl hpl).trans ?_)
  simp only [advance_eq, hart_setHart_same, setHart_setHart]

theorem exec_eret (hpl : 1 ≤ (u.hart h).pl) : exec (.eret h f) s = .next (setHart h (u.hart h).eret u) :=
  congrArg _ (issue_plain hr (rookIll_wordX h f (by decide)) rfl hpl)

end

/-- NMI_DELIVERY enters the monitor bank of its context (R70). -/
theorem exec_nmiDelivery {s : State} {id : Nat} (hon : s.coresOn = true) (hid : s.nmiNext = some id)
    (hmt : (s.hart (s.nmiHart id)).sb 13 = false) : exec .nmiDelivery s =
      .next (setHart (s.nmiHart id) ((s.hart (s.nmiHart id)).enterMonitor (intCause true id) s.freeW (s.hart (s.nmiHart id)).pc)
        (drawn { s with nmi := s.nmi.filter (fun i => i != id) })) := by
  refine congrArg Host.Outcome.next (a₁ := nmiDeliver s) ?_
  simp only [nmiDeliver, hon, hid, Bool.not_true, Bool.false_eq_true, if_false]
  exact monitorTrap_enter _ _ _ hmt

/-- Settles O7: bank by bank, the status word of R61 and R62. -/
theorem trapEntryAndReturn : Obligations.TrapEntryAndReturn := by
  unfold Obligations.TrapEntryAndReturn
  refine ⟨fun h cause tval epc s => ?_, fun h f s u hr => ?_, fun h cause tval epc s hmt hn => ?_⟩
  · intro k
    refine ⟨fun hpl hkt => ?_, fun hn hmt => ?_, fun hon id hid hh hmt => ?_⟩
    · rw [enterTrap_kernel cause tval epc hpl hkt, hart_setHart_same]
      exact ⟨rfl, rfl, rfl, rfl, enterKernel_pl .., enterKernel_kt .., enterKernel_ie .., enterKernel_pie .., enterKernel_ppl ..,
        rfl, rfl, rfl, fun i hi => enterKernel_high _ _ _ _ hi, fun j hj => hart_setHart_other _ _ hj⟩
    · rw [enterTrap_monitor cause tval epc hn, monitorTrap_enter cause tval epc hmt, hart_setHart_same]
      exact ⟨rfl, rfl, rfl, rfl, enterMonitor_pl .., enterMonitor_mt .., enterMonitor_ie .., enterMonitor_mpie ..,
        enterMonitor_mppl .., rfl, rfl, rfl, rfl⟩
    · subst hh
      refine ⟨_, exec_nmiDelivery hon hid hmt, ?_⟩
      rw [hart_setHart_same]
      exact ⟨rfl, rfl, rfl, enterMonitor_pl .., enterMonitor_mt .., enterMonitor_ie .., enterMonitor_mpie .., enterMonitor_mppl ..,
        rfl⟩
  · refine ⟨exec_syscall hr f, exec_breakI hr f, exec_yield hr f, exec_wfi hr f, fun hpl => ?_, fun hpl => ?_⟩
    · obtain ⟨hpc, hl, hie, hkt⟩ := eret_kernel hpl
      exact ⟨_, exec_eret hr f (by omega), hpc, hl, hie, hkt, eret_eq _⟩
    · obtain ⟨hpc, hl, hie, hmt⟩ := eret_monitor hpl
      exact ⟨_, exec_eret hr f (by omega), hpc, hl, hie, hmt, eret_eq _⟩
  · rw [enterTrap_monitor cause tval epc hn, monitorTrap_dead cause tval epc hmt]

end Sys2Proof.Machine
end

section
/-! SUPPORT. Control registers (R43, R44). -/

namespace Sys2Proof.Machine

/-- Only .cycle shows the cycle count. -/
theorem cr_cycle (k : HartState) (h : Hart) (c c' : Word) {n : Nat} (hn : n ≠ 11) : k.cr h c n = k.cr h c' n := by
  unfold HartState.cr
  split
  case h_12 => exact absurd rfl hn
  all_goals rfl

section
variable (k : HartState) (n : Nat) (v : Word)

/-- A control-register write leaves the pc and the register files. -/
theorem putCr_pc : (k.putCr n v).pc = k.pc := by unfold HartState.putCr; split <;> rfl
theorem putCr_g : (k.putCr n v).g = k.g := by unfold HartState.putCr; split <;> rfl

theorem putStatus_pl : (k.putStatus v).pl = k.pl := by
  refine Nat.eq_of_testBit_eq fun j => ?_
  rw [HartState.pl, HartState.pl, testBit_bits, testBit_bits, Nat.zero_add]
  by_cases hj : j < 2
  · refine congrArg _ (?_ : ((v &&& 0xFD7C) ||| (k.status &&& 3)).getLsbD j = k.status.getLsbD j)
    rw [BitVec.getLsbD_or, BitVec.getLsbD_and, BitVec.getLsbD_and]
    interval_cases j <;> simp
  · simp [hj]

/-- PL is never written (R43). -/
theorem putCr_pl : (k.putCr n v).pl = k.pl := by
  unfold HartState.putCr
  split
  · exact putStatus_pl k v
  all_goals rfl

end

theorem crInfo_isSome_of_crMay {write : Bool} {pl n : Nat} (h : crMay write pl n = true) : (crInfo n).isSome = true := by
  unfold crMay at h
  cases hc : crInfo n with
  | none => simp [hc] at h
  | some x => rfl

theorem crIll_none {h : Hart} {n : Fin 32} {write : Bool} {pl : Nat} (hm : crMay write pl n.val = true)
    (hrook : isRook h = false ∨ n.val ∉ [4, 6, 12]) (k : HartState) : crIll h n k = none := by
  have hs := crInfo_isSome_of_crMay hm
  have hr : (isRook h && [4, 6, 12].contains n.val) = false := by
    obtain hr | hr := hrook
    · rw [hr, Bool.false_and]
    · rw [List.contains_eq_mem, decide_eq_false hr, Bool.and_false]
  simp only [crIll, Option.isNone_eq_false_iff.2 hs, hr, Bool.or_self, Bool.false_eq_true, if_false]

/-- A control register but .cycle, and but .ctx on Rook, is read as it stands. -/
theorem crRead_eq {h : Hart} {n : Nat} (u : State) (h11 : n ≠ 11) (h5 : isRook h = false ∨ n ≠ 5) :
    crRead h n u = ((u.hart h).cr h 0 n, u) := by
  have h5' : ¬ (n = 5 ∧ isRook h = true) := by
    rintro ⟨hn, hr⟩
    obtain h5 | h5 := h5
    · rw [h5] at hr; exact absurd hr (by decide)
    · exact h5 hn
  rw [crRead, if_neg h5']
  simp only [if_neg h11]
  rw [cr_cycle _ _ _ 0 h11]

/-- A control-register instruction that the level of its context allows. -/
theorem crOp_next {h : Hart} {s u : State} (hr : s.ready h u) {fn : Nat} (hfn : fn < 2048) {rd wr : Bool} (new : Word → Word → Word)
    {f : XForm} (hill : crIll h f.b (u.hart h) = none) (hrd : rd = true → crMay false (u.hart h).pl f.b.val = true)
    (hwr : wr = true → crMay true (u.hart h).pl f.b.val = true) {old : Word} {v : State}
    (hread : crRead h f.b.val u = (old, v)) :
    crOp fn rd wr new h f s =
      (let s1 := if wr then setHart h ((v.hart h).putCr f.b.val (new old (u.g h f.a))) v else v
       advance h (if rd then setG h f.d old s1 else s1)) := by
  have hden : (rd && !(crMay false (u.hart h).pl f.b.val) || wr && !(crMay true (u.hart h).pl f.b.val)) = false := by
    cases rd <;> cases wr <;> simp_all
  refine issue_next hr (rookIll_wordX h f hfn) hill (Nat.zero_le _) ?_
  simp only [hden, Bool.false_eq_true, if_false, hread]

/-- Settles O8: each instruction is its read and its write of the register file entry. -/
theorem controlRegisterAccess : Obligations.ControlRegisterAccess := by
  unfold Obligations.ControlRegisterAccess
  constructor
  · intro h f s u hr hrook hb hm
    have hv : f.b.val = 5 := congrArg Fin.val hb
    have hill : crIll h f.b (u.hart h) = none := crIll_none (hv ▸ hm) (.inr (by rw [hv]; decide)) _
    have hread : crRead h f.b.val u = (u.freeW, drawn u) := by rw [crRead, if_pos ⟨hv, hrook⟩]
    refine ⟨_, u.freeW, congrArg Host.Outcome.next (crOp_next hr (by decide) _ hill (fun _ => hv ▸ hm) (by simp) hread), ?_⟩
    exact wroteG_adv h f.d u.freeW (drawn u)
  · intro h f s u hr h11 hrook n k old a wrote
    have h11' : n ≠ 11 := fun hn => h11 (Fin.ext hn)
    have hrook' : isRook h = false ∨ (n ∉ [4, 6, 12] ∧ n ≠ 5) := by
      refine hrook.imp id fun ⟨h4, h5, h6, h12⟩ => ?_
      simp only [List.mem_cons, List.not_mem_nil, or_false, not_or]
      exact ⟨⟨fun e => h4 (Fin.ext e), fun e => h6 (Fin.ext e), fun e => h12 (Fin.ext e)⟩, fun e => h5 (Fin.ext e)⟩
    have hill : ∀ {write pl}, crMay write pl n = true → crIll h f.b k = none := fun hm => crIll_none hm (hrook'.imp id And.left) _
    have hread : crRead h n u = (old, u) := crRead_eq u h11' (hrook'.imp id And.right)
    refine ⟨fun hm => ⟨_, congrArg Host.Outcome.next (crOp_next hr (by decide) _ (hill hm) (fun _ => hm) (by simp) hread), ?_⟩,
      fun hm => ?_, fun hrd hwr => ?_, fun v => putCr_pl k n v⟩
    · exact wroteG_adv h f.d old u
    · refine congrArg Host.Outcome.next ((crOp_next hr (by decide) _ (hill hm) (by simp) (fun _ => hm) hread).trans ?_)
      simp only [if_true, Bool.false_eq_true, if_false, advance_eq, hart_setHart_same, setHart_setHart, putCr_pc]
      rfl
    · have both : ∀ (c : Instr) (fn : Nat) (new : Word → Word → Word), fn < 2048 → exec c s = .next (crOp fn true true new h f s) →
          wrote c (new old a) := by
        intro c fn new hfn hc
        obtain ⟨⟨m, ht⟩, hg⟩ := wroteG_adv h f.d old (setHart h (k.putCr n (new old a)) u)
        refine ⟨m, _, hc.trans (congrArg _ (crOp_next hr hfn new (hill hrd) (fun _ => hrd) (fun _ => hwr) hread)), ?_, ?_⟩
        · simp only [hart_setHart_same, setHart_setHart, putCr_pc] at ht
          exact ht
        · intro r
          refine (hg r).trans ?_
          simp only [State.g, hart_setHart_same, putCr_g]
          rfl
      exact ⟨both _ 0x00A (fun _ a => a) (by decide) rfl, both _ 0x00B (fun o a => o ||| a) (by decide) rfl,
        both _ 0x00C (fun o a => o &&& ~~~a) (by decide) rfl⟩

end Sys2Proof.Machine
end

section
/-! SUPPORT. Context instructions of the own context (R53) after a fetch whose corrected error resets the chip (R420, R437). -/

namespace Sys2Proof.Machine

/-- Context 0 of core 1 about to fetch from a DRAM word with a correctable error, DDR's reaction to which is CHIP_RESET. -/
def resettingFetch : State :=
  setFlt .ddr { react := [(4, 8)] } (setFld F.ddrCfgSIZE 4 (setHart 4 { st := .running, pc := 0x800000000 }
    { State.reset with ce := [0x80000000] }))

/-- The fetch meets no fault: its error is corrected. -/
theorem resettingFetch_ready : resettingFetch.ready 4 (fetchCheck 4 resettingFetch).2 :=
  ⟨rfl, rfl, Prod.ext (by decide +kernel) rfl⟩

/-- The system reset of that reaction stops the context (R45). -/
theorem resettingFetch_stopped : ((fetchCheck 4 resettingFetch).2.hart 4).st = .stopped := by decide +kernel

/-- Refutes O9: a fetch whose corrected error resets the chip leaves its context STOPPED, and CTXSTART of the context itself,
which the statement has leave it so, sets it RUNNING. -/
theorem not_contextInstructions : ¬ Obligations.ContextInstructions := by
  unfold Obligations.ContextInstructions
  intro hall
  obtain ⟨hown, -⟩ := hall 4 4 ⟨0, 0, 0⟩ _ _ resettingFetch_ready (by decide +kernel) (by decide +kernel)
  obtain ⟨-, hstart⟩ := hown rfl
  obtain ⟨t, ht, hrun⟩ : ∃ t, exec (.ctxstart 4 ⟨0, 0, 0⟩) resettingFetch = .next t ∧ (t.hart 4).st = .running :=
    ⟨_, rfl, by decide +kernel⟩
  obtain rfl := Host.Outcome.next.inj (ht.symm.trans hstart)
  rw [hart_setHart_same, resettingFetch_stopped] at hrun
  exact absurd hrun (by decide)

end Sys2Proof.Machine
end

section
/-! SUPPORT. Fences and the maintenance of caches and translations (R52, R82, R90). -/

namespace Sys2Proof.Machine

/-- Bytes dropped from a range are gone from it. -/
theorem anyBytes_dropBytes (m : SMap Byte) (a n : Nat) : anyBytes (dropBytes m a n) a n = false := by
  rw [anyBytes, dropBytes, List.any_eq_false]
  intro e he
  simpa only [Bool.not_eq_true, Bool.not_eq_true'] using (List.mem_filter.1 he).2

/-- After DCLEAN no old byte of the line stands, and memory reads as before (R90). -/
theorem dcleanLine_spec (a : Nat) (s : State) (h : Hart) : (dcleanLine a s).anyStale a 64 = false ∧ (dcleanLine a s).mem = s.mem ∧
    (dcleanLine a s).hart h = s.hart h := by
  unfold dcleanLine
  by_cases hst : s.anyStale a 64 = true
  · rw [if_pos hst]
    exact ⟨anyBytes_dropBytes _ _ _, rfl, rfl⟩
  · rw [if_neg hst]
    exact ⟨by simpa using hst, rfl, rfl⟩

/-- After DINV no old byte of the line stands; the registers are as before (R90). -/
theorem dinvLine_spec (a : Nat) (s : State) (h : Hart) : (dinvLine a s).anyStale a 64 = false ∧ (dinvLine a s).regs = s.regs ∧
    (dinvLine a s).hart h = s.hart h := by
  unfold dinvLine
  by_cases hst : s.anyStale a 64 = true
  · rw [if_pos hst]
    refine ⟨anyBytes_dropBytes _ _ _, ?_, ?_⟩ <;> by_cases hf : s.freeB = true
    · rw [if_pos hf]; rfl
    · rw [if_neg hf]; rfl
    · rw [if_pos hf]; rfl
    · rw [if_neg hf]; rfl
  · rw [if_neg hst]
    exact ⟨anyBytes_dropBytes _ _ _, rfl, rfl⟩

/-- What TLBINV selects (Table: TLBINV operands). -/
theorem tlbSel_iff (a b : Word) (e : TlbEntry) : tlbSel a b e = true ↔
    (a.getLsbD 16 = true ∨ e.global = true ∨ e.asid = a.toNat % 65536) ∧
    (b.getLsbD 0 = true ∨ (e.va ≤ b.toNat % 2 ^ 48 / 4096 * 4096 ∧ b.toNat % 2 ^ 48 / 4096 * 4096 < e.va + e.size)) := by
  have ha : bits a.toNat 15 0 = a.toNat % 65536 := bits_low _ 15
  have hb : bits b.toNat 47 12 = b.toNat % 2 ^ 48 / 4096 := by rw [bits_eq]; omega
  simp only [tlbSel, ha, hb, Bool.and_eq_true, Bool.or_eq_true, beq_iff_eq, decide_eq_true_eq, or_assoc]

section
variable {h : Hart} {s u : State} (hr : s.ready h u) (f : XForm)
include hr

/-- A system instruction that only goes on. -/
theorem issue_advance {fn level : Nat} (hfn : fn < 2048) (hl : level ≤ (u.hart h).pl) {body : State → Option Trap × State}
    (hb : body u = (none, advance h u)) :
    issue h (wordX fn f) legal level body s = setHart h { u.hart h with pc := (u.hart h).pc + 4 } u :=
  issue_next hr (rookIll_wordX h f hfn) rfl hl hb

/-- DCLEAN and DINV act on the line of their translated address. -/
theorem lineOp_main {fn level : Nat} (hfn : fn < 2048) (hl : level ≤ (u.hart h).pl) (act : Nat → State → State)
    (hmain : isRook h = false) {pa : Nat} {c : Bool} {v : State} (hx : dataXlate h .read (u.g h f.a).toNat u = (.ok (pa, c), v)) :
    lineOp fn level act h f s = advance h (act (lineOf pa) v) := by
  refine issue_next hr (rookIll_wordX h f hfn) rfl hl ?_
  simp only [hmain, Bool.false_eq_true, if_false, hx]

end

/-- Settles O10: instruction by instruction. -/
theorem fencesAndInvalidations : Obligations.FencesAndInvalidations := by
  unfold Obligations.FencesAndInvalidations
  intro h f s u hr k a b
  refine ⟨congrArg _ (issue_advance hr f (by decide) (Nat.zero_le _) rfl),
    congrArg _ (issue_advance hr f (by decide) (Nat.zero_le _) rfl), fun hl => congrArg _ (issue_advance hr f (by decide) hl rfl),
    fun hrook => ⟨congrArg _ (issue_advance hr f (by decide) (Nat.zero_le _) (if_pos hrook)), fun hl =>
      ⟨congrArg _ (issue_advance hr f (by decide) hl (if_pos hrook)), congrArg _ (issue_advance hr f (by decide) hl ?_)⟩⟩,
    fun v pa c hmain hx hk => ⟨?_, fun hl => ?_⟩, fun hmain hl => ?_⟩
  · simp only [plain, hrook, if_true]
  · obtain ⟨hst, hmem, hh⟩ := dcleanLine_spec (pa / 64 * 64) v h
    refine ⟨_, congrArg Host.Outcome.next (lineOp_main hr f (by decide) (Nat.zero_le _) dcleanLine hmain hx), ?_, hmem, hst⟩
    rw [advance_eq, hart_setHart_same, lineOf, hh, hk]
  · obtain ⟨hst, hregs, hh⟩ := dinvLine_spec (pa / 64 * 64) v h
    refine ⟨_, congrArg Host.Outcome.next (lineOp_main hr f (by decide) hl dinvLine hmain hx), ?_, hregs, hst⟩
    rw [advance_eq, hart_setHart_same, lineOf, hh, hk]
  · refine ⟨_, congrArg Host.Outcome.next (issue_plain hr (rookIll_wordX h f (by decide)) rfl hl), ?_, ?_, fun e => ?_⟩
    · simp only [hmain, Bool.false_eq_true, if_false, advance_eq, hart_setHart_same]
      rw [show (tlbInv (u.g h f.a) (u.g h f.b) u).hart h = u.hart h by simp [State.hart, tlbInv, hmain]]
    · simp only [hmain, Bool.false_eq_true, if_false]
      rfl
    · rw [← tlbSel_iff a b e]
      simp only [hmain, Bool.false_eq_true, if_false, advance_eq]
      simp [setHart, hmain, tlbInv, a, b]

end Sys2Proof.Machine
end

section
/-! SUPPORT. Bytes and numbers (R9). -/

namespace Sys2Proof.Machine

@[simp] theorem leBytes_length (n x : Nat) : (leBytes n x).length = n := by
  induction n generalizing x with
  | zero => rfl
  | succ n ih => rw [leBytes, List.length_cons, ih]

theorem leBytes_getD {n j : Nat} (x : Nat) (hj : j < n) : (leBytes n x).getD j 0 = BitVec.ofNat 8 (x / 256 ^ j) := by
  induction n generalizing x j with
  | zero => exact absurd hj (Nat.not_lt_zero _)
  | succ n ih =>
    cases j with
    | zero => rw [Nat.pow_zero, Nat.div_one]; rfl
    | succ j => rw [leBytes, List.getD_cons_succ, ih _ (Nat.lt_of_succ_lt_succ hj), Nat.div_div_eq_div_mul, Nat.pow_succ']

theorem leNat_lt (l : List Byte) : leNat l < 256 ^ l.length := by
  induction l with
  | nil => decide
  | cons b l ih =>
    have hb := b.isLt
    rw [leNat, List.length_cons, Nat.pow_succ]
    omega

theorem leNat_leBytes (n x : Nat) : leNat (leBytes n x) = x % 256 ^ n := by
  induction n generalizing x with
  | zero => rw [Nat.pow_zero, Nat.mod_one]; rfl
  | succ n ih =>
    rw [leBytes, leNat, ih, BitVec.toNat_ofNat, pow_succ' 256 n]
    exact Nat.mod_mul.symm

theorem pow_256 (n : Nat) : 256 ^ n = 2 ^ (8 * n) := by rw [Nat.pow_mul]

@[simp] theorem bytes_length (s : State) (a n : Nat) : (s.bytes a n).length = n := by simp [State.bytes]

@[simp] theorem coreBytes_length (s : State) (old : Bool) (a : Nat) (l : List Byte) : (s.coreBytes old a l).length = l.length := by
  simp [State.coreBytes]

@[simp] theorem rookBytes_length (s : State) (a n : Nat) : (s.rookBytes a n).length = n := by simp [State.rookBytes]

/-- A clean line that holds no old byte answers what memory holds. -/
theorem coreBytes_new (s : State) (a : Nat) (l : List Byte) : s.coreBytes false a l = l := by
  refine List.ext_getElem (coreBytes_length ..) fun i hi hl => ?_
  simp [State.coreBytes, hl]

end Sys2Proof.Machine
end

section
/-! SUPPORT. Accesses to plain memory (R49, R90): DRAM or general scratch with no error mark. -/

namespace Sys2Proof.Machine

/-- The physical address map depends on the registers alone. -/
theorem region_congr {s t : State} (h : t.regs = s.regs) (a : Nat) : t.region a = s.region a := by
  simp only [State.region, State.usable, State.fld, h]
  rfl

theorem plainMem_mono {s t : State} {pa n : Nat} (h : s.plainMem pa n) (hregs : t.regs = s.regs) (hue : ∀ x ∈ t.ue, x ∈ s.ue)
    (hce : ∀ x ∈ t.ce, x ∈ s.ce) : t.plainMem pa n := by
  obtain ⟨hreg, hend, hmark⟩ := h
  simp only [State.plainMem, region_congr hregs]
  exact ⟨hreg, hend, fun x hx => ⟨fun hu => (hmark x hx).1 (hue x hu), fun hc => (hmark x hx).2 (hce x hc)⟩⟩

theorem plainMem_not_regs {s : State} {pa n : Nat} (h : s.plainMem pa n) : s.region pa ≠ .regs := by
  obtain hr | hr := h.1 <;> rw [hr] <;> decide

theorem anyBytes_false_iff (m : SMap Byte) (a n : Nat) : anyBytes m a n = false ↔ ∀ e ∈ m, ¬ (a ≤ e.1 ∧ e.1 < a + n) := by
  simp only [anyBytes, List.any_eq_false, Bool.and_eq_true, decide_eq_true_eq]

theorem fresh_mono {s t : State} {pa n : Nat} (h : s.fresh pa n) (hsub : ∀ e ∈ t.cached, e ∈ s.cached) : t.fresh pa n :=
  (anyBytes_false_iff ..).2 fun e he => (anyBytes_false_iff ..).1 h e (hsub e he)

/-- The lines of an access cover its bytes. -/
theorem lines_cover {pa n x : Nat} (hlo : pa ≤ x) (hhi : x < pa + n) : lineBase pa ≤ x ∧ x < lineBase pa + linesLen pa n := by
  simp only [linesLen, lineBase]
  omega

/-- No old byte stands under an access to fresh lines. -/
theorem anyBytes_fresh {s : State} {pa n : Nat} (h : s.fresh pa n) : anyBytes s.cached pa n = false :=
  (anyBytes_false_iff ..).2 fun e he hin => (anyBytes_false_iff ..).1 h e he (lines_cover hin.1 hin.2)

theorem eccRead_unmarked (w : Who) (typ : Nat) {a n : Nat} {s : State} (h : ∀ x ∈ wordsOf a n, x ∉ s.ue ∧ x ∉ s.ce) :
    eccRead w typ a n s = (none, s) := by
  have hue : (wordsOf a n).find? (fun x => s.ue.contains x) = none :=
    List.find?_eq_none.2 fun x hx => by simpa using (h x hx).1
  have hce : (wordsOf a n).filter (fun x => s.ce.contains x) = [] :=
    List.filter_eq_nil_iff.2 fun x hx => by simpa using (h x hx).2
  simp only [eccRead, hue, hce, List.foldl_nil]

theorem memRead_plain (w : Who) {a n : Nat} {s : State} (h : s.plainMem a n) : memRead w a n s = (.ok (s.bytes a n), s) := by
  obtain ⟨hreg, hend, hmark⟩ := h
  have hc : checkRead w w.rd a n s = (none, s) := by
    obtain hr | hr := hreg <;> simp only [checkRead, hr, if_neg hend, eccRead_unmarked w w.rd hmark]
  simp only [memRead, hc]

/-- A core's read of plain memory: from memory, or, under a line passed by a real-time write, from what the line may hold (R90). -/
theorem coreRead_plain (w : Who) (c : Bool) {a n : Nat} {s : State} (h : s.plainMem a n) : coreRead w c a n s =
    if c && anyBytes s.cached a n then (.ok (s.coreBytes s.freeB a (s.bytes a n)), drawn s) else (.ok (s.bytes a n), s) := by
  simp only [coreRead, memRead_plain w h]

theorem coreRead_fresh (w : Who) (c : Bool) {a n : Nat} {s : State} (h : s.plainMem a n) (hf : s.fresh a n) :
    coreRead w c a n s = (.ok (s.bytes a n), s) := by
  rw [coreRead_plain w c h, anyBytes_fresh hf, Bool.and_false, if_neg (by decide)]

theorem hartLoad_main {h : Hart} {va n pa : Nat} {c : Bool} {u v w : State} {l : List Byte} (hal : va % n = 0) (hm : isRook h = false)
    (hx : dataXlate h .read va u = (.ok (pa, c), v)) (hp : v.plainMem pa n) (hr : coreRead (hartWho h u) c pa n v = (.ok l, w)) :
    hartLoad h va n u = (.ok l, w) := by
  simp only [hartLoad, hal, ne_eq, not_true_eq_false, if_false, hm, Bool.false_eq_true, hx, if_neg (plainMem_not_regs hp), hr]

theorem hartLoad_rook {h : Hart} {va n : Nat} (u : State) (hal : va % n = 0) (hm : isRook h = true) :
    hartLoad h va n u = (.ok (u.rookBytes va n), u) := by
  simp only [hartLoad, hal, ne_eq, not_true_eq_false, if_false, hm, if_true]

/-! Writes. -/

/-- Storing entries one by one leaves the keys that are not theirs. -/
theorem get_foldStore_other {β : Type} (key : β → Nat) (val : β → Byte) {l : List β} {m : SMap Byte} {b : Nat}
    (hm : SMap.wf m 0 = true) (hb : ∀ e ∈ l, key e ≠ b) :
    SMap.get (l.foldl (fun m e => SMap.store m (key e) (val e) 0) m) b 0 = SMap.get m b 0 := by
  induction l generalizing m with
  | nil => rfl
  | cons e l ih =>
    rw [List.foldl_cons, ih (SMap.wf_store _ _ hm) fun x hx => hb x (List.mem_cons_of_mem _ hx), SMap.get_store _ _ _ hm,
      if_neg (hb e (List.mem_cons_self ..)).symm]

/-- Between s and t nothing but memory, its error marks and what caches hold of it changed, and no mark or old byte is new. -/
structure MemOnly (s t : State) : Prop where
  eq : t = { s with mem := t.mem, stale := t.stale, cached := t.cached, ue := t.ue, ce := t.ce, free := t.free }
  ue : ∀ x ∈ t.ue, x ∈ s.ue
  ce : ∀ x ∈ t.ce, x ∈ s.ce
  cached : ∀ e ∈ t.cached, e ∈ s.cached

theorem MemOnly.refl (s : State) : MemOnly s s := ⟨rfl, fun _ h => h, fun _ h => h, fun _ h => h⟩

theorem MemOnly.trans {s t r : State} (h1 : MemOnly s t) (h2 : MemOnly t r) : MemOnly s r :=
  ⟨by rw [h2.eq, h1.eq], fun x h => h1.ue x (h2.ue x h), fun x h => h1.ce x (h2.ce x h), fun x h => h1.cached x (h2.cached x h)⟩

theorem MemOnly.regs {s t : State} (h : MemOnly s t) : t.regs = s.regs := by rw [h.eq]
theorem MemOnly.hart {s t : State} (h : MemOnly s t) (j : Hart) : t.hart j = s.hart j := by rw [h.eq]; rfl
theorem MemOnly.plainMem {s t : State} {pa n : Nat} (h : MemOnly s t) (hp : s.plainMem pa n) : t.plainMem pa n :=
  plainMem_mono hp h.regs h.ue h.ce
theorem MemOnly.fresh {s t : State} {pa n : Nat} (h : MemOnly s t) (hf : s.fresh pa n) : t.fresh pa n := fresh_mono hf h.cached

theorem dropBytes_subset {m : SMap Byte} {a n : Nat} : ∀ e ∈ dropBytes m a n, e ∈ m := fun _ h => List.mem_of_mem_filter h

theorem settleLines_memOnly (a n : Nat) (s : State) : MemOnly s (settleLines a n s) := by
  simp only [settleLines]
  split
  · exact MemOnly.refl s
  · split
    · exact ⟨rfl, fun _ h => h, fun _ h => h, dropBytes_subset⟩
    · exact ⟨rfl, fun _ h => h, fun _ h => h, dropBytes_subset⟩

theorem settleLines_fresh {a n : Nat} {s : State} (h : s.fresh a n) : settleLines a n s = s := by
  have hf : anyBytes s.cached (lineBase a) (linesLen a n) = false := h
  simp only [settleLines, hf, Bool.not_false, if_true]

/-- What a held line settles to lies under the lines of the access. -/
theorem byte_settleLines {a n b : Nat} {s : State} (hwf : Memory.wf s.mem = true)
    (hb : b < lineBase a ∨ lineBase a + linesLen a n ≤ b) : (settleLines a n s).byte b = s.byte b := by
  simp only [settleLines]
  split
  · rfl
  · split
    · refine get_foldStore_other Prod.fst Prod.snd hwf fun e he => ?_
      have := (List.mem_filter.1 he).2
      simp only [Bool.and_eq_true, decide_eq_true_eq] at this
      omega
    · rfl

/-- A write of plain memory stores its bytes. -/
theorem memWrite_plain (w : Who) {a : Nat} {l : List Byte} {s : State} (hl : l ≠ []) (h : s.plainMem a l.length) :
    ∃ ue ce, memWrite w a l s = (none, putBytes a l { s with ue := ue, ce := ce }) ∧ (∀ x ∈ ue, x ∈ s.ue) ∧ ∀ x ∈ ce, x ∈ s.ce := by
  obtain ⟨hreg, hend, hmark⟩ := h
  have hc : checkWrite w a l.length s = (.go, s) := by
    obtain hr | hr := hreg <;> simp only [checkWrite, hr, if_neg hend]
  have hfind : ((wordsOf a l.length).filter (fun x => !((wholeWords a l.length).contains x))).find? (fun x => s.ue.contains x) = none :=
    List.find?_eq_none.2 fun x hx => by simpa using (hmark x (List.mem_of_mem_filter hx)).1
  refine ⟨_, _, ?_, fun x hx => List.mem_of_mem_filter (p := fun x => !((wholeWords a l.length).contains x)) hx,
    fun x hx => List.mem_of_mem_filter (p := fun x => !((wordsOf a l.length).contains x)) hx⟩
  cases l with
  | nil => exact absurd rfl hl
  | cons b l => simp only [memWrite, hc, eccStore, hfind]

/-- What a store of bytes leaves: its bytes at their place, and every byte outside its lines, or outside the bytes themselves
where no cache held one of its lines from before a real-time write. -/
structure StoredAt (pa : Nat) (l : List Byte) (s t : State) : Prop where
  only : MemOnly s t
  wf : Memory.wf t.mem = true
  at_ : ∀ b, pa ≤ b → b < pa + l.length → t.byte b = l.getD (b - pa) 0
  off : ∀ b, b < lineBase pa ∨ lineBase pa + linesLen pa l.length ≤ b → t.byte b = s.byte b
  fresh : s.fresh pa l.length → ∀ b, ¬ (pa ≤ b ∧ b < pa + l.length) → t.byte b = s.byte b

theorem storedAt_putBytes {pa : Nat} {l : List Byte} {s r t : State} (hs : MemOnly s r) (hr : MemOnly r t)
    (hwf : Memory.wf r.mem = true) (hmem : t.mem = (putBytes pa l r).mem)
    (hoff : ∀ b, b < lineBase pa ∨ lineBase pa + linesLen pa l.length ≤ b → r.byte b = s.byte b)
    (hf : s.fresh pa l.length → r.mem = s.mem) : StoredAt pa l s t := by
  have hb : ∀ b, t.byte b = if pa ≤ b ∧ b < pa + l.length then l.getD (b - pa) 0 else r.byte b := fun b => by
    rw [← byte_putBytes pa l r b hwf, State.byte, hmem]
    rfl
  refine ⟨hs.trans hr, by rw [hmem]; exact Memory.wf_putBytes pa l hwf, fun b h1 h2 => by rw [hb, if_pos ⟨h1, h2⟩], fun b ho => ?_,
    fun hfr b hn => ?_⟩
  · rw [hb, if_neg, hoff b ho]
    rintro ⟨h1, h2⟩
    have := lines_cover h1 h2
    omega
  · rw [hb, if_neg hn, State.byte, hf hfr]
    rfl

/-- A core's store to plain memory (R49, R90). -/
theorem physStore_plain (w : Who) (c : Bool) {pa : Nat} {l : List Byte} {s : State} (hl : l ≠ []) (hwf : Memory.wf s.mem = true)
    (h : s.plainMem pa l.length) : ∃ t, physStore w c pa l s = (none, t) ∧ StoredAt pa l s t := by
  obtain hr | hr := h.1
  · by_cases hc : c = true
    · have hs := settleLines_memOnly pa l.length s
      obtain ⟨ue, ce, hw, hue, hce⟩ := memWrite_plain w hl (hs.plainMem h)
      simp only [physStore, hr, hc, if_true, hw]
      refine ⟨_, rfl, storedAt_putBytes hs ⟨rfl, hue, hce, fun _ h => h⟩ (Memory.wf_settleLines pa l.length hwf) rfl
        (fun b hb => byte_settleLines hwf hb) fun hf => by rw [settleLines_fresh hf]⟩
    · obtain ⟨ue, ce, hw, hue, hce⟩ := memWrite_plain w hl h
      simp only [physStore, hr, hc, Bool.false_eq_true, if_false, hw]
      exact ⟨_, rfl, storedAt_putBytes (MemOnly.refl s) ⟨rfl, hue, hce, dropBytes_subset⟩ hwf rfl (fun _ _ => rfl) fun _ => rfl⟩
  · obtain ⟨ue, ce, hw, hue, hce⟩ := memWrite_plain w hl h
    simp only [physStore, hr, hw]
    exact ⟨_, rfl, storedAt_putBytes (MemOnly.refl s) ⟨rfl, hue, hce, fun _ h => h⟩ hwf rfl (fun _ _ => rfl) fun _ => rfl⟩

theorem hartStore_main {h : Hart} {va pa : Nat} {c : Bool} {l : List Byte} {u v : State} (hal : va % l.length = 0)
    (hm : isRook h = false) (hx : dataXlate h .write va u = (.ok (pa, c), v)) (hl : l ≠ []) (hwf : Memory.wf v.mem = true)
    (hp : v.plainMem pa l.length) : ∃ t, hartStore h va l u = (none, t) ∧ StoredAt pa l v t := by
  obtain ⟨t, ht, hs⟩ := physStore_plain (hartWho h u) c hl hwf hp
  refine ⟨t, ?_, hs⟩
  simp only [hartStore, hal, ne_eq, not_true_eq_false, if_false, hm, Bool.false_eq_true, hx, ht]

theorem hartStore_rook {h : Hart} {va : Nat} {l : List Byte} (u : State) (hal : va % l.length = 0) (hm : isRook h = true) :
    hartStore h va l u = (none, rookStore va l u) := by
  simp only [hartStore, hal, ne_eq, not_true_eq_false, if_false, hm, if_true]

/-- Rook's memory after a store (assumption 70). -/
theorem get_rookStore (a : Nat) (l : List Byte) {s : State} (b : Nat) (h : SMap.wf s.rook.sram (0 : Byte) = true) :
    SMap.get (rookStore a l s).rook.sram b 0 = if a ≤ b ∧ b < a + l.length then l.getD (b - a) 0 else SMap.get s.rook.sram b 0 := by
  have key : ∀ n, SMap.wf ((List.range n).foldl (fun m i => SMap.store m (a + i) (l.getD i 0) 0) s.rook.sram) (0 : Byte) = true ∧
      SMap.get ((List.range n).foldl (fun m i => SMap.store m (a + i) (l.getD i 0) 0) s.rook.sram) b 0 =
        if a ≤ b ∧ b < a + n then l.getD (b - a) 0 else SMap.get s.rook.sram b 0 := by
    intro n
    induction n with
    | zero => exact ⟨h, by rw [if_neg (by omega)]; rfl⟩
    | succ n ih =>
      obtain ⟨hwf, hget⟩ := ih
      rw [List.range_succ, List.foldl_append, List.foldl_cons, List.foldl_nil]
      refine ⟨SMap.wf_store _ _ hwf, ?_⟩
      rw [SMap.get_store _ _ _ hwf, hget]
      by_cases hb : b = a + n
      · rw [if_pos hb, if_pos (by omega), hb, Nat.add_sub_cancel_left]
      · rw [if_neg hb]
        exact if_congr (by omega) rfl rfl
  exact (key l.length).2

end Sys2Proof.Machine
end

section
/-! SUPPORT. Scalar loads and stores (R49). -/

namespace Sys2Proof.Machine

/-- The value a load gives: sign- or zero-extended. -/
def loadVal : Bool → List Byte → Word
  | true => sxBytes
  | false => zxBytes

@[simp] theorem sram_setHart (h : Hart) (k : HartState) (s : State) : (setHart h k s).rook.sram = s.rook.sram := by
  simp only [setHart]
  split <;> rfl

/-- A store of the low n bytes of x to Rook's memory. -/
theorem get_rookStore_leBytes (a n x : Nat) {s : State} (b : Nat) (h : SMap.wf s.rook.sram (0 : Byte) = true) :
    SMap.get (rookStore a (leBytes n x) s).rook.sram b 0 =
      if a ≤ b ∧ b < a + n then BitVec.ofNat 8 (x / 256 ^ (b - a)) else SMap.get s.rook.sram b 0 := by
  rw [get_rookStore _ _ b h, leBytes_length]
  by_cases hb : a ≤ b ∧ b < a + n
  · rw [if_pos hb, if_pos hb, leBytes_getD _ (by omega)]
  · rw [if_neg hb, if_neg hb]

/-- What a context's store of the low n bytes of x to fresh plain memory leaves, the context standing as k. -/
theorem StoredAt.stored {h : Hart} {pa n x : Nat} {v t : State} (hs : StoredAt pa (leBytes n x) v t) (hf : v.fresh pa n)
    (k : HartState) : stored h k pa n x v (setHart h k t) := by
  have hlen := leBytes_length n x
  have ho := hs.only
  refine ⟨fun b => ?_, hart_setHart_same .., fun j hj => by rw [hart_setHart_other _ _ hj, ho.hart], ?_⟩
  · by_cases hb : pa ≤ b ∧ b < pa + n
    · rw [if_pos hb, ← leBytes_getD x (show b - pa < n by omega)]
      exact hs.at_ b hb.1 (by rw [hlen]; exact hb.2)
    · rw [if_neg hb]
      exact hs.fresh (by rw [hlen]; exact hf) b (by rw [hlen]; exact hb)
  · simp only [setHart_regs, setHart_staged, setHart_inForce, setHart_flt, setHart_qm]
    rw [ho.eq]
    exact ⟨rfl, rfl, rfl, rfl, rfl⟩

section
variable {h : Hart} {s u : State} (hr : s.ready h u) (f : IForm) {op n : Nat} (hop : op < 0x3B)
include hr hop

theorem loadI_wrote {signed : Bool} {w : State} {l : List Byte} (hl : hartLoad h (u.ea h f) n u = (.ok l, w)) (hlen : l.length = n) :
    wroteG h f.d (loadVal signed l) w (loadI op n signed h f s) := by
  have hrun : loadI op n signed h f s = advance h (setG h f.d (loadVal signed l) w) := by
    refine issue_next hr (rookIll_of_opcode h (opcode_wordI f (by omega)) hop) rfl (Nat.zero_le _) ?_
    subst hlen
    simp only [hl]
    cases signed <;> rfl
  rw [hrun]
  exact wroteG_adv h f.d _ w

theorem storeI_next {t : State} (hst : hartStore h (u.ea h f) (leBytes n (u.g h f.d).toNat) u = (none, t)) :
    storeI op n h f s = advance h t := by
  refine issue_next hr (rookIll_of_opcode h (opcode_wordI f (by omega)) hop) rfl (Nat.zero_le _) ?_
  simp only [hst]

section
variable (hal : u.ea h f % n = 0)
include hal

theorem loadI_rook (signed : Bool) (hm : isRook h = true) :
    wroteG h f.d (loadVal signed (u.rookBytes (u.ea h f) n)) u (loadI op n signed h f s) :=
  loadI_wrote hr f hop (hartLoad_rook u hal hm) (rookBytes_length ..)

theorem storeI_rook (hm : isRook h = true) :
    storeI op n h f s = advance h (rookStore (u.ea h f) (leBytes n (u.g h f.d).toNat) u) :=
  storeI_next hr f hop (hartStore_rook u (by rwa [leBytes_length]) hm)

section
variable {v : State} {pa : Nat} {c : Bool} (hm : isRook h = false)
include hm

theorem loadI_fresh (signed : Bool) (hx : dataXlate h .read (u.ea h f) u = (.ok (pa, c), v)) (hp : v.plainMem pa n)
    (hf : v.fresh pa n) : wroteG h f.d (loadVal signed (v.bytes pa n)) v (loadI op n signed h f s) :=
  loadI_wrote hr f hop (hartLoad_main hal hm hx hp (coreRead_fresh _ c hp hf)) (bytes_length ..)

/-- Under a line that a real-time write has passed, a free choice says which bytes a cached load finds (R90). -/
theorem loadI_old (signed : Bool) (hx : dataXlate h .read (u.ea h f) u = (.ok (pa, c), v)) (hp : v.plainMem pa n) :
    ∃ w l, wroteG h f.d (loadVal signed l) w (loadI op n signed h f s) ∧ (w = v ∨ w = drawn v) ∧
      (l = v.bytes pa n ∨ l = v.coreBytes true pa (v.bytes pa n)) := by
  have hread := coreRead_plain (hartWho h u) c hp
  by_cases hc : (c && anyBytes v.cached pa n) = true
  · rw [if_pos hc] at hread
    refine ⟨drawn v, _, loadI_wrote hr f hop (hartLoad_main hal hm hx hp hread) (by simp), Or.inr rfl, ?_⟩
    cases v.freeB
    · exact Or.inl (coreBytes_new ..)
    · exact Or.inr rfl
  · rw [if_neg hc] at hread
    exact ⟨v, _, loadI_wrote hr f hop (hartLoad_main hal hm hx hp hread) (bytes_length ..), Or.inl rfl, Or.inl rfl⟩

theorem storeI_main (hn : 0 < n) (hwf : Memory.wf v.mem = true) (hk : v.hart h = u.hart h)
    (hx : dataXlate h .write (u.ea h f) u = (.ok (pa, c), v)) (hp : v.plainMem pa n) :
    ∃ t, storeI op n h f s = setHart h { u.hart h with pc := (u.hart h).pc + 4 } t ∧ StoredAt pa (leBytes n (u.g h f.d).toNat) v t := by
  have hlen := leBytes_length n (u.g h f.d).toNat
  have hne : leBytes n (u.g h f.d).toNat ≠ [] := List.ne_nil_of_length_pos (by rw [hlen]; exact hn)
  obtain ⟨t, ht, hs⟩ := hartStore_main (by rwa [hlen]) hm hx hne hwf (by rwa [hlen])
  refine ⟨t, ?_, hs⟩
  rw [storeI_next hr f hop ht, advance_eq, hs.only.hart, hk]

end
end
end

/-- Settles O4: a load or store of n bytes at a time, on a main core and on Rook. -/
theorem loadsAndStores : Obligations.LoadsAndStores := by
  unfold Obligations.LoadsAndStores
  intro h f s u v pa c hr a new x load store
  have hload : ∀ (op n : Nat) (signed : Bool) (i : Instr), op < 0x3B → exec i s = .next (loadI op n signed h f s) →
      load i n (loadVal signed) := by
    intro op n signed i hop hi hal
    refine ⟨fun hm hx hp => ⟨fun hf => ⟨_, hi, loadI_fresh hr f hop hal hm signed hx hp hf⟩, ?_⟩,
      fun hm => ⟨_, hi, loadI_rook hr f hop hal signed hm⟩⟩
    obtain ⟨w, l, hw, hwv, hl⟩ := loadI_old hr f hop hal hm signed hx hp
    exact ⟨_, w, l, hi, hw, hwv, hl⟩
  have hstore : ∀ (op n : Nat) (i : Instr), op < 0x3B → 0 < n → exec i s = .next (storeI op n h f s) → store i n := by
    intro op n i hop hn hi hal
    have hlen := leBytes_length n x
    refine ⟨fun hm hwf hk hx hp => ?_, fun hm hwf => ⟨_, hi, ?_⟩⟩
    · obtain ⟨t, ht, hs⟩ := storeI_main hr f hop hal hm hn hwf hk hx hp
      rw [hi, ht]
      refine ⟨fun hf => ⟨_, rfl, hs.stored hf new⟩, _, rfl, hart_setHart_same .., hs.only.regs, by rw [setHart_flt, hs.only.eq],
        fun b h1 h2 => ?_, fun b hb => hs.off b (by rwa [hlen])⟩
      exact (hs.at_ b h1 (by rwa [hlen])).trans (leBytes_getD x (by omega))
    · rw [storeI_rook hr f hop hal hm]
      refine ⟨hart_setHart_same .., rfl, rfl, fun b => ?_⟩
      rw [advance_eq, sram_setHart]
      exact get_rookStore_leBytes a n x b hwf
  exact ⟨hload 0x10 1 true _ (by decide) rfl, hload 0x11 1 false _ (by decide) rfl, hload 0x12 2 true _ (by decide) rfl,
    hload 0x13 2 false _ (by decide) rfl, hload 0x14 4 true _ (by decide) rfl, hload 0x15 4 false _ (by decide) rfl,
    hload 0x16 8 false _ (by decide) rfl, hstore 0x18 1 _ (by decide) (by decide) rfl, hstore 0x19 2 _ (by decide) (by decide) rfl,
    hstore 0x1A 4 _ (by decide) (by decide) rfl, hstore 0x1B 8 _ (by decide) (by decide) rfl⟩

end Sys2Proof.Machine
end

section
/-! SUPPORT. The atomic functions as numbers (Table: Atomic functions, R51). -/

namespace Sys2Proof.Machine

theorem toInt_eq_toInt_ofNat (w x : Nat) : toInt w x = (BitVec.ofNat w x).toInt := by
  rw [toInt, BitVec.toInt, BitVec.toNat_ofNat]
  cases w with
  | zero => simp [Nat.mod_one]
  | succ w =>
    rw [Nat.add_sub_cancel, Nat.pow_succ]
    exact if_congr (by omega) rfl rfl

/-- Only the low n bytes of a number are stored. -/
theorem leBytes_congr {n x y : Nat} (h : x % 256 ^ n = y % 256 ^ n) : leBytes n x = leBytes n y := by
  induction n generalizing x y with
  | zero => rfl
  | succ n ih =>
    rw [pow_succ' 256 n, Nat.mod_mul, Nat.mod_mul] at h
    have hlow : BitVec.ofNat 8 x = BitVec.ofNat 8 y := BitVec.eq_of_toNat_eq (by
      rw [BitVec.toNat_ofNat, BitVec.toNat_ofNat]
      omega)
    have hhigh : x / 256 % 256 ^ n = y / 256 % 256 ^ n := by omega
    rw [leBytes, leBytes, hlow, ih hhigh]

/-- What an atomic of w bits stores, up to multiples of 2 ^ w, as a number. -/
def atomVal (o : AtomOp) (w old b cmp : Nat) : Nat :=
  match o with
  | .swap => b | .add => old + b | .and => old &&& b | .or => old ||| b | .xor => old ^^^ b
  | .min => if toInt w old ≤ toInt w b then old else b
  | .max => if toInt w b ≤ toInt w old then old else b
  | .minu => min old (b % 2 ^ w) | .maxu => max old (b % 2 ^ w)
  | .cas => if old = cmp % 2 ^ w then b else old

theorem result_toNat (o : AtomOp) {w old : Nat} (b cmp : Nat) (hold : old < 2 ^ w) :
    (o.result (BitVec.ofNat w old) (BitVec.ofNat w b) (BitVec.ofNat w cmp)).toNat = atomVal o w old b cmp % 2 ^ w := by
  have hmod : old % 2 ^ w = old := Nat.mod_eq_of_lt hold
  have hb : b % 2 ^ w < 2 ^ w := Nat.mod_lt _ (Nat.two_pow_pos w)
  cases o with
  | swap => exact BitVec.toNat_ofNat ..
  | add => simp [AtomOp.result, atomVal]
  | and => simp only [AtomOp.result, atomVal, BitVec.toNat_and, BitVec.toNat_ofNat, Nat.and_mod_two_pow]
  | or => simp only [AtomOp.result, atomVal, BitVec.toNat_or, BitVec.toNat_ofNat, Nat.or_mod_two_pow]
  | xor => simp only [AtomOp.result, atomVal, BitVec.toNat_xor, BitVec.toNat_ofNat, Nat.xor_mod_two_pow]
  | min =>
    simp only [AtomOp.result, atomVal, BitVec.slt_iff_toInt_lt, ← Int.not_le, ite_not, toInt_eq_toInt_ofNat]
    split <;> exact BitVec.toNat_ofNat ..
  | max =>
    simp only [AtomOp.result, atomVal, BitVec.slt_iff_toInt_lt, ← Int.not_le, ite_not, toInt_eq_toInt_ofNat]
    split <;> exact BitVec.toNat_ofNat ..
  | minu =>
    simp only [AtomOp.result, atomVal, BitVec.ult_iff_toNat_lt, BitVec.toNat_ofNat, hmod]
    rw [Nat.mod_eq_of_lt (Nat.lt_of_le_of_lt (Nat.min_le_left ..) hold)]
    split <;> rw [BitVec.toNat_ofNat] <;> omega
  | maxu =>
    simp only [AtomOp.result, atomVal, BitVec.ult_iff_toNat_lt, BitVec.toNat_ofNat, hmod]
    rw [Nat.mod_eq_of_lt (Nat.max_lt.2 ⟨hold, hb⟩)]
    split <;> rw [BitVec.toNat_ofNat] <;> omega
  | cas =>
    have heq : (BitVec.ofNat w old = BitVec.ofNat w cmp) ↔ old = cmp % 2 ^ w := by
      rw [BitVec.toNat_eq, BitVec.toNat_ofNat, BitVec.toNat_ofNat, hmod]
    simp only [AtomOp.result, atomVal, heq]
    split <;> exact BitVec.toNat_ofNat ..

/-- The bytes an atomic instruction works on. -/
def atomBytes (f : AForm) : Nat := if f.wide then 8 else 4

theorem atomNew_eq (o : AtomOp) (h : Hart) (f : AForm) {old : Nat} (s : State) (hold : old < 2 ^ (8 * (atomBytes f))) :
    atomNew o h f old s = atomVal o (8 * (atomBytes f)) old (s.g h f.b).toNat (s.g h f.d).toNat % 2 ^ (8 * (atomBytes f)) := by
  unfold atomBytes at hold ⊢
  cases hw : f.wide with
  | true =>
    rw [hw] at hold
    have hres := result_toNat o (s.g h f.b).toNat (s.g h f.d).toNat hold
    simp only [BitVec.ofNat_toNat] at hres
    simp only [atomNew, hw, if_true]
    exact hres
  | false =>
    rw [hw] at hold
    have hres := result_toNat o (s.g h f.b).toNat (s.g h f.d).toNat hold
    simp only [BitVec.ofNat_toNat] at hres
    simp only [atomNew, hw, Bool.false_eq_true, if_false]
    exact hres

/-- The bytes an atomic stores are those of its value. -/
theorem leBytes_atomNew (o : AtomOp) (h : Hart) (f : AForm) {l : List Byte} (s : State) (hl : l.length = (atomBytes f)) :
    leBytes (atomBytes f) (atomNew o h f (leNat l) s) =
      leBytes (atomBytes f) (atomVal o (8 * (atomBytes f)) (leNat l) (s.g h f.b).toNat (s.g h f.d).toNat) := by
  have hold := leNat_lt l
  rw [hl, pow_256] at hold
  rw [atomNew_eq o h f s hold]
  exact leBytes_congr (by rw [pow_256, Nat.mod_mod])

theorem rookBytes_setHart (h : Hart) (k : HartState) (s : State) (a n : Nat) : (setHart h k s).rookBytes a n = s.rookBytes a n := by
  simp only [State.rookBytes, sram_setHart]

theorem rookBytes_rookStore (a n x : Nat) {s : State} (h : SMap.wf s.rook.sram (0 : Byte) = true) :
    (rookStore a (leBytes n x) s).rookBytes a n = leBytes n x := by
  refine List.ext_getElem (by simp) fun i hi hl => ?_
  have hin : i < n := by simpa using hi
  rw [← List.getD_eq_getElem _ 0 hl, leBytes_getD x hin]
  simp only [State.rookBytes, List.getElem_map, List.getElem_range, get_rookStore_leBytes a n x _ h]
  rw [if_pos (by omega), Nat.add_sub_cancel_left]

theorem rookIll_wordA (o : AtomOp) (h : Hart) {f : AForm} (hz : f.z = 0) : rookIll h (wordA o f) = false := by
  have hfn : f.z.toNat * 128 + b2n f.rel * 64 + b2n f.acq * 32 + b2n f.wide * 16 + o.fn < 2048 := by
    have h1 := b2n_le_one f.rel; have h2 := b2n_le_one f.acq; have h3 := b2n_le_one f.wide
    have h4 : o.fn < 16 := by cases o <;> decide
    rw [hz, show (0 : BitVec 4).toNat = 0 from rfl]
    omega
  exact rookIll_of_opcode h (opcode_wordR _ _ _ (by decide) hfn) (by decide)

section
variable {h : Hart} {f : AForm} {s u : State} (hr : s.ready h u) (hz : f.z = 0) (o : AtomOp) (hal : (u.g h f.a).toNat % (atomBytes f) = 0)
include hr hz hal

/-- An atomic of Rook. -/
theorem atomic_rook (hm : isRook h = true) : atomic o h f s = atomRook o h f (u.g h f.a).toNat u := by
  have hal' : ¬ ((u.g h f.a).toNat % (if f.wide then 8 else 4) ≠ 0) := not_not.2 hal
  refine issue_next hr (rookIll_wordA o h hz) (zeroField_zero (by rw [hz]; rfl) _) (Nat.zero_le _) ?_
  simp only [if_neg hal', hm, if_true]

/-- An atomic on plain memory that may be read and written. -/
theorem atomic_main (hm : isRook h = false) {v w : State} {pa : Nat} {c : Bool}
    (hx : dataXlate h .read (u.g h f.a).toNat u = (.ok (pa, c), v)) (hy : dataXlate h .write (u.g h f.a).toNat v = (.ok (pa, c), w))
    (hf : w.fresh pa (atomBytes f)) (hp : w.plainMem pa (atomBytes f)) (hwf : Memory.wf w.mem = true) :
    ∃ t, StoredAt pa (leBytes (atomBytes f) (atomVal o (8 * (atomBytes f)) (leNat (w.bytes pa (atomBytes f))) (w.g h f.b).toNat (w.g h f.d).toNat)) w t ∧
      atomic o h f s = advance h (setG h f.d (BitVec.ofInt 64 (toInt (8 * (atomBytes f)) (leNat (w.bytes pa (atomBytes f))))) t) := by
  have hal' : ¬ ((u.g h f.a).toNat % (if f.wide then 8 else 4) ≠ 0) := not_not.2 hal
  have hlen : ∀ x, (leBytes (atomBytes f) x).length = (atomBytes f) := leBytes_length _
  have hne : ∀ x, leBytes (atomBytes f) x ≠ [] := fun x => List.ne_nil_of_length_pos (by rw [hlen, atomBytes]; split <;> decide)
  obtain ⟨t, ht, hs⟩ := physStore_plain (hartWho h w) c (l := leBytes (atomBytes f) (atomNew o h f (leNat (w.bytes pa (atomBytes f))) w))
    (hne _) hwf (by rwa [hlen])
  have hat : atomAt o h f (u.g h f.a).toNat pa c w =
      (none, advance h (setG h f.d (BitVec.ofInt 64 (toInt (8 * (atomBytes f)) (leNat (w.bytes pa (atomBytes f))))) t)) := by
    have hread := coreRead_fresh (hartWho h w) c hp hf
    unfold atomBytes at hread ht
    simp only [atomAt, hread, ht]
    rfl
  refine ⟨t, leBytes_atomNew o h f w (bytes_length ..) ▸ hs, ?_⟩
  refine issue_next hr (rookIll_wordA o h hz) (zeroField_zero (by rw [hz]; rfl) _) (Nat.zero_le _) ?_
  simp only [if_neg hal', hm, Bool.false_eq_true, if_false, hx, hy]
  obtain hreg | hreg := hp.1 <;> simp only [hreg, hat]

end

/-- Settles O6: every function's value as a number, on a main core and on Rook. -/
theorem atomicsReadModifyWrite : Obligations.AtomicsReadModifyWrite := by
  unfold Obligations.AtomicsReadModifyWrite
  constructor
  · intro h f s u hr hz hm hwf a n old b cmp done hal
    have run : ∀ (o : AtomOp) (i : Instr), exec i s = .next (atomic o h f s) → done i (atomVal o (8 * (atomBytes f)) old b cmp) := by
      intro o i hi
      rw [atomic_rook hr hz o hal hm] at hi
      have hst : leBytes n (atomNew o h f old u) = leBytes n (atomVal o (8 * n) old b cmp) := leBytes_atomNew o h f u (rookBytes_length ..)
      obtain ⟨⟨m, hw⟩, hg⟩ := wroteG_adv h f.d (BitVec.ofInt 64 (toInt (8 * n) old)) (rookStore a (leBytes n (atomNew o h f old u)) u)
      refine ⟨_, hi.trans (congrArg _ hw), by rw [hart_setHart_same]; rfl, rfl, rfl, ?_, hw ▸ hg⟩
      rw [rookBytes_setHart, hst, rookBytes_rookStore a n _ hwf, leNat_leBytes, pow_256]
      rfl
    exact ⟨run .swap _ rfl, run .add _ rfl, run .and _ rfl, run .or _ rfl, run .xor _ rfl, run .cas _ rfl⟩
  · intro h f s u v w pa c hr hz hm hf a n hal hx hy hp hk hwf old b cmp m sg done
    have run : ∀ (o : AtomOp) (i : Instr), exec i s = .next (atomic o h f s) → done i (atomVal o (8 * (atomBytes f)) old b cmp) := by
      intro o i hi
      obtain ⟨t, hs, ht⟩ := atomic_main hr hz o hal hm hx hy hf hp hwf
      obtain ⟨⟨g, hg⟩, hread⟩ := wroteG_adv h f.d (BitVec.ofInt 64 (toInt (8 * n) old)) t
      have hreg : ∀ k, t.g h k = u.g h k := fun k => by rw [State.g, hs.only.hart, hk, State.g]
      have hcmp : ∀ k, w.g h k = u.g h k := fun k => by rw [State.g, hk, State.g]
      rw [hcmp, hcmp] at hs
      refine ⟨_, g, hi.trans (congrArg _ ht), ?_, fun k => (hread k).trans (by rw [hreg])⟩
      rw [hs.only.hart, hk] at hg
      exact hg ▸ hs.stored hf _
    exact ⟨run .swap _ rfl, run .add _ rfl, run .and _ rfl, run .or _ rfl, run .xor _ rfl, run .min _ rfl, run .max _ rfl,
      run .minu _ rfl, run .maxu _ rfl, run .cas _ rfl⟩

end Sys2Proof.Machine
end

section
/-! SUPPORT. Elements of a vector register (R55). -/

namespace Sys2Proof.Machine

theorem testBit_elem {w : Nat} (hw : 0 < w) (v : Vec) (i j : Nat) :
    (elem w v i).testBit j = (decide (j < w) && v.getLsbD (w * i + j)) := by
  rw [elem, testBit_bits, show w * i + w - 1 - w * i + 1 = w by omega]
  rfl

theorem elem_lt {w : Nat} (hw : 0 < w) (v : Vec) (i : Nat) : elem w v i < 2 ^ w := by
  have := bits_lt v.toNat (w * i + w - 1) (w * i)
  rwa [show w * i + w - 1 - w * i + 1 = w by omega] at this

theorem getLsbD_putElem {w i k : Nat} (v : Vec) (x : Nat) (hk : k < 512) : (putElem w v i x).getLsbD k =
    if w * i ≤ k ∧ k < w * i + w then x.testBit (k - w * i) else v.getLsbD k := by
  simp only [putElem, BitVec.getLsbD_or, BitVec.getLsbD_and, BitVec.getLsbD_not, BitVec.getLsbD_ofNat, Nat.testBit_shiftLeft,
    Nat.testBit_two_pow_sub_one, Nat.testBit_mod_two_pow, hk, decide_true, Bool.true_and]
  by_cases hlo : w * i ≤ k
  · by_cases hhi : k < w * i + w
    · simp [hlo, hhi, show k - w * i < w by omega]
    · simp [hlo, hhi, show ¬ (k - w * i < w) by omega]
  · simp [hlo]

/-- Element i of n lies within the register. -/
theorem elem_end_le {w i : Nat} (h : i < 512 / w) : w * i + w ≤ 512 :=
  Nat.le_trans (Nat.mul_le_mul_left w h) (Nat.mul_div_le 512 w)

theorem elem_putElem {w i j : Nat} (hw : 0 < w) (v : Vec) (x : Nat) (hi : i < 512 / w) :
    elem w (putElem w v i x) j = if j = i then x % 2 ^ w else elem w v j := by
  have hend := elem_end_le hi
  refine Nat.eq_of_testBit_eq fun k => ?_
  rw [testBit_elem hw, apply_ite (fun y => Nat.testBit y k), Nat.testBit_mod_two_pow, testBit_elem hw]
  by_cases hk : k < w
  swap
  · simp [hk]
  by_cases hlt : w * j + k < 512
  · rw [getLsbD_putElem v x hlt]
    by_cases hji : j = i
    · subst hji
      rw [if_pos (by omega), if_pos rfl, Nat.add_sub_cancel_left]
    · rw [if_neg hji, if_neg]
      rintro ⟨h1, h2⟩
      obtain hl | hl := Nat.lt_or_gt_of_ne hji
      · have := Nat.mul_le_mul_left w hl
        rw [Nat.mul_succ] at this
        omega
      · have := Nat.mul_le_mul_left w hl
        rw [Nat.mul_succ] at this
        omega
  · have hji : j ≠ i := by rintro rfl; omega
    rw [if_neg hji, BitVec.getLsbD_of_ge _ _ (by omega), BitVec.getLsbD_of_ge _ _ (by omega)]

theorem elem_mapElems {w : Nat} (hw : 0 < w) {l : List Nat} (g : Nat → Nat) (d : Vec) (hl : ∀ i ∈ l, i < 512 / w) (j : Nat) :
    elem w (mapElems w l g d) j = if j ∈ l then g j % 2 ^ w else elem w d j := by
  induction l generalizing d with
  | nil => rw [if_neg (List.not_mem_nil)]; rfl
  | cons i l ih =>
    have hstep : mapElems w (i :: l) g d = mapElems w l g (putElem w d i (g i)) := rfl
    rw [hstep, ih _ (fun k hk => hl k (List.mem_cons_of_mem _ hk)), elem_putElem hw d _ (hl i (List.mem_cons_self ..))]
    by_cases hj : j ∈ l
    · rw [if_pos hj, if_pos (List.mem_cons_of_mem _ hj)]
    · rw [if_neg hj]
      by_cases hji : j = i
      · subst hji
        rw [if_pos rfl, if_pos (List.mem_cons_self ..)]
      · rw [if_neg hji, if_neg (List.not_mem_cons_of_ne_of_not_mem hji hj)]

theorem mem_activeElems (s : State) (h : Hart) (pg : Fin 8) (n i : Nat) :
    i ∈ s.activeElems h pg n ↔ i < n ∧ s.actE h pg i := by
  simp only [State.activeElems, List.mem_filter, List.mem_range, Bool.and_eq_true, decide_eq_true_eq]

theorem activeElems_nodup (s : State) (h : Hart) (pg : Fin 8) (n : Nat) : (s.activeElems h pg n).Nodup :=
  List.nodup_range.filter _

/-- Completing moves the pc, clears .vstart and leaves the register files. -/
theorem vecDone_eq (h : Hart) (s : State) : vecDone h s = setHart h { s.hart h with vstart := 0, pc := (s.hart h).pc + 4 } s := by
  simp only [vecDone, setVstart, advance_eq, hart_setHart_same, setHart_setHart]
  rfl

@[simp] theorem v_vecDone (h : Hart) (s : State) (r : Fin 16) : (vecDone h s).v h r = s.v h r := by
  simp only [vecDone_eq, State.v, hart_setHart_same]

@[simp] theorem p_vecDone (h : Hart) (s : State) (r : Fin 8) : (vecDone h s).p h r = s.p h r := by
  simp only [vecDone_eq, State.p, hart_setHart_same]

@[simp] theorem g_vecDone (h : Hart) (s : State) (r : Fin 32) : (vecDone h s).g h r = s.g h r := by
  simp only [vecDone_eq, State.g, hart_setHart_same]

theorem eszBits_pos (e : Fin 4) : 0 < eszBits e := by unfold eszBits; positivity

/-- Writing element results over the active elements and completing. -/
theorem wroteV_mapElems {h : Hart} {d : Fin 16} {w : Nat} (hw : 0 < w) {act : Nat → Prop} {g r : Nat → Nat} {l : List Nat} {u : State}
    (hl : ∀ i, i ∈ l ↔ i < 512 / w ∧ act i) (hg : ∀ i, i < 512 / w → g i % 2 ^ w = r i % 2 ^ w) :
    wroteV h d w act r u (vecDone h (setV h d (mapElems w l g (u.v h d)) u)) := by
  refine ⟨⟨SMap.put (u.hart h).v d.val (mapElems w l g (u.v h d)), ?_⟩, fun q hq => ?_, fun i hi => ?_⟩
  · simp only [vecDone_eq, setV, hart_setHart_same, setHart_setHart]
  · rw [v_vecDone, v_setV, if_neg hq]
  · rw [v_vecDone, v_setV, if_pos rfl, elem_mapElems hw g _ (fun j hj => ((hl j).1 hj).1)]
    refine ⟨fun ha => by rw [if_pos ((hl i).2 ⟨hi, ha⟩), hg i hi], fun ha => if_neg fun hm => ha ((hl i).1 hm).2⟩

/-- A result in a general register. -/
theorem wroteVG_setG (h : Hart) (d : Fin 32) (v : Word) (u : State) : wroteVG h d v u (vecDone h (setG h d v u)) := by
  refine ⟨?_, fun r => by
    rw [g_vecDone, g_setG]
    exact if_congr (and_congr_right fun e => by rw [e]) rfl rfl⟩
  by_cases hd : d = 0
  · exact ⟨(u.hart h).g, by simp only [vecDone_eq, setG, if_pos hd]⟩
  · exact ⟨SMap.put (u.hart h).g d.val v, by simp only [vecDone_eq, setG, if_neg hd, hart_setHart_same, setHart_setHart]⟩

end Sys2Proof.Machine
end

section
/-! SUPPORT. Element results, compares and reductions as numbers (R55, R56, R58). -/

namespace Sys2Proof.Machine

theorem toInt_mod (w x : Nat) : toInt w (x % 2 ^ w) = toInt w x := by
  simp only [toInt, Nat.mod_mod]

theorem ofInt_toInt (w x : Nat) : ofInt w (toInt w x) = x % 2 ^ w := by
  have hx : x % 2 ^ w < 2 ^ w := Nat.mod_lt _ (Nat.two_pow_pos w)
  unfold ofInt toInt
  generalize 2 ^ w = m at hx ⊢
  generalize x % m = r at hx ⊢
  split
  · rw [Int.emod_eq_of_lt (by omega) (by omega), Int.toNat_natCast]
  · rw [Int.sub_emod_right, Int.emod_eq_of_lt (by omega) (by omega), Int.toNat_natCast]

/-- The lesser of two numbers as two's complement. -/
theorem signedMin_mod (w a b : Nat) : (if toInt w b < toInt w a then b else a) % 2 ^ w =
    ofInt w (min (toInt w a) (toInt w b)) % 2 ^ w := by
  split
  case isTrue h => rw [Int.min_eq_right h.le, ofInt_toInt, Nat.mod_mod]
  case isFalse h => rw [Int.min_eq_left (Int.not_lt.1 h), ofInt_toInt, Nat.mod_mod]

theorem signedMax_mod (w a b : Nat) : (if toInt w a < toInt w b then b else a) % 2 ^ w =
    ofInt w (max (toInt w a) (toInt w b)) % 2 ^ w := by
  split
  case isTrue h => rw [Int.max_eq_right h.le, ofInt_toInt, Nat.mod_mod]
  case isFalse h => rw [Int.max_eq_left (Int.not_lt.1 h), ofInt_toInt, Nat.mod_mod]

theorem clampI_eq (lo hi x : Int) (h : lo ≤ hi) : clampI lo hi x = max lo (min hi x) := by
  unfold clampI
  omega

/-- A coefficient of PMAT is a halfword of g[ga]. -/
theorem toInt_bits (c j : Nat) : toInt 16 (bits c (16 * j + 15) (16 * j)) = toInt 16 (c / 2 ^ (16 * j)) := by
  rw [bits_eq, show 16 * j + 15 - 16 * j + 1 = 16 by omega, toInt_mod]

theorem pmatVal_eq (c x0 x1 x2 : Nat) : pmatVal c x0 x1 x2 =
    (max 0 (min 0xFFFF ((toInt 16 (c / 2 ^ (16 * 0)) * x0 + toInt 16 (c / 2 ^ (16 * 1)) * x1 + toInt 16 (c / 2 ^ (16 * 2)) * x2 +
      0x800) / 2 ^ 12 + toInt 16 (c / 2 ^ (16 * 3))))).toNat := by
  simp only [pmatVal, clampI_eq 0 0xFFFF _ (by decide), toInt_bits]
  norm_num

/-- A vector register has at most 64 elements. -/
theorem eCount_le (e : Fin 4) : eCount e ≤ 64 := by
  refine Nat.div_le_of_le_mul ?_
  have := Nat.one_le_two_pow (n := e.val)
  unfold eszBits
  omega

theorem testBit_setBit (x i j : Nat) (v : Bool) : (setBit x i v).testBit j = if j = i then v else x.testBit j := by
  unfold setBit
  cases v with
  | true =>
    rw [if_pos rfl, Nat.testBit_or, Nat.one_shiftLeft, Nat.testBit_two_pow]
    by_cases hj : j = i
    · simp [hj]
    · simp [hj, Ne.symm hj]
  | false =>
    rw [if_neg (by decide), bit_eq_testBit]
    by_cases hb : x.testBit i = true
    · have hr := Nat.mod_lt x (Nat.two_pow_pos i)
      have hodd : x / 2 ^ i % 2 = 1 := by simpa [Nat.testBit_eq_decide_div_mod_eq] using hb
      have hx : x = 2 ^ i * (2 * (x / 2 ^ i / 2) + 1) + x % 2 ^ i := by
        rw [show 2 * (x / 2 ^ i / 2) + 1 = x / 2 ^ i by omega, Nat.div_add_mod]
      have hsub : x - 2 ^ i = 2 ^ i * (2 * (x / 2 ^ i / 2)) + x % 2 ^ i := by
        rw [Nat.mul_succ] at hx
        omega
      rw [if_pos hb, hsub, Nat.testBit_two_pow_mul_add _ hr]
      conv => rhs; rw [hx, Nat.testBit_two_pow_mul_add _ hr]
      by_cases hlt : j < i
      · rw [if_pos hlt, if_pos hlt, if_neg (by omega)]
      · rw [if_neg hlt, if_neg hlt]
        cases hk : j - i with
        | zero => rw [if_pos (by omega)]; simp
        | succ k => rw [if_neg (by omega), Nat.testBit_succ, Nat.testBit_succ]; congr 1; omega
    · rw [if_neg hb]
      by_cases hj : j = i
      · rw [if_pos hj, hj]; simpa using hb
      · rw [if_neg hj]

/-- Setting the bits of a list of places. -/
theorem testBit_foldSetBit {l : List Nat} (c : Nat → Bool) (x j : Nat) :
    (l.foldl (fun a i => setBit a i (c i)) x).testBit j = if j ∈ l then c j else x.testBit j := by
  induction l generalizing x with
  | nil => rw [if_neg (List.not_mem_nil)]; rfl
  | cons i l ih =>
    rw [List.foldl_cons, ih, testBit_setBit]
    by_cases hj : j ∈ l
    · rw [if_pos hj, if_pos (List.mem_cons_of_mem _ hj)]
    · rw [if_neg hj]
      by_cases hji : j = i
      · subst hji
        rw [if_pos rfl, if_pos (List.mem_cons_self ..)]
      · rw [if_neg hji, if_neg (List.not_mem_cons_of_ne_of_not_mem hji hj)]

theorem countP_range_lt {n m : Nat} (h : n ≤ m) (q : Nat → Bool) :
    (List.range m).countP (fun i => decide (i < n) && q i) = (List.range n).countP q := by
  induction m, h using Nat.le_induction with
  | base => exact List.countP_congr fun i hi => by simp [List.mem_range.1 hi]
  | succ m hm ih =>
    rw [List.range_succ, List.countP_append, ih, List.countP_singleton]
    simp [Nat.not_lt.2 hm]

/-- Set bits among the low n. -/
theorem popc64_low (x : Word) {n : Nat} (hn : n ≤ 64) :
    popc64 (x.toNat % 2 ^ n) = (List.range n).countP (fun i => x.getLsbD i) := by
  rw [popc64_eq_countP]
  simp only [Nat.testBit_mod_two_pow]
  exact countP_range_lt hn _

/-- Completing after a write of a predicate register. -/
theorem vecDone_setP (h : Hart) (d : Fin 8) (v : Word) (u : State) :
    ∃ m, vecDone h (setP h d v u) = setHart h { u.hart h with p := m, vstart := 0, pc := (u.hart h).pc + 4 } u := by
  by_cases hd : d = 0
  · exact ⟨(u.hart h).p, by rw [setP, if_pos hd, vecDone_eq]⟩
  · exact ⟨SMap.put (u.hart h).p d.val v, by rw [setP, if_neg hd, vecDone_eq, hart_setHart_same, setHart_setHart]⟩

section
variable {h : Hart} {s u : State} (hr : s.ready h u) (hm : isRook h = false) {f : VForm}

theorem vecIll_none {e : Fin 4} {k : HartState} (hve : k.sb 8 = true) (he : e ≠ 3) : vecIll e k = none := by
  simp only [vecIll, hve, Bool.not_true, Bool.false_eq_true, if_false, if_neg he]

theorem pixIll_none {e : Fin 4} {k : HartState} (hve : k.sb 8 = true) (he : e = 1) : pixIll e k = none := by
  simp only [pixIll, hve, Bool.not_true, Bool.false_eq_true, if_false, he, ne_eq, not_true_eq_false]

theorem cmpIll_none {k : HartState} (hill : vecIll f.esz k = none) (hvd : f.vd.val < 8) : cmpIll f k = none := by
  simp only [cmpIll, hill, if_neg (Nat.not_le.2 hvd)]

include hr hm

/-- A vector instruction that does not fault. -/
theorem vec_plain {word : Nat} {ill : HartState → Option Nat} (hill : ill (u.hart h) = none) (body : State → State) :
    issue h word ill 0 (plain body) s = body u :=
  issue_plain hr (rookIll_main hm word) hill (Nat.zero_le _)

theorem vecOp_wrote {op fn : Nat} {ill : HartState → Option Nat} (hill : ill (u.hart h) = none) {g : Nat → Nat → Nat → Nat → Nat}
    {r : Nat → Nat} (hg : ∀ i, g (eszBits f.esz) (elem (eszBits f.esz) (u.v h f.va) i) (elem (eszBits f.esz) (u.v h f.vb) i)
      (elem (eszBits f.esz) (u.v h f.vd) i) % 2 ^ eszBits f.esz = r i % 2 ^ eszBits f.esz) :
    wroteV h f.vd (eszBits f.esz) (u.actE h f.pg) r u (vecOp op fn ill g h f s) := by
  rw [vecOp, vec_plain hr hm hill]
  exact wroteV_mapElems (eszBits_pos _) (mem_activeElems u h f.pg _) fun i _ => hg i

theorem vecB_wrote {fn : Nat} (hill : vecIll f.esz (u.hart h) = none) (g : Nat → Nat → Nat → Nat) :
    wroteV h f.vd (eszBits f.esz) (u.actE h f.pg) (fun i => g (elem (eszBits f.esz) (u.v h f.va) i) (u.g h f.ga).toNat i) u
      (vecB fn g h f s) := by
  rw [vecB, vec_plain hr hm hill]
  exact wroteV_mapElems (eszBits_pos _) (mem_activeElems u h f.pg _) fun _ _ => rfl

theorem vSel_wrote (hill : vecIll f.esz (u.hart h) = none) :
    wroteV h f.vd (eszBits f.esz) (fun _ => True) (fun i => if (u.p h f.pg).getLsbD i then elem (eszBits f.esz) (u.v h f.va) i
      else elem (eszBits f.esz) (u.v h f.vb) i) u (vSel h f s) := by
  rw [vSel, vec_plain hr hm hill]
  refine wroteV_mapElems (eszBits_pos _) (fun i => by rw [and_true]; exact List.mem_range) fun i _ => ?_
  rw [apply_ite (fun v => elem (eszBits f.esz) v i)]

theorem pMat_wrote (hill : pixIll f.esz (u.hart h) = none) (hva : f.va.val ≤ 13) :
    wroteV h f.vd 16 (u.actE h f.pg) (fun i => pmatVal (u.g h f.ga).toNat (elem 16 (u.v h (Fin.ofNat 16 (f.va.val + 0))) i)
      (elem 16 (u.v h (Fin.ofNat 16 (f.va.val + 1))) i) (elem 16 (u.v h (Fin.ofNat 16 (f.va.val + 2))) i)) u (pMat h f s) := by
  have hsrc : ∀ k, k < 3 → u.matSrc h f.va.val k = u.v h (Fin.ofNat 16 (f.va.val + k)) := fun k hk => if_pos (by omega)
  rw [pMat, vec_plain hr hm hill]
  simp only [hsrc 0 (by decide), hsrc 1 (by decide), hsrc 2 (by decide), if_pos hva]
  exact wroteV_mapElems (by decide) (mem_activeElems u h f.pg _) fun _ _ => rfl

theorem vecToG_wrote {fn : Nat} (hill : vecIll f.esz (u.hart h) = none) (r : Nat → List Nat → State → Nat) :
    wroteVG h f.ga (BitVec.ofNat 64 (r (eszBits f.esz) (u.activeElems h f.pg (eCount f.esz)) u)) u (vecToG fn r h f s) := by
  rw [vecToG, vec_plain hr hm hill]
  exact wroteVG_setG ..

/-- A compare writes the bits of the active elements and clears those at and above the element count. -/
theorem vCmp_wrote {fn : Nat} (hill : vecIll f.esz (u.hart h) = none) (hvd : f.vd.val < 8)
    {c : Nat → Nat → Nat → Bool} {r : Nat → Prop}
    (hc : ∀ i, c (eszBits f.esz) (elem (eszBits f.esz) (u.v h f.va) i) (elem (eszBits f.esz) (u.v h f.vb) i) = true ↔ r i) :
    ∃ m, vCmp fn c h f s = setHart h { u.hart h with p := m, vstart := 0, pc := (u.hart h).pc + 4 } u ∧
      (∀ q : Fin 8, q ≠ cmpPd f → (vCmp fn c h f s).p h q = u.p h q) ∧
      (cmpPd f ≠ 0 → ∀ i < 64, ((vCmp fn c h f s).p h (cmpPd f)).getLsbD i = true ↔
        i < eCount f.esz ∧ if u.actE h f.pg i then r i else (u.p h (cmpPd f)).getLsbD i = true) := by
  rw [vCmp, vec_plain hr hm (cmpIll_none hill hvd)]
  obtain ⟨m, hset⟩ := vecDone_setP h (cmpPd f) _ u
  refine ⟨m, hset, fun q hq => ?_, fun hpd i hi => ?_⟩
  · rw [p_vecDone, p_setP, if_neg fun e => hq e.1]
  · rw [p_vecDone, p_setP, if_pos ⟨rfl, hpd⟩, BitVec.getLsbD_ofNat, testBit_foldSetBit, Nat.testBit_mod_two_pow, decide_eq_true hi, Bool.true_and]
    by_cases hact : i < eCount f.esz ∧ u.actE h f.pg i
    · rw [if_pos ((mem_activeElems ..).2 hact), hc, if_pos hact.2]
      exact (and_iff_right hact.1).symm
    · rw [if_neg fun he => hact ((mem_activeElems ..).1 he), Bool.and_eq_true, decide_eq_true_eq]
      exact and_congr_right fun hlt => by rw [if_neg fun ha => hact ⟨hlt, ha⟩]; rfl

end

/-- Settles O12: each instruction is its element function over the active elements. -/
theorem vectorResults : Obligations.VectorResults := by
  unfold Obligations.VectorResults
  constructor
  · intro h f s u hr hm hve w act a b d g done
    refine ⟨fun he => ?_, fun he => ?_⟩
    · have hill := vecIll_none hve he
      have runA : ∀ {fn : Nat} {op : Nat → Nat → Nat → Nat} {r : Nat → Nat} {c : Instr}, exec c s = .next (vecA fn op h f s) →
          (∀ i, op w (a i) (b i) % 2 ^ w = r i % 2 ^ w) → done c r :=
        fun hc hg => ⟨_, hc, vecOp_wrote hr hm hill hg⟩
      have runB : ∀ {fn : Nat} (op : Nat → Nat → Nat → Nat) {c : Instr}, exec c s = .next (vecB fn op h f s) →
          done c (fun i => op (a i) g i) :=
        fun op _ hc => ⟨_, hc, vecB_wrote hr hm hill op⟩
      exact ⟨runA rfl fun _ => rfl, runA rfl fun _ => rfl, runA rfl fun _ => rfl, runA rfl fun _ => rfl, runA rfl fun _ => rfl,
        runA rfl fun _ => rfl, runA rfl fun _ => rfl, runA rfl fun _ => rfl, runA rfl fun _ => rfl, runA rfl fun _ => rfl,
        runA rfl fun _ => rfl, runA rfl fun _ => rfl, runA rfl fun i => signedMin_mod w (a i) (b i),
        runA rfl fun i => signedMax_mod w (a i) (b i), ⟨_, rfl, vSel_wrote hr hm hill⟩, runB (fun _ g _ => g) rfl,
        runB (fun a _ _ => a) rfl, runB (fun _ _ i => i) rfl, runB (fun a g _ => a + g) rfl, runB (fun a g _ => a * g) rfl⟩
    · have hill := pixIll_none hve he
      have hw : w = 16 := by rw [show w = 8 * 2 ^ f.esz.val from rfl, he]; rfl
      have run : ∀ {fn : Nat} {op : Nat → Nat → Nat → Nat} {r : Nat → Nat} {c : Instr}, exec c s = .next (pix fn op h f s) →
          (∀ i, op (a i) (b i) (d i) = r i) → done c r :=
        fun hc hg => ⟨_, hc, vecOp_wrote hr hm hill fun i => congrArg (· % 2 ^ w) (hg i)⟩
      refine ⟨run rfl fun _ => rfl, run rfl fun _ => rfl, run rfl fun _ => rfl, run rfl fun _ => rfl, run rfl fun i => ?_,
        fun hva => ⟨_, rfl, ?_⟩, run rfl fun _ => rfl, run rfl fun i => bits_eq .., run rfl fun i => ?_⟩
      · simp only [plerpVal]
        norm_num
      · rw [hw]
        have hmat := pMat_wrote hr hm hill hva
        simp only [pmatVal_eq] at hmat
        exact hmat
      · exact bits_low _ 3
  · intro h f s u hr hm hve he w n a b pd done cmp
    have hill := vecIll_none hve he
    have hn : n ≤ 64 := eCount_le f.esz
    have run : ∀ {fn : Nat} {r : Nat → List Nat → State → Nat} {c : Instr} {v : Nat}, exec c s = .next (vecToG fn r h f s) →
        r w (u.activeElems h f.pg n) u = v → done c v := fun hc hv => ⟨_, hc, hv ▸ vecToG_wrote hr hm hill _⟩
    refine ⟨fun hvd => ?_, run rfl rfl, fun l hnd hl => ?_, run rfl (popc64_low _ hn)⟩
    · have runC : ∀ {fn : Nat} {op : Nat → Nat → Nat → Bool} {r : Nat → Prop} {c : Instr}, exec c s = .next (vCmp fn op h f s) →
          (∀ i, op w (a i) (b i) = true ↔ r i) → cmp c r := fun hc hop =>
        have ⟨m, ht, hq, hi⟩ := vCmp_wrote hr hm hill hvd hop
        ⟨_, m, hc, ht, hq, hi⟩
      exact ⟨runC rfl fun _ => beq_iff_eq, runC rfl fun _ => decide_eq_true_iff, runC rfl fun _ => decide_eq_true_iff⟩
    · have hperm : (u.activeElems h f.pg n).Perm l := (List.perm_ext_iff_of_nodup (activeElems_nodup ..) hnd).2 fun i => by
        rw [mem_activeElems, hl]
      refine ⟨run rfl ?_, run rfl ?_⟩
      · rw [← List.sum_eq_foldl]
        exact (hperm.map a).sum_eq
      · rw [List.foldl_eq_foldr]
        exact (hperm.map a).foldr_eq 0

end Sys2Proof.Machine
end

section
/-! SUPPORT. Vector accesses to plain, untranslated memory, element by element (R56, R57, R63). -/

namespace Sys2Proof.Machine

/-- An address of a context that translates nothing is physical (R74). -/
theorem dataXlate_plain {h : Hart} (k : Acc3) (va : Nat) {t : State}
    (hpt : (t.hart h).pl = 2 ∨ (t.hart h).ptroot.getLsbD 0 = false) : dataXlate h k va t = (.ok (va, true), t) := by
  rw [dataXlate]
  refine if_pos ?_
  obtain hpl | hpt := hpt
  · exact Or.inl hpl
  · exact Or.inr (Or.inl (by simp only [hpt, Bool.not_false]))

/-- Between u and t nothing but vector registers of context h changed. -/
def VOnly (h : Hart) (u t : State) : Prop := t = u ∨ ∃ m, t = setHart h { u.hart h with v := m } u

section
variable {h : Hart} {u t : State} (ht : VOnly h u t)
include ht

theorem VOnly.mem : t.mem = u.mem := by obtain rfl | ⟨m, rfl⟩ := ht <;> rfl
theorem VOnly.regs : t.regs = u.regs := by obtain rfl | ⟨m, rfl⟩ := ht <;> rfl
theorem VOnly.flt : t.flt = u.flt := by obtain rfl | ⟨m, rfl⟩ := ht <;> rfl

theorem VOnly.hart : t.hart h = { u.hart h with v := (t.hart h).v } := by
  obtain rfl | ⟨m, rfl⟩ := ht
  · rfl
  · rw [hart_setHart_same]

theorem VOnly.bytes (a n : Nat) : t.bytes a n = u.bytes a n := by
  simp only [State.bytes, State.byte, ht.mem]

theorem VOnly.plainMem {pa n : Nat} (hp : u.plainMem pa n) : t.plainMem pa n := by
  obtain rfl | ⟨m, rfl⟩ := ht
  · exact hp
  · exact plainMem_mono hp rfl (fun _ hx => hx) fun _ hx => hx

theorem VOnly.fresh {pa n : Nat} (hf : u.fresh pa n) : t.fresh pa n := by
  obtain rfl | ⟨m, rfl⟩ := ht <;> exact hf

/-- Replacing the context as a whole, its vector registers kept, forgets how they were loaded. -/
theorem VOnly.setHart (k : HartState) : setHart h k t = setHart h k u := by
  obtain rfl | ⟨m, rfl⟩ := ht
  · rfl
  · rw [setHart_setHart]

theorem VOnly.setV (d : Fin 16) (x : Vec) : VOnly h u (setV h d x t) := by
  refine Or.inr ⟨SMap.put (t.hart h).v d.val x, ?_⟩
  rw [Machine.setV, ht.setHart, ht.hart]

theorem VOnly.vecDone : ∃ m, vecDone h t = Machine.setHart h { u.hart h with v := m, vstart := 0, pc := (u.hart h).pc + 4 } u :=
  ⟨(t.hart h).v, by rw [vecDone_eq, ht.setHart, ht.hart]⟩

/-- A load of plain, untranslated memory. -/
theorem VOnly.hartLoad (hm : isRook h = false) (hpt : (u.hart h).pl = 2 ∨ (u.hart h).ptroot.getLsbD 0 = false) {va n : Nat}
    (hal : va % n = 0) (hp : u.plainMem va n) (hf : u.fresh va n) : hartLoad h va n t = (.ok (u.bytes va n), t) := by
  have hpt' : (t.hart h).pl = 2 ∨ (t.hart h).ptroot.getLsbD 0 = false := by rw [ht.hart]; exact hpt
  rw [← ht.bytes]
  exact hartLoad_main hal hm (dataXlate_plain .read va hpt') (ht.plainMem hp) (coreRead_fresh _ _ (ht.plainMem hp) (ht.fresh hf))

end

/-- The state t while a vector load fills register d of context h, which holds x: u otherwise. -/
structure Loading (h : Hart) (d : Fin 16) (x : Vec) (u t : State) : Prop where
  only : VOnly h u t
  others : ∀ r, r ≠ d → t.v h r = u.v h r
  here : t.v h d = x

theorem Loading.init (h : Hart) (d : Fin 16) (u : State) : Loading h d (u.v h d) u u := ⟨Or.inl rfl, fun _ _ => rfl, rfl⟩

theorem Loading.setElem {h : Hart} {d : Fin 16} {x : Vec} {u t : State} (ht : Loading h d x u t) (w i y : Nat) :
    Loading h d (putElem w x i y) u (setElem h d w i y t) := by
  refine ⟨ht.only.setV d _, fun r hr => ?_, ?_⟩
  · rw [Machine.setElem, v_setV, if_neg hr, ht.others r hr]
  · rw [Machine.setElem, v_setV, if_pos rfl, ht.here]

/-- Elements that load without a fault fill their places, and the elements after them go on from there. -/
theorem eachElem_loads {h : Hart} {d : Fin 16} {w : Nat} {g : Nat → Nat} {u : State} {act : Nat → State → Option Trap × State}
    {l : List Nat} (hact : ∀ i ∈ l, ∀ t, VOnly h u t → act i t = (none, setElem h d w i (g i) t)) {x : Vec} {t : State}
    (ht : Loading h d x u t) :
    ∃ t', Loading h d (mapElems w l g x) u t' ∧ ∀ l', eachElem h act (l ++ l') t = eachElem h act l' t' := by
  induction l generalizing x t with
  | nil => exact ⟨t, ht, fun _ => rfl⟩
  | cons i l ih =>
    obtain ⟨t', ht', hrest⟩ := ih (fun k hk => hact k (List.mem_cons_of_mem _ hk)) (ht.setElem w i (g i))
    refine ⟨t', ht', fun l' => ?_⟩
    rw [List.cons_append, eachElem, hact i (List.mem_cons_self ..) t ht.only]
    exact hrest l'

/-- A vector load all of whose active elements load. -/
theorem eachElem_wrote {h : Hart} {d : Fin 16} {w : Nat} (hw : 0 < w) {pg : Fin 8} {g r : Nat → Nat} {u : State}
    {act : Nat → State → Option Trap × State} (hg : ∀ i, i < 512 / w → g i % 2 ^ w = r i % 2 ^ w)
    (hact : ∀ i, i < 512 / w → u.actE h pg i → ∀ t, VOnly h u t → act i t = (none, setElem h d w i (g i) t)) :
    ∃ t, eachElem h act (u.activeElems h pg (512 / w)) u = (none, t) ∧ wroteV h d w (u.actE h pg) r u t := by
  have hmem := mem_activeElems u h pg (512 / w)
  obtain ⟨t, ht, hrest⟩ := eachElem_loads (act := act) (l := u.activeElems h pg (512 / w))
    (fun i hi => hact i ((hmem i).1 hi).1 ((hmem i).1 hi).2) (Loading.init h d u)
  refine ⟨vecDone h t, by rw [← List.append_nil (u.activeElems h pg (512 / w)), hrest]; rfl, ht.only.vecDone, fun q hq => ?_,
    fun i hi => ?_⟩
  · rw [v_vecDone, ht.others q hq]
  · rw [v_vecDone, ht.here, elem_mapElems hw g _ (fun j hj => ((hmem j).1 hj).1)]
    exact ⟨fun ha => by rw [if_pos ((hmem i).2 ⟨hi, ha⟩), hg i hi], fun ha => if_neg fun hm => ha ((hmem i).1 hm).2⟩

end Sys2Proof.Machine
end

section
/-! SUPPORT. Stores element by element (R56, R57). -/

namespace Sys2Proof.Machine

/-- Two multiples of n whose runs of n addresses meet are the same. -/
theorem eq_of_aligned {n a b x : Nat} (ha : a % n = 0) (hb : b % n = 0) (ha1 : a ≤ x) (ha2 : x < a + n) (hb1 : b ≤ x)
    (hb2 : x < b + n) : a = b := by
  obtain ⟨p, rfl⟩ := Nat.dvd_of_mod_eq_zero ha
  obtain ⟨q, rfl⟩ := Nat.dvd_of_mod_eq_zero hb
  obtain hlt | rfl | hlt := Nat.lt_trichotomy p q
  · have := Nat.mul_le_mul_left n hlt
    rw [Nat.mul_succ] at this
    omega
  · rfl
  · have := Nat.mul_le_mul_left n hlt
    rw [Nat.mul_succ] at this
    omega

/-- Between u and t context h stored to memory only, which stands in canonical form. -/
structure Storing (u t : State) : Prop where
  only : MemOnly u t
  wf : Memory.wf t.mem = true

/-- A store of one element to plain, untranslated, fresh memory. -/
theorem Storing.element {h : Hart} (hm : isRook h = false) {u t : State}
    (hpt : (u.hart h).pl = 2 ∨ (u.hart h).ptroot.getLsbD 0 = false) (hs : Storing u t) {va n x : Nat} (hn : 0 < n) (hal : va % n = 0)
    (hp : u.plainMem va n) (hf : u.fresh va n) : ∃ t', hartStore h va (leBytes n x) t = (none, t') ∧ Storing u t' ∧
      (∀ b, va ≤ b → b < va + n → t'.byte b = BitVec.ofNat 8 (x / 256 ^ (b - va))) ∧
      ∀ b, ¬ (va ≤ b ∧ b < va + n) → t'.byte b = t.byte b := by
  have hlen := leBytes_length n x
  have hne : leBytes n x ≠ [] := List.ne_nil_of_length_pos (by rwa [hlen])
  rw [← hs.only.hart] at hpt
  obtain ⟨t', ht', hst⟩ := hartStore_main (by rwa [hlen]) hm (dataXlate_plain .write va hpt) hne hs.wf
    (by rw [hlen]; exact hs.only.plainMem hp)
  refine ⟨t', ht', ⟨hs.only.trans hst.only, hst.wf⟩, fun b h1 h2 => ?_, fun b hb => ?_⟩
  · rw [hst.at_ b h1 (by rwa [hlen]), leBytes_getD x (by omega)]
  · exact hst.fresh (by rw [hlen]; exact hs.only.fresh hf) b (by rwa [hlen])

/-- Elements that are stored without a fault: no byte outside them changes, and where they lie apart each keeps its value. -/
theorem eachElem_stores {h : Hart} (hm : isRook h = false) {u : State} (hpt : (u.hart h).pl = 2 ∨ (u.hart h).ptroot.getLsbD 0 = false)
    {n : Nat} (hn : 0 < n) {at_ val : Nat → Nat} {l : List Nat} (hnd : l.Nodup)
    (hok : ∀ i ∈ l, at_ i % n = 0 ∧ u.plainMem (at_ i) n ∧ u.fresh (at_ i) n) {t : State} (ht : Storing u t) :
    ∃ t', eachElem h (fun i s => hartStore h (at_ i) (leBytes n (val i)) s) l t = (none, vecDone h t') ∧ Storing u t' ∧
      (∀ b, (∀ i ∈ l, ¬ (at_ i ≤ b ∧ b < at_ i + n)) → t'.byte b = t.byte b) ∧
      ((∀ i ∈ l, ∀ k ∈ l, at_ i = at_ k → i = k) → ∀ i ∈ l, ∀ b, at_ i ≤ b → b < at_ i + n →
        t'.byte b = BitVec.ofNat 8 (val i / 256 ^ (b - at_ i))) := by
  induction l generalizing t with
  | nil => exact ⟨t, rfl, ht, fun _ _ => rfl, fun _ i hi => absurd hi List.not_mem_nil⟩
  | cons i l ih =>
    obtain ⟨hil, hnd⟩ := List.nodup_cons.1 hnd
    obtain ⟨hal, hp, hf⟩ := hok i (List.mem_cons_self ..)
    obtain ⟨t1, hst, ht1, hin1, hout1⟩ := ht.element hm hpt (x := val i) hn hal hp hf
    obtain ⟨t', hrun, ht', hout, hin⟩ := ih hnd (fun k hk => hok k (List.mem_cons_of_mem _ hk)) ht1
    refine ⟨t', ?_, ht', fun b hb => ?_, fun hinj k hk b h1 h2 => ?_⟩
    · rw [eachElem, hst]
      exact hrun
    · rw [hout b fun k hk => hb k (List.mem_cons_of_mem _ hk), hout1 b (hb i (List.mem_cons_self ..))]
    · obtain rfl | hkl := List.mem_cons.1 hk
      · refine (hout b fun j hj hjb => hil ?_).trans (hin1 b h1 h2)
        have haj := (hok j (List.mem_cons_of_mem _ hj)).1
        rwa [hinj k (List.mem_cons_self ..) j (List.mem_cons_of_mem _ hj) (eq_of_aligned hal haj h1 h2 hjb.1 hjb.2)]
      · exact hin (fun a ha c hc => hinj a (List.mem_cons_of_mem _ ha) c (List.mem_cons_of_mem _ hc)) k hkl b h1 h2

end Sys2Proof.Machine
end

section
/-! SUPPORT. Vector loads, stores and PLUT on plain, untranslated memory (R57, R59). -/

namespace Sys2Proof.Machine

theorem vmIll_none {f : VmForm} {k : HartState} (hve : k.sb 8 = true) (he : f.esz ≠ 3) (hmode : f.mode ≠ 3) (hz : f.z = 0)
    (hbx : f.mode = 2 → f.bx.val < 16) : vmIll f k = none := by
  have hbx' : ¬ (f.z ≠ 0 ∨ f.mode = 2 ∧ 16 ≤ f.bx.val) := by
    rintro (h | ⟨h, hge⟩)
    · exact h hz
    · exact absurd (hbx h) (Nat.not_lt.2 hge)
  simp only [vmIll, hve, Bool.not_true, Bool.false_eq_true, if_false, he, hmode, or_self, if_neg hbx']

/-- Elements of unit stride have different addresses. -/
theorem vaddr_unit_inj {u : State} {h : Hart} {f : VmForm} (hmode : f.mode = 0) {i k : Nat} (hi : i < eCount f.esz)
    (hk : k < eCount f.esz) (heq : u.vaddr h f i = u.vaddr h f k) : i = k := by
  have hpos : 0 < 2 ^ f.esz.val := Nat.two_pow_pos _
  have h8 : ∀ j, j < eCount f.esz → j * 2 ^ f.esz.val < 512 := fun j hj => by
    have := elem_end_le hj
    have he := eszBits_pos f.esz
    have h2 : eszBits f.esz * j = 8 * (j * 2 ^ f.esz.val) := by rw [eszBits]; ring
    omega
  have h1 := h8 i hi
  have h2 := h8 k hk
  simp only [State.vaddr, hmode] at heq
  refine Nat.eq_of_mul_eq_mul_right hpos ?_
  change (_ + i * 2 ^ f.esz.val) % 2 ^ 64 = (_ + k * 2 ^ f.esz.val) % 2 ^ 64 at heq
  omega

theorem plutVal_eq (t0 t1 f : Nat) : plutVal t0 t1 f = ((t0 : Int) + (((t1 : Int) - t0) * f + 0x80) / 2 ^ 8).toNat := by
  rw [plutVal]
  norm_num

/-- One element of a vector load of context h, its addresses being those in u. -/
def loadElem (h : Hart) (f : VmForm) (u : State) (i : Nat) (s : State) : Option Trap × State :=
  let r := hartLoad h (u.vaddr h f i) (2 ^ f.esz.val) s
  match r.1 with
  | .error x => (some x, r.2)
  | .ok l => (none, setElem h f.vt (eszBits f.esz) i (leNat l) r.2)

theorem vLoad_eq (h : Hart) (f : VmForm) (s : State) : vLoad h f s = issue h (wordVM false f) (vmIll f) 0
    (fun u => eachElem h (loadElem h f u) (u.activeElems h f.pg (512 / eszBits f.esz)) u) s := rfl

/-- One element of PLUT of context h, its table's address and entries being those in u. -/
def lookElem (h : Hart) (f : VForm) (u : State) (i : Nat) (s : State) : Option Trap × State :=
  let r := plutElem h (u.g h f.ga).toNat (elem 16 (u.v h f.va) i) s
  match r.1 with
  | .error x => (some x, r.2)
  | .ok v => (none, setElem h f.vd 16 i v r.2)

theorem pLut_eq (h : Hart) (f : VForm) (s : State) : pLut h f s = issue h (wordV 0x3E 5 f) (pixIll f.esz) 0
    (fun u => eachElem h (lookElem h f u) (u.activeElems h f.pg (512 / 16)) u) s := rfl

section
variable {h : Hart} {s u t : State} (hr : s.ready h u) (hm : isRook h = false)
  (hpt : (u.hart h).pl = 2 ∨ (u.hart h).ptroot.getLsbD 0 = false)

include hm hpt in
theorem loadElem_plain {f : VmForm} {i : Nat} (hal : u.vaddr h f i % 2 ^ f.esz.val = 0)
    (hp : u.plainMem (u.vaddr h f i) (2 ^ f.esz.val)) (hf : u.fresh (u.vaddr h f i) (2 ^ f.esz.val)) (ht : VOnly h u t) :
    loadElem h f u i t = (none, setElem h f.vt (eszBits f.esz) i (leNat (u.bytes (u.vaddr h f i) (2 ^ f.esz.val))) t) := by
  simp only [loadElem, ht.hartLoad hm hpt hal hp hf]

include hm hpt in
/-- The two table entries of an element, at base + 2 j and the one after it. -/
theorem plutElem_plain {base a : Nat} (hal : base % 2 = 0) (hend : base + 514 ≤ 2 ^ 40) (ha : a < 2 ^ 16)
    (hp0 : u.plainMem (base + 2 * (a / 256)) 2) (hp1 : u.plainMem (base + 2 * (a / 256) + 2) 2)
    (hf0 : u.fresh (base + 2 * (a / 256)) 2) (hf1 : u.fresh (base + 2 * (a / 256) + 2) 2) (ht : VOnly h u t) :
    plutElem h base a t = (.ok (plutVal (leNat (u.bytes (base + 2 * (a / 256)) 2))
      (leNat (u.bytes (base + 2 * (a / 256 + 1)) 2)) (a % 256)), t) := by
  have h0 : (base + 2 * (a / 256)) % 2 ^ 64 = base + 2 * (a / 256) := by omega
  have h1 : (base + 2 * (a / 256) + 2) % 2 ^ 64 = base + 2 * (a / 256) + 2 := by omega
  simp only [plutElem, h0, h1, ht.hartLoad hm hpt (by omega) hp0 hf0, ht.hartLoad hm hpt (by omega) hp1 hf1]
  rfl

include hr hm hpt

theorem vLoad_wrote {f : VmForm} (hill : vmIll f (u.hart h) = none)
    (hok : ∀ i < eCount f.esz, u.actE h f.pg i → u.vaddr h f i % 2 ^ f.esz.val = 0 ∧
      u.plainMem (u.vaddr h f i) (2 ^ f.esz.val) ∧ u.fresh (u.vaddr h f i) (2 ^ f.esz.val)) :
    wroteV h f.vt (eszBits f.esz) (u.actE h f.pg) (fun i => leNat (u.bytes (u.vaddr h f i) (2 ^ f.esz.val))) u (vLoad h f s) := by
  obtain ⟨t, ht, hw⟩ := eachElem_wrote (eszBits_pos f.esz) (act := loadElem h f u) (fun _ _ => rfl) fun i hi ha t ht =>
    have ⟨hal, hp, hf⟩ := hok i hi ha
    loadElem_plain hm hpt hal hp hf ht
  have hrun : vLoad h f s = t := (vLoad_eq h f s).trans (issue_next hr (rookIll_main hm _) hill (Nat.zero_le _) ht)
  rwa [hrun]

theorem vStore_stored {f : VmForm} (hill : vmIll f (u.hart h) = none) (hwf : Memory.wf u.mem = true)
    (hok : ∀ i < eCount f.esz, u.actE h f.pg i → u.vaddr h f i % 2 ^ f.esz.val = 0 ∧
      u.plainMem (u.vaddr h f i) (2 ^ f.esz.val) ∧ u.fresh (u.vaddr h f i) (2 ^ f.esz.val)) :
    (vStore h f s).hart h = { u.hart h with vstart := 0, pc := (u.hart h).pc + 4 } ∧
    (∀ b, (∀ i < eCount f.esz, u.actE h f.pg i → ¬ (u.vaddr h f i ≤ b ∧ b < u.vaddr h f i + 2 ^ f.esz.val)) →
      (vStore h f s).byte b = u.byte b) ∧
    (f.mode = 0 → ∀ i < eCount f.esz, u.actE h f.pg i → ∀ j < 2 ^ f.esz.val,
      (vStore h f s).byte (u.vaddr h f i + j) = BitVec.ofNat 8 (elem (eszBits f.esz) (u.v h f.vt) i / 256 ^ j)) := by
  have hmem := mem_activeElems u h f.pg (eCount f.esz)
  obtain ⟨t, ht, hs, hout, hin⟩ := eachElem_stores hm hpt (Nat.two_pow_pos f.esz.val)
    (val := elem (eszBits f.esz) (u.v h f.vt)) (activeElems_nodup u h f.pg (eCount f.esz))
    (fun i hi => hok i ((hmem i).1 hi).1 ((hmem i).1 hi).2) ⟨MemOnly.refl u, hwf⟩
  have hrun : vStore h f s = vecDone h t := issue_next hr (rookIll_main hm _) hill (Nat.zero_le _) ht
  rw [hrun, vecDone_eq, hart_setHart_same, hs.only.hart]
  refine ⟨rfl, fun b hb => hout b fun i hi => hb i ((hmem i).1 hi).1 ((hmem i).1 hi).2, fun hmode i hi ha j hj => ?_⟩
  have hinj : ∀ i ∈ u.activeElems h f.pg (eCount f.esz), ∀ k ∈ u.activeElems h f.pg (eCount f.esz),
      u.vaddr h f i = u.vaddr h f k → i = k := fun i hi k hk => vaddr_unit_inj hmode ((hmem i).1 hi).1 ((hmem k).1 hk).1
  refine (hin hinj i ((hmem i).2 ⟨hi, ha⟩) _ (Nat.le_add_right ..) (by omega)).trans ?_
  rw [Nat.add_sub_cancel_left]

end

/-- Settles O13: element by element, the loads leaving memory and the stores the registers as they were. -/
theorem vectorMemory : Obligations.VectorMemory := by
  unfold Obligations.VectorMemory
  intro h s u hr hm hve hpt hwf
  constructor
  · intro f he hmode hz hbx n cnt at_ hok
    have hill := vmIll_none hve he hmode hz hbx
    exact ⟨⟨_, rfl, vLoad_wrote hr hm hpt hill hok⟩, _, rfl, vStore_stored hr hm hpt hill hwf hok⟩
  · intro f he base a hok tab
    obtain ⟨t, ht, hw⟩ := eachElem_wrote (w := 16) (by decide) (act := lookElem h f u) (pg := f.pg) (u := u)
      (g := fun i => plutVal (tab (a i / 256)) (tab (a i / 256 + 1)) (a i % 256))
      (r := fun i => ((tab (a i / 256) : Int) + (((tab (a i / 256 + 1) : Int) - tab (a i / 256)) * (a i % 256 : Nat) + 0x80) / 2 ^ 8).toNat)
      (d := f.vd) (fun i _ => by rw [plutVal_eq]) fun i hi ha t ht => by
        obtain ⟨hal, hend, hp0, hp1, hf0, hf1⟩ := hok i hi ha
        have hlook := plutElem_plain (base := (u.g h f.ga).toNat) (a := elem 16 (u.v h f.va) i) hm hpt hal hend
          (elem_lt (by decide) _ i) hp0 hp1 hf0 hf1 ht
        simp only [lookElem, hlook]
        rfl
    refine ⟨t, ?_, hw⟩
    exact congrArg _ ((pLut_eq h f s).trans (issue_next hr (rookIll_main hm _) (pixIll_none hve he) (Nat.zero_le _) ht))

end Sys2Proof.Machine
end

section
/-! SUPPORT. A vector load that faults at an element (R63), and page faults that park (R65). -/

namespace Sys2Proof.Machine

/-- The active elements up to an active one, then that one. -/
theorem activeElems_split (u : State) (h : Hart) (pg : Fin 8) {n i : Nat} (hi : i < n) (ha : u.actE h pg i) :
    ∃ l, u.activeElems h pg n = u.activeElems h pg i ++ i :: l := by
  obtain ⟨k, rfl⟩ : ∃ k, n = i + (k + 1) := ⟨n - i - 1, by omega⟩
  have hact : ((u.p h pg).getLsbD i && decide (u.vstart h ≤ i)) = true := by
    rw [Bool.and_eq_true, decide_eq_true_eq]
    exact ha
  simp only [State.activeElems]
  rw [List.range_add, List.filter_append, List.range_succ_eq_map, List.map_cons, Nat.add_zero, List.filter_cons, if_pos hact]
  exact ⟨_, rfl⟩

theorem captureOnly_eq (b : Blk) (mstr typ a : Nat) (s : State) :
    captureOnly b mstr typ a s = { s with flt := (captureOnly b mstr typ a s).flt } := by
  simp only [captureOnly]
  split <;> rfl

/-- A misaligned untranslated load: cause 0x05, and a capture where a block's register window would have met it (R11, R64). -/
theorem hartLoad_misaligned {h : Hart} {va n : Nat} {t : State} (hpt : (t.hart h).pl = 2 ∨ (t.hart h).ptroot.getLsbD 0 = false)
    (hal : va % n ≠ 0) : ∃ F, hartLoad h va n t = (.error ⟨5, 0, BitVec.ofNat 64 va⟩, { t with flt := F }) ∧
      (t.region va ≠ .regs → F = t.flt) := by
  have hst : ∃ F, (misaligned h .read va t).2 = { t with flt := F } ∧ (t.region va ≠ .regs → F = t.flt) := by
    simp only [misaligned, dataXlate_plain .read va hpt]
    split
    · next hreg _ _ => exact ⟨_, captureOnly_eq .., fun hn => absurd hreg hn⟩
    · exact ⟨t.flt, rfl, fun _ => rfl⟩
  obtain ⟨F, hF, hreg⟩ := hst
  refine ⟨F, ?_, hreg⟩
  simp only [hartLoad, if_pos hal, hF]
  rfl

/-- Without FPK no fault parks. -/
theorem parks_of_fpk {k : HartState} (x : Trap) (hk : k.sb 15 = false) : parks k x = false := by
  simp only [parks, hk, Bool.and_false, Bool.false_and]

/-- The causes that park a task-level context while FPK is 1 (R65). -/
theorem parks_iff {k : HartState} (x : Trap) (hpl : k.pl = 0) (hk : k.sb 15 = true) : parks k x = true ↔
    (x.code = 1 ∨ x.code = 2 ∨ x.code = 3 ∨ (x.code = 7 ∧ (x.sub = 1 ∨ x.sub = 2 ∨ x.sub = 3))) := by
  simp [parks, hpl, hk, or_assoc]

/-- State u after a vector load of context h stopped at element i, its vector registers being m and the fault sets F. -/
def stoppedAt (h : Hart) (i : Nat) (m : SMap Vec) (F : SMap FltSet) (u : State) : State :=
  { setHart h { u.hart h with v := m, vstart := BitVec.ofNat 64 i } u with flt := F }

theorem hart_stoppedAt (h : Hart) (i : Nat) (m : SMap Vec) (F : SMap FltSet) (u : State) :
    (stoppedAt h i m F u).hart h = { u.hart h with v := m, vstart := BitVec.ofNat 64 i } := hart_setHart_same ..

/-- .vstart and the fault sets set after vector registers were loaded. -/
theorem VOnly.stoppedAt {h : Hart} {u t : State} (ht : VOnly h u t) (i : Nat) (F : SMap FltSet) :
    setVstart h i { t with flt := F } = stoppedAt h i (t.hart h).v F u := by
  obtain rfl | ⟨m, rfl⟩ := ht
  · rfl
  · change { Machine.setHart h { (Machine.setHart h _ u).hart h with vstart := _ } (Machine.setHart h _ u) with flt := F } = _
    rw [hart_setHart_same, setHart_setHart]
    rfl

theorem mem_insertN (a : Nat) (l : List Nat) : a ∈ insertN a l := by
  unfold insertN
  split
  case isTrue h => exact List.contains_iff_mem.1 h
  case isFalse => exact List.mem_append_right _ (List.mem_singleton_self a)

section
variable {h : Hart} {s u : State} (hr : s.ready h u) (hm : isRook h = false)
  (hpt : (u.hart h).pl = 2 ∨ (u.hart h).ptroot.getLsbD 0 = false)
include hr hm hpt

/-- A vector load whose element i is misaligned, the active ones below it loading. -/
theorem vLoad_partial {f : VmForm} {i : Nat} (hill : vmIll f (u.hart h) = none) (hfpk : (u.hart h).sb 15 = false)
    (hi : i < eCount f.esz) (ha : u.actE h f.pg i) (hal : u.vaddr h f i % 2 ^ f.esz.val ≠ 0)
    (hok : ∀ j < i, u.actE h f.pg j → u.vaddr h f j % 2 ^ f.esz.val = 0 ∧
      u.plainMem (u.vaddr h f j) (2 ^ f.esz.val) ∧ u.fresh (u.vaddr h f j) (2 ^ f.esz.val)) :
    ∃ m F, vLoad h f s = enterTrap h (BitVec.ofNat 64 0x507) (BitVec.ofNat 64 (u.vaddr h f i)) (u.hart h).pc (stoppedAt h i m F u) ∧
      (u.region (u.vaddr h f i) ≠ .regs → F = u.flt) ∧ SMap.get m f.vt.val 0 =
        mapElems (eszBits f.esz) (u.activeElems h f.pg i) (fun j => leNat (u.bytes (u.vaddr h f j) (2 ^ f.esz.val))) (u.v h f.vt) := by
  obtain ⟨rest, hsplit⟩ := activeElems_split u h f.pg hi ha
  have hmem := mem_activeElems u h f.pg i
  obtain ⟨t, ht, hrest⟩ := eachElem_loads (act := loadElem h f u) (l := u.activeElems h f.pg i)
    (fun j hj t ht => have ⟨hal, hp, hf⟩ := hok j ((hmem j).1 hj).1 ((hmem j).1 hj).2
      loadElem_plain hm hpt hal hp hf ht) (Loading.init h f.vt u)
  have hpt' : (t.hart h).pl = 2 ∨ (t.hart h).ptroot.getLsbD 0 = false := by rw [ht.only.hart]; exact hpt
  obtain ⟨F, hload, hF⟩ := hartLoad_misaligned hpt' hal
  rw [region_congr ht.only.regs, ht.only.flt] at hF
  have hfault : eachElem h (loadElem h f u) (u.activeElems h f.pg (eCount f.esz)) u =
      (some ⟨7, 5, BitVec.ofNat 64 (u.vaddr h f i)⟩, stoppedAt h i (t.hart h).v F u) := by
    rw [hsplit, hrest, eachElem, loadElem, hload, ← ht.only.stoppedAt]
    rfl
  have hk := hart_stoppedAt h i (t.hart h).v F u
  have hpark : parks ((stoppedAt h i (t.hart h).v F u).hart h) ⟨7, 5, BitVec.ofNat 64 (u.vaddr h f i)⟩ = false := by
    rw [hk]
    exact parks_of_fpk _ hfpk
  have hrun : vLoad h f s = except h ⟨7, 5, BitVec.ofNat 64 (u.vaddr h f i)⟩ (stoppedAt h i (t.hart h).v F u) :=
    (vLoad_eq h f s).trans (issue_except hr (rookIll_main hm _) hill (Nat.zero_le _) hfault)
  refine ⟨(t.hart h).v, F, ?_, hF, ht.here⟩
  have hcause : (⟨7, 5, BitVec.ofNat 64 (u.vaddr h f i)⟩ : Trap).cause = BitVec.ofNat 64 0x507 := by simp [Trap.cause]
  rw [hrun, except_trap hpark, hk, hcause]

end

/-- Settles O14: the elements below the fault are loaded, and a task-level page fault parks. -/
theorem parkedAndPartialFaults : Obligations.ParkedAndPartialFaults := by
  unfold Obligations.ParkedAndPartialFaults
  constructor
  · intro h f s u i hr hm hve hfpk hpt he hmode hz hbx n hi ha hal hok
    obtain ⟨m, F, hrun, hF, hmap⟩ := vLoad_partial hr hm hpt (vmIll_none hve he hmode hz hbx) hfpk hi ha hal hok
    have hlt : ∀ j, leNat (u.bytes (u.vaddr h f j) n) % 2 ^ (8 * n) = leNat (u.bytes (u.vaddr h f j) n) := fun j => by
      have hlen := leNat_lt (u.bytes (u.vaddr h f j) n)
      rw [bytes_length, pow_256] at hlen
      exact Nat.mod_eq_of_lt hlen
    have hmem := mem_activeElems u h f.pg i
    refine ⟨m, _, congrArg _ hrun, rfl, hF, fun j hj => ?_⟩
    rw [State.v, hart_stoppedAt, hmap]
    refine (elem_mapElems (eszBits_pos f.esz) _ _ (fun k hk => Nat.lt_trans ((hmem k).1 hk).1 hi) j).trans ?_
    by_cases hja : j < i ∧ u.actE h f.pg j
    · rw [if_pos hja, if_pos ((hmem j).2 hja)]
      exact hlt j
    · rw [if_neg hja, if_neg fun hin => hja ((hmem j).1 hin)]
      rfl
  · intro h x s hpl hfpk t
    refine ⟨fun hx => ?_, fun hx _ hkt => ?_⟩
    · have ht : t = parkCtx h x s := if_pos ((parks_iff x hpl hfpk).2 hx)
      rw [ht]
      refine ⟨hart_setHart_same .., mem_insertN .., fun j hj => hart_setHart_other _ _ hj, rfl, rfl⟩
    · have ht : t = setHart h ((s.hart h).enterKernel x.cause x.tval (s.hart h).pc) s :=
        (except_trap (Bool.eq_false_iff.2 fun hp => hx ((parks_iff x hpl hfpk).1 hp))).trans
          (enterTrap_kernel _ _ _ (by omega) hkt)
      rw [ht, hart_setHart_same]
      exact ⟨enterKernel_pl .., rfl⟩

end Sys2Proof.Machine
end

section
/-! SUPPORT. Which identifier a context takes (R68), and the software interrupts (R70). -/

namespace Sys2Proof.Machine

/-- The PRIO of an identifier's route. -/
def State.prio (s : State) (i : Nat) : Nat := bits (s.irqRoute i) 30 28

/-- Identifier a goes before b: higher PRIO, or the lower number on a tie (R68). -/
def State.before (s : State) (a b : Nat) : Prop := s.prio b < s.prio a ∨ (s.prio b = s.prio a ∧ a < b)

theorem better_of_before {s : State} {a b : Nat} (h : s.before a b) : s.better a b = a :=
  if_pos (h.imp_right fun ⟨he, hl⟩ => ⟨he.symm, hl⟩)

theorem better_of_after {s : State} {a b : Nat} (h : s.before b a) : s.better a b = b := by
  refine if_neg ?_
  change ¬ (s.prio b < s.prio a ∨ s.prio a = s.prio b ∧ a < b)
  unfold State.before at h
  omega

theorem better_eq_or (s : State) (a b : Nat) : s.better a b = a ∨ s.better a b = b := ite_eq_or_eq ..

theorem better_best {s : State} {id a b : Nat} (hid : id = a ∨ id = b) (ha : a ≠ id → s.before id a) (hb : b ≠ id → s.before id b) :
    s.better a b = id := by
  by_cases hai : a = id
  · subst hai
    by_cases hbi : b = a
    · rw [hbi]
      exact or_self_iff.1 (better_eq_or s a a)
    · exact better_of_before (hb hbi)
  · obtain rfl := hid.resolve_left (Ne.symm hai)
    exact better_of_after (ha hai)

/-- The identifier that goes before all others is the one found. -/
theorem foldl_better {s : State} {id a : Nat} {l : List Nat} (hid : id ∈ a :: l) (hbest : ∀ j ∈ a :: l, j ≠ id → s.before id j) :
    l.foldl s.better a = id := by
  induction l generalizing a with
  | nil => exact (List.mem_singleton.1 hid).symm
  | cons b l ih =>
    have ha : a ≠ id → s.before id a := hbest a (List.mem_cons_self ..)
    have hb : b ≠ id → s.before id b := hbest b (List.mem_cons_of_mem _ (List.mem_cons_self ..))
    refine ih (a := s.better a b) ?_ fun j hj hne => ?_
    · obtain he | he | hl := by simpa only [List.mem_cons] using hid
      · exact List.mem_cons.2 (Or.inl (better_best (Or.inl he) ha hb).symm)
      · exact List.mem_cons.2 (Or.inl (better_best (Or.inr he) ha hb).symm)
      · exact List.mem_cons_of_mem _ hl
    · obtain rfl | hl := List.mem_cons.1 hj
      · obtain he | he := better_eq_or s a b
        · rw [he] at hne ⊢
          exact ha hne
        · rw [he] at hne ⊢
          exact hb hne
      · exact hbest j (List.mem_cons_of_mem _ (List.mem_cons_of_mem _ hl)) hne

theorem bestId_eq_some {s : State} {h : Hart} {id : Nat} (hid : id ∈ s.presented h)
    (hbest : ∀ j ∈ s.presented h, j ≠ id → s.before id j) : s.bestId h = some id := by
  unfold State.bestId
  cases hp : s.presented h with
  | nil => rw [hp] at hid; exact absurd hid List.not_mem_nil
  | cons a l =>
    rw [hp] at hid hbest
    exact congrArg some (foldl_better hid hbest)

theorem bestId_eq_none {s : State} {h : Hart} (hp : s.presented h = []) : s.bestId h = none := by
  simp only [State.bestId, hp]

theorem bestId_isSome {s : State} {h : Hart} (hp : s.presented h ≠ []) : (s.bestId h).isSome = true := by
  unfold State.bestId
  cases he : s.presented h with
  | nil => exact absurd he hp
  | cons a l => rfl

theorem intCause_int (id : Nat) : intCause false id = BitVec.ofNat 64 (2 ^ 63 + id % 1024) := by
  rw [intCause, b2n, if_neg (by decide), Nat.zero_mul, Nat.add_zero]

theorem interruptTake_none {h : Hart} {s : State} (hb : s.bestId h = none) : interruptTake h s = s := by
  rw [interruptTake, hb]
  exact ite_self _

section
variable {h : Hart} {s : State} (hrun : s.coreRuns h = true)
include hrun

/-- An interrupt is taken at an instruction boundary with IE 1 and no NMI due (R68). -/
theorem interruptTake_some {id : Nat} (hie : (s.hart h).sb 4 = true) (hst : (s.hart h).st = .running ∨ (s.hart h).st = .waiting)
    (hnmi : s.nmiDue h = false) (hb : s.bestId h = some id) : ∃ tval, interruptTake h s =
      enterTrap h (BitVec.ofNat 64 (2 ^ 63 + id % 1024)) tval (s.hart h).pc
        { s with free := s.free + 1, evt := s.evt.filter (fun i => i != id),
                 mel := { s.mel with inService := insertN id s.mel.inService } } := by
  have hst' : ¬ ((s.hart h).st ≠ .running ∧ (s.hart h).st ≠ .waiting) := by
    obtain hst | hst := hst <;> rw [hst] <;> decide
  simp only [interruptTake, hrun, hie, hnmi, hst', hb, intCause_int, Bool.not_true, Bool.false_eq_true, or_self, if_false]
  exact ⟨_, rfl⟩

theorem wfiWake_some (hst : (s.hart h).st = .waiting) (hp : s.presented h ≠ []) :
    wfiWake h s = setHart h { s.hart h with st := .running } s :=
  if_pos ⟨hst, hrun, bestId_isSome hp⟩

theorem timerOut_due (hte : (s.hart h).sb 14 = true) (hpl : (s.hart h).pl = 0)
    (hst : (s.hart h).st = .running ∨ (s.hart h).st = .parked) (hz : (s.hart h).tcnt = 0) :
    timerOut h s = setHart h { s.hart h with tcnt := (s.hart h).tmr, tmrPending := true } s :=
  if_pos ⟨hte, hpl, hst, hz, hrun⟩

theorem timerTrap_due (hpend : (s.hart h).tmrPending = true) (hpl : (s.hart h).pl = 0) (hst : (s.hart h).st = .running)
    (hnmi : s.nmiDue h = false) (hint : (s.hart h).sb 4 = false ∨ s.presented h = []) :
    timerTrap h s = enterTrap h 0x30 0 (s.hart h).pc (setHart h { s.hart h with tmrPending := false } s) := by
  refine if_pos ⟨hpend, hpl, hst, hrun, by rw [hnmi]; rfl, ?_⟩
  obtain hie | hp := hint
  · rw [hie]; rfl
  · rw [bestId_eq_none hp, Option.isSome_none, Bool.and_false]; rfl

end

theorem wfiWake_none {h : Hart} {s : State} (hp : s.presented h = []) : wfiWake h s = s := by
  refine if_neg fun hc => ?_
  rw [bestId_eq_none hp] at hc
  exact absurd hc.2.2 (by decide)

/-- EOI of a software interrupt's identifier takes back its request (R70). -/
theorem getLsbD_eoiAct {id c : Nat} {s : State} (hmel : s.inReset .mel = false) (hc : c < 16) :
    (eoiAct id s).mel.swi.getLsbD c = (s.mel.swi.getLsbD c && decide (id ≠ 33 + c)) := by
  simp only [eoiAct, hmel, Bool.false_eq_true, if_false]
  by_cases hid : 33 ≤ id ∧ id < 49
  · have hbit : (id - 33 = c) ↔ id = 33 + c := by omega
    rw [if_pos hid, BitVec.getLsbD_and, BitVec.getLsbD_not, BitVec.getLsbD_ofNat, Nat.one_shiftLeft, Nat.testBit_two_pow]
    simp [hc, hbit]
  · rw [if_neg hid, decide_eq_true (show id ≠ 33 + c by omega), Bool.and_true]

theorem eoiAct_spec {id : Nat} {s : State} (hmel : s.inReset .mel = false) : id ∉ (eoiAct id s).mel.inService ∧
    (∀ i, i ≠ id → (i ∈ (eoiAct id s).mel.inService ↔ i ∈ s.mel.inService)) ∧ (eoiAct id s).mel.harts = s.mel.harts ∧
    (eoiAct id s).regs = s.regs ∧ (eoiAct id s).mem = s.mem ∧ (eoiAct id s).evt = s.evt := by
  simp only [eoiAct, hmel, Bool.false_eq_true, if_false]
  refine ⟨fun hm => ?_, fun i hi => ?_, trivial, trivial, trivial, trivial⟩
  · simpa using (List.mem_filter.1 hm).2
  · simp [List.mem_filter, hi]

theorem swi_pending {c : Nat} {s : State} (hc : c < 16) (hswi : s.mel.swi.getLsbD c = true) : 33 + c ∈ s.pendingIds :=
  List.mem_append_right _ (List.mem_map_of_mem (List.mem_filter.2 ⟨List.mem_range.2 hc, hswi⟩))

/-- Settles O15: command by command. -/
theorem interruptsAndSoftwareEvents : Obligations.InterruptsAndSoftwareEvents := by
  unfold Obligations.InterruptsAndSoftwareEvents
  constructor
  · intro h s hrun k prio
    refine ⟨fun hie hst hnmi => ⟨fun id hid hbest => ?_,
        fun hp => congrArg Host.Outcome.next (interruptTake_none (bestId_eq_none hp))⟩,
      fun hst => ⟨fun hp => congrArg _ (wfiWake_some hrun hst hp), fun hp => congrArg _ (wfiWake_none hp)⟩,
      fun hte hpl hst hz => congrArg _ (timerOut_due hrun hte hpl hst hz),
      fun hpend hpl hst hnmi hint => congrArg _ (timerTrap_due hrun hpend hpl hst hnmi hint)⟩
    obtain ⟨tval, ht⟩ := interruptTake_some hrun hie hst hnmi (bestId_eq_some hid hbest)
    exact ⟨tval, congrArg _ ht⟩
  · intro s hmel
    refine ⟨fun id => ?_, fun m => congrArg Host.Outcome.next (a₁ := swiAct m.toNat s) ?_, fun c hc hswi => swi_pending hc hswi⟩
    · obtain ⟨hout, hin, hharts, hregs, hmem, hevt⟩ := eoiAct_spec (id := id.toNat) hmel
      exact ⟨_, rfl, hout, hin, fun c hc => getLsbD_eoiAct hmel hc, hharts, hregs, hmem, hevt⟩
    · simp only [swiAct, hmel, Bool.false_eq_true, if_false, BitVec.ofNat_toNat, BitVec.setWidth_eq]

end Sys2Proof.Machine
end

section
/-! SUPPORT. The contexts after a system reset (R45). -/

namespace Sys2Proof.Machine

theorem hart_reset_zero : State.reset.hart 0 = { st := .running } := rfl

theorem hart_reset_other {h : Hart} (hm : isRook h = false) (h0 : h ≠ 0) : State.reset.hart h = {} := by
  rw [State.hart, if_neg (by rw [hm]; decide)]
  simp [State.reset, SMap.get, SMap.find, h0]

/-- A system reset leaves every main context as reset does. -/
theorem hart_systemClear {h : Hart} (hm : isRook h = false) (s : State) : (systemClear s).hart h = State.reset.hart h := by
  rw [State.hart, State.hart, if_neg (by rw [hm]; decide), if_neg (by rw [hm]; decide)]
  rfl

/-- Context 0 of core 0 starts at the boot ROM, and the other main contexts are STOPPED (R45). -/
theorem started_of_harts {t : State} (ht : ∀ h, isRook h = false → t.hart h = State.reset.hart h) :
    (t.hart 0).st = .running ∧ (t.hart 0).status = 2 ∧ (t.hart 0).pc = 0 ∧ (t.hart 0).ptroot.getLsbD 0 = false ∧
      ∀ h : Hart, h ≠ 0 → isRook h = false → (t.hart h).st = .stopped ∧ (t.hart h).status = 2 := by
  rw [ht 0 rfl, hart_reset_zero]
  refine ⟨rfl, rfl, rfl, rfl, fun h h0 hm => ?_⟩
  rw [ht h hm, hart_reset_other hm h0]
  exact ⟨rfl, rfl⟩

theorem hart_systemReset {h : Hart} (hm : isRook h = false) (cause : Fld) {s : State} (hon : s.isOff = false) :
    (systemReset cause s).hart h = State.reset.hart h := by
  rw [systemReset, if_neg (by rw [hon]; decide)]
  exact hart_systemClear hm s

theorem hart_resetPin {h : Hart} (hm : isRook h = false) {s : State} (hon : s.isOff = false) (hheld : s.rst.held = false)
    (hpin : s.rst.rstStuck = false) : (resetPin s).hart h = State.reset.hart h := by
  rw [resetPin, if_neg (by rw [hon, hheld, hpin]; decide)]
  exact hart_systemReset hm _ hon

theorem hart_rstCmd {h : Hart} (hm : isRook h = false) {s : State} (hon : s.isOff = false) (hheld : s.rst.held = false) :
    (rstCmd 1 0x5A5 s).hart h = State.reset.hart h := by
  rw [rstCmd, if_neg (by rw [hheld]; decide), if_pos rfl]
  exact hart_systemReset hm _ hon

/-- Settles O25: the contexts that a system reset leaves are those of State.reset. -/
theorem resetState : Obligations.ResetState := by
  unfold Obligations.ResetState
  refine ⟨started_of_harts fun _ _ => rfl, fun u hon hheld => ⟨fun hpin => ⟨_, rfl, started_of_harts fun h hm => ?_⟩, _, rfl,
    started_of_harts fun h hm => ?_⟩, fun _ => rfl, rfl, rfl, rfl, fun _ => rfl, rfl, fun _ => ⟨rfl, rfl⟩, rfl, rfl⟩
  · exact hart_resetPin hm hon hheld hpin
  · exact hart_rstCmd hm hon hheld

end Sys2Proof.Machine
end

section
/-! SUPPORT. The registers and the hidden state of a DMA channel (R90): what each reads after an update of the channel. -/

namespace Sys2Proof.Machine

theorem key_dma (f : Fld) (n : Nat) : (f.dma n).key = f.key + n * 0x4000 := by
  simp only [Fld.key, Fld.dma, Fld.at]
  omega

/-- A register of an array in a channel's window. -/
theorem dma_at (f : Fld) (n k : Nat) : (f.dma n).at k = (f.at k).dma n := by
  simp only [Fld.dma, Fld.at, Nat.add_right_comm]

theorem fld_setFld_dma_same (f : Fld) (n v : Nat) (s : State) : (setFld (f.dma n) v s).fld (f.dma n) = v % 2 ^ f.width :=
  fld_setFld_same (f.dma n) v s

theorem fld_setFld_dma_other {f g : Fld} (n v : Nat) (s : State) (h : g.key ≠ f.key) :
    (setFld (f.dma n) v s).fld (g.dma n) = s.fld (g.dma n) :=
  fld_setFld_other v s (by rw [key_dma, key_dma]; omega)

/-- The registers before the channel windows keep their values. -/
theorem flag_setFld_dma {f g : Fld} (n v : Nat) (s : State) (h : g.key < f.key) : (setFld (f.dma n) v s).flag g = s.flag g :=
  flag_setFld_other v s (by rw [key_dma]; omega)

theorem chan_setChan_other {n m : Nat} (c : DmaChan) (s : State) (h : m ≠ n) : (setChan n c s).chan m = s.chan m := by
  simp only [State.chan, setChan, SMap.get_put_other _ _ _ h]

@[simp] theorem chSt_setChan (n m : Nat) (c : DmaChan) (s : State) : (setChan n c s).chSt m = s.chSt m := rfl

theorem chSt_setState {x : Nat} (n : Nat) (s : State) (h : x < 8) : (setFld (F.dmaChStatSTATE.dma n) x s).chSt n = x := by
  rw [State.chSt, fld_setFld_dma_same]
  exact Nat.mod_eq_of_lt h

theorem chSt_setFld_other {f : Fld} (n v : Nat) (s : State) (h : F.dmaChStatSTATE.key ≠ f.key) :
    (setFld (f.dma n) v s).chSt n = s.chSt n := fld_setFld_dma_other n v s h

/-! A channel event (R105). -/

theorem flag_chEvent (n : Nat) (s : State) : (chEvent n s).flag (F.dmaChStatEVT.dma n) = true := by
  rw [chEvent, flag_intr, flag_setFlag_same]

theorem fld_chEvent_other {f : Fld} (n : Nat) (s : State) (h : f.key ≠ F.dmaChStatEVT.key) :
    (chEvent n s).fld (f.dma n) = s.fld (f.dma n) := fld_setFld_dma_other n _ s h

theorem fld_whenB_chEvent {f : Fld} (b : Bool) (n : Nat) (s : State) (h : f.key ≠ F.dmaChStatEVT.key) :
    (whenB b (chEvent n) s).fld (f.dma n) = s.fld (f.dma n) := by
  cases b
  · rfl
  · exact fld_chEvent_other n s h

end Sys2Proof.Machine
end

section
/-! SUPPORT. The faults of a channel and the completion of a descriptor (R93, R95, R105). -/

namespace Sys2Proof.Machine

theorem fltqPush_off {ws : List Nat} {s : State} (h : s.flag F.mmuFltqEN = false) : fltqPush ws s = s := by
  rw [fltqPush, h, if_neg (by decide)]

/-- The four words of a channel's fault record, register by register. -/
theorem setFrec_dma (n : Nat) (ws : List Nat) (s : State) : setFrec (F.dmaChFrecW.dma n) ws s =
    setFld ((F.dmaChFrecW.at 24).dma n) (ws.getD 3 0) (setFld ((F.dmaChFrecW.at 16).dma n) (ws.getD 2 0)
      (setFld ((F.dmaChFrecW.at 8).dma n) (ws.getD 1 0) (setFld (F.dmaChFrecW.dma n) (ws.getD 0 0) s))) := by
  simp only [← dma_at]
  rfl

/-- The state a faulted channel is left in (R95), before CH_FAULT is raised: the record, RESULT, STATE and
the event. -/
def faulted (n st code : Nat) (ws : List Nat) (s : State) : State :=
  chEvent n (setFld (F.dmaChStatSTATE.dma n) st (setFld (F.dmaChStatRESULT.dma n) code (setFrec (F.dmaChFrecW.dma n) ws s)))

section
variable (n st code : Nat) (ws : List Nat) (s : State)

theorem faulted_evt : (faulted n st code ws s).evt = insertN (81 + n) s.evt := by
  simp only [faulted, chEvent, setFlag, setFrec_dma, intr, setFld_evt]

theorem faulted_frame : (faulted n st code ws s).mem = s.mem ∧ (faulted n st code ws s).dma = s.dma ∧
    (faulted n st code ws s).mel = s.mel := by
  simp only [faulted, chEvent, setFlag, setFrec_dma, intr, setFld_mem, setFld_dma, setFld_mel, and_self]

theorem faulted_chSt (hst : st < 8) : (faulted n st code ws s).chSt n = st :=
  (fld_chEvent_other n _ (by decide)).trans (chSt_setState n _ hst)

theorem faulted_result : (faulted n st code ws s).fld (F.dmaChStatRESULT.dma n) = code % 2 ^ 8 := by
  rw [faulted, fld_chEvent_other n _ (by decide), fld_setFld_dma_other n _ _ (by decide), fld_setFld_dma_same]
  rfl

theorem faulted_record0 : (faulted n st code ws s).fld (F.dmaChFrecW.dma n) = ws.getD 0 0 % 2 ^ 64 := by
  rw [faulted, fld_chEvent_other n _ (by decide), setFrec_dma]
  iterate 5 rw [fld_setFld_dma_other n _ _ (by decide)]
  exact fld_setFld_dma_same ..

theorem faulted_record1 : (faulted n st code ws s).fld ((F.dmaChFrecW.dma n).at 8) = ws.getD 1 0 % 2 ^ 64 := by
  rw [faulted, dma_at, fld_chEvent_other n _ (by decide), setFrec_dma]
  iterate 4 rw [fld_setFld_dma_other n _ _ (by decide)]
  exact fld_setFld_dma_same ..

theorem faulted_fltq : (faulted n st code ws s).flag F.mmuFltqEN = s.flag F.mmuFltqEN := by
  rw [faulted, setFrec_dma, chEvent, flag_intr, setFlag]
  iterate 7 rw [flag_setFld_dma n _ _ (by decide)]

/-- What a fault posts (R95), given the record's first two words. -/
theorem faulted_posted {w0 w1 : Nat} (hst : st < 8) (hcode : code < 256) (h0 : ws.getD 0 0 % 2 ^ 64 = w0)
    (h1 : ws.getD 1 0 % 2 ^ 64 = w1) :
    (faulted n st code ws s).chSt n = st ∧ (faulted n st code ws s).fld (F.dmaChStatRESULT.dma n) = code ∧
      (faulted n st code ws s).flag (F.dmaChStatEVT.dma n) = true ∧ (faulted n st code ws s).evt = insertN (81 + n) s.evt ∧
      (faulted n st code ws s).fld (F.dmaChFrecW.dma n) = w0 ∧ (faulted n st code ws s).fld ((F.dmaChFrecW.dma n).at 8) = w1 ∧
      (faulted n st code ws s).mem = s.mem ∧ (faulted n st code ws s).dma = s.dma ∧ (faulted n st code ws s).mel = s.mel :=
  ⟨faulted_chSt n st code ws s hst, (faulted_result n st code ws s).trans (Nat.mod_eq_of_lt hcode), flag_chEvent n _,
    faulted_evt n st code ws s, (faulted_record0 n st code ws s).trans h0, (faulted_record1 n st code ws s).trans h1,
    faulted_frame n st code ws s⟩

end

/-- With FLTQ off, a fault leaves the channel as `faulted` says, and one that does not park raises CH_FAULT (R95). -/
theorem chFault_eq {n phase va : Nat} {c : Cause} {s : State} (hq : s.flag F.mmuFltqEN = false) {ws : List Nat}
    (hws : ws = frecWords (s.fld (F.dmaChCtrlASID.dma n)) phase 1 n c va (s.fld (F.dmaChPosROW.dma n))
      (s.fld (F.dmaChPosBYTE.dma n)) s.gt) :
    chFault n phase c va s = if c.code = 2 ∨ c.code = 3 ∨ c.code = 4 then faulted n 3 c.code ws s
      else raise .mmu 6 { addr := va, mstr := 64 + n, typ := 4 } (faulted n 4 c.code ws s) := by
  have hoff : ∀ st, fltqPush ws (faulted n st c.code ws s) = faulted n st c.code ws s := fun st =>
    fltqPush_off ((faulted_fltq n st c.code ws s).trans hq)
  subst hws
  by_cases hp : c.code = 2 ∨ c.code = 3 ∨ c.code = 4
  · rw [if_pos hp, ← hoff 3]
    simp only [chFault, if_pos hp]
    rfl
  · rw [if_neg hp, ← hoff 4]
    simp only [chFault, if_neg hp]
    rfl

/-- A completed descriptor (R93): COUNT counts one, RESULT is 0, and the event follows where IRQ is set. -/
def completed (n : Nat) (irq : Bool) (v : State) : State :=
  whenB irq (chEvent n) (setFld (F.dmaChStatRESULT.dma n) 0 (countMod (F.dmaChStatCOUNT.dma n) 1 v))

section
variable (n : Nat) (irq : Bool) (v : State)

theorem completed_count : (completed n irq v).fld (F.dmaChStatCOUNT.dma n) = (v.fld (F.dmaChStatCOUNT.dma n) + 1) % 2 ^ 16 := by
  rw [completed, fld_whenB_chEvent _ _ _ (by decide), fld_setFld_dma_other n _ _ (by decide)]
  exact fld_setFld_dma_same ..

theorem completed_result : (completed n irq v).fld (F.dmaChStatRESULT.dma n) = 0 := by
  rw [completed, fld_whenB_chEvent _ _ _ (by decide), fld_setFld_dma_same, Nat.zero_mod]

theorem completed_irq (h : irq = true) : (completed n irq v).evt = insertN (81 + n) v.evt ∧
    (completed n irq v).flag (F.dmaChStatEVT.dma n) = true := by
  subst h
  exact ⟨rfl, flag_chEvent n _⟩

theorem completed_silent (h : irq = false) : (completed n irq v).evt = v.evt ∧
    (completed n irq v).fld (F.dmaChStatEVT.dma n) = v.fld (F.dmaChStatEVT.dma n) := by
  subst h
  refine ⟨rfl, ?_⟩
  show (setFld _ _ (setFld _ _ v)).fld _ = _
  rw [fld_setFld_dma_other n _ _ (by decide), fld_setFld_dma_other n _ _ (by decide)]

theorem completed_frame : (completed n irq v).mem = v.mem ∧ (completed n irq v).mel = v.mel ∧ (completed n irq v).qm = v.qm := by
  cases irq <;> exact ⟨rfl, rfl, rfl⟩

end

/-- What a completed descriptor posts stands in every later state `t` that keeps COUNT, RESULT and EVT and changes only registers and
channels. -/
theorem completed_posted {n : Nat} {irq : Bool} {v t : State}
    (ht : t = { completed n irq v with regs := t.regs, dma := t.dma })
    (hfld : ∀ f ∈ [F.dmaChStatCOUNT, F.dmaChStatRESULT, F.dmaChStatEVT], t.fld (f.dma n) = (completed n irq v).fld (f.dma n)) :
    t.fld (F.dmaChStatCOUNT.dma n) = (v.fld (F.dmaChStatCOUNT.dma n) + 1) % 2 ^ 16 ∧ t.fld (F.dmaChStatRESULT.dma n) = 0 ∧
      (irq = true → t.evt = insertN (81 + n) v.evt ∧ t.flag (F.dmaChStatEVT.dma n) = true) ∧
      (irq = false → t.evt = v.evt ∧ t.fld (F.dmaChStatEVT.dma n) = v.fld (F.dmaChStatEVT.dma n)) ∧
      t.mem = v.mem ∧ t.mel = v.mel ∧ t.qm = v.qm := by
  have hevt : t.evt = (completed n irq v).evt := by rw [ht]
  have hflag : t.flag (F.dmaChStatEVT.dma n) = (completed n irq v).flag (F.dmaChStatEVT.dma n) := by
    rw [State.flag, State.flag, hfld _ (by simp)]
  have hframe : t.mem = v.mem ∧ t.mel = v.mel ∧ t.qm = v.qm := by
    rw [ht]
    exact completed_frame n irq v
  refine ⟨?_, ?_, fun h => ?_, fun h => ?_, hframe⟩
  · rw [hfld _ (by simp), completed_count]
  · rw [hfld _ (by simp), completed_result]
  · rw [hevt, hflag]
    exact completed_irq n irq v h
  · rw [hevt, hfld _ (by simp)]
    exact completed_silent n irq v h

theorem statusWord_zero (gt : Nat) (tag : BitVec 16) : statusWord gt 0 tag = gt % 2 ^ 32 * 2 ^ 32 + 2 ^ 31 + tag.toNat := by
  rw [statusWord, Nat.zero_mul, Nat.add_zero]

/-- DESCRIPTOR_COMPLETE once the STATUS word is written (R93): a LAST descriptor ends the chain, another one loads NEXT. -/
theorem completeCh_written {n : Nat} {d : DmaDesc} {s v : State} (hn : 8 ≤ n) (hr : s.inReset .mmu = false) (hst : s.chSt n = 1)
    (hstage : (s.chan n).stage = .status) (hd : (s.chan n).desc = some d)
    (hw : ioWrite (dmaWho n) .general false (s.fld (F.dmaChCtrlASID.dma n)) (s.fld (F.dmaChDescADDR.dma n) + 0x38)
      (leBytes 8 (statusWord s.gt 0 d.tag)) s = (none, v)) :
    completeCh n s = if d.last then setChan n {} (setFld (F.dmaChStatSTATE.dma n) 0 (completed n d.irq v))
      else loadDesc n (setFld (F.dmaChDescADDR.dma n) d.next.toNat (completed n d.irq v)) := by
  have hgo : ¬ (s.inReset .mmu = true ∨ n < 8) := by simp [hr, hn]
  simp only [completeCh, hst, hstage, hd, if_neg hgo, hw]
  rfl

/-- The first word of a channel's fault record fits its register (Table: Fault record). -/
theorem frecWords_word0 {asid phase n va row byte gt : Nat} {c : Cause} (hphase : phase < 16) (hn : n < 64) (hcode : c.code < 256)
    (hsub : c.sub < 256) : (frecWords asid phase 1 n c va row byte gt).getD 0 0 % 2 ^ 64 =
      asid % 2 ^ 16 * 2 ^ 48 + phase * 2 ^ 36 + 2 ^ 32 + n * 2 ^ 20 + c.sub * 256 + c.code := by
  have := Nat.mod_lt asid (show 2 ^ 16 > 0 by decide)
  exact Nat.mod_eq_of_lt (show asid % 2 ^ 16 * 2 ^ 48 + phase * 2 ^ 36 + 2 ^ 32 + n * 2 ^ 20 + c.sub * 256 + c.code < 2 ^ 64 by omega)

theorem frecWords_word1 (asid phase n va row byte gt : Nat) (c : Cause) :
    (frecWords asid phase 1 n c va row byte gt).getD 1 0 % 2 ^ 64 = va % 2 ^ 48 :=
  Nat.mod_eq_of_lt (lt_of_lt_of_le (Nat.mod_lt va (by decide)) (by decide))

/-- Settles O17: the registers of a completed channel and of a faulted one, field by field. -/
theorem dmaCompletionAndFaults : Obligations.DmaCompletionAndFaults := by
  unfold Obligations.DmaCompletionAndFaults
  refine ⟨fun n d s v hn hr hst hstage hd hw => ?_, fun n phase c va s hn hphase hcode hsub hq => ?_⟩
  · rw [← statusWord_zero] at hw
    have hrun := completeCh_written hn hr hst hstage hd hw
    by_cases hl : d.last = true
    · refine ⟨setChan n.val {} (setFld (F.dmaChStatSTATE.dma n.val) 0 (completed n.val d.irq v)), ?_, fun _ => ⟨?_, ?_⟩,
        fun h => absurd hl (by simp [h]), completed_posted rfl fun f hf => ?_⟩
      · rw [if_pos hl]
        exact congrArg _ (hrun.trans (if_pos hl))
      · exact chSt_setState n.val _ (by decide)
      · exact chan_setChan_same ..
      · rw [fld_setChan]
        exact fld_setFld_dma_other n.val 0 _ (by revert f; decide)
    · refine ⟨setFld (F.dmaChDescADDR.dma n.val) d.next.toNat (completed n.val d.irq v), ?_, fun h => absurd h hl,
        fun _ => fld_setFld_dma_same .., completed_posted rfl fun f hf => ?_⟩
      · rw [if_neg hl]
        exact congrArg _ (hrun.trans (if_neg hl))
      · exact fld_setFld_dma_other n.val _ _ (by revert f; decide)
  · have heq := chFault_eq (n := n) (phase := phase) (va := va) (c := c) hq rfl
    by_cases hp : c.code = 2 ∨ c.code = 3 ∨ c.code = 4
    · simp only [if_pos hp] at heq ⊢
      exact ⟨_, heq, faulted_posted n 3 c.code _ s (by decide) hcode (frecWords_word0 hphase hn hcode hsub) (frecWords_word1 ..)⟩
    · simp only [if_neg hp] at heq ⊢
      exact ⟨_, heq, faulted_posted n 4 c.code _ s (by decide) hcode (frecWords_word0 hphase hn hcode hsub) (frecWords_word1 ..)⟩

end Sys2Proof.Machine
end

section
/-! SUPPORT. Channel commands (Table: Channel commands, R90, R94): what each does in each state of its channel. -/

namespace Sys2Proof.Machine

/-! The channels of Confluence (R90). -/

section
variable {n : Nat} (s : State) (hn : n < 8)
include hn

theorem startCh_low : startCh n s = s := if_pos (Or.inl hn)
theorem resumeCh_low : resumeCh n s = s := if_pos (Or.inl hn)
theorem pauseCh_low : pauseCh n s = s := if_pos (Or.inl hn)
theorem abortCh_low : abortCh n s = s := if_pos (Or.inl hn)

theorem burstCh_low : burstCh n s = s := by
  unfold burstCh
  split
  · exact if_pos (Or.inr (Or.inr hn))
  · rfl

theorem completeCh_low : completeCh n s = s := by
  unfold completeCh
  split
  · exact if_pos (Or.inr hn)
  · rfl

end

/-- Between s and t nothing changed but registers and the hidden state of channel n. -/
structure ChanOnly (n : Nat) (s t : State) : Prop where
  eq : t = { s with regs := t.regs, dma := t.dma }
  chan : ∀ m, m ≠ n → t.chan m = s.chan m

theorem ChanOnly.refl (n : Nat) (s : State) : ChanOnly n s s := ⟨rfl, fun _ _ => rfl⟩

theorem ChanOnly.setFld {n : Nat} {s t : State} (h : ChanOnly n s t) (f : Fld) (v : Nat) : ChanOnly n s (setFld f v t) :=
  ⟨by rw [h.eq]; rfl, h.chan⟩

theorem ChanOnly.setChan {n : Nat} {s t : State} (h : ChanOnly n s t) (c : DmaChan) : ChanOnly n s (setChan n c t) :=
  ⟨by rw [h.eq]; rfl, fun m hm => (chan_setChan_other c t hm).trans (h.chan m hm)⟩

theorem ChanOnly.mem {n : Nat} {s t : State} (h : ChanOnly n s t) : t.mem = s.mem := by rw [h.eq]
theorem ChanOnly.evt {n : Nat} {s t : State} (h : ChanOnly n s t) : t.evt = s.evt := by rw [h.eq]
theorem ChanOnly.flt {n : Nat} {s t : State} (h : ChanOnly n s t) : t.flt = s.flt := by rw [h.eq]
theorem ChanOnly.mel {n : Nat} {s t : State} (h : ChanOnly n s t) : t.mel = s.mel := by rw [h.eq]

/-! START and the load of a descriptor (R91, R92). -/

/-- The state in which a channel reads its descriptor: RUNNING, at the first byte. -/
def loading (n : Nat) (s : State) : State :=
  setFld (F.dmaChStatSTATE.dma n) 1 (setFld (F.dmaChPosBYTE.dma n) 0 (setFld (F.dmaChPosROW.dma n) 0
    (setChan n { stage := .load, desc := none } s)))

theorem loading_asid (n : Nat) (s : State) : (loading n s).fld (F.dmaChCtrlASID.dma n) = s.fld (F.dmaChCtrlASID.dma n) := by
  rw [loading]
  iterate 3 rw [fld_setFld_dma_other n _ _ (by decide)]
  exact fld_setChan ..

theorem loadDesc_read {n : Nat} {s v : State} {l : List Byte}
    (hrd : ioRead (dmaWho n) .general false (s.fld (F.dmaChCtrlASID.dma n)) (s.fld (F.dmaChDescADDR.dma n)) 64 (loading n s) = (.ok l, v)) :
    loadDesc n s = if descBad l (parseDesc l) (v.flag F.mmuCtrlPHYSOK) then chFault n 0 ⟨0x40, 0⟩ (s.fld (F.dmaChDescADDR.dma n)) v
      else setChan n { stage := .data, desc := some (parseDesc l) } v := by
  rw [← loading_asid, loading] at hrd
  simp only [loadDesc, hrd]

theorem loadDesc_fault {n : Nat} {s v : State} {e : VErr}
    (hrd : ioRead (dmaWho n) .general false (s.fld (F.dmaChCtrlASID.dma n)) (s.fld (F.dmaChDescADDR.dma n)) 64 (loading n s) = (.error e, v)) :
    loadDesc n s = chFault n (if e.walkRead then 4 else 0) e.cause e.va v := by
  rw [← loading_asid, loading] at hrd
  simp only [loadDesc, hrd, phaseOf]

section
variable {n : Nat} {s : State} (hn : 8 ≤ n) (hr : s.inReset .mmu = false)
include hn hr

theorem takesCommand : ¬ (n < 8 ∨ s.inReset .mmu = true) := by simp [hn, hr]

theorem startCh_idle (hst : s.chSt n = 0 ∨ s.chSt n = 4) : startCh n s = loadDesc n (setFld (F.dmaChStatCOUNT.dma n) 0 s) := by
  rw [startCh, if_neg (takesCommand hn hr), if_pos hst]

theorem startCh_read (hst : s.chSt n = 0 ∨ s.chSt n = 4) {v : State} {l : List Byte}
    (hrd : ioRead (dmaWho n) .general false (s.fld (F.dmaChCtrlASID.dma n)) (s.fld (F.dmaChDescADDR.dma n)) 64
      (loading n (setFld (F.dmaChStatCOUNT.dma n) 0 s)) = (.ok l, v)) :
    startCh n s = if descBad l (parseDesc l) (v.flag F.mmuCtrlPHYSOK) then chFault n 0 ⟨0x40, 0⟩ (s.fld (F.dmaChDescADDR.dma n)) v
      else setChan n { stage := .data, desc := some (parseDesc l) } v := by
  have hva := fld_setFld_dma_other (f := F.dmaChStatCOUNT) (g := F.dmaChDescADDR) n 0 s (by decide)
  rw [startCh_idle hn hr hst, ← hva]
  refine loadDesc_read ?_
  rwa [hva, fld_setFld_dma_other n 0 s (by decide)]

theorem startCh_fault (hst : s.chSt n = 0 ∨ s.chSt n = 4) {v : State} {e : VErr}
    (hrd : ioRead (dmaWho n) .general false (s.fld (F.dmaChCtrlASID.dma n)) (s.fld (F.dmaChDescADDR.dma n)) 64
      (loading n (setFld (F.dmaChStatCOUNT.dma n) 0 s)) = (.error e, v)) :
    startCh n s = chFault n (if e.walkRead then 4 else 0) e.cause e.va v := by
  rw [startCh_idle hn hr hst]
  refine loadDesc_fault ?_
  rwa [fld_setFld_dma_other n 0 s (by decide), fld_setFld_dma_other n 0 s (by decide)]

theorem startCh_busy (h0 : s.chSt n ≠ 0) (h4 : s.chSt n ≠ 4) :
    startCh n s = raise .mmu 1 { addr := 0x20024000 + n * 0x100, mstr := 255, typ := 2 } s := by
  rw [startCh, if_neg (takesCommand hn hr), if_neg (by simp [h0, h4])]

theorem resumeCh_stopped (hst : s.chSt n = 2 ∨ s.chSt n = 3) (hd : (s.chan n).desc ≠ none) :
    resumeCh n s = setFld (F.dmaChStatSTATE.dma n) 1 (setChan n { s.chan n with pausing := false } s) := by
  obtain ⟨d, hd⟩ := Option.ne_none_iff_exists'.1 hd
  rw [resumeCh, if_neg (takesCommand hn hr), if_pos hst, hd]

theorem abortCh_idle (hst : s.chSt n = 0) : abortCh n s = s := by
  rw [abortCh, if_neg (takesCommand hn hr), if_pos hst]

theorem abortCh_unloaded (hst : s.chSt n ≠ 0) (hd : (s.chan n).desc = none) :
    abortCh n s = setChan n {} (setFld (F.dmaChStatSTATE.dma n) 0 (setFld (F.dmaChStatRESULT.dma n) 0x41 s)) := by
  rw [abortCh, if_neg (takesCommand hn hr), if_neg hst]
  simp only [hd]

/-- ABORT leaves a channel that is not IDLE at IDLE, whatever its STATUS write did. -/
theorem abortCh_ends (hst : s.chSt n ≠ 0) :
    ∃ v, abortCh n s = setChan n {} (setFld (F.dmaChStatSTATE.dma n) 0 (setFld (F.dmaChStatRESULT.dma n) 0x41 v)) := by
  rw [abortCh, if_neg (takesCommand hn hr), if_neg hst]
  exact ⟨_, rfl⟩

end

/-! PAUSE (R94). -/

theorem pauseIf_goes {n : Nat} {s : State} (h : ¬ ((s.chan n).pausing = true ∧ s.chSt n = 1 ∧ s.atBoundary n = true)) :
    pauseIf n s = s := if_neg h

theorem pauseIf_stops {n : Nat} {s : State} (hp : (s.chan n).pausing = true) (hst : s.chSt n = 1) (hb : s.atBoundary n = true) :
    pauseIf n s = setFld (F.dmaChStatSTATE.dma n) 2 (setChan n { s.chan n with pausing := false } s) := if_pos ⟨hp, hst, hb⟩

theorem atBoundary_setPausing (n : Nat) (b : Bool) (s : State) :
    (setChan n { s.chan n with pausing := b } s).atBoundary n = s.atBoundary n := by
  simp only [State.atBoundary, chan_setChan_same, fld_setChan]

theorem pauseCh_running {n : Nat} {s : State} (hn : 8 ≤ n) (hr : s.inReset .mmu = false) (hst : s.chSt n = 1) :
    (pauseCh n s).chSt n = (if s.atBoundary n = true then 2 else 1) ∧
      (pauseCh n s).chan n = { s.chan n with pausing := !(s.atBoundary n) } ∧ ChanOnly n s (pauseCh n s) := by
  have hp : pauseCh n s = pauseIf n (setChan n { s.chan n with pausing := true } s) := by
    rw [pauseCh, if_neg (takesCommand hn hr), if_pos hst]
  rw [hp]
  cases hb : s.atBoundary n with
  | true =>
    rw [pauseIf_stops (by rw [chan_setChan_same]) (by rw [chSt_setChan, hst]) (by rw [atBoundary_setPausing, hb]), if_pos rfl]
    refine ⟨chSt_setState n _ (by decide), ?_, ((ChanOnly.refl n s).setChan _).setChan _ |>.setFld _ _⟩
    rw [chan_setFld, chan_setChan_same, chan_setChan_same]
    rfl
  | false =>
    rw [pauseIf_goes (by rw [atBoundary_setPausing, hb]; simp), if_neg (by decide)]
    exact ⟨(chSt_setChan ..).trans hst, chan_setChan_same .., (ChanOnly.refl n s).setChan _⟩

end Sys2Proof.Machine
end

section
/-! SUPPORT. Accesses of a general channel to plain physical memory (R90, R93): pages, and parts of a plain range. -/

namespace Sys2Proof.Machine

theorem region_eq_scratch_iff (s : State) (a : Nat) : s.region a = .scratch ↔ 0x11800000 ≤ a ∧ a < 0x12800000 := by
  simp only [State.region, ite_eq_iff, reduceCtorEq, and_false, false_or, and_true, or_false]
  omega

theorem region_eq_dram_iff (s : State) (a : Nat) : s.region a = .dram ↔ 0x800000000 ≤ a ∧ a < 0x800000000 + s.usable := by
  simp only [State.region, ite_eq_iff, reduceCtorEq, and_false, false_or, and_true, or_false]
  omega

theorem mem_wordsOf {a n x : Nat} : x ∈ wordsOf a n ↔ a / 16 ≤ x ∧ x ≤ (a + n - 1) / 16 := by
  simp only [wordsOf, List.mem_map, List.mem_range]
  constructor
  · rintro ⟨i, hi, rfl⟩
    omega
  · rintro ⟨h1, h2⟩
    exact ⟨x - a / 16, by omega, by omega⟩

/-- A part of a plain range that ends in the region it begins in is plain. -/
theorem plainMem_part {s : State} {a n b m : Nat} (h : s.plainMem a n) (hreg : s.region (a + n - 1) = s.region a)
    (hlo : a ≤ b) (hm : 0 < m) (hhi : b + m ≤ a + n) : s.plainMem b m := by
  obtain ⟨hr, -, hmark⟩ := h
  have hin : ∀ x, a ≤ x → x < a + n → s.region x = s.region a := fun x h1 h2 => by
    obtain hr | hr := hr
    · rw [hr, region_eq_dram_iff] at hreg ⊢
      rw [region_eq_dram_iff] at hr
      omega
    · rw [hr, region_eq_scratch_iff] at hreg ⊢
      rw [region_eq_scratch_iff] at hr
      omega
  refine ⟨by rwa [hin b hlo (by omega)], ?_, fun x hx => hmark x ?_⟩
  · rw [hin (b + m - 1) (by omega) (by omega)]
    obtain hr | hr := hr <;> rw [hr] <;> decide
  · rw [mem_wordsOf] at hx ⊢
    omega

theorem bytes_add (s : State) (a m n : Nat) : s.bytes a (m + n) = s.bytes a m ++ s.bytes (a + m) n := by
  simp only [State.bytes, List.range_add, List.map_append, List.map_map, Function.comp_def, Nat.add_assoc]

/-! The pages of a range. -/

theorem pageChunks_mem {f va n : Nat} {c : Nat × Nat} (h : c ∈ pageChunks f va n) : va ≤ c.1 ∧ 0 < c.2 ∧ c.1 + c.2 ≤ va + n := by
  induction f generalizing va n with
  | zero => simp [pageChunks] at h
  | succ f ih =>
    have hpage := Nat.mod_lt va (show 4096 > 0 by decide)
    rw [pageChunks] at h
    split at h
    · simp at h
    · obtain rfl | h := List.mem_cons.1 h
      · simp only
        omega
      · have := ih h
        omega

/-- The chunks of a range, in order, make up the range where there are enough of them. -/
theorem pageChunks_bytes (s : State) {f va n : Nat} (h : 0 < n → va % 4096 + n ≤ f * 4096) :
    (pageChunks f va n).flatMap (fun c => s.bytes c.1 c.2) = s.bytes va n := by
  induction f generalizing va n with
  | zero =>
    have hn : n = 0 := by omega
    subst hn
    rfl
  | succ f ih =>
    rw [pageChunks]
    split
    · next hn => subst hn; rfl
    · next hn =>
      have hrest : 0 < n - min n (4096 - va % 4096) →
          (va + min n (4096 - va % 4096)) % 4096 + (n - min n (4096 - va % 4096)) ≤ f * 4096 := fun hpos => by
        have hmin : min n (4096 - va % 4096) = 4096 - va % 4096 := by omega
        rw [hmin] at hpos ⊢
        omega
      rw [List.flatMap_cons, ih hrest, ← bytes_add, Nat.add_sub_cancel' (Nat.min_le_left ..)]

theorem pageChunks_one {va n : Nat} (f : Nat) (hn : 0 < n) (h : va % 4096 + n ≤ 4096) : pageChunks (f + 2) va n = [(va, n)] := by
  have hk : min n (4096 - va % 4096) = n := by omega
  simp only [pageChunks, hk, Nat.sub_self, if_true, if_neg (show n ≠ 0 by omega)]

/-! Physical transfers. -/

theorem ioXlate_phys {w : Who} {s : State} (hl : SMap.find s.hsLate w.late = none) (c : PClass) (k : Acc3) (asid va : Nat) :
    ioXlate w c k true asid va s = (.ok va, s) := by
  simp only [ioXlate, hl, if_true]

theorem ioReadChunks_plain {w : Who} {s : State} (hl : SMap.find s.hsLate w.late = none) (asid : Nat) {cs : List (Nat × Nat)}
    (hp : ∀ c ∈ cs, s.plainMem c.1 c.2) :
    ioReadChunks w .general true asid cs s = (.ok (cs.flatMap (fun c => s.bytes c.1 c.2)), s) := by
  induction cs with
  | nil => rfl
  | cons c cs ih =>
    have htail := ih fun x hx => hp x (List.mem_cons_of_mem _ hx)
    simp only [ioReadChunks, ioXlate_phys hl, memRead_plain w (hp c (List.mem_cons_self ..)), reduceCtorEq, false_and, if_false,
      htail, List.flatMap_cons]

/-- A physical read of plain memory that lies in one region. -/
theorem ioRead_plain {w : Who} {s : State} (hl : SMap.find s.hsLate w.late = none) (asid : Nat) {a n : Nat} (hp : s.plainMem a n)
    (hreg : s.region (a + n - 1) = s.region a) : ioRead w .general true asid a n s = (.ok (s.bytes a n), s) := by
  have hchunks : ∀ c ∈ pageChunks (n / 4096 + 2) a n, s.plainMem c.1 c.2 := fun c hc => by
    obtain ⟨hlo, hpos, hhi⟩ := pageChunks_mem hc
    exact plainMem_part hp hreg hlo hpos hhi
  have hpage := Nat.mod_lt a (show 4096 > 0 by decide)
  rw [ioRead, ioReadChunks_plain hl asid hchunks, pageChunks_bytes s (by omega)]

/-- A physical write of plain memory within one page stores its bytes. -/
theorem ioWrite_plain {w : Who} {s : State} (hl : SMap.find s.hsLate w.late = none) (asid : Nat) {a : Nat} {l : List Byte} (hne : l ≠ [])
    (hpage : a % 4096 + l.length ≤ 4096) (hp : s.plainMem a l.length) :
    ∃ t, ioWrite w .general true asid a l s = (none, t) ∧ MemOnly s t ∧ t.mem = (putBytes a l s).mem := by
  obtain ⟨ue, ce, hw, hue, hce⟩ := memWrite_plain w hne hp
  have hchunks := pageChunks_one (l.length / 4096) (List.length_pos_iff.2 hne) hpage
  refine ⟨unstale a l.length (putBytes a l { s with ue := ue, ce := ce }), ?_, ⟨rfl, hue, hce, dropBytes_subset⟩, rfl⟩
  simp only [ioWrite, hchunks, ioXlates, ioXlate_phys hl, ioWriteChunks, List.take_length, hw, snoopWrite, reduceCtorEq, false_and,
    if_false]

end Sys2Proof.Machine
end

section
/-! SUPPORT. One burst of a channel (R93, R94). -/

namespace Sys2Proof.Machine

/-- Byte `i` of a row as a FILL writes it. -/
def DmaDesc.fillByte (d : DmaDesc) (i : Nat) : Byte := BitVec.ofNat 8 (d.fill.toNat >>> (8 * (i % 8)))

/-- The bytes of a burst whose sides are physical and plain: the pattern of a FILL, or the source's bytes. -/
theorem burstBytes_plain {n : Nat} {d : DmaDesc} {row byte k : Nat} {s : State} (hl : SMap.find s.hsLate (64 + n) = none)
    (hsrc : d.kind ≠ 2 → d.physSrc = true ∧ s.plainMem (d.srcAt row byte) k ∧
      s.region (d.srcAt row byte + k - 1) = s.region (d.srcAt row byte)) :
    ∃ l, burstBytes n d row byte k s = (.ok l, s) ∧ l.length = k ∧
      ∀ i < k, l.getD i 0 = if d.kind = 2 then d.fillByte (byte + i) else s.byte (d.srcAt row byte + i) := by
  by_cases hk : d.kind = 2
  · refine ⟨(List.range k).map fun j => d.fillByte (byte + j), by rw [burstBytes, if_pos hk]; rfl, by simp, fun i hi => ?_⟩
    simp [hi, hk]
  · obtain ⟨hphys, hp, hreg⟩ := hsrc hk
    refine ⟨s.bytes (d.srcAt row byte) k, ?_, bytes_length .., fun i hi => ?_⟩
    · rw [burstBytes, if_neg hk, hphys, ioRead_plain hl _ hp hreg]
    · simp [State.bytes, hi, hk]

/-- The bytes up to the next 64-byte boundary, or the end of the row, lie in one page. -/
theorem burst_in_page (a m : Nat) : a % 4096 + min (64 - a % 64) m ≤ 4096 := by omega

/-- A burst that stops short of the row's end ends at a 64-byte destination boundary. -/
theorem dstAt_boundary {d : DmaDesc} {row byte k m : Nat} (hk : k = min (64 - d.dstAt row byte % 64) m) (hlt : k < m) :
    d.dstAt row (byte + k) % 64 = 0 := by
  simp only [DmaDesc.dstAt, sideAddr] at hk ⊢
  rw [Nat.cast_add, ← add_assoc]
  generalize (d.dst.toNat : Int) + (if d.kind = 0 then 0 else d.dstride) * row + byte = z at hk ⊢
  have hk64 : k = 64 - (z % 2 ^ 64).toNat % 64 := by omega
  omega

/-- The channel past a burst that moved k bytes from byte `byte` of row `row`: its position, and STATUS next after the last row. -/
def pastBurst (n : Nat) (d : DmaDesc) (row byte k : Nat) (v : State) : State :=
  let row' := if d.width ≤ byte + k then row + 1 else row
  let p := setFld (F.dmaChPosBYTE.dma n) (if d.width ≤ byte + k then 0 else byte + k) (setFld (F.dmaChPosROW.dma n) row' v)
  if d.rows ≤ row' then setChan n { v.chan n with stage := .status, desc := some d } p else p

theorem burstCh_moves {n : Nat} {d : DmaDesc} {s v : State} {l : List Byte} (hn : 8 ≤ n) (hr : s.inReset .mmu = false)
    (ho : s.outranked n = false) (hst : s.chSt n = 1) (hstage : (s.chan n).stage = .data) (hd : (s.chan n).desc = some d)
    {row byte k : Nat} (hrow : row = s.fld (F.dmaChPosROW.dma n)) (hbyte : byte = s.fld (F.dmaChPosBYTE.dma n))
    (hk : k = min (64 - d.dstAt row byte % 64) (d.width - byte)) (hb : burstBytes n d row byte k s = (.ok l, s))
    (hw : ioWrite (dmaWho n) .general d.physDst (s.fld (F.dmaChCtrlASID.dma n)) (d.dstAt row byte) l s = (none, v)) :
    burstCh n s = pauseIf n (pastBurst n d row byte k v) := by
  have hgo : ¬ (s.outranked n = true ∨ s.inReset .mmu = true ∨ n < 8) := by simp [hr, hn, ho]
  subst hrow hbyte hk
  simp only [burstCh, hst, hstage, hd, if_neg hgo, hb, hw]
  rfl

section
variable (n : Nat) {d : DmaDesc} {row byte k : Nat} (v : State)

theorem pastBurst_chanOnly : ChanOnly n v (pastBurst n d row byte k v) := by
  have hp := ((ChanOnly.refl n v).setFld (F.dmaChPosROW.dma n) (if d.width ≤ byte + k then row + 1 else row)).setFld
    (F.dmaChPosBYTE.dma n) (if d.width ≤ byte + k then 0 else byte + k)
  by_cases hlast : d.rows ≤ if d.width ≤ byte + k then row + 1 else row
  · simp only [pastBurst, if_pos hlast]
    exact hp.setChan _
  · simp only [pastBurst, if_neg hlast]
    exact hp

/-- A burst inside a row moves the position within the row, and leaves the rest of the channel as it was. -/
theorem pastBurst_inRow (hrow : row < d.rows) (hrows : d.rows < 2 ^ 32) (hw : d.width < 2 ^ 32) (hlt : byte + k < d.width) :
    (pastBurst n d row byte k v).fld (F.dmaChPosROW.dma n) = row ∧ (pastBurst n d row byte k v).fld (F.dmaChPosBYTE.dma n) = byte + k ∧
      (pastBurst n d row byte k v).chan n = v.chan n ∧ (pastBurst n d row byte k v).chSt n = v.chSt n := by
  simp only [pastBurst, if_neg (Nat.not_le.2 hlt), if_neg (Nat.not_le.2 hrow)]
  refine ⟨?_, ?_, rfl, ?_⟩
  · rw [fld_setFld_dma_other n _ _ (by decide), fld_setFld_dma_same]
    exact Nat.mod_eq_of_lt (hrow.trans hrows)
  · rw [fld_setFld_dma_same]
    exact Nat.mod_eq_of_lt (hlt.trans hw)
  · rw [chSt_setFld_other n _ _ (by decide), chSt_setFld_other n _ _ (by decide)]

/-- A burst that reaches the row's end goes to the next row, or to STATUS after the last. -/
theorem pastBurst_endRow (hrow : row < d.rows) (hrows : d.rows < 2 ^ 32) (hend : byte + k = d.width) :
    (pastBurst n d row byte k v).fld (F.dmaChPosROW.dma n) = row + 1 ∧ (pastBurst n d row byte k v).fld (F.dmaChPosBYTE.dma n) = 0 ∧
      ((pastBurst n d row byte k v).chan n).stage = (if row + 1 = d.rows then .status else (v.chan n).stage) ∧
      ((pastBurst n d row byte k v).chan n).pausing = (v.chan n).pausing ∧ (pastBurst n d row byte k v).chSt n = v.chSt n := by
  have hpos : ∀ p, p = setFld (F.dmaChPosBYTE.dma n) 0 (setFld (F.dmaChPosROW.dma n) (row + 1) v) →
      p.fld (F.dmaChPosROW.dma n) = row + 1 ∧ p.fld (F.dmaChPosBYTE.dma n) = 0 ∧ p.chSt n = v.chSt n := by
    rintro _ rfl
    refine ⟨?_, ?_, ?_⟩
    · rw [fld_setFld_dma_other n _ _ (by decide), fld_setFld_dma_same]
      exact Nat.mod_eq_of_lt (lt_of_le_of_lt hrow hrows)
    · rw [fld_setFld_dma_same, Nat.zero_mod]
    · rw [chSt_setFld_other n _ _ (by decide), chSt_setFld_other n _ _ (by decide)]
  obtain ⟨h1, h2, h3⟩ := hpos _ rfl
  simp only [pastBurst, if_pos hend.ge]
  by_cases hlast : row + 1 = d.rows
  · rw [if_pos hlast.ge, if_pos hlast, chan_setChan_same]
    exact ⟨h1, h2, rfl, rfl, h3⟩
  · rw [if_neg (by omega), if_neg hlast]
    exact ⟨h1, h2, rfl, rfl, h3⟩

end

/-! A pause that was asked for takes effect at a boundary (R94). -/

theorem pauseIf_chanOnly {n : Nat} {s t : State} (h : ChanOnly n s t) : ChanOnly n s (pauseIf n t) := by
  unfold pauseIf
  split
  · exact (h.setChan _).setFld _ _
  · exact h

theorem pauseIf_fld {f : Fld} (n : Nat) (s : State) (hf : f.key ≠ F.dmaChStatSTATE.key) :
    (pauseIf n s).fld (f.dma n) = s.fld (f.dma n) := by
  unfold pauseIf
  split
  · rw [fld_setFld_dma_other n _ _ hf, fld_setChan]
  · rfl

theorem pauseIf_stage (n : Nat) (s : State) : ((pauseIf n s).chan n).stage = (s.chan n).stage := by
  unfold pauseIf
  split
  · rw [chan_setFld, chan_setChan_same]
  · rfl

theorem pauseIf_paused {n : Nat} {s : State} (hst : s.chSt n = 1) (hb : (s.chan n).pausing = true → s.atBoundary n = true) :
    (pauseIf n s).chSt n = (if (s.chan n).pausing then 2 else 1) ∧ ((pauseIf n s).chan n).pausing = false := by
  cases hp : (s.chan n).pausing with
  | true =>
    rw [pauseIf_stops hp hst (hb hp), if_pos rfl, chan_setFld, chan_setChan_same]
    exact ⟨chSt_setState n _ (by decide), rfl⟩
  | false =>
    rw [pauseIf_goes (by simp [hp]), if_neg (by decide)]
    exact ⟨hst, hp⟩

/-- The channel after a burst (R93, R94): its position, its stage, and its STATE where a pause was asked for. -/
theorem pauseIf_pastBurst {n : Nat} {d : DmaDesc} {row byte k : Nat} {v : State} (hst : v.chSt n = 1) (hstage : (v.chan n).stage = .data)
    (hd : (v.chan n).desc = some d) (hrow : row < d.rows) (hrows : d.rows < 2 ^ 32) (hw : d.width < 2 ^ 32)
    (hk : k = min (64 - d.dstAt row byte % 64) (d.width - byte)) (hlt : byte < d.width)
    (hpause : (v.chan n).pausing = true → byte + k < d.width) {t : State} (ht : t = pauseIf n (pastBurst n d row byte k v)) :
    (byte + k < d.width → t.fld (F.dmaChPosROW.dma n) = row ∧ t.fld (F.dmaChPosBYTE.dma n) = byte + k) ∧
      (byte + k = d.width → t.fld (F.dmaChPosROW.dma n) = row + 1 ∧ t.fld (F.dmaChPosBYTE.dma n) = 0) ∧
      (t.chan n).stage = (if byte + k = d.width ∧ row + 1 = d.rows then .status else .data) ∧
      t.chSt n = (if (v.chan n).pausing then 2 else 1) ∧ (t.chan n).pausing = false := by
  rw [ht, pauseIf_fld n _ (by decide), pauseIf_fld n _ (by decide), pauseIf_stage]
  by_cases hin : byte + k < d.width
  · obtain ⟨h1, h2, h3, h4⟩ := pastBurst_inRow n v hrow hrows hw hin
    have hb : (pastBurst n d row byte k v).atBoundary n = true := by
      simp only [State.atBoundary, h1, h2, h3, hstage, hd, dstAt_boundary hk (by omega), BEq.rfl]
    have hpaused := pauseIf_paused (h4.trans hst) fun _ => hb
    rw [h3] at hpaused
    refine ⟨fun _ => ⟨h1, h2⟩, fun h => absurd h hin.ne, ?_, hpaused⟩
    rw [h3, hstage, if_neg fun h => hin.ne h.1]
  · have hend : byte + k = d.width := by omega
    obtain ⟨h1, h2, h3, h4, h5⟩ := pastBurst_endRow n v hrow hrows hend
    have hpaused := pauseIf_paused (h5.trans hst) fun h => absurd (hpause (h4 ▸ h)) hin
    rw [h4] at hpaused
    refine ⟨fun h => absurd h hin, fun _ => ⟨h1, h2⟩, ?_, hpaused⟩
    simp only [h3, hstage, hend, true_and]

/-! What a store of bytes leaves of the channels. -/

theorem MemOnly.chan {s t : State} (h : MemOnly s t) (m : Nat) : t.chan m = s.chan m := by rw [h.eq]; rfl
theorem MemOnly.chSt {s t : State} (h : MemOnly s t) (m : Nat) : t.chSt m = s.chSt m := by rw [h.eq]; rfl
theorem MemOnly.evt {s t : State} (h : MemOnly s t) : t.evt = s.evt := by rw [h.eq]
theorem MemOnly.mel {s t : State} (h : MemOnly s t) : t.mel = s.mel := by rw [h.eq]

/-- A burst between plain physical memories (R93): it writes its k bytes, then the position moves and a pause takes effect. -/
theorem burstCh_plain {n : Nat} {d : DmaDesc} {s : State} (hn : 8 ≤ n) (hr : s.inReset .mmu = false) (ho : s.outranked n = false)
    (hst : s.chSt n = 1) (hstage : (s.chan n).stage = .data) (hd : (s.chan n).desc = some d) (hphys : d.physDst = true)
    (hwf : Memory.wf s.mem = true) (hl : SMap.find s.hsLate (64 + n) = none) {row byte k : Nat}
    (hrow : row = s.fld (F.dmaChPosROW.dma n)) (hbyte : byte = s.fld (F.dmaChPosBYTE.dma n))
    (hk : k = min (64 - d.dstAt row byte % 64) (d.width - byte)) (hlt : byte < d.width) (hdst : s.plainMem (d.dstAt row byte) k)
    (hsrc : d.kind ≠ 2 → d.physSrc = true ∧ s.plainMem (d.srcAt row byte) k ∧
      s.region (d.srcAt row byte + k - 1) = s.region (d.srcAt row byte)) :
    ∃ v, burstCh n s = pauseIf n (pastBurst n d row byte k v) ∧ MemOnly s v ∧
      ∀ x, v.byte x = if d.dstAt row byte ≤ x ∧ x < d.dstAt row byte + k then
        (if d.kind = 2 then d.fillByte (byte + (x - d.dstAt row byte)) else s.byte (d.srcAt row byte + (x - d.dstAt row byte)))
        else s.byte x := by
  obtain ⟨l, hb, hlen, hget⟩ := burstBytes_plain (byte := byte) (k := k) hl hsrc
  have hpos : 0 < k := by omega
  have hpage : d.dstAt row byte % 4096 + l.length ≤ 4096 := by
    rw [hlen, hk]
    exact burst_in_page ..
  obtain ⟨v, hw, hmo, hmem⟩ := ioWrite_plain (w := dmaWho n) hl (s.fld (F.dmaChCtrlASID.dma n))
    (List.length_pos_iff.1 (hlen ▸ hpos)) hpage (hlen ▸ hdst)
  refine ⟨v, burstCh_moves hn hr ho hst hstage hd hrow hbyte hk hb (hphys ▸ hw), hmo, fun x => ?_⟩
  have hx : v.byte x = (putBytes (d.dstAt row byte) l s).byte x := by rw [State.byte, hmem]; rfl
  rw [hx, byte_putBytes _ _ _ _ hwf, hlen]
  split
  · next hin => exact hget _ (by omega)
  · rfl

end Sys2Proof.Machine
end

section
/-! The DMA channels: their commands, and a burst between plain memories. -/

namespace Sys2Proof.Machine

/-- Settles O16: command by command and state by state, then one burst. -/
theorem dmaCommandsAndFill : Obligations.DmaCommandsAndFill := by
  unfold Obligations.DmaCommandsAndFill
  refine ⟨fun n s hr => ?_, fun n d s hn hr ho hst hstage hd hkind hphys hwf hl => ?_⟩
  · refine ⟨fun hn => ⟨congrArg _ (startCh_low s hn), congrArg _ (resumeCh_low s hn), congrArg _ (pauseCh_low s hn),
      congrArg _ (abortCh_low s hn), congrArg _ (burstCh_low s hn), congrArg _ (completeCh_low s hn)⟩, fun hn hst => ⟨fun l v hrd => ?_,
      fun e v hrd => ?_⟩, fun hn h0 h4 => congrArg _ (startCh_busy hn hr h0 h4), fun hn hst => ?_,
      fun hn hst hd => congrArg _ (resumeCh_stopped hn hr hst hd), fun hn hst => congrArg _ (abortCh_idle hn hr hst),
      fun hn hst hd => congrArg _ (abortCh_unloaded hn hr hst hd), fun hn hst d hd => ?_⟩
    · have hstart := startCh_read hn hr hst hrd
      exact ⟨fun hok => congrArg _ (hstart.trans (if_neg (by rw [hok]; decide))), fun hbad => congrArg _ (hstart.trans (if_pos hbad))⟩
    · exact congrArg _ (startCh_fault hn hr hst hrd)
    · obtain ⟨hst', hchan, ho⟩ := pauseCh_running hn hr hst
      exact ⟨_, rfl, hst', hchan, ho.chan, ho.mem, ho.evt, ho.flt⟩
    · obtain ⟨v, hv⟩ := abortCh_ends hn hr (show s.chSt n ≠ 0 by omega)
      refine ⟨_, rfl, ?_⟩
      rw [hv, chSt_setChan, fld_setChan, chan_setChan_same]
      refine ⟨chSt_setState n.val _ (by decide), ?_, rfl⟩
      rw [fld_setFld_dma_other n.val _ _ (by decide)]
      exact fld_setFld_dma_same ..
  · intro row byte at_ a b k hlt hrow hrows hwidth hdst hsrc hpause
    obtain ⟨v, hrun, hmo, hbytes⟩ := burstCh_plain hn hr ho hst hstage hd hphys hwf hl (k := k) rfl rfl rfl hlt hdst hsrc
    have ht := pauseIf_chanOnly (pastBurst_chanOnly n.val (d := d) (row := row) (byte := byte) (k := k) v)
    have hchan := hmo.chan n.val
    obtain ⟨hin, hend, hstage', hst', hpausing⟩ := pauseIf_pastBurst ((hmo.chSt _).trans hst) (hchan ▸ hstage) (hchan ▸ hd) hrow hrows
      hwidth rfl hlt (hchan ▸ hpause) hrun
    rw [← hrun] at ht
    refine ⟨_, rfl, fun x => ?_, hin, hend, hstage', hchan ▸ hst', hpausing, fun m hm => (ht.chan m hm).trans (hmo.chan m),
      ht.evt.trans hmo.evt, ht.mel.trans hmo.mel⟩
    exact (congrArg (SMap.get · x 0) ht.mem).trans (hbytes x)

end Sys2Proof.Machine
end

section
/-! SUPPORT. The fields of one register of an array, and what the operations on a queue leave unchanged (R106–R112). -/

namespace Sys2Proof.Machine

theorem key_at (f : Fld) (off : Nat) : (f.at off).key = f.key + off * 64 := by
  simp only [Fld.key, Fld.at]
  omega

/-- Another field of the same place in its array. -/
theorem fld_setFld_at_other {f g : Fld} (off v : Nat) (s : State) (h : g.key ≠ f.key) :
    (setFld (f.at off) v s).fld (g.at off) = s.fld (g.at off) :=
  fld_setFld_other v s (by rw [key_at, key_at]; omega)

theorem flag_setFld_at_other {f g : Fld} (off v : Nat) (s : State) (h : g.key ≠ f.key) :
    (setFld (f.at off) v s).flag (g.at off) = s.flag (g.at off) := by
  simp only [State.flag, fld_setFld_at_other off v s h]

/-- Between s and t nothing changed but the queue manager's cells, its queue q, the pool's low mark and the MARK_LOST flag of q. -/
structure QueueOnly (q : Nat) (s t : State) : Prop where
  eq : t = { s with regs := t.regs, qm := { s.qm with cells := t.qm.cells, cellUe := t.qm.cellUe, queues := t.qm.queues } }
  queue : ∀ p, p ≠ q → t.queue p = s.queue p
  fld : ∀ f : Fld, f.key ≠ F.qmPoolLOW.key → f.key ≠ (F.qmQStatMARKLOST.q q).key → t.fld f = s.fld f

namespace QueueOnly

theorem refl (q : Nat) (s : State) : QueueOnly q s s := ⟨rfl, fun _ _ => rfl, fun _ _ _ => rfl⟩

variable {q : Nat} {s t u : State}

theorem trans (h : QueueOnly q s t) (h' : QueueOnly q t u) : QueueOnly q s u :=
  ⟨by rw [h'.eq, h.eq], fun p hp => (h'.queue p hp).trans (h.queue p hp),
    fun f hl hm => (h'.fld f hl hm).trans (h.fld f hl hm)⟩

theorem setQueue (h : QueueOnly q s t) (v : QueueState) : QueueOnly q s (setQueue q v t) :=
  h.trans ⟨rfl, fun _ hp => queue_setQueue_other v t hp, fun _ _ _ => rfl⟩

theorem setPtrs (h : QueueOnly q s t) (p : QPtrs) : QueueOnly q s (setPtrs q p t) := h.setQueue _

theorem setCells (h : QueueOnly q s t) (cells : SMap QCell) (ue : List Nat) :
    QueueOnly q s { t with qm := { t.qm with cells := cells, cellUe := ue } } :=
  h.trans ⟨rfl, fun _ _ => rfl, fun _ _ _ => rfl⟩

theorem freeList (h : QueueOnly q s t) (l : List Nat) : QueueOnly q s (freeList l t) := h.setCells _ _

theorem setMarkLost (h : QueueOnly q s t) (v : Bool) : QueueOnly q s (setFlag (F.qmQStatMARKLOST.q q) v t) :=
  h.trans ⟨rfl, fun _ _ => rfl, fun _ _ hm => fld_setFld_other _ t hm⟩

theorem noteLow (h : QueueOnly q s t) : QueueOnly q s (noteLow t) := by
  unfold Machine.noteLow
  split
  · exact h.trans ⟨rfl, fun _ _ => rfl, fun _ hl _ => fld_setFld_other _ t hl⟩
  · exact h

theorem dropMark (h : QueueOnly q s t) : QueueOnly q s (dropMark q t) := (h.freeList _).setPtrs _

theorem dropCells (h : QueueOnly q s t) (cs : List Nat) : QueueOnly q s (dropCells q cs t) := (h.freeList _).setPtrs _

theorem allocItem (h : QueueOnly q s t) (idle : Bool) (bytes : List Byte) (idx : List Nat) :
    QueueOnly q s (allocItem q idle bytes idx t) := ((h.setCells _ _).setPtrs _).noteLow

theorem linkItem (h : QueueOnly q s t) (idx : List Nat) : QueueOnly q s (linkItem q idx t) := (h.setCells _ _).setPtrs _

theorem unlinkHead (h : QueueOnly q s t) : QueueOnly q s (unlinkHead q t) := by
  simp only [Machine.unlinkHead]
  split
  · exact h
  · split
    · exact h.setPtrs _
    · exact (h.freeList _).setPtrs _

section
variable (h : QueueOnly q s t)
include h

theorem mem : t.mem = s.mem := by rw [h.eq]
theorem inReset (b : Blk) : t.inReset b = s.inReset b := by rw [h.eq]; rfl
theorem parks : t.qm.parks = s.qm.parks := by rw [h.eq]
theorem popParked (p : Nat) : t.popParked p = s.popParked p := by rw [h.eq]; rfl

/-- The registers of the command slots stand. -/
theorem slot {f : Fld} {k : Nat} (hlo : F.qmPoolLOW.key < f.key) (hhi : f.key < 0x20031020 * 64) (hk : k < 64) :
    t.fld (f.slot k) = s.fld (f.slot k) := by
  have hmark : 0x20038000 * 64 ≤ F.qmQStatMARKLOST.key := by decide
  refine h.fld _ ?_ ?_ <;> simp only [Fld.q, Fld.slot, key_at] <;> omega

theorem slotSt {k : Nat} (hk : k < 64) : t.slotSt k = s.slotSt k := h.slot (by decide) (by decide) hk

/-- The configuration of every queue stands. -/
theorem cfg {f : Fld} {p : Nat} (hlo : F.qmQCfgQUOTA.key ≤ f.key) (hhi : f.key < F.qmQCfgQUOTA.key + 64) :
    t.fld (f.q p) = s.fld (f.q p) := by
  have hlow : F.qmPoolLOW.key < F.qmQCfgQUOTA.key := by decide
  have hmark : F.qmQStatMARKLOST.key = F.qmQCfgQUOTA.key + (8 * 64 + 60) := by decide
  refine h.fld _ ?_ ?_ <;> simp only [Fld.q, key_at] <;> omega

theorem enabled (p : Nat) : t.flag (F.qmQCfgEN.q p) = s.flag (F.qmQCfgEN.q p) := by
  rw [State.flag, State.flag, h.cfg (by decide) (by decide)]

end
end QueueOnly

end Sys2Proof.Machine
end

section
/-! SUPPORT. The cells of an item (R106, R107): which are taken, what each holds, and what is read along their links. -/

namespace Sys2Proof.Machine

theorem SMap.mem_keys_of_find {α : Type} {m : SMap α} {a : Nat} (h : (SMap.find m a).isSome = true) : a ∈ m.map Prod.fst := by
  induction m with
  | nil => simp at h
  | cons e m ih =>
    unfold SMap.find at h
    rw [List.map_cons, List.mem_cons]
    split at h
    · exact Or.inl ‹_›
    · split at h
      · simp at h
      · exact Or.inr (ih h)

/-- Writes of a list of entries leave the other keys. -/
theorem SMap.find_foldl_put_other {α : Type} {l : List (Nat × α)} {a : Nat} (h : a ∉ l.map Prod.fst) (m : SMap α) :
    SMap.find (l.foldl (fun m e => SMap.put m e.1 e.2) m) a = SMap.find m a := by
  induction l generalizing m with
  | nil => rfl
  | cons e l ih =>
    rw [List.map_cons, List.mem_cons, not_or] at h
    rw [List.foldl_cons, ih h.2, SMap.find_put_other _ _ h.1]

/-- Writes of entries with distinct keys: each key holds its entry. -/
theorem SMap.find_foldl_put_mem {α : Type} {l : List (Nat × α)} (hl : (l.map Prod.fst).Nodup) {e : Nat × α} (h : e ∈ l) (m : SMap α) :
    SMap.find (l.foldl (fun m e => SMap.put m e.1 e.2) m) e.1 = some e.2 := by
  induction l generalizing m with
  | nil => simp at h
  | cons x l ih =>
    rw [List.map_cons, List.nodup_cons] at hl
    rw [List.foldl_cons]
    rcases List.mem_cons.1 h with rfl | h
    · rw [SMap.find_foldl_put_other hl.1, SMap.find_put_same]
    · exact ih hl.2 h _

/-! The cells that a push takes. -/

/-- As many cells as the table lists cannot fill a longer range of numbers. -/
theorem length_unlisted {α : Type} (m : SMap α) (n : Nat) :
    n ≤ ((List.range (m.length + n)).filter (fun i => (SMap.find m i).isNone)).length := by
  have hsplit := List.length_eq_length_filter_add (l := List.range (m.length + n)) (fun i => (SMap.find m i).isNone)
  have hlisted : ((List.range (m.length + n)).filter (fun i => !(SMap.find m i).isNone)).length ≤ m.length := by
    rw [← List.length_map Prod.fst (as := m)]
    refine (List.subperm_of_subset (List.nodup_range.filter _) fun a ha => ?_).length_le
    exact SMap.mem_keys_of_find (by simpa [Option.ne_none_iff_isSome] using (List.mem_filter.1 ha).2)
  rw [List.length_range] at hsplit
  omega

@[simp] theorem takeCells_length (s : State) (n : Nat) : (s.takeCells n).length = n := by
  rw [State.takeCells, List.length_take]
  exact min_eq_left (length_unlisted _ n)

theorem takeCells_nodup (s : State) (n : Nat) : (s.takeCells n).Nodup :=
  (List.nodup_range.filter _).sublist (List.take_sublist _ _)

theorem takeCells_free {s : State} {n i : Nat} (h : i ∈ s.takeCells n) : SMap.find s.qm.cells i = none := by
  simpa using (List.mem_filter.1 (List.mem_of_mem_take h)).2

theorem takeCells_one (s : State) : ∃ i, s.takeCells 1 = [i] ∧ SMap.find s.qm.cells i = none := by
  obtain ⟨i, hi⟩ := List.length_eq_one_iff.1 (takeCells_length s 1)
  exact ⟨i, hi, takeCells_free (hi ▸ List.mem_singleton_self i)⟩

theorem cellsFor_small {n : Nat} (h : n ≤ 56) : cellsFor n = 1 := by
  unfold cellsFor
  omega

/-! What the cells of an item hold. -/

/-- Cell j of an item. -/
def itemCell (q : Nat) (idle : Bool) (bytes : List Byte) (idx : List Nat) (j : Nat) : QCell :=
  { payload := slice bytes (56 * j) 56, next := idx.getD (j + 1) 0, owner := q, first := j == 0,
    last := j + 1 == idx.length, idle := idle, len := if j = 0 then bytes.length else 0 }

theorem mkCells_eq (q : Nat) (idle : Bool) (bytes : List Byte) (idx : List Nat) : mkCells q idle bytes idx =
    (List.range idx.length).map (fun j => (idx.getD j 0, itemCell q idle bytes idx j)) := rfl

theorem map_getD_range (idx : List Nat) : (List.range idx.length).map (idx.getD · 0) = idx := by
  refine List.ext_getElem (by simp) fun j hj _ => ?_
  rw [List.length_map, List.length_range] at hj
  simp [hj]

theorem mkCells_keys (q : Nat) (idle : Bool) (bytes : List Byte) (idx : List Nat) :
    (mkCells q idle bytes idx).map Prod.fst = idx := by
  rw [mkCells_eq, List.map_map]
  exact map_getD_range idx

/-- An item of queue q stands in the cells idx. -/
def ItemAt (q : Nat) (idle : Bool) (bytes : List Byte) (idx : List Nat) (cells : SMap QCell) : Prop :=
  ∀ j < idx.length, SMap.find cells (idx.getD j 0) = some (itemCell q idle bytes idx j)

theorem noteLow_qm (s : State) : (noteLow s).qm = s.qm := by
  unfold noteLow
  split <;> rfl

theorem allocItem_cells (q : Nat) (idle : Bool) (bytes : List Byte) (idx : List Nat) (s : State) :
    (allocItem q idle bytes idx s).qm.cells = (mkCells q idle bytes idx).foldl (fun m e => SMap.put m e.1 e.2) s.qm.cells := by
  simp only [allocItem, noteLow_qm]
  rfl

theorem allocItem_cellUe (q : Nat) (idle : Bool) (bytes : List Byte) (idx : List Nat) (s : State) :
    (allocItem q idle bytes idx s).qm.cellUe = s.qm.cellUe := by
  simp only [allocItem, noteLow_qm]
  rfl

theorem allocItem_itemAt (q : Nat) (idle : Bool) (bytes : List Byte) {idx : List Nat} (h : idx.Nodup) (s : State) :
    ItemAt q idle bytes idx (allocItem q idle bytes idx s).qm.cells := by
  intro j hj
  have hmem : (idx.getD j 0, itemCell q idle bytes idx j) ∈ mkCells q idle bytes idx :=
    List.mem_map.2 ⟨j, List.mem_range.2 hj, rfl⟩
  rw [allocItem_cells]
  exact SMap.find_foldl_put_mem (e := (idx.getD j 0, itemCell q idle bytes idx j)) (by rwa [mkCells_keys]) hmem _

theorem allocItem_find_other {q : Nat} {idle : Bool} {bytes : List Byte} {idx : List Nat} {i : Nat} (h : i ∉ idx) (s : State) :
    SMap.find (allocItem q idle bytes idx s).qm.cells i = SMap.find s.qm.cells i := by
  rw [allocItem_cells]
  exact SMap.find_foldl_put_other (by rwa [mkCells_keys]) _

namespace ItemAt

variable {q : Nat} {idle : Bool} {bytes : List Byte} {idx : List Nat} {cells : SMap QCell}

theorem get (h : ItemAt q idle bytes idx cells) {j : Nat} (hj : j < idx.length) (d : QCell) :
    SMap.get cells (idx.getD j 0) d = itemCell q idle bytes idx j := by
  rw [SMap.get, h j hj]
  rfl

/-- The links lead from each cell to the next, up to the last. -/
theorem itemCells_from (h : ItemAt q idle bytes idx cells) {fuel j : Nat} (hj : j < idx.length) (hf : idx.length ≤ fuel + j) :
    itemCells cells fuel (idx.getD j 0) = idx.drop j := by
  induction fuel generalizing j with
  | zero => omega
  | succ n ih =>
    rw [List.drop_eq_getElem_cons hj, itemCells, h.get hj, List.getD_eq_getElem idx 0 hj]
    by_cases hlast : j + 1 = idx.length
    · rw [if_pos (by simp [itemCell, hlast]), hlast, List.drop_length]
    · rw [if_neg (by simp [itemCell, hlast])]
      exact congrArg _ (ih (by omega) (by omega))

theorem itemCells_head (h : ItemAt q idle bytes idx cells) (hne : 0 < idx.length) (hlen : idx.length ≤ 64) :
    itemCells cells 64 (idx.headD 0) = idx := by
  have := h.itemCells_from (fuel := 64) hne (by omega)
  rwa [List.drop_zero, ← List.headD_eq_getD] at this

theorem owned {s : State} (h : ItemAt q idle bytes idx s.qm.cells) : cellsOwned q idx s = true := by
  refine List.all_eq_true.2 fun i hi => ?_
  obtain ⟨j, hj, rfl⟩ := List.getElem_of_mem hi
  rw [← List.getD_eq_getElem idx 0 hj, h.get hj]
  exact beq_self_eq_true q

end ItemAt

/-- Slices of 56 bytes, one after the other. -/
theorem flatMap_slices (bytes : List Byte) (n : Nat) : (List.range n).flatMap (fun j => slice bytes (56 * j) 56) = bytes.take (56 * n) := by
  induction n with
  | zero => rfl
  | succ n ih => rw [List.range_succ, List.flatMap_append, ih, List.flatMap_singleton, slice, Nat.mul_succ, List.take_add]

/-- The payloads of an item's cells hold its bytes. -/
theorem ItemAt.payloads {q : Nat} {idle : Bool} {bytes : List Byte} {idx : List Nat} {cells : SMap QCell}
    (h : ItemAt q idle bytes idx cells) (hlen : bytes.length ≤ 56 * idx.length) :
    idx.flatMap (fun i => (SMap.get cells i {}).payload) = bytes := by
  calc idx.flatMap (fun i => (SMap.get cells i {}).payload)
      = ((List.range idx.length).map (idx.getD · 0)).flatMap (fun i => (SMap.get cells i {}).payload) := by rw [map_getD_range]
    _ = (List.range idx.length).flatMap (fun j => slice bytes (56 * j) 56) := by
        rw [List.flatMap_map]
        refine List.flatMap_congr fun j hj => ?_
        rw [h.get (List.mem_range.1 hj)]
        rfl
    _ = bytes := by rw [flatMap_slices, List.take_of_length_le hlen]

end Sys2Proof.Machine
end

section
/-! SUPPORT. A queue's pointers after each operation on its items, and the judgement of a push (R107, R111, R112). -/

namespace Sys2Proof.Machine

@[simp] theorem queue_setPtrs_same (q : Nat) (p : QPtrs) (s : State) : (setPtrs q p s).queue q = { s.queue q with a := p, b := p } := by
  simp [setPtrs]

@[simp] theorem queue_freeList (l : List Nat) (q : Nat) (s : State) : (freeList l s).queue q = s.queue q := rfl

theorem queue_allocItem (q : Nat) (idle : Bool) (bytes : List Byte) (idx : List Nat) (s : State) :
    (allocItem q idle bytes idx s).queue q =
      { s.queue q with a := { (s.queue q).a with cells := (s.queue q).a.cells + idx.length },
                       b := { (s.queue q).a with cells := (s.queue q).a.cells + idx.length } } := by
  rw [allocItem, State.queue, noteLow_qm]
  exact queue_setPtrs_same _ _ _

/-- The pointers once an item in the cells idx is linked (R106). -/
def QPtrs.linked (p : QPtrs) (idx : List Nat) : QPtrs :=
  { p with head := if p.head.isNone then some (idx.headD 0) else p.head, tail := some (idx.getLastD 0), items := p.items + 1,
           markAt := if p.marked && p.markAt.isNone then some (idx.headD 0) else p.markAt }

theorem QPtrs.linked_head (p : QPtrs) (idx : List Nat) :
    (p.linked idx).head = if p.head = none then some (idx.headD 0) else p.head := by
  simp [QPtrs.linked]

theorem queue_linkItem (q : Nat) (idx : List Nat) (s : State) :
    (linkItem q idx s).queue q = { s.queue q with a := (s.queue q).a.linked idx, b := (s.queue q).a.linked idx } :=
  queue_setPtrs_same _ _ _

theorem linkItem_cells_none {q : Nat} {s : State} (h : (s.queue q).a.tail = none) (idx : List Nat) :
    (linkItem q idx s).qm.cells = s.qm.cells := by
  simp only [linkItem, setPtrs, setQueue, h]

/-- Linking writes the link of the cell that was last, and no other cell. -/
theorem linkItem_cells_some {q t : Nat} {s : State} (h : (s.queue q).a.tail = some t) (idx : List Nat) :
    (linkItem q idx s).qm.cells = SMap.put s.qm.cells t { SMap.get s.qm.cells t {} with next := idx.headD 0 } := by
  simp only [linkItem, setPtrs, setQueue, h]

theorem linkItem_cellUe (q : Nat) (idx : List Nat) (s : State) :
    (linkItem q idx s).qm.cellUe = s.qm.cellUe.filter (fun i => !(idx.contains i)) := rfl

/-- The pointers once the only item has left a queue without a mark. -/
def QPtrs.emptied (p : QPtrs) (n : Nat) : QPtrs := { p with items := p.items - 1, head := none, cells := p.cells - n, tail := none }

theorem queue_unlinkHead_last {q h : Nat} {s : State} (hh : (s.queue q).a.head = some h) (hm : (s.queue q).a.marked = false)
    (hone : (s.queue q).a.items ≤ 1) : (unlinkHead q s).queue q =
      { s.queue q with a := (s.queue q).a.emptied (itemCells s.qm.cells 64 h).length,
                       b := (s.queue q).a.emptied (itemCells s.qm.cells 64 h).length } := by
  simp only [unlinkHead, hh, hm, Bool.false_eq_true, if_false, if_pos hone, queue_setPtrs_same, queue_freeList,
    QPtrs.emptied]

/-! The judgements. -/

theorem queueCheck_passes {q : Nat} {s : State} (hen : s.flag (F.qmQCfgEN.q q) = true) (hst : (s.queue q).st = .ok)
    (hab : (s.queue q).a = (s.queue q).b) : queueCheck q s = (none, s) := by
  simp [queueCheck, hen, hst, ptrsAgree, hab]

theorem queueCheck_of_none {q : Nat} {s : State} (h : (queueCheck q s).1 = none) :
    queueCheck q s = (none, s) ∧ s.flag (F.qmQCfgEN.q q) = true := by
  revert h
  unfold queueCheck
  by_cases hen : s.flag (F.qmQCfgEN.q q) = true
  · rw [if_neg (by simp [hen])]
    split_ifs <;> simp [hen]
  · rw [if_pos (by simp [hen])]
    simp

/-- Nothing is retained where no mark has passed an item. -/
theorem retained_nil {cells : SMap QCell} {p : QPtrs} (h : p.markAt = none) : retained cells p = [] := by
  simp [retained, h]

/-- A push of a queue that retains nothing: it goes on where quota and pool have room. -/
theorem judgePush_room {q n : Nat} {s : State} (hmark : (s.queue q).a.markAt = none)
    (hquota : (s.queue q).a.cells + n ≤ s.fld (F.qmQCfgQUOTA.q q)) (hr : s.inReset .qm = false) (hfree : n ≤ s.freeCells) :
    judgePush q n s = (none, s) := by
  simp [judgePush, retained_nil hmark, hr, Nat.not_lt.2 hquota, Nat.not_lt.2 hfree]

theorem judgePush_none_unretained {q n : Nat} {s w : State} (hmark : (s.queue q).a.markAt = none) (h : judgePush q n s = (none, w)) :
    w = s := by
  revert h
  simp only [judgePush, retained_nil hmark, ne_eq, not_true, and_false, if_false]
  split_ifs <;> rintro ⟨⟩
  rfl

/-- A push judged to go on has changed nothing but its queue, whose mark it may have dropped (R111). -/
theorem judgePush_none_queueOnly {q n : Nat} {s w : State} (h : judgePush q n s = (none, w)) : QueueOnly q s w := by
  revert h
  simp only [judgePush]
  split_ifs <;> rintro ⟨⟩
  · exact ((QueueOnly.refl q s).dropMark.setQueue _).setMarkLost true
  · exact .refl q s

end Sys2Proof.Machine
end

section
/-! What a hardware block pushes and the next hardware pop takes (R106, R107). -/

namespace Sys2Proof.Machine

theorem hwPush_succeeds {q : Nat} {bytes : List Byte} {s t : State} (h : hwPush q bytes s = (true, t)) :
    s.flag (F.qmQCfgEN.q q) = true ∧ ∃ w, judgePush q (cellsFor bytes.length) s = (none, w) ∧
      t = linkItem q (w.takeCells (cellsFor bytes.length))
        (allocItem q false bytes (w.takeCells (cellsFor bytes.length)) w) := by
  simp only [hwPush] at h
  cases hc : (queueCheck q s).1 with
  | some r => simp [hc] at h
  | none =>
    obtain ⟨hcheck, hen⟩ := queueCheck_of_none hc
    rw [hcheck] at h
    simp only at h
    rcases hj : judgePush q (cellsFor bytes.length) s with ⟨_ | r, w⟩
    · simp only [hj, Prod.mk.injEq, true_and] at h
      exact ⟨hen, w, rfl, h.symm⟩
    · simp [hj] at h

/-- A hardware pop of a whole item with no error in its cells takes its bytes. -/
theorem hwPop_item {q : Nat} {idle : Bool} {bytes : List Byte} {idx : List Nat} {t : State} (hcheck : queueCheck q t = (none, t))
    (hhead : (t.queue q).a.head = some (idx.headD 0)) (hr : t.inReset .qm = false) (hparked : t.popParked q = false)
    (hue : t.qm.cellUe = []) (hitem : ItemAt q idle bytes idx t.qm.cells) (hne : 0 < idx.length) (hlen : idx.length ≤ 64)
    (hbytes : bytes.length ≤ 56 * idx.length) : hwPop q t = (some bytes, unlinkHead q t) := by
  have hcells := hitem.itemCells_head hne hlen
  have hfirst : (SMap.get t.qm.cells (idx.headD 0) {}).len = bytes.length := by
    rw [List.headD_eq_getD, hitem.get hne]
    rfl
  have hhb : t.headBytes q = bytes := by
    simp only [State.headBytes, hhead, hcells, hfirst, hitem.payloads hbytes, List.take_length]
  have hp : (t.qm.parks.any fun e => !e.2.isPush && e.2.queue == q) = false := hparked
  simp only [hwPop, hcheck, hhead, hr, hp, hcells, hue, hitem.owned, hhb]
  simp

theorem cellsFor_bounds {n : Nat} (h : n ≤ 3584) : 0 < cellsFor n ∧ cellsFor n ≤ 64 ∧ n ≤ 56 * cellsFor n := by
  unfold cellsFor
  omega

/-- A push to an empty queue leaves its item there alone, in free cells. -/
theorem hwPush_empty {q : Nat} {l : List Byte} {s t : State} (h : hwPush q l s = (true, t)) (hq : s.queue q = {}) :
    s.flag (F.qmQCfgEN.q q) = true ∧ QueueOnly q s t ∧ ∃ idx, idx.length = cellsFor l.length ∧ ItemAt q false l idx t.qm.cells ∧
      t.queue q = { a := QPtrs.linked { cells := idx.length } idx, b := QPtrs.linked { cells := idx.length } idx } ∧
      t.qm.cellUe = s.qm.cellUe.filter (fun i => !(idx.contains i)) := by
  obtain ⟨hen, w, hj, rfl⟩ := hwPush_succeeds h
  obtain rfl := judgePush_none_unretained (by rw [hq]) hj
  have hqa := queue_allocItem q false l (w.takeCells (cellsFor l.length)) w
  refine ⟨hen, ((QueueOnly.refl q w).allocItem _ _ _).linkItem _, w.takeCells (cellsFor l.length), takeCells_length .., ?_, ?_, ?_⟩
  · rw [linkItem_cells_none (by rw [hqa, hq])]
    exact allocItem_itemAt q false l (takeCells_nodup ..) w
  · rw [queue_linkItem, hqa, hq, Nat.zero_add]
  · rw [linkItem_cellUe, allocItem_cellUe]

/-- Settles O20: the push leaves its item alone in the queue, and the pop reads the item's cells along their links. -/
theorem queueKeepsItemBytes : Obligations.QueueKeepsItemBytes := by
  unfold Obligations.QueueKeepsItemBytes
  intro q l s t hpush hl hq hr hparked hue
  obtain ⟨hen, honly, idx, hlen, hitem, hqt, hclean⟩ := hwPush_empty hpush hq
  obtain ⟨hne, hle, hbytes⟩ := cellsFor_bounds hl
  rw [← hlen] at hne hle hbytes
  have hhead : (t.queue q).a.head = some (idx.headD 0) := by rw [hqt]; rfl
  have hpopped : hwPop q t = (some l, unlinkHead q t) :=
    hwPop_item (queueCheck_passes ((honly.enabled q).trans hen) (by rw [hqt]) (by rw [hqt])) hhead ((honly.inReset _).trans hr)
      ((honly.popParked q).trans hparked) (by rw [hclean, hue]; rfl) hitem hne hle hbytes
  have hu := queue_unlinkHead_last hhead (by rw [hqt]; rfl) (by rw [hqt]; exact Nat.le_refl 1)
  rw [hitem.itemCells_head hne hle, hqt] at hu
  refine ⟨_, hpopped, ?_, ?_, ?_, honly.unlinkHead.queue, honly.unlinkHead.mem⟩ <;> rw [hu]
  · rfl
  · rfl
  · exact Nat.sub_self idx.length

end Sys2Proof.Machine
end

section
/-! SUPPORT. A queue command on a ready queue (R108): its slot, its judgement, and the result that it leaves to post. -/

namespace Sys2Proof.Machine

/-- The command's slot is BUSY (R108). -/
def slotTaken (op : QmOp) (s : State) : State := setFld (F.qmSlotResSTATE.slot op.slot.val) 1 s

/-- A result stands in the command's slot, to be posted as the command completes. -/
def withResult (op : QmOp) (r : SlotRes) (u : State) : State :=
  { u with qm := { u.qm with slots := SMap.put u.qm.slots op.slot.val r } }

section
variable (op : QmOp) (s : State)

@[simp] theorem slotTaken_qm : (slotTaken op s).qm = s.qm := rfl
@[simp] theorem queue_slotTaken (p : Nat) : (slotTaken op s).queue p = s.queue p := rfl
@[simp] theorem freeCells_slotTaken : (slotTaken op s).freeCells = s.freeCells := rfl
@[simp] theorem inReset_slotTaken (b : Blk) : (slotTaken op s).inReset b = s.inReset b := rfl
@[simp] theorem popParked_slotTaken (p : Nat) : (slotTaken op s).popParked p = s.popParked p := rfl

theorem slotTaken_busy : (slotTaken op s).fld (F.qmSlotResSTATE.slot op.slot.val) = 1 := fld_setFld_same ..

theorem fld_setFld_slot_other {f g : Fld} (k v : Nat) (s : State) (h : g.key ≠ f.key) :
    (setFld (f.slot k) v s).fld (g.slot k) = s.fld (g.slot k) := fld_setFld_at_other _ v s h

theorem fld_slotTaken_other {f : Fld} (h : f.key ≠ F.qmSlotResSTATE.key) :
    (slotTaken op s).fld (f.slot op.slot.val) = s.fld (f.slot op.slot.val) := fld_setFld_slot_other _ _ s h

/-- The registers of the queues lie above those of the slots. -/
theorem fld_slotTaken_q {f : Fld} {p : Nat} (h : 0x20038000 * 64 ≤ f.key) : (slotTaken op s).fld (f.q p) = s.fld (f.q p) := by
  refine fld_setFld_other _ s ?_
  have hslot := op.slot.isLt
  have hstate : F.qmSlotResSTATE.key < 0x20031020 * 64 := by decide
  simp only [Fld.q, Fld.slot, key_at]
  omega

end

variable {op : QmOp} {s : State} {isPush isPop isReset : Bool}

theorem judgeCmd_ready (hr : s.qmReady op) (hlen : isPush = true → 1 ≤ op.len.toNat ∧ op.len.toNat ≤ 3584) :
    judgeCmd op isPush isPop isReset (slotTaken op s) = (none, slotTaken op s) := by
  obtain ⟨-, -, -, hrsv, hen, hst, hab, hpop⟩ := hr
  have hen' : (slotTaken op s).flag (F.qmQCfgEN.q op.queue.val) = true := by
    rw [State.flag, fld_slotTaken_q op s (by decide)]
    exact hen
  have hlen' : (isPush && (op.len.toNat == 0 || decide (3584 < op.len.toNat))) = false := by
    cases isPush with
    | false => rfl
    | true =>
      obtain ⟨hlo, hhi⟩ := hlen rfl
      simp only [Bool.true_and, Bool.or_eq_false_iff, beq_eq_false_iff_ne, decide_eq_false_iff_not]
      omega
  simp [judgeCmd, hrsv, hlen', hen', hst, hab, hpop, ptrsAgree]

/-- A command whose action answers a result leaves it in its slot, to be posted. -/
theorem queueCmd_ends (hr : s.qmReady op) (hlen : isPush = true → 1 ≤ op.len.toNat ∧ op.len.toNat ≤ 3584)
    {act : State → Option (Nat × Nat) × State} {r n : Nat} {u : State} (hact : act (slotTaken op s) = (some (r, n), u))
    (hbusy : u.fld (F.qmSlotResSTATE.slot op.slot.val) = 1) :
    queueCmd op isPush isPop isReset act s = withResult op ⟨r, n, op.queue.val, isReset, isPush⟩ u := by
  have hj := judgeCmd_ready (isPop := isPop) (isReset := isReset) hr hlen
  rw [slotTaken] at hj hact
  obtain ⟨hreset, h1, h3, -⟩ := hr
  simp only [queueCmd, hreset, Bool.false_eq_true, if_false, State.slotSt, if_neg (not_or.2 ⟨h1, h3⟩), hj, hact]
  exact if_neg (not_not.2 hbusy)

/-- The same of a command that is no PUSH, in the form in which its outcome is stated. -/
theorem command_ends (hr : s.qmReady op) {act : State → Option (Nat × Nat) × State} {r n : Nat} {u : State}
    (hact : act (slotTaken op s) = (some (r, n), u)) (hbusy : u.fld (F.qmSlotResSTATE.slot op.slot.val) = 1) :
    u.fld (F.qmSlotResSTATE.slot op.slot.val) = 1 ∧
      (.next (queueCmd op false isPop isReset act s) : Host.Outcome State Fault Refusal) =
        .next (withResult op ⟨r, n, op.queue.val, isReset, false⟩ u) :=
  ⟨hbusy, congrArg _ (queueCmd_ends hr (by simp) hact hbusy)⟩

/-- A slot stays BUSY while its command changes nothing but its queue. -/
theorem QueueOnly.busy {u : State} (h : QueueOnly op.queue.val (slotTaken op s) u) :
    u.fld (F.qmSlotResSTATE.slot op.slot.val) = 1 :=
  (h.slot (by decide) (by decide) op.slot.isLt).trans (slotTaken_busy op s)

end Sys2Proof.Machine
end

section
/-! SUPPORT. What PUSH and POP copy (R106, R107): the items of one cell, and the link or the removal that follows the copy. -/

namespace Sys2Proof.Machine

variable {op : QmOp} {s u : State}

theorem linkItem_slotSt (q : Nat) (idx : List Nat) (s : State) (k : Nat) : (linkItem q idx s).slotSt k = s.slotSt k := rfl

theorem unlinkHead_regs (q : Nat) (s : State) : (unlinkHead q s).regs = s.regs := by
  simp only [unlinkHead]
  split
  · rfl
  · split <;> rfl

theorem ParkOp.stands_of_busy {o : ParkOp} (h : s.fld (F.qmSlotResSTATE.slot o.slot) = 1) : o.stands s = true := by
  simp [ParkOp.stands, State.slotSt, h]

theorem runPush_filled {o : ParkOp} {slotOld : Option Nat} {j : Nat} (h : fillCells o 64 o.done s = ((j, none), u))
    (hs : o.stands u = true) : runPush o slotOld s = (some (0, o.len), linkItem o.queue o.cells u) := by
  simp [runPush, h, hs]

theorem runPop_drained {o : ParkOp} {slotOld : Option Nat} {j : Nat} (h : drainCells o 64 o.done s = ((j, none), u))
    (hs : o.stands u = true) (hh : (u.queue o.queue).a.head = o.cells.head?) :
    runPop o slotOld s = (some (0, o.len), unlinkHead o.queue u) := by
  simp [runPop, h, hs, hh]

/-- The state with the payload l in cell i. -/
def filled (i : Nat) (l : List Byte) (u : State) : State :=
  { u with qm := { u.qm with cells := SMap.put u.qm.cells i { SMap.get u.qm.cells i {} with payload := l } } }

theorem fillCells_done {o : ParkOp} {j : Nat} (h : o.cells.length ≤ j) (n : Nat) (s : State) : fillCells o n j s = ((j, none), s) := by
  cases n with
  | zero => rfl
  | succ n => rw [fillCells, if_pos h]

theorem drainCells_done {o : ParkOp} {j : Nat} (h : o.cells.length ≤ j) (n : Nat) (s : State) : drainCells o n j s = ((j, none), s) := by
  cases n with
  | zero => rfl
  | succ n => rw [drainCells, if_pos h]

theorem fillCells_one {o : ParkOp} {i : Nat} {l : List Byte} (hcells : o.cells = [i]) (hlen : o.len ≤ 56)
    (hread : ioRead (qmWho o.slot) .general false o.asid o.addr o.len s = (.ok l, u)) :
    fillCells o 64 0 s = ((1, none), filled i l u) := by
  have hdone : o.cells.length ≤ 0 + 1 := by simp [hcells]
  rw [fillCells]
  simp [fillCells_done hdone, hcells, min_eq_right hlen, hread, filled]

theorem drainCells_one {o : ParkOp} {i : Nat} {c : QCell} (hcells : o.cells = [i]) (hc : SMap.find s.qm.cells i = some c)
    (hlen : o.len ≤ 56)
    (hwrite : ioWrite (qmWho o.slot) .general false o.asid o.addr (c.payload.take o.len) s = (none, u)) :
    drainCells o 64 0 s = ((1, none), u) := by
  have hdone : o.cells.length ≤ 0 + 1 := by simp [hcells]
  rw [drainCells]
  simp [drainCells_done hdone, hcells, SMap.get, hc, min_eq_right hlen, hwrite]

/-- Linking an item keeps the payload of every cell. -/
theorem linkItem_payload (q : Nat) (idx : List Nat) (s : State) (i : Nat) :
    (SMap.get (linkItem q idx s).qm.cells i {}).payload = (SMap.get s.qm.cells i {}).payload := by
  cases ht : (s.queue q).a.tail with
  | none => rw [linkItem_cells_none ht]
  | some t =>
    rw [linkItem_cells_some ht, SMap.get_put]
    split
    · next h => rw [h]
    · rfl

/-! PUSH. -/

/-- The operation of a PUSH whose cells are idx. -/
def pushOp (op : QmOp) (idx : List Nat) (z : State) : ParkOp :=
  { slot := op.slot.val, isPush := true, queue := op.queue.val, asid := op.asid.toNat,
    addr := z.fld (F.qmSlotAddrADDR.slot op.slot.val), len := op.len.toNat, cells := idx, done := 0 }

/-- A PUSH that is judged to go on and whose copy meets no fault links its item. -/
theorem pushAct_filled {w z : State} {idx : List Nat} (hj : judgePush op.queue.val (cellsFor op.len.toNat) s = (none, w))
    (hidx : idx = w.takeCells (cellsFor op.len.toNat))
    (hz : z = allocItem op.queue.val false (List.replicate op.len.toNat 0) idx w) {j : Nat}
    (hfill : fillCells (pushOp op idx z) 64 0 z = ((j, none), u)) (hbusy : u.fld (F.qmSlotResSTATE.slot op.slot.val) = 1) :
    pushAct op s = (some (0, op.len.toNat), linkItem op.queue.val idx u) := by
  simp only [pushAct, hj, ← hidx, ← hz]
  exact runPush_filled hfill (ParkOp.stands_of_busy hbusy)

/-- The address of a PUSH is the one its slot held when the command came. -/
theorem pushOp_addr {w z : State} {idx : List Nat} (hj : judgePush op.queue.val (cellsFor op.len.toNat) (slotTaken op s) = (none, w))
    (hz : z = allocItem op.queue.val false (List.replicate op.len.toNat 0) idx w) :
    (pushOp op idx z).addr = s.fld (F.qmSlotAddrADDR.slot op.slot.val) := by
  have h : QueueOnly op.queue.val (slotTaken op s) z := hz ▸ (judgePush_none_queueOnly hj).allocItem _ _ _
  exact (h.slot (by decide) (by decide) op.slot.isLt).trans (fld_slotTaken_other op s (by decide))

/-! POP. -/

theorem popAct_empty (hh : (s.queue op.queue.val).a.head = none) : popAct op s = (some (1, 0), s) := by
  simp only [popAct, hh]

section
variable {i : Nat} {c : QCell} (hh : (s.queue op.queue.val).a.head = some i) (hc : SMap.find s.qm.cells i = some c)
  (hlast : c.last = true) (howner : c.owner = op.queue.val) (hue : i ∉ s.qm.cellUe)
include hh hc hlast howner hue

/-- POP at a head item of one readable cell: too long for its buffer, idle, or copied out. -/
theorem popAct_one : popAct op s =
    if op.len.toNat < c.len then (some (4, 0), s)
    else if c.idle then (some (9, 0), unlinkHead op.queue.val s)
    else runPop { slot := op.slot.val, isPush := false, queue := op.queue.val, asid := op.asid.toNat,
                  addr := s.fld (F.qmSlotAddrADDR.slot op.slot.val), len := c.len, cells := [i], done := 0 } none s := by
  have hcells : itemCells s.qm.cells 64 i = [i] := by rw [itemCells, SMap.get, hc, Option.getD_some, if_pos hlast]
  have howned : cellsOwned op.queue.val [i] s = true := by simp [cellsOwned, SMap.get, hc, howner]
  have hread : ([i].any fun x => s.qm.cellUe.contains x) = false := by simp [hue]
  have hget : SMap.get s.qm.cells i {} = c := by rw [SMap.get, hc, Option.getD_some]
  simp only [popAct, hh, hcells, howned, hread, hget, Bool.not_true, Bool.false_eq_true, if_false]

theorem popAct_copied (hidle : c.idle = false) (hfits : c.len ≤ op.len.toNat) (hlen : c.len ≤ 56)
    (hwrite : ioWrite (qmWho op.slot.val) .general false op.asid.toNat (s.fld (F.qmSlotAddrADDR.slot op.slot.val))
      (c.payload.take c.len) s = (none, u)) (hqm : u.qm = s.qm) (hbusy : u.fld (F.qmSlotResSTATE.slot op.slot.val) = 1) :
    popAct op s = (some (0, c.len), unlinkHead op.queue.val u) := by
  rw [popAct_one hh hc hlast howner hue, if_neg (Nat.not_lt.2 hfits), if_neg (by simp [hidle])]
  refine runPop_drained (drainCells_one rfl hc hlen hwrite) (ParkOp.stands_of_busy hbusy) ?_
  rw [State.queue, hqm]
  exact hh

end

/-- Settles O19: the judgement, the copy, and the link or the removal, in that order. -/
theorem queuePushAndPop : Obligations.QueuePushAndPop := by
  unfold Obligations.QueuePushAndPop
  intro op s u hr hlo hhi q len at_ b busy hbusy
  have hpop : ∀ {r n : Nat} {v : State}, popAct op (slotTaken op s) = (some (r, n), v) → v.fld (F.qmSlotResSTATE.slot op.slot.val) = 1 →
      busy (.pop op) ⟨r, n, q, false, false⟩ v := fun hact hv => congrArg _ (queueCmd_ends hr (by simp) hact hv)
  have haddr : (slotTaken op s).fld (F.qmSlotAddrADDR.slot op.slot.val) = at_ := fld_slotTaken_other op s (by decide)
  have hunlinked : ∀ v : State, (unlinkHead q v).fld (F.qmSlotResSTATE.slot op.slot.val) = v.fld (F.qmSlotResSTATE.slot op.slot.val) :=
    fun v => by rw [State.fld, unlinkHead_regs, State.fld]
  refine ⟨fun w hj => ?_, fun i c hh hc hlast hidle howner hue hfits hlen hwrite hqm => ?_,
    fun i c hh hc hlast hidle howner hue hfits => ?_⟩
  · intro idx z o
    have hpush : ∀ {j : Nat} {v : State}, fillCells o 64 0 z = ((j, none), v) → v.fld (F.qmSlotResSTATE.slot op.slot.val) = 1 →
        busy (.push op) ⟨0, len, q, false, true⟩ (linkItem q idx v) := fun hfill hv =>
      congrArg _ (queueCmd_ends hr (fun _ => ⟨hlo, hhi⟩) (pushAct_filled hj rfl rfl hfill hv) hv)
    refine ⟨fun j hfill => hpush hfill hbusy, fun l hlen hread hqm => ?_⟩
    obtain ⟨i, hi⟩ := List.length_eq_one_iff.1 ((takeCells_length w _).trans (cellsFor_small hlen))
    have hidx : idx = [i] := hi
    have ho : o.addr = at_ := pushOp_addr hj rfl
    have hfilled := hpush (fillCells_one hidx hlen (ho ▸ hread)) hbusy
    refine ⟨_, hfilled, ?_, ?_⟩
    · change (SMap.get (linkItem q idx (filled i l u)).qm.cells (idx.headD 0) {}).payload = l
      rw [linkItem_payload, hidx]
      exact congrArg QCell.payload (SMap.get_put_same ..)
    · change ((linkItem q idx (filled i l u)).queue q).a.items = _
      rw [queue_linkItem]
      rfl
  · refine hpop (popAct_copied hh hc hlast howner hue hidle hfits hlen ?_ hqm hbusy) ((hunlinked u).trans hbusy)
    rw [haddr]
    exact hwrite
  · refine hpop ?_ ((hunlinked b).trans (slotTaken_busy op s))
    rw [popAct_one (s := slotTaken op s) hh hc hlast howner hue, if_neg (Nat.not_lt.2 hfits), if_pos hidle]
    rfl

end Sys2Proof.Machine
end

section
/-! SUPPORT. The queue commands that copy nothing: PUSH_IDLE, FLUSH and the rewind mark (R110, R111). -/

namespace Sys2Proof.Machine

/-! Cells freed from a table in canonical order. -/

theorem SMap.lt_of_mem_rising {α : Type} {m : SMap α} {b : Nat} (h : SMap.rising m (some b) = true) {e : Nat × α} (he : e ∈ m) :
    b < e.1 := by
  induction m generalizing b with
  | nil => simp at he
  | cons x m ih =>
    obtain ⟨hx, hm⟩ := (SMap.rising_cons x.1 x.2 m _).1 h
    rcases List.mem_cons.1 he with rfl | he
    · exact hx b rfl
    · exact (hx b rfl).trans (ih hm he)

theorem SMap.mem_erase {α : Type} {m : SMap α} {b : Option Nat} (h : SMap.rising m b = true) {a : Nat} {e : Nat × α}
    (he : e ∈ SMap.erase m a) : e ∈ m ∧ e.1 ≠ a := by
  induction m generalizing b with
  | nil => simp [SMap.erase] at he
  | cons x m ih =>
    obtain ⟨k, w⟩ := x
    have hm := ((SMap.rising_cons k w m b).1 h).2
    rw [SMap.erase] at he
    split_ifs at he with heq hlt
    · exact ⟨List.mem_cons_of_mem _ he, by have := SMap.lt_of_mem_rising hm he; omega⟩
    · refine ⟨he, ?_⟩
      rcases List.mem_cons.1 he with rfl | he
      · exact Ne.symm heq
      · have := SMap.lt_of_mem_rising hm he
        omega
    · rcases List.mem_cons.1 he with rfl | he
      · exact ⟨List.mem_cons_self, Ne.symm heq⟩
      · exact (ih hm he).imp_left (List.mem_cons_of_mem _)

theorem mem_freeList {l : List Nat} {s : State} (h : SMap.rising s.qm.cells none = true) {e : Nat × QCell}
    (he : e ∈ (freeList l s).qm.cells) : e ∈ s.qm.cells ∧ e.1 ∉ l := by
  have key : ∀ m : SMap QCell, SMap.rising m none = true → e ∈ l.foldl (fun m i => SMap.erase m i) m → e ∈ m ∧ e.1 ∉ l := by
    clear he
    induction l with
    | nil => exact fun m _ he => ⟨he, List.not_mem_nil⟩
    | cons i l ih =>
      intro m hm he
      obtain ⟨hmem, hl⟩ := ih _ (SMap.rising_erase i hm) he
      obtain ⟨hmem, hi⟩ := SMap.mem_erase hm hmem
      exact ⟨hmem, by simp [hi, hl]⟩
  exact key _ h he

/-! PUSH_IDLE. -/

/-- PUSH_IDLE links one free cell as an idle item of zero length. -/
theorem pushIdleAct_links {op : QmOp} {s : State}
    (hmark : (s.queue op.queue.val).a.markAt = none) (htail : ∀ i, (s.queue op.queue.val).a.tail = some i → SMap.find s.qm.cells i ≠ none)
    (hquota : (s.queue op.queue.val).a.cells + 1 ≤ s.fld (F.qmQCfgQUOTA.q op.queue.val)) (hr : s.inReset .qm = false)
    (hfree : 1 ≤ s.freeCells) :
    ∃ u i, pushIdleAct op s = (some (0, 0), u) ∧ QueueOnly op.queue.val s u ∧ SMap.find s.qm.cells i = none ∧
      SMap.get u.qm.cells i {} = { owner := op.queue.val, first := true, last := true, idle := true } ∧
      u.queue op.queue.val = { s.queue op.queue.val with
        a := { (s.queue op.queue.val).a with cells := (s.queue op.queue.val).a.cells + 1 }.linked [i],
        b := { (s.queue op.queue.val).a with cells := (s.queue op.queue.val).a.cells + 1 }.linked [i] } := by
  obtain ⟨i, hi, hnew⟩ := takeCells_one s
  have hqa := queue_allocItem op.queue.val true [] [i] s
  have hitem := allocItem_itemAt op.queue.val true [] (List.nodup_singleton i) s 0 Nat.zero_lt_one
  refine ⟨linkItem op.queue.val [i] (allocItem op.queue.val true [] [i] s), i, ?_, ((QueueOnly.refl _ s).allocItem _ _ _).linkItem _,
    hnew, ?_, ?_⟩
  · simp only [pushIdleAct, judgePush_room hmark hquota hr hfree, hi]
  · have hstays : SMap.find (linkItem op.queue.val [i] (allocItem op.queue.val true [] [i] s)).qm.cells i =
        SMap.find (allocItem op.queue.val true [] [i] s).qm.cells i := by
      cases ht : (s.queue op.queue.val).a.tail with
      | none => rw [linkItem_cells_none (by rw [hqa]; exact ht)]
      | some t =>
        have hne : i ≠ t := fun h => htail t ht (h ▸ hnew)
        rw [linkItem_cells_some (t := t) (by rw [hqa]; exact ht), SMap.find_put_other _ _ hne]
    rw [SMap.get, hstays]
    exact congrArg (Option.getD · {}) hitem
  · rw [queue_linkItem, hqa]
    rfl

/-! FLUSH (R110). -/

theorem flushAct_clears {op : QmOp} {s : State} (hkeep : s.parkedPushCells op.queue.val = [])
    (hrise : SMap.rising s.qm.cells none = true) :
    ∃ u, flushAct op s = (some (0, 0), u) ∧ (u.queue op.queue.val).a = {} ∧ (u.queue op.queue.val).b = {} ∧
      (∀ e ∈ u.qm.cells, e.2.owner ≠ op.queue.val) ∧ (∀ p, p ≠ op.queue.val → u.queue p = s.queue p) ∧ u.mem = s.mem ∧
      u.regs = s.regs := by
  have hgone : ∀ e ∈ (freeList ((s.qm.cells.filter fun e => e.2.owner == op.queue.val).map Prod.fst) s).qm.cells,
      e.2.owner ≠ op.queue.val := by
    intro e he howner
    obtain ⟨hmem, hnot⟩ := mem_freeList hrise he
    exact hnot (List.mem_map_of_mem (List.mem_filter.2 ⟨hmem, by simp [howner]⟩))
  refine ⟨_, rfl, ?_⟩
  simp only [hkeep, List.contains_nil, Bool.not_false, Bool.and_true]
  exact ⟨congrArg QueueState.a (queue_setPtrs_same ..), congrArg QueueState.b (queue_setPtrs_same ..), hgone,
    fun p hp => queue_setQueue_other _ _ hp, rfl, rfl⟩

/-! MARK, REWIND and UNMARK (R111). -/

/-- The pointers once a mark that retains n cells is dropped. -/
def QPtrs.unmarked (p : QPtrs) (n : Nat) : QPtrs :=
  { p with marked := false, markAt := none, cells := p.cells - n, tail := if p.head.isNone then none else p.tail }

theorem queue_dropMark (q : Nat) (s : State) : (dropMark q s).queue q =
    { s.queue q with a := (s.queue q).a.unmarked (retained s.qm.cells (s.queue q).a).length,
                     b := (s.queue q).a.unmarked (retained s.qm.cells (s.queue q).a).length } := by
  rw [dropMark, queue_setPtrs_same]
  rfl

/-- MARK sets the mark at the head, and the recorded loss of an earlier one ends. -/
theorem markAct_marks (op : QmOp) (s : State) :
    ∃ u n, markAct op s = (some (0, 0), u) ∧ QueueOnly op.queue.val s u ∧ u.flag (F.qmQStatMARKLOST.q op.queue.val) = false ∧
      (u.queue op.queue.val).a = { (s.queue op.queue.val).a.unmarked n with marked := true, markAt := (s.queue op.queue.val).a.head } ∧
      (u.queue op.queue.val).lost = false := by
  refine ⟨_, (retained s.qm.cells (s.queue op.queue.val).a).length, rfl,
    (((QueueOnly.refl _ s).dropMark.setPtrs _).setQueue _).setMarkLost false, flag_setFlag_same .., ?_, ?_⟩
  · rw [setFlag, queue_setFld, queue_setQueue_same, queue_setPtrs_same, queue_dropMark]
    rfl
  · rw [setFlag, queue_setFld, queue_setQueue_same]

section
variable {op : QmOp} {s : State}

theorem rewindAct_lost (h : (s.queue op.queue.val).lost = true) : rewindAct op s = (some (7, 0), s) := if_pos h

theorem rewindAct_unmarked (h : (s.queue op.queue.val).lost = false) (hm : (s.queue op.queue.val).a.marked = false) :
    rewindAct op s = (some (8, 0), s) := by
  simp [rewindAct, h, hm]

/-- REWIND moves the head back to the mark: the items that it passes count again. -/
theorem rewindAct_marked (h : (s.queue op.queue.val).lost = false) (hm : (s.queue op.queue.val).a.marked = true) :
    ∃ n, rewindAct op s = (some (0, 0), setPtrs op.queue.val { (s.queue op.queue.val).a with
      head := (s.queue op.queue.val).a.markAt, items := (s.queue op.queue.val).a.items + n } s) := by
  simp only [rewindAct, h, hm, Bool.false_eq_true, Bool.not_true, if_false]
  exact ⟨_, rfl⟩

theorem unmarkAct_marked (hm : (s.queue op.queue.val).a.marked = true) :
    unmarkAct op s = (some (0, 0), dropMark op.queue.val s) := if_pos hm

theorem unmarkAct_unmarked (hm : (s.queue op.queue.val).a.marked = false) : unmarkAct op s = (some (8, 0), s) :=
  if_neg (by simp [hm])

end

end Sys2Proof.Machine
end

section
/-! SUPPORT. What ends a queue command and a parked operation (R97, R108, R110, R114, R116). -/

namespace Sys2Proof.Machine

/-! The result of a slot (R108). -/

theorem postSlot_eq (k q r n : Nat) (s : State) : postSlot k q r n s =
    setFld (F.qmSlotResITEMS.slot k) (s.queue q).a.items (setFld (F.qmSlotResLEN.slot k) n (setFld (F.qmSlotResRESULT.slot k) r
      (setFld (F.qmSlotResPARK.slot k) 0 (setFld (F.qmSlotResSTATE.slot k) 2 s)))) := by
  simp only [postSlot, postRes, Fld.slot, Nat.mul_comm k]

section
variable (k q r n : Nat) (s : State)

/-- A posted result stands in the slot's RES, which is DONE. -/
theorem postSlot_posted : (postSlot k q r n s).fld (F.qmSlotResSTATE.slot k) = 2 ∧
    (postSlot k q r n s).fld (F.qmSlotResRESULT.slot k) = r % 2 ^ 8 ∧
    (postSlot k q r n s).fld (F.qmSlotResLEN.slot k) = n % 2 ^ 16 ∧
    (postSlot k q r n s).fld (F.qmSlotResITEMS.slot k) = (s.queue q).a.items % 2 ^ 16 := by
  rw [postSlot_eq]
  refine ⟨?_, ?_, ?_, fld_setFld_same ..⟩
  · iterate 4 rw [fld_setFld_slot_other _ _ _ (by decide)]
    exact fld_setFld_same ..
  · iterate 2 rw [fld_setFld_slot_other _ _ _ (by decide)]
    exact fld_setFld_same ..
  · rw [fld_setFld_slot_other _ _ _ (by decide)]
    exact fld_setFld_same ..

@[simp] theorem postSlot_qm : (postSlot k q r n s).qm = s.qm := by simp only [postSlot_eq, setFld_qm]
@[simp] theorem postSlot_mem : (postSlot k q r n s).mem = s.mem := by simp only [postSlot_eq, setFld_mem]

/-- The registers of the park slots lie above those of the command slots. -/
theorem flag_postSlot_above {f : Fld} (hk : k < 64) (h : 0x20032000 * 64 ≤ f.key) : (postSlot k q r n s).flag f = s.flag f := by
  have hne : ∀ g : Fld, g.key < 0x20031020 * 64 → f.key ≠ (g.slot k).key := by
    intro g hg
    rw [Fld.slot, key_at]
    omega
  rw [postSlot_eq]
  iterate 5 rw [flag_setFld_other _ _ (hne _ (by decide))]

end

/-! QUEUE_CMD_COMPLETE and the end of a RESET scan (R108, R114). -/

theorem cmdComplete_posts {slot : Nat} {r : SlotRes} {s : State} (h : SMap.find s.qm.slots slot = some r) (hscan : r.scan = false) :
    cmdComplete slot s = postSlot slot r.queue r.result r.len { s with qm := { s.qm with slots := SMap.erase s.qm.slots slot } } := by
  simp [cmdComplete, h, hscan]

/-- A scan of a queue with no parked operation ends: the queue is empty. -/
theorem scanEnd_empties {q : Nat} {s : State} (hst : (s.queue q).st = .resetting) (hdue : (s.queue q).scanEnd ≤ s.now)
    (hparks : ∀ e ∈ s.qm.parks, e.2.queue ≠ q) :
    scanEnd q s = setFlag (F.qmQStatMARKLOST.q q) false
      (setQueue q {} (freeList ((s.qm.cells.filter fun e => e.2.owner == q).map Prod.fst) s)) := by
  have hnone : s.qm.parks.filter (fun e => e.2.queue == q) = [] :=
    List.filter_eq_nil_iff.2 fun e he => by simpa using hparks e he
  rw [scanEnd, if_pos ⟨hst, hdue⟩]
  change List.foldl _ _ (s.qm.parks.filter _) = _
  rw [hnone]
  rfl

/-! PARK_ABORT and PARK_RESUME (R97, R110, R116). -/

theorem freePark_unparks (k : Nat) (s : State) : (freePark k s).flag (F.qmParkCtrlPARKED.park k) = false := flag_setFlag_same ..

/-- A parked operation that ends: its result is posted, its park slot is free, no queue has changed. -/
theorem endPark_posted (k : Nat) {o : ParkOp} (hslot : o.slot < 64) (r n : Nat) (s : State) :
    (endPark k o r n s).fld (F.qmSlotResSTATE.slot o.slot) = 2 ∧
      (endPark k o r n s).fld (F.qmSlotResRESULT.slot o.slot) = r % 2 ^ 8 ∧
      (endPark k o r n s).flag (F.qmParkCtrlPARKED.park k) = false ∧ (endPark k o r n s).qm.queues = s.qm.queues ∧
      (endPark k o r n s).mem = s.mem := by
  obtain ⟨hst, hres, -, -⟩ := postSlot_posted o.slot o.queue r n (freePark k s)
  have habove : 0x20032000 * 64 ≤ (F.qmParkCtrlPARKED.park k).key := by
    rw [Fld.park, key_at]
    exact Nat.le_add_right_of_le (show 0x20032000 * 64 ≤ F.qmParkCtrlPARKED.key by decide)
  rw [endPark, flag_postSlot_above _ _ _ _ _ hslot habove, freePark_unparks, postSlot_qm, postSlot_mem]
  exact ⟨hst, hres, rfl, rfl, rfl⟩

theorem ParkOp.drawn_qm (o : ParkOp) (s : State) : (o.drawn s).qm = s.qm := by
  unfold ParkOp.drawn
  split <;> rfl

theorem ParkOp.drawn_mem (o : ParkOp) (s : State) : (o.drawn s).mem = s.mem := by
  unfold ParkOp.drawn
  split <;> rfl

theorem endShort_posted (k : Nat) {o : ParkOp} (hslot : o.slot < 64) (r : Nat) (s : State) :
    (endShort k o r s).fld (F.qmSlotResSTATE.slot o.slot) = 2 ∧
      (endShort k o r s).fld (F.qmSlotResRESULT.slot o.slot) = r % 2 ^ 8 ∧
      (endShort k o r s).flag (F.qmParkCtrlPARKED.park k) = false ∧ (endShort k o r s).qm.queues = s.qm.queues ∧
      (endShort k o r s).mem = s.mem := by
  have h := endPark_posted k hslot r (o.moved s) (o.drawn s)
  rwa [o.drawn_qm, o.drawn_mem] at h

theorem queue_dropCells (q : Nat) (cs : List Nat) (s : State) : ((dropCells q cs s).queue q).a =
    { (s.queue q).a with cells := (s.queue q).a.cells - cs.length } := congrArg QueueState.a (queue_setPtrs_same ..)

section
variable {k : Nat} {o : ParkOp} {s : State} (hfind : SMap.find s.qm.parks k = some o) (hst : (s.queue o.queue).st ≠ .resetting)
include hfind hst

theorem abortPark_push (hf : o.flushed = false) (hp : o.isPush = true) :
    abortPark k s = endShort k o 0x0B (dropCells o.queue o.cells s) := by
  simp [abortPark, hfind, hst, hf, hp]

theorem resumePark_flushed (hf : o.flushed = true) : resumePark k s = endShort k o 0x0A s := by
  simp [resumePark, hfind, hst, hf]

/-- A push that is resumed and meets no fault links its item, and its result is OK. -/
theorem resumePark_push (hf : o.flushed = false) (hp : o.isPush = true) {j : Nat} {u : State}
    (hfill : fillCells o 64 o.done s = ((j, none), u)) (hs : o.stands u = true) :
    resumePark k s = endPark k o 0 o.len (linkItem o.queue o.cells u) := by
  have hs' : o.stands (linkItem o.queue o.cells u) = true := hs
  simp [resumePark, hfind, hst, hf, hp, runPush_filled hfill hs, hs']

end

end Sys2Proof.Machine
end

section
/-! The queue commands and what ends them, command by command. -/

namespace Sys2Proof.Machine

/-- Settles O18: each command's action on its ready queue, then what posts a result. -/
theorem queueCommandsAndCompletion : Obligations.QueueCommandsAndCompletion := by
  unfold Obligations.QueueCommandsAndCompletion
  refine ⟨fun op s hr => ?_, fun s => ⟨fun slot r hfind hscan hres hlen hitems => ?_, fun q hst hdue hparks => ?_,
    fun k o hfind hst hslot => ⟨fun hf hp => ?_, fun hf => ?_, fun hf hp j u hfill hs => ?_⟩⟩⟩
  · intro q v b busy ends room
    have hb : b.fld (F.qmSlotResSTATE.slot op.slot.val) = 1 := slotTaken_busy op s
    refine ⟨fun _ hmark htail hroom => ?_, fun hh => command_ends hr (popAct_empty hh) hb, fun i c hh hc hlast howner hue hlong => ?_,
      fun hkeep hrise => ?_, ?_, fun hl => command_ends hr (rewindAct_lost hl) hb, fun hl hm => command_ends hr (rewindAct_unmarked hl hm) hb,
      fun hl hm => ?_, fun hm => ?_, fun hm => command_ends hr (unmarkAct_unmarked hm) hb, command_ends hr rfl hb⟩
    · -- PUSH_IDLE
      have hquota : v.a.cells + 1 ≤ b.fld (F.qmQCfgQUOTA.q q) := by
        rw [show b = slotTaken op s from rfl, fld_slotTaken_q op s (by decide)]
        exact hroom.1
      obtain ⟨u, i, hact, honly, hnew, hcell, hqueue⟩ := pushIdleAct_links (s := b) hmark htail hquota hr.1 hroom.2
      refine ⟨u, i, command_ends hr hact honly.busy, hnew, ?_, ?_, ?_, ?_, ?_, hcell, honly.queue, honly.mem⟩
      all_goals rw [hqueue]
      case refine_5 => exact QPtrs.linked_head ..
      all_goals rfl
    · -- POP of an item too long for its buffer
      refine command_ends hr ?_ hb
      rw [popAct_one (s := slotTaken op s) hh hc hlast howner hue, if_pos hlong]
      rfl
    · -- FLUSH
      obtain ⟨u, hact, ha, hb', hcells, hqueue, hmem, hregs⟩ := flushAct_clears (s := b) hkeep hrise
      have hu : u.fld (F.qmSlotResSTATE.slot op.slot.val) = 1 := by rw [State.fld, hregs]; exact hb
      exact ⟨u, command_ends hr hact hu, ha, hb', hcells, hqueue, hmem⟩
    · -- MARK
      obtain ⟨u, n, hact, honly, hlostFlag, hptrs, hlost⟩ := markAct_marks op b
      refine ⟨u, command_ends hr hact honly.busy, ?_, ?_, hlost, hlostFlag, ?_, honly.queue, honly.mem⟩ <;> rw [hptrs] <;> rfl
    · -- REWIND
      obtain ⟨n, hact⟩ := rewindAct_marked (s := b) hl hm
      have honly := (QueueOnly.refl q b).setPtrs { v.a with head := v.a.markAt, items := v.a.items + n }
      refine ⟨_, command_ends hr hact honly.busy, ?_, ?_, ?_, honly.queue, rfl⟩ <;> rw [queue_setPtrs_same]
      · rfl
      · exact Nat.le_add_right ..
      · exact hm
    · -- UNMARK
      have honly := (QueueOnly.refl q b).dropMark
      refine ⟨_, command_ends hr (unmarkAct_marked (s := b) hm) honly.busy, ?_, ?_, ?_, honly.queue⟩ <;> rw [queue_dropMark] <;> rfl
  · refine ⟨_, congrArg Host.Outcome.next (cmdComplete_posts hfind hscan), ?_⟩
    obtain ⟨hst, hr', hl', hi'⟩ := postSlot_posted slot.val r.queue r.result r.len
      { s with qm := { s.qm with slots := SMap.erase s.qm.slots slot.val } }
    rw [postSlot_qm, postSlot_mem]
    exact ⟨hst, hr'.trans (Nat.mod_eq_of_lt hres), hl'.trans (Nat.mod_eq_of_lt hlen), hi'.trans (Nat.mod_eq_of_lt hitems), rfl, rfl, rfl⟩
  · exact ⟨_, congrArg Host.Outcome.next (scanEnd_empties hst hdue hparks), queue_setQueue_same .., fun p hp => queue_setQueue_other _ _ hp,
      flag_setFlag_same .., rfl⟩
  · obtain ⟨hstate, hres, -, hqueues, hmem⟩ := endShort_posted k.val hslot 0x0B (dropCells o.queue o.cells s)
    refine ⟨_, congrArg Host.Outcome.next (abortPark_push hfind hst hf hp), hstate, hres, ?_, ?_, hmem⟩ <;>
      rw [State.queue, hqueues, ← State.queue, queue_dropCells]
  · obtain ⟨hstate, hres, hparked, hqueues, hmem⟩ := endShort_posted k.val hslot 0x0A s
    exact ⟨_, congrArg Host.Outcome.next (resumePark_flushed hfind hst hf), hstate, hres, hparked, hqueues, hmem⟩
  · obtain ⟨hstate, hres, -, hqueues, -⟩ := endPark_posted k.val hslot 0 o.len (linkItem o.queue o.cells u)
    refine ⟨_, congrArg Host.Outcome.next (resumePark_push hfind hst hf hp hfill hs), hstate, hres, ?_⟩
    rw [State.queue, hqueues, ← State.queue, queue_linkItem]
    rfl

end Sys2Proof.Machine
end

section
/-! The check-value units, cluster timers and mailboxes (R117–R119). -/

namespace Sys2Proof.Machine

/-! Check-value units (R117). -/

theorem crcSelect_spec (c st : Nat) {alg : Nat} (h : alg ≤ 4) (s : State) :
    (crcSelect c st alg s).fld (F.crcClSCfgALG.crcSet c st) = alg ∧
      crcRes c st (crcSelect c st alg s) = crcOf (crcAlg alg) [] ∧
      ∀ j, j ≠ 4 * c + st → SMap.find (crcSelect c st alg s).crc j = SMap.find s.crc j := by
  have halg : (crcSelect c st alg s).fld (F.crcClSCfgALG.crcSet c st) = alg := by
    rw [crcSelect, if_pos h, fld_setFld_same]
    exact Nat.mod_eq_of_lt (show alg < 8 by omega)
  refine ⟨halg, ?_, fun j hj => SMap.find_put_other _ _ hj⟩
  rw [crcRes, halg, crcSelect, if_pos h, setFld_crc, SMap.get_put_same]
  rfl

/-- Data extends the byte string whose check value the register holds. -/
theorem crcRes_crcFeed {c st : Nat} {a : CrcAlg} {l : List Byte} {s : State} (ha : a = crcAlg (s.fld (F.crcClSCfgALG.crcSet c st)))
    (hrun : (SMap.get s.crc (4 * c + st) {}).run = l.foldl (crcByte a) a.init) (n w : Nat) :
    crcRes c st (crcFeed c st n w s) = crcOf a (l ++ leBytes n w) := by
  rw [crcRes, crcFeed, SMap.get_put_same, crcOf, List.foldl_append, ← hrun, ha]
  rfl

/-- The check values of Table: CRC algorithms, of the nine digits. -/
theorem crcOf_digits {digits : List Byte} (h : digits = [0x31, 0x32, 0x33, 0x34, 0x35, 0x36, 0x37, 0x38, 0x39]) :
    crcOf (crcAlg 0) digits = 0xF4 ∧ crcOf (crcAlg 1) digits = 0x29B1 ∧ crcOf (crcAlg 2) digits = 0xCBF43926 ∧
      crcOf (crcAlg 3) digits = 0xE3069283 ∧ crcOf (crcAlg 4) digits = 0x6C40DF5F0B497347 := by
  subst h
  decide +kernel

/-! Cluster timers (R118). -/

theorem countOpen_room {f : Fld} {k : Nat} {s : State} (h : s.fld f + k < 2 ^ f.width) : countOpen f k s = setFld f (s.fld f + k) s :=
  if_pos h

section
variable {i : Nat} {s v : State} (hen : s.flag (F.melTmrCtrlEN.tmr i) = true) (hdue : s.fld (F.melTmrCmpCMP.tmr i) ≤ s.gt)
  (hr : s.inReset .mel = false)
  (hpush : hwPush (s.fld (F.melTmrCtrlQUEUE.tmr i))
    (leBytes 8 i ++ leBytes 8 (s.fld (F.melTmrCmpCMP.tmr i)) ++ leBytes 8 s.gt) s = (true, v))
include hen hdue hr hpush

theorem timerExpire_oneShot (hper : s.fld (F.melTmrPerPER.tmr i) = 0) : timerExpire i s = setFlag (F.melTmrCtrlEN.tmr i) false v := by
  simp only [timerExpire, hen, hdue, hr, hpush, hper, Bool.not_false, and_self, if_true]

/-- A periodic timer after an expiry: its next compare value, and the expiries it has skipped. -/
theorem timerExpire_periodic (hper : 0 < s.fld (F.melTmrPerPER.tmr i)) {n : Nat}
    (hn : n = (s.gt - s.fld (F.melTmrCmpCMP.tmr i)) / s.fld (F.melTmrPerPER.tmr i)) :
    timerExpire i s = countOpen (F.melTmrCtrlMISSED.tmr i) n
      (setFld (F.melTmrCmpCMP.tmr i) (s.fld (F.melTmrCmpCMP.tmr i) + (n + 1) * s.fld (F.melTmrPerPER.tmr i)) v) := by
  simp only [timerExpire, hen, hdue, hr, hpush, hper.ne', hn, Bool.not_false, and_self, if_true, if_false, Nat.add_sub_cancel]

end

/-- The first multiple of a period past an instant. -/
theorem period_brackets {cmp per gt : Nat} (hdue : cmp ≤ gt) (hper : 0 < per) :
    cmp + (gt - cmp) / per * per ≤ gt ∧ gt < cmp + ((gt - cmp) / per + 1) * per := by
  have hdiv := Nat.div_add_mod' (gt - cmp) per
  have hmod := Nat.mod_lt (gt - cmp) hper
  rw [Nat.add_mul]
  omega

/-- The registers of a timer whose next compare value and whose count fit. -/
theorem timer_advanced {i next n : Nat} {v : State} (hnext : next < 2 ^ 64) (hn : v.fld (F.melTmrCtrlMISSED.tmr i) + n < 2 ^ 16) {t : State}
    (ht : t = countOpen (F.melTmrCtrlMISSED.tmr i) n (setFld (F.melTmrCmpCMP.tmr i) next v)) :
    t.fld (F.melTmrCmpCMP.tmr i) = next ∧ t.fld (F.melTmrCtrlMISSED.tmr i) = v.fld (F.melTmrCtrlMISSED.tmr i) + n ∧
      t.fld (F.melTmrCtrlEN.tmr i) = v.fld (F.melTmrCtrlEN.tmr i) ∧ t.qm = v.qm ∧ t.mem = v.mem := by
  have hmissed : (setFld (F.melTmrCmpCMP.tmr i) next v).fld (F.melTmrCtrlMISSED.tmr i) = v.fld (F.melTmrCtrlMISSED.tmr i) :=
    fld_setFld_at_other (f := F.melTmrCmpCMP) (g := F.melTmrCtrlMISSED) (i * 0x40) next v (by decide)
  rw [countOpen_room (by rw [hmissed]; exact hn), hmissed] at ht
  subst ht
  refine ⟨?_, ?_, ?_, rfl, rfl⟩ <;> simp only [Fld.tmr]
  · rw [fld_setFld_at_other _ _ _ (by decide), fld_setFld_same]
    exact Nat.mod_eq_of_lt hnext
  · rw [fld_setFld_same]
    exact Nat.mod_eq_of_lt hn
  · rw [fld_setFld_at_other _ _ _ (by decide), fld_setFld_at_other _ _ _ (by decide)]

/-! Mailboxes (R119). -/

section
variable {c r : Nat} {s : State}

theorem claimMbx_free (hc : s.flag (F.melMbxCtrlCLAIMED.mbx c) = false) (hr : s.inReset .mel = false) :
    claimMbx c r s = setFld (F.melMbxCtrlOWNER.mbx c) r (setFlag (F.melMbxCtrlCLAIMED.mbx c) true s) := if_neg (by simp [hc, hr])

theorem claimMbx_claimed (hc : s.flag (F.melMbxCtrlCLAIMED.mbx c) = true) : claimMbx c r s = s := if_pos (Or.inl hc)

/-- The reader that is granted a claim holds it. -/
theorem mbxOwned_claimed (hr : r < 16) :
    (setFld (F.melMbxCtrlOWNER.mbx c) r (setFlag (F.melMbxCtrlCLAIMED.mbx c) true s)).mbxOwned c r = true := by
  have hclaimed : (setFld (F.melMbxCtrlOWNER.mbx c) r (setFlag (F.melMbxCtrlCLAIMED.mbx c) true s)).flag
      (F.melMbxCtrlCLAIMED.mbx c) = true := (flag_setFld_at_other _ _ _ (by decide)).trans (flag_setFlag_same ..)
  have howner : r % 2 ^ (F.melMbxCtrlOWNER.mbx c).width = r := Nat.mod_eq_of_lt hr
  simp [State.mbxOwned, hclaimed, howner]

theorem sendMbx_owner (ho : s.mbxOwned c r = true) (hr : s.inReset .mel = false) :
    sendMbx c r s = raiseSwi c (setFlag (F.melMbxCtrlFULL.mbx c) true s) := by
  simp [sendMbx, ho, hr]

theorem sendMbx_denied (ho : s.mbxOwned c r = false) (hr : s.inReset .mel = false) :
    sendMbx c r s = raise .mel 4 { addr := 0x20016040 + c * 0x80, mstr := 4 * r, typ := 2 } s := by
  simp [sendMbx, ho, hr]

theorem mbxOwned_setFull (v : Bool) : (setFlag (F.melMbxCtrlFULL.mbx c) v s).mbxOwned c r = s.mbxOwned c r := by
  simp only [State.mbxOwned, Fld.mbx, setFlag]
  rw [flag_setFld_at_other _ _ _ (by decide), fld_setFld_at_other _ _ _ (by decide)]

theorem raiseSwi_getLsbD (hc : c < 16) (s : State) : (raiseSwi c s).mel.swi.getLsbD c = true := by
  rw [raiseSwi, BitVec.getLsbD_or, BitVec.getLsbD_ofNat, Nat.one_shiftLeft, Nat.testBit_two_pow_self]
  simp [hc]

theorem ackMbx_core (hr : s.inReset .mel = false) :
    ackMbx c c s = setFlag (F.melMbxCtrlCLAIMED.mbx c) false (setFlag (F.melMbxCtrlFULL.mbx c) false s) := if_pos ⟨rfl, by simp [hr]⟩

theorem ackMbx_other (h : c ≠ r) : ackMbx c r s = s := if_neg fun h' => h h'.1

theorem flag_full_setClaimed (v : Bool) (s : State) :
    (setFlag (F.melMbxCtrlCLAIMED.mbx c) v s).flag (F.melMbxCtrlFULL.mbx c) = s.flag (F.melMbxCtrlFULL.mbx c) :=
  flag_setFld_at_other _ _ s (by decide)

end

/-- Settles O21: each unit's commands, case by case. -/
theorem clusterServices : Obligations.ClusterServices := by
  unfold Obligations.ClusterServices
  refine ⟨⟨fun c st alg s hr halg => ?_, fun c st n w l s hr => ?_, fun digits => crcOf_digits⟩, fun i s v => ?_,
    fun c r s hr => ⟨fun hc => ?_, fun hc => ?_, fun ho => ?_, fun ho => ?_, fun hcr => ?_, fun hcr => ?_⟩⟩
  · have hexec : exec (.crcAlgWrite c st alg) s = .next (crcSelect c.val st.val alg.toNat s) :=
      congrArg Host.Outcome.next (if_pos (by simp [hr]))
    obtain ⟨hsel, hres, hother⟩ := crcSelect_spec c.val st.val halg s
    exact ⟨_, hexec, hsel, hres, hother, rfl⟩
  · intro a hrun
    have hexec : exec (.crcDin c st n w) s = .next (crcFeed c.val st.val (2 ^ n.val) w.toNat s) :=
      congrArg Host.Outcome.next (if_pos (by simp [hr]))
    exact ⟨_, hexec, crcRes_crcFeed rfl hrun _ _, fun j hj => SMap.find_put_other _ _ hj, rfl, rfl⟩
  · intro k cmp per hen hdue hr hpush
    refine ⟨fun hper => congrArg Host.Outcome.next (timerExpire_oneShot hen hdue hr hpush hper), fun hper hgt hmissed => ?_⟩
    obtain ⟨hle, hlt⟩ := period_brackets hdue hper
    have hnext : cmp + ((s.gt - cmp) / per + 1) * per < 2 ^ 64 := by
      rw [Nat.add_mul]
      omega
    obtain ⟨hcmp, hcount, hen', hqm, hmem⟩ := timer_advanced hnext hmissed rfl
    exact ⟨_, _, congrArg Host.Outcome.next (timerExpire_periodic hen hdue hr hpush hper rfl), hcmp, hle, hlt, hcount, hen', hqm, hmem⟩
  · exact ⟨_, congrArg Host.Outcome.next (claimMbx_free hc hr), mbxOwned_claimed r.isLt, rfl, rfl⟩
  · exact congrArg Host.Outcome.next (claimMbx_claimed hc)
  · exact ⟨_, congrArg Host.Outcome.next (sendMbx_owner ho hr), flag_setFlag_same .., raiseSwi_getLsbD c.isLt _,
      (mbxOwned_setFull true).trans ho, rfl⟩
  · exact congrArg Host.Outcome.next (sendMbx_denied ho hr)
  · subst hcr
    exact ⟨_, congrArg Host.Outcome.next (ackMbx_core hr), (flag_full_setClaimed ..).trans (flag_setFlag_same ..), flag_setFlag_same .., rfl, rfl⟩
  · exact congrArg Host.Outcome.next (ackMbx_other fun h => hcr (Fin.ext h))

end Sys2Proof.Machine
end

section
/-! SUPPORT. The command unit of the surface handles (R123–R128): what each command leaves, and what its completion shows. -/

namespace Sys2Proof.Machine

theorem exec_register (h : Fin 1024) (s : State) : exec (.register h) s = .next (hcmd (registerAct h.val) s) := rfl
theorem exec_publish (h : Fin 1024) (b : Fin 4) (s : State) : exec (.publish h b) s = .next (hcmd (publishAct h.val b.val) s) := rfl
theorem exec_acquire (h : Fin 1024) (b : Fin 4) (s : State) : exec (.acquire h b) s = .next (hcmd (acquireAct h.val b.val) s) := rfl
theorem exec_release (h : Fin 1024) (s : State) : exec (.release h) s = .next (hcmd (releaseAct h.val) s) := rfl
theorem exec_handleCmdComplete (s : State) : exec .handleCmdComplete s = .next (hcmdComplete s) := rfl

@[simp] theorem handle_setHandle_same (h : Nat) (v : HandleState) (s : State) : (setHandle h v s).handle h = v := by
  simp [State.handle, setHandle]

theorem handle_setHandle_other {h k : Nat} (v : HandleState) (s : State) (hk : k ≠ h) : (setHandle h v s).handle k = s.handle k :=
  SMap.get_put_other _ _ _ hk

theorem hcmd_refused {s : State} (hr : s.inReset .cmp = false) (hb : s.fld F.cmpHresSTATE = 1) (act : State → State) :
    hcmd act s = raise .cmp 1 { addr := 0x20100808, typ := 2 } s := by
  simp [hcmd, hr, hb]

theorem hcmd_taken {s : State} (hr : s.inReset .cmp = false) (hb : s.fld F.cmpHresSTATE ≠ 1) (act : State → State) :
    hcmd act s = act s := by
  simp [hcmd, hr, hb]

/-- A command that is taken answers what it does. -/
theorem next_hcmd {s t : State} {act : State → State} (hr : s.inReset .cmp = false) (hb : s.fld F.cmpHresSTATE ≠ 1) (h : act s = t) :
    (.next (hcmd act s) : Host.Outcome State Fault Refusal) = .next t :=
  congrArg Host.Outcome.next ((hcmd_taken hr hb act).trans h)

@[simp] theorem hcmdBusy_hcmd (c : HCmd) (s : State) : (hcmdBusy c s).cmp.hcmd = some c := rfl

theorem hcmdBusy_shown {c : HCmd} (hc : c.handle < 1024) (s : State) :
    (hcmdBusy c s).fld F.cmpHresSTATE = 1 ∧ (hcmdBusy c s).fld F.cmpHresHANDLE = c.handle := by
  constructor
  · rw [hcmdBusy, fld_setFld_other _ _ (by decide), fld_setFld_same]
    rfl
  · rw [hcmdBusy, fld_setFld_same]
    exact Nat.mod_eq_of_lt hc

/-! REGISTER (R124). -/

theorem registerAct_notFree {h : Nat} {s : State} (hv : (s.handle h).st ≠ .free) : registerAct h s = hcmdBusy { handle := h, result := 3 } s :=
  if_pos hv

/-- A REGISTER that was begun: it will end with a descriptor and 0, or without one and 1 or 2 (R124). -/
def HCmd.begun (h : Nat) (c : HCmd) : Prop :=
  c.handle = h ∧ c.registering = true ∧ c.result < 3 ∧ (c.result = 0 ↔ c.live ≠ none)

theorem HCmd.begun_fails (h : Nat) {r : Nat} (h0 : r ≠ 0) (h3 : r < 3) : HCmd.begun h { handle := h, result := r, registering := true } :=
  ⟨rfl, rfl, h3, by simp [h0]⟩

theorem HCmd.begun_judged (h : Nat) (d : SurfDesc) (pinned : Bool) :
    HCmd.begun h (if pinned then { handle := h, result := 0, live := some d, registering := true }
      else { handle := h, result := 2, registering := true }) := by
  cases pinned
  · exact HCmd.begun_fails h (by decide) (by decide)
  · exact ⟨rfl, rfl, Nat.zero_lt_succ 2, by simp⟩

/-- A REGISTER of a FREE handle reads its descriptor, checks it and walks its pages; each failure has its result (R124). -/
theorem registerAct_free {h : Nat} {s : State} (hv : (s.handle h).st = .free) : ∃ c u, registerAct h s = hcmdBusy c u ∧ c.begun h := by
  simp only [registerAct, hv, ne_eq, not_true_eq_false, if_false]
  split
  · exact ⟨_, _, rfl, HCmd.begun_fails h (by decide) (by decide)⟩
  · split
    · exact ⟨_, _, rfl, HCmd.begun_fails h (by decide) (by decide)⟩
    · exact ⟨_, _, rfl, HCmd.begun_judged h _ _⟩

/-! PUBLISH and ACQUIRE (R125, R126). -/

theorem judgeBuf_notLive {h : Nat} (b : Nat) {s : State} (hv : (s.handle h).st ≠ .live) : judgeBuf h b s = 4 := by
  simp only [judgeBuf]
  split
  · exact absurd ‹(s.handle h).st = .live› hv
  · rfl

theorem judgeBuf_live {h : Nat} (b : Nat) {s : State} {d : SurfDesc} (hv : (s.handle h).st = .live) (hd : (s.handle h).desc = some d) :
    judgeBuf h b s = if s.bound h then 4 else if !(d.hasBuf b) then 7 else if s.held h b then 5 else 0 := by
  simp only [judgeBuf, hv, hd]

section
variable {h b r : Nat} {s : State}

theorem publishAct_refused (hj : judgeBuf h b s = r) (hr : r ≠ 0) : publishAct h b s = hcmdBusy { handle := h, result := r } s := by
  simp only [publishAct, hj, if_neg hr]

theorem acquireAct_refused (hj : judgeBuf h b s = r) (hr : r ≠ 0) : acquireAct h b s = hcmdBusy { handle := h, result := r } s := by
  simp only [acquireAct, hj, if_neg hr]

theorem publishAct_granted (hj : judgeBuf h b s = 0) :
    publishAct h b s = hcmdBusy { handle := h, result := 0 } (publishBuf h b (s.fld F.cmpHtimeT) s) := by
  simp only [publishAct, hj, if_pos]

theorem acquireAct_granted (hj : judgeBuf h b s = 0) : acquireAct h b s = hcmdBusy { handle := h, result := 0 } (unpublish h b s) := by
  simp only [acquireAct, hj, if_pos]

end

/-! RELEASE and HANDLE_FREED (R128). -/

theorem releaseAct_live {h : Nat} {s : State} (hv : (s.handle h).st = .live) : releaseAct h s =
    hcmdBusy { handle := h, result := 0 } (setHandle h { s.handle h with st := .releasing } s) := if_pos hv

theorem releaseAct_notLive {h : Nat} {s : State} (hv : (s.handle h).st ≠ .live) :
    releaseAct h s = hcmdBusy { handle := h, result := 4 } s := if_neg hv

theorem handleFree_kept {h : Nat} {s : State} (hv : (s.handle h).st ≠ .releasing) : handleFree h s = s :=
  if_neg fun hc => hv hc.1

theorem handleFree_freed {h : Nat} {s : State} (hv : (s.handle h).st = .releasing) (hheld : ∀ k < 4, s.held h k = false)
    (hnames : ∀ c ∈ s.commit.armed, c.names h = false) :
    handleFree h s = intr 246 { s with handles := SMap.erase s.handles h } := by
  refine if_pos ⟨hv, ?_, ?_⟩
  · simpa using hheld
  · simpa using hnames

/-! Completion (R123, R124). -/

theorem hcmdComplete_none {s : State} (hc : s.cmp.hcmd = none) : hcmdComplete s = s := by
  simp only [hcmdComplete, hc]

/-- What a command leaves of its handle when it ends: a REGISTER leaves it LIVE or FREE (R124). -/
def handlesAfter (c : HCmd) (s : State) : State :=
  if c.registering then setHandle c.handle (match c.live with | some d => { st := .live, desc := some d } | none => {}) s else s

theorem hcmdComplete_some {c : HCmd} {s : State} (hc : s.cmp.hcmd = some c) : hcmdComplete s =
    intr 246 (setFld F.cmpHresRESULT c.result (setFld F.cmpHresSTATE 2
      { handlesAfter c s with cmp := { (handlesAfter c s).cmp with hcmd := none } })) := by
  simp only [hcmdComplete, hc]
  rfl

theorem hcmdComplete_shown {c : HCmd} {s : State} (hc : s.cmp.hcmd = some c) (hres : c.result < 8) :
    (hcmdComplete s).cmp.hcmd = none ∧ (hcmdComplete s).fld F.cmpHresSTATE = 2 ∧ (hcmdComplete s).fld F.cmpHresRESULT = c.result ∧
      246 ∈ (hcmdComplete s).evt ∧ (hcmdComplete s).handles = (handlesAfter c s).handles ∧ (hcmdComplete s).mem = s.mem := by
  rw [hcmdComplete_some hc]
  refine ⟨rfl, ?_, ?_, mem_intr_evt .., rfl, ?_⟩
  · rw [fld_intr, fld_setFld_other _ _ (by decide), fld_setFld_same]
    rfl
  · rw [fld_intr, fld_setFld_same]
    exact Nat.mod_eq_of_lt (Nat.lt_trans hres (by decide))
  · show (handlesAfter c s).mem = s.mem
    unfold handlesAfter
    split <;> rfl

/-- Settles O32: each command by what its unit leaves, after the refusal of R15 while it is BUSY. -/
theorem handleCommands : Obligations.HandleCommands := by
  intro h b s busy v no
  have hlt : h.val < 1024 := h.isLt
  refine ⟨fun hr hb => ?_, fun hr hb => ⟨fun hv => ?_, fun hv => ?_, fun hv => ?_, fun d hv hd => ⟨fun hbound => ?_, fun hbound hbuf => ?_,
    fun hbound hbuf hheld => ?_, fun hbound hbuf hheld => ?_⟩, fun hv => ?_⟩, fun hc => congrArg Host.Outcome.next (hcmdComplete_none hc),
    fun c hc hres => ?_, fun hv => congrArg Host.Outcome.next (handleFree_kept hv),
    fun hv hheld hnames => congrArg Host.Outcome.next (handleFree_freed hv hheld hnames)⟩
  · simp only [exec_register, exec_publish, exec_acquire, exec_release, hcmd_refused hr hb, and_self]
  · exact next_hcmd hr hb (registerAct_notFree hv)
  · obtain ⟨c, u, hact, hch, hreg, hres, hlive⟩ := registerAct_free hv
    obtain ⟨hstate, hhandle⟩ := hcmdBusy_shown (hch ▸ hlt) u
    exact ⟨_, c, next_hcmd hr hb hact, hcmdBusy_hcmd c u, hch, hreg, hres, hlive, hstate, hhandle.trans hch⟩
  · have hj := judgeBuf_notLive b.val hv
    exact ⟨next_hcmd hr hb (publishAct_refused hj (by decide)), next_hcmd hr hb (acquireAct_refused hj (by decide)),
      next_hcmd hr hb (releaseAct_notLive hv)⟩
  · have hj : judgeBuf h b s = 4 := by rw [judgeBuf_live _ hv hd, hbound]; rfl
    exact ⟨next_hcmd hr hb (publishAct_refused hj (by decide)), next_hcmd hr hb (acquireAct_refused hj (by decide))⟩
  · have hj : judgeBuf h b s = 7 := by rw [judgeBuf_live _ hv hd, hbound, hbuf]; rfl
    exact ⟨next_hcmd hr hb (publishAct_refused hj (by decide)), next_hcmd hr hb (acquireAct_refused hj (by decide))⟩
  · have hj : judgeBuf h b s = 5 := by rw [judgeBuf_live _ hv hd, hbound, hbuf, hheld]; rfl
    exact ⟨next_hcmd hr hb (publishAct_refused hj (by decide)), next_hcmd hr hb (acquireAct_refused hj (by decide))⟩
  · have hj : judgeBuf h b s = 0 := by rw [judgeBuf_live _ hv hd, hbound, hbuf, hheld]; rfl
    exact ⟨next_hcmd hr hb (publishAct_granted hj), next_hcmd hr hb (acquireAct_granted hj)⟩
  · exact next_hcmd hr hb (releaseAct_live hv)
  · obtain ⟨hnone, hstate, hresult, hevt, hhandles, hmem⟩ := hcmdComplete_shown hc hres
    refine ⟨_, exec_handleCmdComplete s, hnone, hstate, hresult, hevt, hmem, fun hreg => ?_, fun hreg => ?_⟩
    · rw [hhandles, handlesAfter, hreg]
      rfl
    · have hset : ∀ k, (hcmdComplete s).handle k = (handlesAfter c s).handle k := fun k => by simp only [State.handle, hhandles]
      simp only [hset, handlesAfter, hreg, if_true]
      exact ⟨handle_setHandle_same .., fun k hk => handle_setHandle_other _ _ hk⟩

end Sys2Proof.Machine
end

section
/-! SUPPORT. What an access through the IOMMU leaves of the receive contexts (R132, R137): they stand, unless an event on the way
resets their block. -/

namespace Sys2Proof.Machine

/-- A fold of steps that leave a part of the state alone leaves it alone. -/
theorem foldl_keeps {β γ : Type} (g : State → γ) (f : State → β → State) (hf : ∀ s x, g (f s x) = g s) (l : List β) (s : State) :
    g (l.foldl f s) = g s := by
  induction l generalizing s with
  | nil => rfl
  | cons x t ih => rw [List.foldl_cons, ih, hf]

theorem forN_keeps {γ : Type} (g : State → γ) (n : Nat) (f : Nat → State → State) (hf : ∀ i s, g (f i s) = g s) (s : State) :
    g (forN n f s) = g s := foldl_keeps g (fun t i => f i t) (fun s i => hf i s) _ s

theorem resetQm_rx (s : State) : (resetQm s).rx = s.rx := by
  simp only [resetQm]
  rw [foldl_keeps State.rx]
  intro t x
  show (postRes _ _ _ _ _).rx = _
  split <;> rfl

theorem setPhases_rx (k n : Nat) (s : State) : (setPhases k n s).rx = s.rx := by
  simp only [setPhases]
  rw [forN_keeps State.rx]
  · rfl
  · exact fun _ _ => rfl

theorem railTo_rx (k st : Nat) (s : State) : (railTo k st s).rx = s.rx := by
  simp only [railTo]
  split <;> rfl

theorem setRail_rx (k : Nat) (v : RailState) (s : State) : (setRail k v s).rx = s.rx := rfl

theorem railHold_rx (k : Nat) (s : State) : (railHold k s).rx = s.rx := by
  simp only [railHold]
  split
  · rw [setRail_rx, setPhases_rx, railTo_rx]
  · simp only [railGoal, setRail_rx, setPhases_rx, railTo_rx]

theorem neighboursHold_rx (k : Nat) (s : State) : (neighboursHold k s).rx = s.rx := by
  unfold neighboursHold
  refine foldl_keeps State.rx _ (fun s j => ?_) _ _
  split
  · exact railHold_rx j s
  · rfl

/-- From s to t the receive contexts stand, or a reset has emptied them. -/
def RxKept (s t : State) : Prop := t.rx = s.rx ∨ t.rx = []

/-- A block reset empties the receive contexts where the block is SRC (R422). -/
theorem blockResetClear_rx (b : Blk) (s : State) : RxKept s (blockResetClear b s) := by
  cases b <;> simp only [blockResetClear]
  case src => exact .inr rfl
  case qm => exact .inl (resetQm_rx s)
  case ddr => split <;> exact .inl rfl
  case rail k => exact .inl (neighboursHold_rx k.val _)
  all_goals exact .inl rfl

namespace RxKept
variable {s t : State}

theorem refl (s : State) : RxKept s s := .inl rfl

theorem trans {u : State} (h : RxKept s t) (h' : RxKept t u) : RxKept s u := by
  obtain h' | h' := h'
  · unfold RxKept
    rwa [h']
  · exact .inr h'

theorem startBlockReset (h : RxKept s t) (b : Blk) : RxKept s (startBlockReset b t) := by
  unfold Machine.startBlockReset
  split
  · exact h
  · exact h.trans (blockResetClear_rx b _)

theorem chipReset (b : Blk) (src : Nat) : RxKept s (chipReset b src t) := .inr rfl

theorem takeReactions (h : RxKept s t) (b : Blk) (src : Nat) : RxKept s (takeReactions b src t) := by
  have hn : RxKept s (if (t.react b src).getLsbD 1 then { t with nmi := insertN b.id t.nmi } else t) := by
    split <;> exact h
  simp only [Machine.takeReactions]
  split
  · exact chipReset b src
  · split
    · exact hn.startBlockReset b
    · exact hn

/-- An event of a state that has the receive contexts of t. -/
theorem raise {u : State} (h : RxKept s t) (b : Blk) (src : Nat) (e : Ev) (hu : u.rx = t.rx := by rfl) : RxKept s (raise b src e u) := by
  have hs : RxKept s u := h.trans (.inl hu)
  simp only [Machine.raise]
  split
  · exact hs
  · split
    · exact hs
    · exact takeReactions (t := setFlt b _ u) hs b src

/-! Accesses of memory (R21, R22, R437, R443). -/

theorem reportUe (h : RxKept s t) (w : Who) (typ a : Nat) : RxKept s (reportUe w typ a t) := by
  simp only [Machine.reportUe]
  split
  case h_8 => exact h
  all_goals exact h.raise _ _ _

theorem reportCe (h : RxKept s t) (w : Who) (typ a : Nat) : RxKept s (reportCe w typ a t) := by
  simp only [Machine.reportCe]
  split
  case h_1 => exact h.raise _ _ _
  all_goals exact h

theorem foldl {β : Type} {f : State → β → State} (hf : ∀ {t : State} (x : β), RxKept s t → RxKept s (f t x)) (h : RxKept s t) (l : List β) :
    RxKept s (l.foldl f t) := by
  induction l generalizing t with
  | nil => exact h
  | cons x l ih => exact ih (hf x h)

theorem eccRead (h : RxKept s t) (w : Who) (typ a n : Nat) : RxKept s (eccRead w typ a n t).2 := by
  simp only [Machine.eccRead]
  split
  · exact h.reportUe w typ _
  · exact foldl (fun x ht => ht.reportCe w typ _) h _

theorem captureOnly (h : RxKept s t) (b : Blk) (m typ a : Nat) : RxKept s (captureOnly b m typ a t) := by
  simp only [Machine.captureOnly]
  split <;> exact h

theorem regRefuse (h : RxKept s t) (w : Who) (typ a : Nat) : RxKept s (regRefuse w typ a t).2 := by
  simp only [Machine.regRefuse]
  split
  · exact h.raise _ _ _
  · exact h.captureOnly _ _ _ _

theorem checkWrite (h : RxKept s t) (w : Who) (a n : Nat) : RxKept s (checkWrite w a n t).2 := by
  simp only [Machine.checkWrite]
  split
  case h_1 => exact h.raise _ _ _
  case h_9 => exact h.regRefuse _ _ _
  case h_10 | h_11 | h_12 | h_13 =>
    split
    · exact h.raise _ _ _
    · exact h
  all_goals exact h

theorem eccStore (h : RxKept s t) (w : Who) (a : Nat) (l : List Byte) : RxKept s (eccStore w a l t).2 := by
  simp only [Machine.eccStore]
  split
  · exact h.reportUe _ _ _
  · exact h

theorem memWrite (h : RxKept s t) (w : Who) (a : Nat) (l : List Byte) : RxKept s (memWrite w a l t).2 := by
  have hc := h.checkWrite w a l.length
  simp only [Machine.memWrite]
  split
  · exact h
  · split
    · exact hc
    · exact hc
    · exact hc.eccStore w a _

/-! Translation (R75, R81, R84). -/

theorem readEntry (h : RxKept s t) (w : Who) (a : Nat) : RxKept s (readEntry w a t).2 := by
  have he := h.eccRead w w.rd a 8
  simp only [Machine.readEntry]
  split
  · exact he.raise _ _ _
  · exact he

theorem walk3 (h : RxKept s t) (w : Who) (k : Acc3) (asid va a : Nat) : RxKept s (walk3 w k asid va a t).2 := by
  have hr := h.readEntry w (a + 8 * bits va 20 12)
  simp only [Machine.walk3]
  split
  · exact hr
  · split_ifs <;> exact hr

theorem walk2 (h : RxKept s t) (w : Who) (k : Acc3) (asid va a : Nat) : RxKept s (walk2 w k asid va a t).2 := by
  have hr := h.readEntry w (a + 8 * bits va 33 21)
  simp only [Machine.walk2]
  split
  · exact hr
  · split_ifs
    case pos => exact hr
    case pos => exact hr
    case pos => exact hr.walk3 w k asid va _
    all_goals exact hr

theorem walk1 (h : RxKept s t) (w : Who) (k : Acc3) (asid va root : Nat) : RxKept s (walk1 w k asid va root t).2 := by
  have hr := h.readEntry w (root + 8 * bits va 47 34)
  simp only [Machine.walk1]
  split
  · exact h
  · split
    · exact hr
    · split_ifs
      · exact hr
      · exact hr
      · exact hr.walk2 w k asid va _

/-- An access answers with a state in which the receive contexts are kept. As a statement about the whole answer it lets a case split
go by without evaluating the access. -/
def Ans (s : State) {α : Type} (r : α × State) : Prop := RxKept s r.2

theorem ans {α : Type} {x : α} (h : RxKept s t) : Ans s (x, t) := h

theorem asidRoot (h : RxKept s t) (w : Who) (k : Acc3) (asid : Nat) : Ans s (asidRoot w k asid t) := by
  have hr : ∀ a, RxKept s (Machine.readEntry w a t).2 := h.readEntry w
  simp only [Machine.asidRoot]
  split
  · exact h.ans
  · split
    · exact (hr _).ans
    · split_ifs <;> exact (hr _).ans

theorem tlbFill (h : RxKept s t) (e : TlbEntry) : RxKept s (tlbFill e t) := h

/-- A translation: from a held entry, or by a walk from its root. -/
theorem xlate (h : RxKept s t) (w : Who) (c : PClass) (k : Acc3) (asid va : Nat) {root : State → Except VErr Nat × State}
    (hroot : ∀ {u : State}, RxKept s u → RxKept s (root u).2) : RxKept s (xlate w c k asid va root t).2 := by
  have hwalk : ∀ {u : State} (a : Nat), RxKept s u → RxKept s (Machine.walk1 w k asid va a (root u).2).2 :=
    fun a hu => (hroot hu).walk1 w k asid va a
  have hd : RxKept s (drawn t) := h
  simp only [Machine.xlate]
  split
  · exact h
  · split
    · split
      · exact (hroot h)
      · split
        · exact (hwalk _ h)
        · exact ((hwalk _ h).tlbFill _)
    · split
      · exact hd
      · split
        · exact (hroot hd)
        · split
          · exact (hwalk _ hd)
          · exact ((hwalk _ hd).tlbFill _)
theorem ioXlate (h : RxKept s t) (w : Who) (c : PClass) (k : Acc3) (phys : Bool) (asid va : Nat) :
    RxKept s (ioXlate w c k phys asid va t).2 := by
  have hx := h.xlate w c k asid va fun hu => hu.asidRoot w k asid
  simp only [Machine.ioXlate]
  split
  · exact h
  · split
    · exact h
    · split <;> exact hx

theorem ioXlates (h : RxKept s t) (w : Who) (c : PClass) (phys : Bool) (asid : Nat) (l : List (Nat × Nat)) :
    RxKept s (ioXlates w c phys asid l t).2 := by
  induction l generalizing t with
  | nil => exact h
  | cons e l ih =>
    have hx := h.ioXlate w c .write phys asid e.1
    simp only [Machine.ioXlates]
    split
    · exact hx
    · split
      · exact ih hx
      · exact ih hx

theorem writeUnder_rx (a n : Nat) (u v : State) : (writeUnder a n u v).rx = v.rx := by
  simp only [writeUnder]
  split <;> rfl

theorem ioWriteChunks (h : RxKept s t) (w : Who) (c : PClass) (cs : List (Nat × Nat × Nat)) (l : List Byte) :
    RxKept s (ioWriteChunks w c cs l t).2 := by
  induction cs generalizing t l with
  | nil => exact h
  | cons e cs ih =>
    have hw := h.memWrite w e.2.1 (l.take e.2.2)
    simp only [Machine.ioWriteChunks]
    split
    · exact hw
    · refine ih ?_ _
      unfold snoopWrite
      split
      · exact hw.trans (.inl (writeUnder_rx _ _ _ _))
      · exact hw

theorem ioWrite (h : RxKept s t) (w : Who) (c : PClass) (phys : Bool) (asid va : Nat) (l : List Byte) :
    RxKept s (ioWrite w c phys asid va l t).2 := by
  have hx := h.ioXlates w c phys asid (pageChunks (l.length / 4096 + 2) va l.length)
  simp only [Machine.ioWrite]
  split
  · exact hx
  · exact hx.ioWriteChunks w c _ l

end RxKept
end Sys2Proof.Machine
end

section
/-! SUPPORT. Receive contexts and the preview stream (R132–R138): which packets are taken, and what each adds to its frame. -/

namespace Sys2Proof.Machine

@[simp] theorem rxCtx_setRx_same (r : Nat) (c : RxCtx) (s : State) : (setRx r c s).rxCtx r = c := by
  simp [State.rxCtx, setRx]

@[simp] theorem setRx_setRx (r : Nat) (c e : RxCtx) (s : State) : setRx r e (setRx r c s) = setRx r e s := by
  simp [setRx]

theorem setRxFrame_setRx (r : Nat) (c : RxCtx) (f : Option RxFrame) (s : State) :
    setRxFrame r f (setRx r c s) = setRx r { c with frame := f } s := by
  rw [setRxFrame, rxCtx_setRx_same, setRx_setRx]

theorem fld_countMod_same (f : Fld) (k : Nat) (s : State) : (countMod f k s).fld f = (s.fld f + k) % 2 ^ f.width :=
  fld_setFld_same ..

@[simp] theorem handle_setRx (r : Nat) (c : RxCtx) (s : State) (h : Nat) : (setRx r c s).handle h = s.handle h := rfl

@[simp] theorem handle_setRxFrame (r : Nat) (f : Option RxFrame) (s : State) (h : Nat) : (setRxFrame r f s).handle h = s.handle h := rfl
@[simp] theorem handle_setFld (f : Fld) (v : Nat) (s : State) (h : Nat) : (setFld f v s).handle h = s.handle h := rfl
@[simp] theorem handle_countMod (f : Fld) (k : Nat) (s : State) (h : Nat) : (countMod f k s).handle h = s.handle h := rfl
@[simp] theorem handle_intr (id : Nat) (s : State) (h : Nat) : (intr id s).handle h = s.handle h := rfl
@[simp] theorem setRx_mem (r : Nat) (c : RxCtx) (s : State) : (setRx r c s).mem = s.mem := rfl
@[simp] theorem setRxFrame_mem (r : Nat) (f : Option RxFrame) (s : State) : (setRxFrame r f s).mem = s.mem := rfl
@[simp] theorem countMod_mem (f : Fld) (k : Nat) (s : State) : (countMod f k s).mem = s.mem := rfl
@[simp] theorem publishBuf_mem (h b : Nat) (t : Int) (s : State) : (publishBuf h b t s).mem = s.mem := rfl

/-! The reorder buffer (R132). -/

section
variable {r n : Nat} {p : RxPkt} {s t : State}

theorem RxKept.hold_nil (h : RxKept s t) (hs : (s.rxCtx r).hold = []) : (t.rxCtx r).hold = [] := by
  obtain h | h := h
  · rwa [State.rxCtx, h]
  · rw [State.rxCtx, h]
    rfl

/-- Nothing is taken from an empty reorder buffer. -/
theorem rxDrain_nil (n : Nat) (h : (s.rxCtx r).hold = []) : rxDrain r n s = s := by
  cases n with
  | zero => rfl
  | succ n =>
    simp only [rxDrain]
    split
    · rfl
    · simp [h]

theorem rxDrain_waits {k : Nat} (hk : (s.rxCtx r).next = some k) (hfind : (s.rxCtx r).hold.find? (fun q => q.1.seq.toNat == k) = none)
    (hroom : (s.rxCtx r).hold.length < 64) : rxDrain r (n + 1) s = s := by
  simp only [rxDrain, hk, hfind, if_neg (Nat.not_le.2 hroom)]

theorem rxDrain_takes {k : Nat} {q : RxPkt × Nat} (hk : (s.rxCtx r).next = some k)
    (hfind : (s.rxCtx r).hold.find? (fun q => q.1.seq.toNat == k) = some q) : rxDrain r (n + 1) s = rxDrain r n (rxInOrder r q.1 q.2
      (setRx r { s.rxCtx r with next := some ((k + 1) % 65536), hold := (s.rxCtx r).hold.filter (fun x => x.1.seq != q.1.seq) } s)) := by
  simp only [rxDrain, hk, hfind]

theorem rxPacketIn_off (h : s.inFlag (F.srcRxCfgEN.rx r) = false) : rxPacketIn r p s = s := by
  simp [rxPacketIn, h]

variable (hon : s.inFlag (F.srcRxCfgEN.rx r) = true ∧ s.inReset .src = false ∧ s.pwr.stopped.contains 5 = false)
include hon

theorem rxPacketIn_on : rxPacketIn r p s = if 32768 ≤ (p.seq.toNat + 65536 - (s.rxCtx r).next.getD p.seq.toNat) % 65536 then s
    else rxDrain r 65600 (setRx r
      { s.rxCtx r with next := some ((s.rxCtx r).next.getD p.seq.toNat), hold := (s.rxCtx r).hold ++ [(p, s.gt)] } s) := by
  obtain ⟨hen, hreset, hstop⟩ := hon
  simp only [rxPacketIn, hen, hreset, hstop, Bool.not_true, Bool.false_eq_true, or_self, if_false]

variable {k : Nat} (hk : k = (s.rxCtx r).next.getD p.seq.toNat)
include hk

theorem rxPacketIn_old (hold : 32768 ≤ (p.seq.toNat + 65536 - k) % 65536) : rxPacketIn r p s = s := by
  rw [rxPacketIn_on hon, if_pos (hk ▸ hold)]

/-- A packet ahead of the next one expected is held. -/
theorem rxPacketIn_ahead (hne : k ≠ p.seq.toNat) (hnew : (p.seq.toNat + 65536 - k) % 65536 < 32768)
    (hmiss : ∀ q ∈ (s.rxCtx r).hold, q.1.seq.toNat ≠ k) (hroom : (s.rxCtx r).hold.length < 63) :
    rxPacketIn r p s = setRx r { s.rxCtx r with next := some k, hold := (s.rxCtx r).hold ++ [(p, s.gt)] } s := by
  have hfind : ((s.rxCtx r).hold ++ [(p, s.gt)]).find? (fun q => q.1.seq.toNat == k) = none := by
    rw [List.find?_eq_none]
    intro q hq
    obtain hq | hq := List.mem_append.1 hq
    · simpa using hmiss q hq
    · rw [List.mem_singleton.1 hq]
      simpa using hne.symm
  rw [rxPacketIn_on hon, ← hk, if_neg (Nat.not_le.2 hnew)]
  refine rxDrain_waits (n := 65599) (k := k) ?_ ?_ ?_
  · rw [rxCtx_setRx_same]
  · rw [rxCtx_setRx_same, hfind]
  · rw [rxCtx_setRx_same, List.length_append]
    exact Nat.succ_lt_succ hroom

/-- The packet expected is taken at once where none is held. -/
theorem rxPacketIn_next (hseq : k = p.seq.toNat) (hhold : (s.rxCtx r).hold = [])
    (h : ((rxInOrder r p s.gt (setRx r { s.rxCtx r with next := some ((k + 1) % 65536) } s)).rxCtx r).hold = []) :
    rxPacketIn r p s = rxInOrder r p s.gt (setRx r { s.rxCtx r with next := some ((k + 1) % 65536) } s) := by
  have hctx : { s.rxCtx r with next := some ((k + 1) % 65536) } = ({ s.rxCtx r with next := some ((k + 1) % 65536), hold := [] } : RxCtx) := by
    rw [← hhold]
  have htake : rxPacketIn r p s = rxDrain r 65599 (rxInOrder r p s.gt (setRx r { s.rxCtx r with next := some ((k + 1) % 65536) } s)) := by
    rw [rxPacketIn_on hon, ← hk, if_neg (by omega), hhold, hctx]
    refine (rxDrain_takes (n := 65599) (k := k) (q := (p, s.gt)) ?_ ?_).trans ?_
    · rw [rxCtx_setRx_same]
    · rw [rxCtx_setRx_same]
      simp [hseq]
    · rw [rxCtx_setRx_same, setRx_setRx]
      simp
  rw [htake, rxDrain_nil _ h]

end

/-! A packet in its order (R135–R137). -/

section
variable {r gt b : Nat} {p : RxPkt} {f : RxFrame} {d : SurfDesc} {s : State}

/-- The first packet of a frame begins it. -/
theorem rxInOrder_first (hf : (s.rxCtx r).frame = none) : rxInOrder r p gt s = rxInOrder r p gt (beginFrame r p gt s) := by
  simp only [rxInOrder, hf, Option.isNone_none, if_true]
  simp [beginFrame]

theorem rxInOrder_dropped (hf : (s.rxCtx r).frame = some f) (hts : f.ts = p.ts.toNat) (hdrop : f.dropped = true) (hm : p.marker = false) :
    rxInOrder r p gt s = s := by
  simp [rxInOrder, hf, hts, hdrop, hm]

/-- What a packet adds to its frame: the bytes of a codestream, or samples. -/
def rxAdd (r : Nat) (p : RxPkt) (f : RxFrame) (d : SurfDesc) (b : Nat) (s : State) : State :=
  if s.inFlag (F.srcRxCfgKIND.rx r) then setRxFrame r (some { f with bytes := f.bytes ++ p.bytes }) s else storeRun r p f d b s

theorem rxInOrder_taken (hf : (s.rxCtx r).frame = some f) (hts : f.ts = p.ts.toNat) (hdrop : f.dropped = false) (hb : f.buf = some b)
    (hd : (s.handle f.handle).desc = some d) :
    rxInOrder r p gt s = if p.marker then endFrame r (rxAdd r p f d b s) else rxAdd r p f d b s := by
  simp [rxInOrder, rxAdd, hf, hts, hdrop, hb, hd]

theorem rxAdd_codestream (hkind : s.inFlag (F.srcRxCfgKIND.rx r) = true) :
    rxAdd r p f d b s = setRxFrame r (some { f with bytes := f.bytes ++ p.bytes }) s := if_pos hkind

theorem rxAdd_samples (hkind : s.inFlag (F.srcRxCfgKIND.rx r) = false) : rxAdd r p f d b s = storeRun r p f d b s :=
  if_neg (Bool.eq_false_iff.1 hkind)

/-! The first packet of a frame chooses a buffer (R136). -/

/-- The frame that a first packet begins, in the buffer chosen for it, or dropped without one. -/
def firstFrame (r : Nat) (p : RxPkt) (gt : Nat) (buf : Option Nat) (s : State) : RxFrame :=
  { ts := p.ts.toNat, handle := s.inF (F.srcRxCfgHANDLE.rx r), buf := buf, time := mediaTime p.ts.toNat gt, dropped := buf.isNone,
    gap := (s.rxCtx r).lost && s.inFlag (F.srcRxCfgKIND.rx r) }

theorem beginFrame_noBuf (hb : s.chooseBuf (s.inF (F.srcRxCfgHANDLE.rx r)) = none) : beginFrame r p gt s =
    setRx r { s.rxCtx r with frame := some (firstFrame r p gt none s), lost := false } (countMod (F.srcRxStatNOBUF.rx r) 1 s) := by
  simp only [beginFrame, takeForWrite, hb]
  rfl

theorem beginFrame_buf (hb : s.chooseBuf (s.inF (F.srcRxCfgHANDLE.rx r)) = some b) : beginFrame r p gt s =
    setRx r { s.rxCtx r with frame := some (firstFrame r p gt (some b) s), lost := false }
      (unpublish (s.inF (F.srcRxCfgHANDLE.rx r)) b s) := by
  simp only [beginFrame, takeForWrite, hb]
  rfl

theorem unpublish_handle (h b : Nat) (s : State) : (unpublish h b s).handle h =
    { s.handle h with bufs := SMap.put (s.handle h).bufs b { (s.handle h).buf b with pub := false } } := handle_setHandle_same ..

theorem buf_put_same (v : HandleState) (b : Nat) (x : BufState) : HandleState.buf { v with bufs := SMap.put v.bufs b x } b = x :=
  SMap.get_put_same ..

theorem rxInOrder_noBuf (hf : (s.rxCtx r).frame = none) (hb : s.chooseBuf (s.inF (F.srcRxCfgHANDLE.rx r)) = none) (hm : p.marker = false) :
    rxInOrder r p gt s =
      setRx r { s.rxCtx r with frame := some (firstFrame r p gt none s), lost := false } (countMod (F.srcRxStatNOBUF.rx r) 1 s) := by
  rw [rxInOrder_first hf, beginFrame_noBuf hb]
  exact rxInOrder_dropped (f := firstFrame r p gt none s) (by rw [rxCtx_setRx_same]) rfl rfl hm

theorem rxInOrder_firstBytes (hf : (s.rxCtx r).frame = none) (hb : s.chooseBuf (s.inF (F.srcRxCfgHANDLE.rx r)) = some b)
    (hkind : s.inFlag (F.srcRxCfgKIND.rx r) = true) (hd : (s.handle (s.inF (F.srcRxCfgHANDLE.rx r))).desc = some d) (hm : p.marker = false) :
    rxInOrder r p gt s = setRx r { s.rxCtx r with frame := some { firstFrame r p gt (some b) s with bytes := p.bytes }, lost := false }
      (unpublish (s.inF (F.srcRxCfgHANDLE.rx r)) b s) := by
  have hdesc : ((unpublish (s.inF (F.srcRxCfgHANDLE.rx r)) b s).handle (s.inF (F.srcRxCfgHANDLE.rx r))).desc = some d := by
    rw [unpublish_handle, hd]
  rw [rxInOrder_first hf, beginFrame_buf hb]
  rw [rxInOrder_taken (f := firstFrame r p gt (some b) s) (by rw [rxCtx_setRx_same]) rfl rfl rfl (by rw [handle_setRx]; exact hdesc), hm, if_neg Bool.false_ne_true,
    rxAdd_codestream, setRxFrame_setRx]
  · rfl
  · exact hkind

/-! Samples (R120, R137). -/

theorem storeRun_outside (h : d.height ≤ p.line) : storeRun r p f d b s =
    raise .src 4 { addr := p.line } (countMod (F.srcRxStatERROR.rx r) 1 (dropFrame r f s)) := if_pos (.inl h)

theorem storeRun_inside (hy : p.line < d.height) (hx : p.offset + runPixels (s.inF (F.srcRxCfgSAMP.rx r)) p.samples.length ≤ d.width) :
    storeRun r p f d b s = (unpackRun (s.inF (F.srcRxCfgSAMP.rx r)) p.offset p.samples).foldl
      (fun t e => rxWrite r (d.addr b e.1 e.2.1 p.line) (leBytes 2 (e.2.2 <<< if s.inFlag (F.srcRxCfgDEPTH.rx r) then 4 else 6)) t)
      (setRxFrame r (some { f with covered := (p.line, p.offset, runPixels (s.inF (F.srcRxCfgSAMP.rx r)) p.samples.length) :: f.covered }) s) :=
  if_neg (by omega)

theorem setRxFrame_hold (f : Option RxFrame) (h : (s.rxCtx r).hold = []) : ((setRxFrame r f s).rxCtx r).hold = [] := by
  rwa [setRxFrame, rxCtx_setRx_same]

theorem droppedAndCounted_hold (src : Nat) (e : Ev) (h : (s.rxCtx r).hold = []) :
    ((raise .src src e (countMod (F.srcRxStatERROR.rx r) 1 (dropFrame r f s))).rxCtx r).hold = [] :=
  ((RxKept.refl (countMod (F.srcRxStatERROR.rx r) 1 (dropFrame r f s))).raise .src src e).hold_nil (setRxFrame_hold _ h)

theorem rxWrite_hold (va : Nat) (l : List Byte) (h : (s.rxCtx r).hold = []) : ((rxWrite r va l s).rxCtx r).hold = [] := by
  have hw := ((RxKept.refl s).ioWrite srcWho .general false (s.fld F.mmuRtAsidASID) va l).hold_nil h
  simp only [rxWrite]
  split
  · exact h
  · split
    · exact h
    · split
      · exact hw
      · exact droppedAndCounted_hold _ _ hw

theorem storeRun_hold (h : (s.rxCtx r).hold = []) : ((storeRun r p f d b s).rxCtx r).hold = [] := by
  simp only [storeRun]
  split
  · exact droppedAndCounted_hold _ _ h
  · have hf : ∀ (l : List (Nat × Nat × Nat)) (va : Nat × Nat × Nat → Nat) (x : Nat × Nat × Nat → List Byte) (u : State),
        (u.rxCtx r).hold = [] → ((l.foldl (fun t e => rxWrite r (va e) (x e) t) u).rxCtx r).hold = [] := by
      intro l va x
      induction l with
      | nil => exact fun u hu => hu
      | cons e l ih => exact fun u hu => ih _ (rxWrite_hold _ _ hu)
    exact hf _ _ _ _ (setRxFrame_hold _ h)

/-! The end of a frame (R136). -/

theorem ofInt_of_range {w : Nat} {x : Int} (h0 : 0 ≤ x) (h : x < (2 ^ w : Nat)) : ofInt w x = x.toNat := by
  rw [ofInt, Int.emod_eq_of_lt h0 h]

/-- A frame published: its buffer is LATEST with the frame's media time, the context counts it and awaits another. -/
def rxPublished (r : Nat) (f : RxFrame) (b : Nat) (s : State) : State :=
  intr (213 + r) (setRxFrame r none (setFld (F.srcRxLastT.rx r) (ofInt 64 f.time)
    (countMod (F.srcRxStatPUBLISHED.rx r) 1 (publishBuf f.handle b f.time s))))

theorem publishFrame_eq {g : RxFrame} (hf : (s.rxCtx r).frame = some g) (hdrop : g.dropped = false) :
    publishFrame r f b s = rxPublished r f b s := by
  simp [publishFrame, hf, hdrop, rxPublished]

theorem rxPublished_rxCtx : (rxPublished r f b s).rxCtx r = { s.rxCtx r with frame := none } := rxCtx_setRx_same ..

theorem publishBuf_handle (h b : Nat) (t : Int) (s : State) : (publishBuf h b t s).handle h = { s.handle h with
    bufs := SMap.put (s.handle h).bufs b { pub := true, time := t, order := (s.handle h).order + 1 }, latest := some b,
    takes := 0, count := ((s.handle h).count + 1) % 2 ^ 32, order := (s.handle h).order + 1 } := handle_setHandle_same ..

theorem rxPublished_handle (h : Nat) : (rxPublished r f b s).handle h = (publishBuf f.handle b f.time s).handle h := by
  simp only [rxPublished, handle_intr, handle_setRxFrame, handle_setFld, handle_countMod]

theorem rxPublished_mem : (rxPublished r f b s).mem = s.mem := by
  simp only [rxPublished, intr_mem, setRxFrame_mem, setFld_mem, countMod_mem, publishBuf_mem]

theorem rxPublished_counted : (rxPublished r f b s).fld (F.srcRxStatPUBLISHED.rx r) =
    (s.fld (F.srcRxStatPUBLISHED.rx r) + 1) % 2 ^ F.srcRxStatPUBLISHED.width := by
  refine (fld_setFld_at_other (r * 0x40) _ _ (by decide)).trans ?_
  exact fld_countMod_same ..

theorem rxPublished_lastT (h0 : 0 ≤ f.time) (h : f.time < 2 ^ 63) :
    (rxPublished r f b s).fld (F.srcRxLastT.rx r) = f.time.toNat := by
  have hw : (F.srcRxLastT.rx r).width = 64 := rfl
  refine (fld_setFld_same ..).trans ?_
  rw [ofInt_of_range h0 (by omega), hw, Nat.mod_eq_of_lt (by omega)]

theorem endFrame_whole (hf : (s.rxCtx r).frame = some f) (hdrop : f.dropped = false) (hb : f.buf = some b)
    (hd : (s.handle f.handle).desc = some d) (hkind : s.inFlag (F.srcRxCfgKIND.rx r) = false) (hgap : f.gap = false)
    (hall : d.width * d.height ≤ f.covered.foldl (fun a e => a + e.2.2) 0) : endFrame r s = publishFrame r f b s := by
  simp [endFrame, hf, hdrop, hb, hd, hkind, hgap, Nat.not_lt.2 hall]

/-- The marker of a whole frame publishes it, its own samples being none. -/
theorem rxInOrder_whole (hf : (s.rxCtx r).frame = some f) (hts : f.ts = p.ts.toNat) (hdrop : f.dropped = false) (hb : f.buf = some b)
    (hd : (s.handle f.handle).desc = some d) (hkind : s.inFlag (F.srcRxCfgKIND.rx r) = false) (hm : p.marker = true)
    (hnone : p.samples = []) (hy : p.line < d.height) (hx : p.offset ≤ d.width) (hgap : f.gap = false)
    (hall : d.width * d.height ≤ f.covered.foldl (fun a e => a + e.2.2) 0) : ∃ u, rxInOrder r p gt s =
      rxPublished r f b (setRxFrame r u s) := by
  have hn : runPixels (s.inF (F.srcRxCfgSAMP.rx r)) p.samples.length = 0 := by
    rw [hnone, runPixels]
    split <;> rfl
  have hframe : ∀ u, ((setRxFrame r u s).rxCtx r).frame = u := fun u => by rw [setRxFrame, rxCtx_setRx_same]
  refine ⟨some { f with covered := (p.line, p.offset, 0) :: f.covered }, ?_⟩
  rw [rxInOrder_taken hf hts hdrop hb hd, hm, if_pos rfl, rxAdd_samples hkind, storeRun_inside hy (by omega), hn, hnone,
    show unpackRun (s.inF (F.srcRxCfgSAMP.rx r)) p.offset [] = [] from rfl, List.foldl_nil]
  exact (endFrame_whole (f := { f with covered := (p.line, p.offset, 0) :: f.covered }) (hframe _) hdrop hb hd hkind hgap
    (by simpa using hall)).trans (publishFrame_eq (hframe _) hdrop)

end

/-! The preview stream (R138). -/

/-- A fold whose every step lengthens the list by one. -/
theorem length_foldl_grows {α β γ : Type} {f : List γ × α → β → List γ × α} (hf : ∀ a y, (f a y).1.length = a.1.length + 1)
    (l : List β) (a : List γ × α) : (l.foldl f a).1.length = a.1.length + l.length := by
  induction l generalizing a with
  | nil => rfl
  | cons y l ih =>
    rw [List.foldl_cons, ih, hf, List.length_cons]
    omega

/-- A preview frame has a line for every line of its surface. -/
theorem previewLines_length (d : SurfDesc) (b : Nat) (s : State) : (previewLines d b s).1.length = d.height := by
  unfold previewLines
  rw [length_foldl_grows]
  · simp
  · intro a y
    dsimp only
    split <;> simp

theorem previewSent_none {n : Nat} {s : State} (h : ∀ x ∈ s.txFrames, x.n ≠ n) : previewSent n s = s := by
  have hfind : s.txFrames.find? (fun f => f.n == n) = none := List.find?_eq_none.2 fun x hx => by simpa using h x hx
  simp only [previewSent, hfind]

theorem previewSent_sent {n : Nat} {x : TxFrame} {d : SurfDesc} {s : State} (hen : s.inFlag F.srcTxCfgEN = true)
    (hreset : s.inReset .src = false) (hstop : s.pwr.stopped.contains 5 = false)
    (hfind : s.txFrames.find? (fun f => f.n == n) = some x) (hd : (s.handle x.handle).desc = some d) :
    previewSent n s = intr 217 { (previewLines d x.buf s).2 with
      out := (previewLines d x.buf s).2.out ++
        [.preview (s.inF F.srcTxFlowDSTIP) (s.inF F.srcTxFlowUDPPORT) (s.inF F.srcTxFlowVLAN) n x.time (previewLines d x.buf s).1],
      txFrames := (previewLines d x.buf s).2.txFrames.filter (fun g => g.n != n) } := by
  simp only [previewSent, hfind, hd]
  rw [if_pos ⟨hen, by rw [hreset]; rfl, by rw [hstop]; rfl⟩]

/-- Settles O33: the order of packets, then what the one expected adds to its frame, then the preview stream. -/
theorem receivedFrames : Obligations.ReceivedFrames := by
  intro r p s c k nextC on
  refine ⟨fun hoff => congrArg Host.Outcome.next (rxPacketIn_off hoff),
    fun hon hold => congrArg Host.Outcome.next (rxPacketIn_old hon rfl hold),
    fun hon hne hnew hmiss hroom => congrArg Host.Outcome.next (rxPacketIn_ahead hon rfl hne hnew hmiss hroom),
    fun hon hseq hhold => ?_, fun n => ⟨fun x d hen hreset hstop hfind hd => ?_, fun hn => ?_⟩⟩
  · have next : ∀ {t}, rxInOrder r p s.gt (setRx r nextC s) = t → (t.rxCtx r).hold = [] → exec (.rxPacket r p) s = .next t := by
      rintro t rfl ht
      exact congrArg Host.Outcome.next (rxPacketIn_next hon rfl hseq hhold ht)
    have hframe : ∀ {f}, c.frame = f → ((setRx r nextC s).rxCtx r).frame = f := fun hf => by rw [rxCtx_setRx_same]; exact hf
    have hnil : ((setRx r nextC s).rxCtx r).hold = [] := by rw [rxCtx_setRx_same]; exact hhold
    have stored : ∀ {f b d}, s.inFlag (F.srcRxCfgKIND.rx r) = false → p.marker = false → c.frame = some f → f.ts = p.ts.toNat →
        f.dropped = false → f.buf = some b → (s.handle f.handle).desc = some d →
        exec (.rxPacket r p) s = .next (storeRun r p f d b (setRx r nextC s)) := by
      intro f b d hkind hm hf hts hdrop hb hd
      refine next ?_ (storeRun_hold hnil)
      rw [rxInOrder_taken (hframe hf) hts hdrop hb hd, hm, if_neg Bool.false_ne_true, rxAdd_samples (s := setRx r nextC s) hkind]
    refine ⟨fun hf hb hm => ?_, fun b d hf hb hm hkind hd => ?_, fun f b d hf hts hdrop hb hd => ⟨fun hkind hm => ?_, ?_, fun hkind hm hy => ?_,
      fun hkind hm hnone hy hx hgap hall h0 hmax => ?_⟩⟩
    · refine ⟨_, firstFrame r p s.gt none (setRx r nextC s), next (rxInOrder_noBuf (hframe hf) hb hm) ?_, ?_, rfl, rfl, ?_, rfl, rfl⟩
      · rw [rxCtx_setRx_same, rxCtx_setRx_same]
        exact hhold
      · rw [rxCtx_setRx_same]
      · exact fld_countMod_same ..
    · refine ⟨_, { firstFrame r p s.gt (some b) (setRx r nextC s) with bytes := p.bytes },
        next (rxInOrder_firstBytes (hframe hf) hb hkind hd hm) ?_, ?_, rfl, rfl, rfl, rfl, rfl, rfl, ?_, rfl, rfl⟩
      · rw [rxCtx_setRx_same, rxCtx_setRx_same]
        exact hhold
      · rw [rxCtx_setRx_same]
      · rw [handle_setRx]
        refine (congrArg (fun v => (HandleState.buf v b).pub) (unpublish_handle _ _ _)).trans ?_
        rw [buf_put_same]
    · refine next ?_ ?_
      · rw [rxInOrder_taken (hframe hf) hts hdrop hb hd, hm, if_neg Bool.false_ne_true,
          rxAdd_codestream (s := setRx r nextC s) hkind, setRxFrame_setRx]
      · rw [rxCtx_setRx_same]
        exact hhold
    · intro samp n hkind hm hy hx
      rw [stored hkind hm hf hts hdrop hb hd, storeRun_inside (s := setRx r nextC s) hy hx, setRxFrame_setRx]
      rfl
    · refine ⟨countMod (F.srcRxStatERROR.rx r) 1 (dropFrame r f (setRx r nextC s)), ?_, ?_, fld_countMod_same .., rfl⟩
      · rw [stored hkind hm hf hts hdrop hb hd, storeRun_outside hy]
      · exact congrArg RxCtx.frame (rxCtx_setRx_same ..)
    · obtain ⟨u, hu⟩ := rxInOrder_whole (gt := s.gt) (hframe hf) hts hdrop hb hd hkind hm hnone hy hx hgap hall
      refine ⟨rxPublished r f b (setRxFrame r u (setRx r nextC s)), next hu ?_, ?_, ?_, ?_, ?_, ?_,
        ?_, ?_, ?_⟩
      · rw [rxPublished_rxCtx]
        exact setRxFrame_hold _ hnil
      · rw [rxPublished_rxCtx]
      · rw [rxPublished_handle, publishBuf_handle]
      · rw [rxPublished_handle, publishBuf_handle]
        exact congrArg BufState.pub (SMap.get_put_same ..)
      · rw [rxPublished_handle, publishBuf_handle]
        exact congrArg BufState.time (SMap.get_put_same ..)
      · exact rxPublished_counted
      · exact rxPublished_lastT h0 hmax
      · exact mem_intr_evt ..
      · rw [rxPublished_mem, setRxFrame_mem, setRx_mem]
  · exact ⟨previewLines_length d x.buf s, congrArg Host.Outcome.next (previewSent_sent hen hreset hstop hfind hd)⟩
  · exact congrArg Host.Outcome.next (previewSent_none hn)

end Sys2Proof.Machine
end

section
/-! SUPPORT. The list take (R28, R141, R146, R148) and correction's latch with it (R177). -/

namespace Sys2Proof.Machine

theorem exec_listTake (n : BitVec 48) (s : State) : exec (.listTake n) s = .next (takeAt n.toNat s) := rfl

theorem takeAt_of_same {n : Nat} {s : State} (h : listTakeAt n s = s) : takeAt n s = s := by
  simp only [takeAt, h, if_true]

/-- Correction latches with a take that begins another frame. -/
theorem takeAt_of_new {n : Nat} {s t : State} (h : listTakeAt n s = t)
    (hne : t.cmp.frame.map (fun f => f.n) ≠ s.cmp.frame.map (fun f => f.n)) : takeAt n s = corLatch t := by
  simp only [takeAt, h, if_neg hne]

theorem takeAt_cases (n : Nat) (s : State) : takeAt n s = corLatch (listTakeAt n s) ∨ takeAt n s = listTakeAt n s := by
  simp only [takeAt]
  split
  · exact .inr rfl
  · exact .inl rfl

/-- Dark correction latches what THM presents and reads nothing. -/
theorem corLatch_dark {s : State} (h : s.corLit = false) : ∃ g, corLatch s = modCor g s := by
  simp only [corLatch, h, Bool.false_and, Bool.false_eq_true, if_false]
  exact ⟨_, rfl⟩

section
variable {n : Nat} {s : State}

theorem listTakeAt_early (h : s.tl.frame ≠ n ∨ s.gt < s.frameStart n + 8000) : listTakeAt n s = s :=
  if_pos (.inr (h.elim .inl fun hlt => .inr (.inl hlt)))

/-- The state in which frame n + 1 is composed without a list (R148). -/
def zeroFrame (n : Nat) (s : State) : State := { s with cmp := { s.cmp with frame := some { n := n, zero := true } } }

theorem takeFrame_frame (n : Nat) (s : State) : ∃ w, (takeFrame n s).cmp.frame = some { n := n, wbBuf := w } := by
  simp only [takeFrame, intr_cmp, setFld_cmp]
  exact ⟨_, rfl⟩

theorem takeFrame_evt (n : Nat) (s : State) : 245 ∈ (takeFrame n s).evt := by
  simp only [takeFrame, mem_intr_evt]

/-- What a take that is due does: EN 0, or a reset of CMP, leaves no list, and a frame without a buffer for its writeback drops it. -/
def takeDue (n : Nat) (s : State) : State :=
  if !(s.inFlag F.cmpCtrlEN) ∨ s.inReset .cmp then zeroFrame (n + 1) s
  else if (takeFrame (n + 1) s).inFlag F.cmpWbCfgEN &&
      (match (takeFrame (n + 1) s).cmp.frame with | some f => f.wbBuf.isNone | none => true) then wbDropFrame none (takeFrame (n + 1) s)
  else takeFrame (n + 1) s

theorem takeDue_off (hoff : s.inFlag F.cmpCtrlEN = false ∨ s.inReset .cmp = true) : takeDue n s = zeroFrame (n + 1) s :=
  if_pos (by obtain h | h := hoff <;> simp [h])

theorem takeDue_taken {f : CmpFrame} (hen : s.inFlag F.cmpCtrlEN = true) (hreset : s.inReset .cmp = false)
    (hf : (takeFrame (n + 1) s).cmp.frame = some f) : takeDue n s =
      if (takeFrame (n + 1) s).inFlag F.cmpWbCfgEN && f.wbBuf.isNone then wbDropFrame none (takeFrame (n + 1) s) else takeFrame (n + 1) s := by
  simp only [takeDue, hen, hreset, hf, Bool.not_true, Bool.false_eq_true, or_self, if_false]

variable (hnew : ∀ f, s.cmp.frame = some f → f.n ≠ n + 1)
include hnew

theorem listTakeAt_due (hstop : s.pwr.stopped.contains 4 = false) (hrun : s.tl.running = true)
    (hdue : ¬ (s.tl.frame ≠ n ∨ s.gt < s.frameStart n + 8000)) : listTakeAt n s = takeDue n s := by
  rw [not_or] at hdue
  refine if_neg ?_
  rw [hrun, hstop]
  rintro (h | h | h | h | h)
  · exact absurd h (by decide)
  · exact hdue.1 h
  · exact hdue.2 h
  · split at h
    · exact hnew _ ‹_› (by simpa using h)
    · exact absurd h (by decide)
  · exact absurd h (by decide)

/-- A frame whose number is n + 1 is another frame than the one before the take. -/
theorem takeAt_next {t : State} {f : CmpFrame} (h : listTakeAt n s = t) (hf : t.cmp.frame = some f) (hfn : f.n = n + 1) :
    takeAt n s = corLatch t := by
  refine takeAt_of_new h ?_
  rw [hf]
  cases hc : s.cmp.frame with
  | none => simp
  | some g => simpa [hfn] using (hnew g hc).symm

end
end Sys2Proof.Machine
end

section
/-! SUPPORT. The take of a list of one layer (R129–R131, R164): what it shows, and what the rest of the take leaves of it. -/

namespace Sys2Proof.Machine

/-! Fields of a layer's registers. -/

/-- A field of the registers of a layer: they fill the stride of the layers. -/
def Fld.ofLayer (f : Fld) : Prop := F.cmpLfWeirWEIR.addr * 64 ≤ f.key ∧ f.key < F.cmpLfWeirWEIR.addr * 64 + 0x20 * 64

theorem key_ly_ne {f g : Fld} {j k : Nat} (hf : f.ofLayer) (hg : g.ofLayer) (hj : j ≠ k) : (g.ly k).key ≠ (f.ly j).key := by
  obtain ⟨hf1, hf2⟩ := hf
  obtain ⟨hg1, hg2⟩ := hg
  simp only [Fld.ly, key_at]
  omega

/-- The mode that CMP_LYk_COND shows. -/
abbrev condFld (k : Nat) : Fld := F.cmpLyCondCOND.ly k

/-! A layer shown. -/

/-- A level shown, with a count where the layer becomes URGENT (R142). -/
theorem setLevel_cases (k fill : Nat) (s : State) : ∃ lvl n, 
    setLevel k fill s = setFld (F.cmpLfWeirCRITCOUNT.ly k) n (setFld (F.cmpLfStatLEVEL.ly k) lvl (setFld (F.cmpLfStatFILL.ly k) fill s)) ∨
    setLevel k fill s = setFld (F.cmpLfStatLEVEL.ly k) lvl (setFld (F.cmpLfStatFILL.ly k) fill s) := by
  simp only [setLevel, countSat]
  exact ⟨_, _, ite_eq_or_eq _ _ _⟩

/-- From s to t only registers changed. -/
def RegsOnly (s t : State) : Prop := ∃ r, t = { s with regs := r }

theorem RegsOnly.refl (s : State) : RegsOnly s s := ⟨_, rfl⟩

theorem RegsOnly.setFld {s t : State} (h : RegsOnly s t) (f : Fld) (v : Nat) : RegsOnly s (setFld f v t) := by
  obtain ⟨r, rfl⟩ := h
  exact ⟨_, rfl⟩

theorem RegsOnly.setLevel {s t : State} (h : RegsOnly s t) (k fill : Nat) : RegsOnly s (setLevel k fill t) := by
  obtain ⟨lvl, n, he | he⟩ := setLevel_cases k fill t
  · rw [he]
    exact ((h.setFld _ _).setFld _ _).setFld _ _
  · rw [he]
    exact (h.setFld _ _).setFld _ _

/-- Showing a layer writes registers and the layer's position alone. -/
theorem showLayer_regsOnly (k : Nat) (v : LayerState) (s : State) : RegsOnly (setLayer k v s) (showLayer k v s) := by
  have h := ((((((RegsOnly.refl (setLayer k v s)).setFld (F.cmpLyCondCOND.ly k) v.mode.cond).setFld (F.cmpLyCondHOLDS.ly k)
    (min v.holds 15)).setFld (F.cmpLfStatBUF.ly k) v.buf).setFld (F.cmpLfStatHANDLE.ly k) v.handle).setFld (F.cmpLfStatFILL.ly k) 0).setFld
    (F.cmpLfStatLEVEL.ly k) 0
  simp only [showLayer, whenB]
  split
  · exact h.setLevel k 0
  · exact h

/-- A field of the same layer's registers other than COND leaves it. -/
theorem fld_setFld_cond {f : Fld} (hf : F.cmpLyCondCOND.key ≠ f.key) (k v : Nat) (s : State) :
    (setFld (f.ly k) v s).fld (condFld k) = s.fld (condFld k) := fld_setFld_at_other _ _ _ hf

theorem fld_setLevel_cond (k fill : Nat) (s : State) : (setLevel k fill s).fld (condFld k) = s.fld (condFld k) := by
  obtain ⟨lvl, n, h | h⟩ := setLevel_cases k fill s
  · rw [h, fld_setFld_cond (by decide), fld_setFld_cond (by decide), fld_setFld_cond (by decide)]
  · rw [h, fld_setFld_cond (by decide), fld_setFld_cond (by decide)]

theorem cond_lt (m : LMode) : m.cond < 2 ^ (F.cmpLyCondCOND).width := by cases m <;> decide

theorem fld_showLayer_cond (k : Nat) (v : LayerState) (s : State) : (showLayer k v s).fld (condFld k) = v.mode.cond := by
  simp only [showLayer, whenB]
  rw [apply_ite (fun t : State => t.fld (condFld k)), fld_setLevel_cond, ite_self, fld_setFld_cond (by decide), fld_setFld_cond (by decide),
    fld_setFld_cond (by decide), fld_setFld_cond (by decide), fld_setFld_cond (by decide), fld_setFld_same]
  exact Nat.mod_eq_of_lt (cond_lt _)

/-! What the rest of a take leaves of a layer shown. -/

/-- From s to t only registers, handles and layers changed; layer k stands but for its culling, and shows the same mode. -/
structure LayerStands (k : Nat) (s t : State) : Prop where
  eq : t = { s with regs := t.regs, handles := t.handles, cmp := { s.cmp with layers := t.cmp.layers } }
  layer : { SMap.get t.cmp.layers k {} with occ := false } = { SMap.get s.cmp.layers k {} with occ := false }
  cond : t.fld (condFld k) = s.fld (condFld k)

namespace LayerStands
variable {j k : Nat} {s t u : State}

theorem refl (k : Nat) (s : State) : LayerStands k s s := ⟨rfl, rfl, rfl⟩

theorem trans (h : LayerStands k s t) (h' : LayerStands k t u) : LayerStands k s u :=
  ⟨by rw [h'.eq, h.eq], h'.layer.trans h.layer, h'.cond.trans h.cond⟩

theorem foldl {β : Type} {f : State → β → State} (hf : ∀ {t : State} (x : β), LayerStands k s t → LayerStands k s (f t x))
    (h : LayerStands k s t) (l : List β) : LayerStands k s (l.foldl f t) := by
  induction l generalizing t with
  | nil => exact h
  | cons x l ih => exact ih (hf x h)

theorem forN {n : Nat} {f : Nat → State → State} (hf : ∀ {t : State} (i : Nat), LayerStands k s t → LayerStands k s (f i t))
    (h : LayerStands k s t) : LayerStands k s (forN n f t) := foldl hf h _

theorem setFld_ly (h : LayerStands k s t) {f : Fld} (hf : f.ofLayer) (hj : j ≠ k) (v : Nat) : LayerStands k s (setFld (f.ly j) v t) :=
  h.trans ⟨rfl, rfl, fld_setFld_other _ _ (key_ly_ne hf ⟨by decide, by decide⟩ hj)⟩

theorem setLayer (h : LayerStands k s t) (hj : j ≠ k) (v : LayerState) : LayerStands k s (setLayer j v t) :=
  h.trans ⟨rfl, by simp only [Machine.setLayer, SMap.get_put_other _ _ _ hj.symm], rfl⟩

theorem setLevel (h : LayerStands k s t) (hj : j ≠ k) (fill : Nat) : LayerStands k s (setLevel j fill t) := by
  have h2 := (h.setFld_ly (f := F.cmpLfStatFILL) ⟨by decide, by decide⟩ hj fill).setFld_ly (f := F.cmpLfStatLEVEL) ⟨by decide, by decide⟩ hj
  obtain ⟨lvl, n, he | he⟩ := setLevel_cases j fill t
  · rw [he]
    exact (h2 lvl).setFld_ly (f := F.cmpLfWeirCRITCOUNT) ⟨by decide, by decide⟩ hj n
  · rw [he]
    exact h2 lvl

theorem showLayer (h : LayerStands k s t) (hj : j ≠ k) (v : LayerState) : LayerStands k s (showLayer j v t) := by
  have h6 := (((((((h.setLayer hj v).setFld_ly (f := F.cmpLyCondCOND) ⟨by decide, by decide⟩ hj v.mode.cond).setFld_ly
    (f := F.cmpLyCondHOLDS) ⟨by decide, by decide⟩ hj (min v.holds 15)).setFld_ly (f := F.cmpLfStatBUF) ⟨by decide, by decide⟩ hj
    v.buf).setFld_ly (f := F.cmpLfStatHANDLE) ⟨by decide, by decide⟩ hj v.handle).setFld_ly (f := F.cmpLfStatFILL) ⟨by decide, by decide⟩ hj
    0).setFld_ly (f := F.cmpLfStatLEVEL) ⟨by decide, by decide⟩ hj 0)
  simp only [Machine.showLayer, whenB]
  split
  · exact h6.setLevel hj 0
  · exact h6

theorem latchOcc (h : LayerStands k s t) : LayerStands k s (latchOcc t) := by
  unfold Machine.latchOcc
  refine forN (fun {t} i ht => ht.trans ⟨rfl, ?_, rfl⟩) h
  by_cases hi : k = i
  · subst hi
    simp only [Machine.setLayer, SMap.get_put_same]
  · simp only [Machine.setLayer, SMap.get_put_other _ _ _ hi]

theorem countTakes (h : LayerStands k s t) (l : List Byte) : LayerStands k s (countTakes l t) := by
  simp only [Machine.countTakes]
  refine foldl (fun x ht => ?_) h _
  split
  · exact ht.trans ⟨rfl, rfl, rfl⟩
  · exact ht

end LayerStands

/-! One layer at a take. -/

section
variable {n k b : Nat} {r : LayerRec} {s : State}

theorem takeLayer_ready (hlive : (s.handle r.handle).st = .live) (hfault : (SMap.get s.cmp.layers k {}).faultNext = false)
    (hb : s.candidate k r.handle n = some b) : takeLayer n k r s = showLayer k { SMap.get s.cmp.layers k {} with
      last := some (r.handle, b), holds := 0, told := none, mode := .ready, handle := r.handle, buf := b, faultFrom := none } s := by
  simp [takeLayer, hlive, hfault, hb]

theorem takeLayer_holding (hlive : (s.handle r.handle).st = .live) (hfault : (SMap.get s.cmp.layers k {}).faultNext = false)
    (hb : s.candidate k r.handle n = none) (hmask : r.mask = false) (hlast : (SMap.get s.cmp.layers k {}).last = some (r.handle, b))
    (hmax : (SMap.get s.cmp.layers k {}).holds + 1 ≤ s.inF F.cmpCtrlHOLDMAX) (h255 : s.inF F.cmpCtrlHOLDMAX < 255) :
    takeLayer n k r s = showLayer k { SMap.get s.cmp.layers k {} with
      holds := (SMap.get s.cmp.layers k {}).holds + 1, handle := r.handle, buf := b, faultFrom := none, mode := .holding } s := by
  have hmin : min ((SMap.get s.cmp.layers k {}).holds + 1) 255 = (SMap.get s.cmp.layers k {}).holds + 1 := by omega
  simp [takeLayer, hlive, hfault, hb, hmask, hlast, hmin, hmax, Nat.not_lt.2 hmax]

end
end Sys2Proof.Machine
end

section
/-! SUPPORT. What a take of a loaded list of one layer leaves (R129, R146, R148, R164). -/

namespace Sys2Proof.Machine

/-- A list loaded by a commit is the list in force (R146). -/
def listTaken (l : List Byte) (s : State) : State := { s with cmp := { s.cmp with list := l, listStaged := true } }

/-- The end of a take: a buffer for writeback, where it is on, and the frame that begins, shown with identifier 245 (R148, R163). -/
def takeEnd (n : Nat) (l : List Byte) (s : State) : State :=
  let w := if s.inFlag F.cmpWbCfgEN ∧ (s.handle (s.inF F.cmpWbCfgHANDLE)).st = .live then takeForWrite (s.inF F.cmpWbCfgHANDLE) s else (none, s)
  intr 245 (setFld F.cmpListStatBLANK (s.takeBlank l).toNat (setFld F.cmpListStatNLAYERS (layersOf l)
    (setFld F.cmpListStatTAG (bits (leAt l 0 4) 15 0)
      { w.2 with cmp := { w.2.cmp with blank := s.takeBlank l, frame := some { n := n, wbBuf := w.1 }, wbPrev := [] } })))

/-- The frame that begins without writeback. -/
def frameTaken (n : Nat) (l : List Byte) (s : State) : State :=
  { s with cmp := { s.cmp with blank := s.takeBlank l, frame := some { n := n }, wbPrev := [] } }

/-- The end of a take without writeback. -/
def frameShownTaken (n : Nat) (l : List Byte) (s : State) : State :=
  intr 245 (setFld F.cmpListStatBLANK (s.takeBlank l).toNat (setFld F.cmpListStatNLAYERS (layersOf l)
    (setFld F.cmpListStatTAG (bits (leAt l 0 4) 15 0) (frameTaken n l s))))

theorem takeEnd_noWriteback {n : Nat} {l : List Byte} {s : State} (hwb : s.inFlag F.cmpWbCfgEN = false) :
    takeEnd n l s = frameShownTaken n l s := by
  have hoff : ¬ (s.inFlag F.cmpWbCfgEN = true ∧ (s.handle (s.inF F.cmpWbCfgHANDLE)).st = .live) := fun h => by simp [hwb] at h
  simp only [takeEnd, if_neg hoff]
  rfl

/-- What a take does of each layer position. -/
def takePosition (n : Nat) (l : List Byte) (k : Nat) (s : State) : State :=
  if k < layersOf l then takeLayer n k (recOf l k) s
  else showLayer k { SMap.get s.cmp.layers k {} with mode := .unused, last := none, holds := 0, told := none, faultFrom := none, faultNext := false } s

theorem takeFrame_eq {l : List Byte} {s : State} (n : Nat) (hsrc : s.inFlag F.cmpCtrlLISTSRC = true) (hl : s.cmp.loads.list = some l) :
    takeFrame n s = takeEnd n l (countTakes l (latchOcc (forN 8 (takePosition n l) (listTaken l s)))) := by
  have hlist : takeList s = ((l, false), s) := by simp only [takeList, hsrc, hl, if_true, Option.getD_some]
  have hstaged : ({ s with cmp := { s.cmp with list := l, listStaged := s.inFlag F.cmpCtrlLISTSRC } } : State) = listTaken l s := by
    rw [hsrc, listTaken]
  unfold takeFrame
  rw [hlist]
  extract_lets taken bytes src cmp staged counted positions shown
  have hshown : shown = countTakes l (latchOcc (forN 8 (takePosition n l) (listTaken l s))) := by
    rw [← hstaged]
    rfl
  rw [← hshown]
  clear_value shown
  rfl

section
variable {n : Nat} {l : List Byte} {x : LayerState} {s : State}

/-- The positions beside the one layer show nothing, and leave it. -/
theorem takePositions_stands (hone : layersOf l = 1) (hlayer : takeLayer n 0 (recOf l 0) s = showLayer 0 x s) :
    LayerStands 0 (showLayer 0 x s) (forN 8 (takePosition n l) s) := by
  have hzero : takePosition n l 0 s = showLayer 0 x s := (if_pos (by omega)).trans hlayer
  have hrest : forN 8 (takePosition n l) s = (List.range 7).foldl (fun t i => takePosition n l (i + 1) t) (showLayer 0 x s) := by
    rw [← hzero, forN, List.range_succ_eq_map, List.foldl_cons, List.foldl_map]
  rw [hrest]
  refine LayerStands.foldl (fun {t} i ht => ?_) (LayerStands.refl 0 _) _
  rw [takePosition, if_neg (by omega)]
  exact ht.showLayer (Nat.succ_ne_zero i) _

/-- The take of a loaded list of one layer, without writeback. -/
theorem takeFrame_oneLayer (hsrc : s.inFlag F.cmpCtrlLISTSRC = true) (hl : s.cmp.loads.list = some l) (hone : layersOf l = 1)
    (hwb : s.inFlag F.cmpWbCfgEN = false) (hlayer : takeLayer n 0 (recOf l 0) (listTaken l s) = showLayer 0 x (listTaken l s)) :
    ∃ v, LayerStands 0 (showLayer 0 x (listTaken l s)) v ∧ takeFrame n s = frameShownTaken n l v := by
  have hstands := ((takePositions_stands hone hlayer).latchOcc).countTakes l
  have hforce : (countTakes l (latchOcc (forN 8 (takePosition n l) (listTaken l s)))).inFlag F.cmpWbCfgEN = false := by
    obtain ⟨regs, hregs⟩ := showLayer_regsOnly 0 x (listTaken l s)
    rw [hstands.eq, hregs]
    exact hwb
  exact ⟨_, hstands, (takeFrame_eq n hsrc hl).trans (takeEnd_noWriteback hforce)⟩

theorem inFlag_congr {s t : State} (h : t.inForce = s.inForce) (f : Fld) : t.inFlag f = s.inFlag f := by
  simp only [State.inFlag, State.inF, h]

theorem corLit_congr {s t : State} (hf : t.inForce = s.inForce) (hc : t.cor = s.cor) : t.corLit = s.corLit := by
  simp only [State.corLit, State.corActive, inFlag_congr hf, hc]

theorem frameShownTaken_frame (n : Nat) (l : List Byte) (s : State) : (frameShownTaken n l s).cmp.frame = some { n := n } := by
  rw [frameShownTaken, intr_cmp, setFld_cmp, setFld_cmp, setFld_cmp, frameTaken]

theorem frameTaken_keeps (n : Nat) (l : List Byte) (s : State) : (frameTaken n l s).inForce = s.inForce ∧
    (frameTaken n l s).cor = s.cor ∧ (frameTaken n l s).mem = s.mem ∧ (frameTaken n l s).flt = s.flt ∧
    (frameTaken n l s).cmp.list = s.cmp.list ∧ (frameTaken n l s).cmp.layers = s.cmp.layers := ⟨rfl, rfl, rfl, rfl, rfl, rfl⟩

theorem frameShownTaken_keeps (n : Nat) (l : List Byte) (s : State) : (frameShownTaken n l s).inForce = s.inForce ∧
    (frameShownTaken n l s).cor = s.cor ∧ (frameShownTaken n l s).mem = s.mem ∧ (frameShownTaken n l s).flt = s.flt ∧
    (frameShownTaken n l s).cmp.list = s.cmp.list ∧ (frameShownTaken n l s).cmp.layers = s.cmp.layers := by
  simp only [frameShownTaken, intr_inForce, intr_cor, intr_mem, intr_flt, intr_cmp, setFld_inForce, setFld_cor, setFld_mem, setFld_flt,
    setFld_cmp, frameTaken_keeps, and_self]

@[simp] theorem modCor_cmp (g : CorState → CorState) (s : State) : (modCor g s).cmp = s.cmp := rfl
@[simp] theorem modCor_evt (g : CorState → CorState) (s : State) : (modCor g s).evt = s.evt := rfl
@[simp] theorem fld_modCor (f : Fld) (g : CorState → CorState) (s : State) : (modCor g s).fld f = s.fld f := rfl

theorem layer_showLayer (k : Nat) (v : LayerState) (s : State) : SMap.get (showLayer k v s).cmp.layers k {} = v := by
  obtain ⟨regs, hregs⟩ := showLayer_regsOnly k v s
  rw [hregs]
  exact SMap.get_put_same ..

/-- What stands about a layer that was shown is the state before, but for registers, handles and layers. -/
theorem stands_showLayer {k : Nat} {v : State} (h : LayerStands k (showLayer k x s) v) :
    ∃ regs handles layers, v = { s with regs := regs, handles := handles, cmp := { s.cmp with layers := layers } } := by
  obtain ⟨regs, hregs⟩ := showLayer_regsOnly k x s
  have heq := h.eq
  rw [hregs] at heq
  exact ⟨v.regs, v.handles, v.cmp.layers, heq⟩

/-- What a take of a list of one layer leaves: that layer as x but for its culling, and nothing of memory or faults. -/
structure OneLayerTaken (n : Nat) (l : List Byte) (x : LayerState) (s t : State) : Prop where
  frame : t.cmp.frame = some { n := n }
  list : t.cmp.list = l
  layer : { SMap.get t.cmp.layers 0 {} with occ := false } = { x with occ := false }
  cond : t.fld (condFld 0) = x.mode.cond
  count : t.fld F.cmpListStatNLAYERS = 1
  evt : 245 ∈ t.evt
  mem : t.mem = s.mem
  flt : t.flt = s.flt

/-- What the take of a list of one layer leaves, where correction is dark and writeback is off. -/
theorem takeAt_oneLayer (hstop : s.pwr.stopped.contains 4 = false) (hrun : s.tl.running = true)
    (hdue : ¬ (s.tl.frame ≠ n ∨ s.gt < s.frameStart n + 8000)) (hnew : ∀ f, s.cmp.frame = some f → f.n ≠ n + 1)
    (hen : s.inFlag F.cmpCtrlEN = true) (hreset : s.inReset .cmp = false) (hsrc : s.inFlag F.cmpCtrlLISTSRC = true)
    (hwb : s.inFlag F.cmpWbCfgEN = false) (hlit : s.corLit = false) (hl : s.cmp.loads.list = some l) (hone : layersOf l = 1)
    (hlayer : takeLayer (n + 1) 0 (recOf l 0) (listTaken l s) = showLayer 0 x (listTaken l s)) :
    OneLayerTaken (n + 1) l x s (takeAt n s) := by
  obtain ⟨v, hv, htake⟩ := takeFrame_oneLayer hsrc hl hone hwb hlayer
  have hlay := hv.layer
  rw [layer_showLayer] at hlay
  have hcond := hv.cond.trans (fld_showLayer_cond 0 x (listTaken l s))
  obtain ⟨regs, handles, layers, hvs⟩ := stands_showLayer hv
  obtain ⟨hforce, hcor, hmem, hflt, hlist, hlayers⟩ := frameShownTaken_keeps (n + 1) l v
  have hframe := htake ▸ frameShownTaken_frame (n + 1) l v
  have hoff : (takeFrame (n + 1) s).inFlag F.cmpWbCfgEN = false := by
    rw [htake, inFlag_congr (s := s) (hforce.trans (by rw [hvs]; rfl)), hwb]
  have hdark : (takeFrame (n + 1) s).corLit = false := by
    rw [htake, corLit_congr (s := s) (hforce.trans (by rw [hvs]; rfl)) (hcor.trans (by rw [hvs]; rfl)), hlit]
  obtain ⟨g, hg⟩ := corLatch_dark hdark
  have hdo : listTakeAt n s = takeFrame (n + 1) s := by
    rw [listTakeAt_due hnew hstop hrun hdue, takeDue_taken hen hreset hframe, hoff, Bool.false_and, if_neg Bool.false_ne_true]
  rw [takeAt_next hnew hdo hframe rfl, hg, htake]
  refine ⟨?_, ?_, ?_, ?_, ?_, ?_, ?_, ?_⟩
  · rw [modCor_cmp, frameShownTaken_frame]
  · rw [modCor_cmp, hlist, hvs]
    rfl
  · rw [modCor_cmp]
    exact (congrArg (fun m => ({ SMap.get m 0 {} with occ := false } : LayerState)) hlayers).trans hlay
  · rw [fld_modCor, frameShownTaken, fld_intr, fld_setFld_other _ _ (by decide), fld_setFld_other _ _ (by decide),
      fld_setFld_other _ _ (by decide)]
    exact hcond
  · rw [fld_modCor, frameShownTaken, fld_intr, fld_setFld_other _ _ (by decide), fld_setFld_same, hone]
    rfl
  · rw [modCor_evt, frameShownTaken]
    exact mem_intr_evt ..
  · exact hmem.trans (by rw [hvs]; rfl)
  · exact hflt.trans (by rw [hvs]; rfl)

end
end Sys2Proof.Machine
end

section
/-! SUPPORT. The clauses about a take: before its instant, without a list, with one, and with a list of one layer. -/

namespace Sys2Proof.Machine

section
variable {n : BitVec 48} {s : State}

theorem exec_listTake_early (h : s.tl.frame ≠ n.toNat ∨ s.gt < s.frameStart n.toNat + 8000) : exec (.listTake n) s = .next s := by
  rw [exec_listTake, takeAt_of_same (listTakeAt_early h)]

variable (hstop : s.pwr.stopped.contains 4 = false) (hrun : s.tl.running = true)
  (hdue : ¬ (s.tl.frame ≠ n.toNat ∨ s.gt < s.frameStart n.toNat + 8000)) (hnew : ∀ f, s.cmp.frame = some f → f.n ≠ n.toNat + 1)
include hstop hrun hdue hnew

/-- The frame after one taken without a list, or while CMP is in reset, is L16 zero (R148). -/
theorem exec_listTake_off (hoff : s.inFlag F.cmpCtrlEN = false ∨ s.inReset .cmp = true) :
    exec (.listTake n) s = .next (corLatch (zeroFrame (n.toNat + 1) s)) := by
  have hdo := (listTakeAt_due hnew hstop hrun hdue).trans (takeDue_off hoff)
  rw [exec_listTake, takeAt_next hnew hdo rfl rfl]

theorem listTakeAt_taken {f : CmpFrame} (hen : s.inFlag F.cmpCtrlEN = true) (hreset : s.inReset .cmp = false)
    (hf : (takeFrame (n.toNat + 1) s).cmp.frame = some f) : listTakeAt n.toNat s =
      if (takeFrame (n.toNat + 1) s).inFlag F.cmpWbCfgEN && f.wbBuf.isNone then wbDropFrame none (takeFrame (n.toNat + 1) s)
      else takeFrame (n.toNat + 1) s :=
  (listTakeAt_due hnew hstop hrun hdue).trans (takeDue_taken hen hreset hf)

/-- A frame with the buffer it writes back to, or without writeback, is taken as it stands. -/
theorem exec_listTake_taken {f : CmpFrame} (hen : s.inFlag F.cmpCtrlEN = true) (hreset : s.inReset .cmp = false)
    (hf : (takeFrame (n.toNat + 1) s).cmp.frame = some f) (hfn : f.n = n.toNat + 1)
    (hwb : (takeFrame (n.toNat + 1) s).inFlag F.cmpWbCfgEN = false ∨ f.wbBuf ≠ none) :
    exec (.listTake n) s = .next (corLatch (takeFrame (n.toNat + 1) s)) := by
  have hdo := listTakeAt_taken hstop hrun hdue hnew hen hreset hf
  have hkept : ((takeFrame (n.toNat + 1) s).inFlag F.cmpWbCfgEN && f.wbBuf.isNone) = false := by
    obtain h | h := hwb
    · rw [h, Bool.false_and]
    · rw [Option.isNone_eq_false_iff.2 (Option.isSome_iff_ne_none.2 h), Bool.and_false]
  rw [hkept, if_neg Bool.false_ne_true] at hdo
  rw [exec_listTake, takeAt_next hnew hdo hf hfn]

/-- Without the buffer it writes back to, the frame's writeback is dropped (R163). -/
theorem exec_listTake_dropped {f : CmpFrame} (hen : s.inFlag F.cmpCtrlEN = true) (hreset : s.inReset .cmp = false)
    (hf : (takeFrame (n.toNat + 1) s).cmp.frame = some f) (hon : (takeFrame (n.toNat + 1) s).inFlag F.cmpWbCfgEN = true)
    (hnone : f.wbBuf = none) :
    exec (.listTake n) s = .next (corLatch (wbDropFrame none (takeFrame (n.toNat + 1) s))) ∨
      exec (.listTake n) s = .next (wbDropFrame none (takeFrame (n.toNat + 1) s)) := by
  have hdo := listTakeAt_taken hstop hrun hdue hnew hen hreset hf
  rw [hon, hnone, Option.isNone_none, Bool.and_self, if_pos rfl] at hdo
  rw [exec_listTake, ← hdo]
  exact (takeAt_cases n.toNat s).imp (congrArg _) (congrArg _)

end

/-- Correction that is dark latches nothing of CMP, registers or memory. -/
theorem corLatch_zeroFrame_dark {n : Nat} {s : State} (hlit : s.corLit = false) :
    (corLatch (zeroFrame n s)).cmp = { s.cmp with frame := some { n := n, zero := true } } ∧
      (corLatch (zeroFrame n s)).regs = s.regs ∧ (corLatch (zeroFrame n s)).mem = s.mem := by
  obtain ⟨g, hg⟩ := corLatch_dark (s := zeroFrame n s) hlit
  rw [hg]
  exact ⟨rfl, rfl, rfl⟩

section
variable {n : BitVec 48} {l : List Byte} {b : Nat} {s : State}

/-- Layers that agree but for their culling show the same. -/
theorem taken_of_occ {x y : LayerState} (h : { x with occ := false } = { y with occ := false }) :
    x.mode = y.mode ∧ x.handle = y.handle ∧ x.buf = y.buf ∧ x.last = y.last ∧ x.holds = y.holds :=
  ⟨(congrArg LayerState.mode h :), (congrArg LayerState.handle h :), (congrArg LayerState.buf h :), (congrArg LayerState.last h :),
    (congrArg LayerState.holds h :)⟩

variable (hstop : s.pwr.stopped.contains 4 = false) (hrun : s.tl.running = true)
  (hdue : ¬ (s.tl.frame ≠ n.toNat ∨ s.gt < s.frameStart n.toNat + 8000)) (hnew : ∀ f, s.cmp.frame = some f → f.n ≠ n.toNat + 1)
  (hen : s.inFlag F.cmpCtrlEN = true) (hreset : s.inReset .cmp = false) (hsrc : s.inFlag F.cmpCtrlLISTSRC = true)
  (hwb : s.inFlag F.cmpWbCfgEN = false) (hlit : s.corLit = false) (hl : s.cmp.loads.list = some l) (hone : layersOf l = 1)
  (hlive : (s.handle (recOf l 0).handle).st = .live) (hfault : (SMap.get s.cmp.layers 0 {}).faultNext = false)
include hstop hrun hdue hnew hen hreset hsrc hwb hlit hl hone hlive hfault

/-- A surface with a buffer ready is shown with it. -/
theorem takeAt_ready (hb : s.candidate 0 (recOf l 0).handle (n.toNat + 1) = some b) :
    OneLayerTaken (n.toNat + 1) l { SMap.get s.cmp.layers 0 {} with
      last := some ((recOf l 0).handle, b), holds := 0, told := none, mode := .ready, handle := (recOf l 0).handle, buf := b, faultFrom := none }
      s (takeAt n.toNat s) :=
  takeAt_oneLayer hstop hrun hdue hnew hen hreset hsrc hwb hlit hl hone (takeLayer_ready (s := listTaken l s) hlive hfault hb)

/-- A surface without one is shown with its last buffer, within HOLD_MAX. -/
theorem takeAt_holding (hb : s.candidate 0 (recOf l 0).handle (n.toNat + 1) = none) (hmask : (recOf l 0).mask = false)
    (hlast : (SMap.get s.cmp.layers 0 {}).last = some ((recOf l 0).handle, b))
    (hmax : (SMap.get s.cmp.layers 0 {}).holds + 1 ≤ s.inF F.cmpCtrlHOLDMAX) (h255 : s.inF F.cmpCtrlHOLDMAX < 255) :
    OneLayerTaken (n.toNat + 1) l { SMap.get s.cmp.layers 0 {} with
      holds := (SMap.get s.cmp.layers 0 {}).holds + 1, handle := (recOf l 0).handle, buf := b, faultFrom := none, mode := .holding }
      s (takeAt n.toNat s) :=
  takeAt_oneLayer hstop hrun hdue hnew hen hreset hsrc hwb hlit hl hone
    (takeLayer_holding (s := listTaken l s) hlive hfault hb hmask hlast hmax h255)

end
end Sys2Proof.Machine
end

section
/-! SUPPORT. A fetch burst of a layer (R141, R142, R166). -/

namespace Sys2Proof.Machine

theorem exec_layerFetchBurst (k : Fin 8) (va : BitVec 48) (len : Nat) (s : State) :
    exec (.layerFetchBurst k va len) s = .next (fetchBurst k.val va.toNat len s) := rfl

theorem takes_iff (v : LayerState) : v.takes = true ↔ v.mode = .ready ∨ v.mode = .holding := by
  simp only [LayerState.takes, Bool.or_eq_true, decide_eq_true_eq]

section
variable {k va len : Nat} {s : State}

/-- A layer that takes no buffer fetches nothing. -/
theorem fetchBurst_idle (hready : (SMap.get s.cmp.layers k {}).mode ≠ .ready) (hholding : (SMap.get s.cmp.layers k {}).mode ≠ .holding) :
    fetchBurst k va len s = s := by
  have hno : ¬ (SMap.get s.cmp.layers k {}).takes = true := fun h => ((takes_iff _).1 h).elim hready hholding
  simp only [fetchBurst]
  split
  · exact if_neg fun h => hno h.1
  · rfl

/-- The fault's address, channel and type are captured (R102), and the layer is substituted from the line of the fault on. -/
theorem layerFault_raises (k line va : Nat) (s : State) : ∃ u, layerFault k line va s = raise .cmp 5 { addr := va, mstr := 64 + k, typ := 4 } u ∧
    (∃ z ≤ line, (SMap.get u.cmp.layers k {}).faultFrom = some z) ∧ (SMap.get u.cmp.layers k {}).faultNext = true := by
  refine ⟨_, rfl, ?_⟩
  rw [apply_ite State.cmp]
  simp only [setFld_cmp, ite_self, setLayer, SMap.get_put_same, and_true]
  exact ⟨_, Nat.min_le_left _ _, rfl⟩

variable {f : CmpFrame} {d : SurfDesc} {p row y : Nat}

/-- A burst that some pixel of the frame needs, of a layer not substituted there, is fetched. -/
structure BurstNeeded (k va len : Nat) (f : CmpFrame) (d : SurfDesc) (p row y : Nat) (s : State) : Prop where
  frame : s.cmp.frame = some f
  opened : f.open_ = true
  listed : f.zero = false
  mode : (SMap.get s.cmp.layers k {}).mode = .ready ∨ (SMap.get s.cmp.layers k {}).mode = .holding
  pos : 0 < len
  le : len ≤ 64
  running : s.inReset .cmp = false
  desc : (s.handle (SMap.get s.cmp.layers k {}).handle).desc = some d
  rowAt : d.rowOf (SMap.get s.cmp.layers k {}).buf va = some (p, row)
  line : let px := burstPixels d.format p ((va - d.bufs.getD (SMap.get s.cmp.layers k {}).buf 0 - d.off p) % d.stride p) len
    s.burstLine k row px.1 px.2 = some y
  whole : (SMap.get s.cmp.layers k {}).faulted y = false

theorem fetchBurst_needed (h : BurstNeeded k va len f d p row y s) :
    (∀ l, (rtRead k va len s).1 = .ok l → fetchBurst k va len s =
      setLevel k (min 32768 ((rtRead k va len s).2.fld (F.cmpLfStatFILL.ly k) + len)) (rtRead k va len s).2) ∧
    (∀ a, (rtRead k va len s).1 = .error a → fetchBurst k va len s = layerFault k y a (rtRead k va len s).2) := by
  obtain ⟨hframe, hopen, hlisted, hmode, hpos, hle, hrun, hdesc, hrow, hline, hwhole⟩ := h
  have htakes := (takes_iff _).2 hmode
  simp only at hline
  constructor
  all_goals
    intro _ hread
    simp only [fetchBurst, hframe, hdesc, htakes, hopen, hlisted, hpos, hle, hrun, Bool.not_false, and_self, if_true, hrow, hline, hwhole,
      Bool.false_eq_true, if_false, hread]

end
end Sys2Proof.Machine
end

section
/-! SUPPORT. The deadline of a frame (R28, R280), the publication of its writeback (R138, R163) and the corrected values (R177). -/

namespace Sys2Proof.Machine

theorem exec_correctionDeadline (n : BitVec 48) (s : State) : exec (.correctionDeadline n) s = .next (deadlineAt n.toNat s) := rfl
theorem exec_writebackPublish (n : BitVec 48) (s : State) : exec (.writebackPublish n) s = .next (publishAt n.toNat s) := rfl

/-- The frame in composition closes, with all its lines delivered. -/
def frameClosed (s : State) : State :=
  { s with cmp := { s.cmp with frame := s.cmp.frame.map (fun g => { g with next := 1024, open_ := false }) } }

/-- Lines that are late are filled and counted in UNDERRUN. -/
def linesFilled (n : Nat) (f : CmpFrame) (s : State) : State :=
  raise .cor 5 { addr := n + 1 } (countMod F.corUnderrunN (1024 - f.next)
    (fillLines f.n ((List.range (1024 - f.next)).map (fun i => f.next + i)) s))

/-- The forecast of the next frame goes to the rails, but in a reset of COR. -/
def forecastClosed (n : Nat) (s : State) : State := if s.inReset .cor then s else closeForecast (n + 1) s

theorem frameClosed_none {s : State} (h : s.cmp.frame = none) : frameClosed s = s := by
  rw [frameClosed, h, Option.map_none, ← h]

theorem frameClosed_some {f : CmpFrame} {s : State} (h : s.cmp.frame = some f) :
    frameClosed s = { s with cmp := { s.cmp with frame := some { f with next := 1024, open_ := false } } } := by
  rw [frameClosed, h, Option.map_some]

section
variable {n : Nat} {s : State} {f : CmpFrame} (hf : s.cmp.frame = some f)
include hf

theorem deadlineAt_idle (h : f.n ≠ n + 1 ∨ f.open_ = false ∨ s.gt + 400000 < s.frameStart (n + 1)) : deadlineAt n s = s := by
  simp only [deadlineAt, hf]
  refine if_pos (.inr (.inr ?_))
  obtain h | h | h := h
  · exact .inl h
  · exact .inr (.inl (by rw [h, Bool.not_false]))
  · exact .inr (.inr (.inl h))

variable (hrun : s.tl.running = true) (htl : s.tl.frame = n) (hn : f.n = n + 1) (hopen : f.open_ = true)
  (hdue : s.frameStart (n + 1) ≤ s.gt + 400000) (hstop : s.pwr.stopped.contains 4 = false)
include hrun htl hn hopen hdue hstop

theorem deadlineAt_whole (hnext : f.next = 1024) : deadlineAt n s = forecastClosed n (frameClosed s) := by
  rw [frameClosed_some hf]
  simp only [deadlineAt, hf, hrun, htl, hn, hopen, hstop, hnext, Nat.not_lt.2 hdue, Bool.not_true, Bool.false_eq_true, ne_eq,
    not_true_eq_false, or_self, if_false, Nat.sub_self, false_and, setNext, if_true, forecastClosed]

theorem deadlineAt_late (hlate : f.next < 1024) (hwb : f.wbBuf = none) : deadlineAt n s = forecastClosed n (frameClosed (linesFilled n f s)) := by
  have hne : 1024 - f.next ≠ 0 := by omega
  simp only [deadlineAt, hf]
  refine (if_neg (by simp only [hrun, htl, hn, hopen, hstop, Nat.not_lt.2 hdue, Bool.not_true, Bool.false_eq_true, ne_eq, not_true_eq_false,
    or_self, not_false_eq_true])).trans ?_
  simp only [hne, ne_eq, not_false_eq_true, if_false, hwb, Option.isSome_none, Bool.false_eq_true, and_false]
  rw [← linesFilled]
  generalize linesFilled n f s = u
  cases hu : u.cmp.frame with
  | none => simp only [setNext, hu, frameClosed_none hu, forecastClosed]
  | some g => simp only [setNext, hu, frameClosed_some hu, forecastClosed]

end

/-- A frame of preview, where it is bound to the writeback handle and due (R138). -/
def previewDue (n h b : Nat) (s : State) : List TxFrame :=
  if s.inFlag F.srcTxCfgEN = true ∧ s.inF F.srcTxCfgHANDLE = h ∧ n % (s.inF F.srcTxCfgDIV + 1) = 0
    then [⟨n, h, b, (s.frameStart n : Int)⟩] else []

section
variable {n b : Nat} {s : State} {f : CmpFrame} (hf : s.cmp.frame = some f)
include hf

theorem publishAt_idle (h : f.wbBuf = none ∨ f.n ≠ n ∨ f.next ≠ 1024 ∨ f.wbDrop = true) : publishAt n s = s := by
  simp only [publishAt, hf]
  cases hb : f.wbBuf with
  | none => rfl
  | some b =>
    refine if_neg ?_
    rintro ⟨hn, hnext, hdrop, -⟩
    simp [hb, hn, hnext] at h
    simp [h] at hdrop

variable (hb : f.wbBuf = some b) (hn : f.n = n) (hnext : f.next = 1024) (hdrop : f.wbDrop = false) (hreset : s.inReset .cmp = false)
include hb hn hnext hdrop hreset

theorem publishAt_dead (hdead : (s.handle (s.inF F.cmpWbCfgHANDLE)).st ≠ .live) : publishAt n s = wbDropFrame none s := by
  simp only [publishAt, hf, hb, hn, hnext, hdrop, hreset, hdead, Bool.not_false, and_self, if_true, not_false_eq_true, ne_eq]

theorem publishAt_live (hlive : (s.handle (s.inF F.cmpWbCfgHANDLE)).st = .live) :
    publishAt n s = intr 247 { publishBuf (s.inF F.cmpWbCfgHANDLE) b (s.frameStart n : Int) s with
      cmp := { s.cmp with frame := some { f with wbBuf := none } },
      txFrames := s.txFrames ++ previewDue n (s.inF F.cmpWbCfgHANDLE) b s } := by
  simp only [publishAt, hf, hb]
  refine (if_pos ⟨hn, hnext, by rw [hdrop, Bool.not_false], by rw [hreset, Bool.not_false]⟩).trans ((if_neg (not_not.2 hlive)).trans ?_)
  refine congrArg (intr 247) ?_
  by_cases hp : s.inFlag F.srcTxCfgEN = true ∧ s.inF F.srcTxCfgHANDLE = s.inF F.cmpWbCfgHANDLE ∧ n % (s.inF F.srcTxCfgDIV + 1) = 0
  · rw [previewDue, if_pos hp]
    exact if_pos hp
  · rw [previewDue, if_neg hp, List.append_nil]
    exact if_neg hp

end
/-! A corrected value. -/

theorem fFactor_le {x : Nat} (hx : x ≤ 0xFFFF) : fFactor x ≤ 65536 := by
  simp only [fFactor]
  omega

/-- DERATE and THROTTLE keep a value within 16 bits. -/
theorem scaled_le {y x : Nat} (hy : y ≤ 0xFFFF) (hx : x ≤ 0xFFFF) : (y * fFactor x + 0x8000) / 65536 ≤ 0xFFFF := by
  have hmul : y * fFactor x ≤ 0xFFFF * 65536 := Nat.mul_le_mul hy (fFactor_le hx)
  omega

theorem correctVal_le (d : Nat) (c : CalIn) {derate throttle : Nat} (hd : derate ≤ 0xFFFF) (ht : throttle ≤ 0xFFFF) :
    correctVal d c derate throttle ≤ 0xFFFF := scaled_le (scaled_le (Nat.min_le_right _ _) hd) ht

theorem correctVal_mask (d : Nat) {c : CalIn} (derate throttle : Nat) (h : c.mask = true) : correctVal d c derate throttle = 0 := by
  simp [correctVal, h]

end Sys2Proof.Machine
end

section
/-! SUPPORT. The lines of a frame (R141, R177), and what the line of an L16 zero frame stores (R148). -/

namespace Sys2Proof.Machine

theorem exec_correctionLine (y : Fin 1024) (s : State) : exec (.correctionLine y) s = .next (lineAt y.val s) := rfl

theorem lineSites_length (y : Nat) (s : State) : (lineSites y s).1.length = 1024 := by
  simp only [lineSites, List.length_reverse]
  refine (length_foldl_grows (fun _ _ => ?_) _ _).trans ?_
  · exact List.length_cons
  · simp

theorem composeLine_length (y : Nat) (s : State) : (composeLine y s).1.length = 1024 := by
  simp only [composeLine]
  split
  · exact List.length_replicate
  · split
    · simp only [lineSites_length]
    · simp only [lineSites_length]

section
variable {y : Nat} {s : State} {f : CmpFrame} (hf : s.cmp.frame = some f)
include hf

theorem lineAt_idle (h : f.open_ = false ∨ f.next ≠ y) : lineAt y s = s := by
  simp only [lineAt, hf]
  refine if_pos ?_
  obtain h | h := h
  · exact .inl (by rw [h, Bool.not_false])
  · exact .inr (.inl h)

variable (hopen : f.open_ = true) (hnext : f.next = y) (hcor : s.inReset .cor = false) (hcmp : s.inReset .cmp = false)
  (hstop : s.pwr.stopped.contains 4 = false)
include hopen hnext hcor hcmp hstop

theorem lineAt_turn : lineAt y s = spillAfter f.n y (correctLine f.n y (composeLine y s).1
    (wbLine y (composeLine y s).1 (setNext (y + 1) (consumeLine y (composeLine y s).2)))) := by
  simp only [lineAt, hf]
  exact if_neg (by simp only [hopen, hnext, hcor, hcmp, hstop, Bool.not_true, Bool.false_eq_true, ne_eq, not_true_eq_false, or_self,
    not_false_eq_true])

end

/-! A dark row. -/

theorem foldl_zeros {α β : Type} {g : (List Nat × Nat × Nat) × α → β → (List Nat × Nat × Nat) × α} {s : α}
    (hg : ∀ x b, g (x, s) b = ((x.1 ++ [0], x.2), s)) (l : List β) (x : List Nat × Nat × Nat) :
    l.foldl g (x, s) = ((x.1 ++ List.replicate l.length 0, x.2), s) := by
  induction l generalizing x with
  | nil => simp only [List.foldl_nil, List.length_nil, List.replicate_zero, List.append_nil]
  | cons b l ih => rw [List.foldl_cons, hg, ih, List.length_cons, List.replicate_succ, List.append_assoc, List.singleton_append]

/-- Where a row of one primary of a tile stands in the store of a frame. -/
def rowStore (frame n yl p : Nat) : Nat := 0x10000000 + n * 0xC000 + (frame % 2) * 0x6000 + 2 * (4096 * p + 64 * yl)

theorem flatMap_leBytes_zeros (n : Nat) : (List.replicate n 0).flatMap (leBytes 2) = List.replicate (2 * n) 0 := by
  induction n with
  | zero => rfl
  | succ n ih =>
    rw [List.replicate_succ, List.flatMap_cons, ih, Nat.mul_succ, List.replicate_succ, List.replicate_succ]
    rfl

/-- A row of dark correction stores zeros and adds nothing to the forecast. -/
theorem correctRow_dark (frame n yl p : Nat) (d : List Nat) {s : State} (hlit : s.corLit = false)
    (haudit : s.inFlag F.diagCtrlDARKAUDIT = false) : ∃ ue ce, correctRow frame n yl p d s =
      putBytes (rowStore frame n yl p) (List.replicate 128 0) (gather n p 0 0 { s with ue := ue, ce := ce }) := by
  unfold correctRow
  extract_lets one r st words u t
  have hr : r = ((List.replicate 64 0, 0, 0), s) := by
    refine (foldl_zeros (fun x xl => ?_) _ _).trans ?_
    · simp [one, hlit, haudit, State.contrib]
    · simp
  clear_value r
  subst hr
  refine ⟨t.ue, t.ce, ?_⟩
  rw [flatMap_leBytes_zeros]
  rfl

/-! What a dark line leaves. -/

/-- From s to t only memory, its error marks and the gathered forecast changed, and of memory the bytes of a set, which are zero. -/
structure ZeroStored (A : Nat → Prop) (s t : State) : Prop where
  eq : ∃ mem ue ce row top, t = { s with mem := mem, ue := ue, ce := ce, cor := { s.cor with fcRow := row, fcMax := top } }
  wf : Memory.wf t.mem = true
  zero : ∀ a, A a → t.byte a = 0
  kept : ∀ a, ¬ A a → t.byte a = s.byte a

namespace ZeroStored
variable {A B : Nat → Prop} {s t : State}

theorem refl (hwf : Memory.wf s.mem = true) : ZeroStored (fun _ => False) s s :=
  ⟨⟨_, _, _, _, _, rfl⟩, hwf, fun _ h => h.elim, fun _ _ => rfl⟩

theorem iff (h : ZeroStored A s t) (hAB : ∀ a, A a ↔ B a) : ZeroStored B s t :=
  ⟨h.eq, h.wf, fun a ha => h.zero a ((hAB a).2 ha), fun a ha => h.kept a fun h' => ha ((hAB a).1 h')⟩

theorem forN {C : Nat → Nat → Prop} {g : Nat → State → State} {n : Nat}
    (hg : ∀ i < n, ∀ (B : Nat → Prop) (t : State), ZeroStored B s t → ZeroStored (fun a => B a ∨ C i a) s (g i t)) (h : ZeroStored A s t) :
    ZeroStored (fun a => A a ∨ ∃ i < n, C i a) s (forN n g t) := by
  induction n with
  | zero => exact h.iff fun a => by simp
  | succ n ih =>
    have hlast := hg n (Nat.lt_succ_self n) _ _ (ih fun i hi => hg i (Nat.lt_succ_of_lt hi))
    rw [Machine.forN, List.range_succ, List.foldl_append, List.foldl_cons, List.foldl_nil]
    refine hlast.iff fun a => ?_
    simp only [Nat.lt_succ_iff_lt_or_eq, or_and_right, exists_or, exists_eq_left, or_assoc]

/-- Bytes of zeros stored beside the others. -/
theorem putZeros (h : ZeroStored A s t) {u : State} (hmem : u.mem = t.mem)
    (hu : ∃ ue ce row top, u = { t with ue := ue, ce := ce, cor := { t.cor with fcRow := row, fcMax := top } }) (st n : Nat) :
    ZeroStored (fun a => A a ∨ st ≤ a ∧ a < st + n) s (putBytes st (List.replicate n 0) u) := by
  have hwf : Memory.wf u.mem = true := by rw [hmem]; exact h.wf
  have hbyte : ∀ a, u.byte a = t.byte a := fun a => by simp only [State.byte, hmem]
  refine ⟨?_, Memory.wf_putBytes _ _ hwf, fun a ha => ?_, fun a ha => ?_⟩
  · obtain ⟨mem, ue, ce, row, top, rfl⟩ := h.eq
    obtain ⟨ue', ce', row', top', rfl⟩ := hu
    exact ⟨_, _, _, _, _, rfl⟩
  · rw [byte_putBytes _ _ _ _ hwf, List.length_replicate]
    split
    · simp
    · rw [hbyte]
      exact h.zero a (ha.resolve_right ‹_›)
  · rw [byte_putBytes _ _ _ _ hwf, List.length_replicate, if_neg fun h => ha (.inr h), hbyte]
    exact h.kept a fun h => ha (.inl h)

theorem dark (h : ZeroStored A s t) (hlit : s.corLit = false) (haudit : s.inFlag F.diagCtrlDARKAUDIT = false) :
    t.corLit = false ∧ t.inFlag F.diagCtrlDARKAUDIT = false := by
  obtain ⟨_, _, _, _, _, rfl⟩ := h.eq
  exact ⟨hlit, haudit⟩

variable (hlit : s.corLit = false) (haudit : s.inFlag F.diagCtrlDARKAUDIT = false)
include hlit haudit

theorem correctRow (frame n yl p : Nat) (d : List Nat) (h : ZeroStored A s t) :
    ZeroStored (fun a => A a ∨ rowStore frame n yl p ≤ a ∧ a < rowStore frame n yl p + 128) s (correctRow frame n yl p d t) := by
  obtain ⟨hl, ha⟩ := h.dark hlit haudit
  obtain ⟨ue, ce, hrow⟩ := correctRow_dark frame n yl p d hl ha
  rw [hrow]
  refine h.putZeros ?_ ⟨ue, ce, _, _, rfl⟩ _ _
  rfl

/-- A line of dark correction stores zeros in the rows of its 16 tiles. -/
theorem correctLine (frame y : Nat) (line : List (Nat × Nat × Nat)) (h : ZeroStored A s t) :
    ZeroStored (fun a => A a ∨ ∃ c < 16, ∃ p < 3, rowStore frame (16 * (y / 64) + c) (y % 64) p ≤ a ∧
      a < rowStore frame (16 * (y / 64) + c) (y % 64) p + 128) s (correctLine frame y line t) :=
  h.forN fun _ _ _ _ hc => hc.forN fun _ _ _ _ hp => hp.correctRow hlit haudit _ _ _ _ _

end ZeroStored

/-! The line of a zero frame. -/

theorem spillAfter_dark (frame y : Nat) {s : State} (hlit : s.corLit = false) : spillAfter frame y s = s :=
  if_neg fun h => by simp [hlit] at h

section
variable {y : Nat} {s : State} {f : CmpFrame} (hf : s.cmp.frame = some f)
include hf

theorem zeroFrame_eq : s.zeroFrame = f.zero := by simp only [State.zeroFrame, hf]

theorem composeLine_zero (hz : f.zero = true) (y : Nat) : composeLine y s = (List.replicate 1024 (0, 0, 0), s) :=
  if_pos ((zeroFrame_eq hf).trans hz)

theorem consumeLine_zero (hz : f.zero = true) (y : Nat) : consumeLine y s = s := if_pos ((zeroFrame_eq hf).trans hz)

theorem setNext_some (y : Nat) : setNext y s = { s with cmp := { s.cmp with frame := some { f with next := y } } } := by
  simp only [setNext, hf]

theorem wbLine_none (hwb : f.wbBuf = none) (y : Nat) (line : List (Nat × Nat × Nat)) : wbLine y line s = s := by
  simp only [wbLine, hf, hwb]

/-- The line of an L16 zero frame, with correction dark, stores zeros in the frame's half of its tiles' stores, and nothing else. -/
theorem lineAt_zero (hopen : f.open_ = true) (hnext : f.next = y) (hcor : s.inReset .cor = false) (hcmp : s.inReset .cmp = false)
    (hstop : s.pwr.stopped.contains 4 = false) (hz : f.zero = true) (hwb : f.wbBuf = none) (hlit : s.corLit = false)
    (haudit : s.inFlag F.diagCtrlDARKAUDIT = false) (hwf : Memory.wf s.mem = true) :
    ZeroStored (fun a => ∃ c < 16, ∃ p < 3, rowStore f.n (16 * (y / 64) + c) (y % 64) p ≤ a ∧
      a < rowStore f.n (16 * (y / 64) + c) (y % 64) p + 128) (setNext (y + 1) s) (lineAt y s) := by
  have hnextFrame : (setNext (y + 1) s).cmp.frame = some { f with next := y + 1 } := by rw [setNext_some hf]
  have hdark : (setNext (y + 1) s).corLit = false ∧ (setNext (y + 1) s).inFlag F.diagCtrlDARKAUDIT = false ∧
      Memory.wf (setNext (y + 1) s).mem = true := by
    rw [setNext_some hf]
    exact ⟨hlit, haudit, hwf⟩
  obtain ⟨hl, ha, hw⟩ := hdark
  have hline := (ZeroStored.refl hw).correctLine hl ha f.n y (List.replicate 1024 (0, 0, 0))
  rw [lineAt_turn hf hopen hnext hcor hcmp hstop, composeLine_zero hf hz, consumeLine_zero hf hz, wbLine_none hnextFrame hwb,
    spillAfter_dark _ _ (hline.dark hl ha).1]
  exact hline.iff fun a => iff_of_eq (false_or _)

end
end Sys2Proof.Machine
end

section
/-! SUPPORT. Composition and correction by frame (R28, R129, R141, R146, R148, R163, R164, R177). -/

namespace Sys2Proof.Machine

/-- Settles O34: its clauses are those of the take, the fetch, the lines, the deadline with the publication, and the corrected values. -/
theorem framesAreComposed : Obligations.FramesAreComposed := by
  refine ⟨fun n s hstop hrun => ⟨exec_listTake_early, fun hdue hnew => ⟨fun hoff => ?_, fun hen hreset => ?_, ?_⟩⟩,
    fun k va len s => ⟨fun hready hholding => ?_, ?_⟩, fun y s f hf => ⟨fun h => ?_, ?_, ?_⟩,
    fun n s f hf => ⟨fun h => ?_, ?_, ?_, ?_, fun h => ?_⟩, fun d c derate throttle => ?_,
    fun d c derate throttle => correctVal_mask d derate throttle⟩
  -- takes
  · exact ⟨_, exec_listTake_off hstop hrun hdue hnew hoff, rfl, corLatch_zeroFrame_dark⟩
  · obtain ⟨w, hf⟩ := takeFrame_frame (n.toNat + 1) s
    exact ⟨_, _, rfl, hf, rfl, rfl, rfl, rfl, takeFrame_evt _ s, exec_listTake_taken hstop hrun hdue hnew hen hreset hf rfl,
      exec_listTake_dropped hstop hrun hdue hnew hen hreset hf⟩
  · intro l hen hreset hsrc hwb hlit hl hone rec0 v hlive hfault
    refine ⟨fun b hb => ?_, fun b hb hmask hlast hmax h255 => ?_⟩
    · have h := takeAt_ready hstop hrun hdue hnew hen hreset hsrc hwb hlit hl hone hlive hfault hb
      obtain ⟨hmode, hhandle, hbuf, hlast, -⟩ := taken_of_occ h.layer
      exact ⟨_, _, exec_listTake n s, h.frame, h.list, rfl, hmode, hhandle, hbuf, hlast, h.cond, h.count, h.evt, h.mem, h.flt⟩
    · have h := takeAt_holding hstop hrun hdue hnew hen hreset hsrc hwb hlit hl hone hlive hfault hb hmask hlast hmax h255
      obtain ⟨hmode, -, hbuf, -, hholds⟩ := taken_of_occ h.layer
      exact ⟨_, _, exec_listTake n s, rfl, hmode, hbuf, hholds, h.cond, h.evt, h.mem, h.flt⟩
  -- fetch bursts
  · rw [exec_layerFetchBurst, fetchBurst_idle hready hholding]
  · intro f d p row y hframe hopen hlisted hmode hpos hle hrun hdesc hrow hline hwhole
    obtain ⟨hok, herror⟩ := fetchBurst_needed ⟨hframe, hopen, hlisted, hmode, hpos, hle, hrun, hdesc, hrow, hline, hwhole⟩
    refine ⟨fun l hl => ?_, fun a ha => ?_⟩
    · rw [exec_layerFetchBurst, hok l hl]
    · obtain ⟨u, hu, hfrom, hnext⟩ := layerFault_raises k.val y a (rtRead k.val va.toNat len s).2
      exact ⟨u, by rw [exec_layerFetchBurst, herror a ha, hu], hfrom, hnext⟩
  -- lines
  · rw [exec_correctionLine, lineAt_idle hf h]
  · intro hopen hnext hcor hcmp hstop m
    exact ⟨composeLine_length y s, by rw [exec_correctionLine, lineAt_turn hf hopen hnext hcor hcmp hstop]⟩
  · intro hopen hnext hcor hcmp hstop hz hwb hlit haudit hwf
    have h := lineAt_zero hf hopen hnext hcor hcmp hstop hz hwb hlit haudit hwf
    rw [setNext_some hf] at h
    obtain ⟨mem, ue, ce, row, top, heq⟩ := h.eq
    refine ⟨_, exec_correctionLine y s, by rw [heq], by rw [heq], by rw [heq], fun c p xl i hc hp hxl hi => ?_, fun a ha => ?_⟩
    · exact h.zero _ ⟨c, hc, p, hp, by rw [rowStore]; omega, by rw [rowStore]; omega⟩
    · refine h.kept a ?_
      rintro ⟨c, hc, p, hp, hlo, hhi⟩
      refine ha c p (a - rowStore f.n (16 * (y.val / 64) + c) (y.val % 64) p) hc hp (by omega) ?_
      exact (Nat.add_sub_cancel' hlo).symm
  -- the deadline and the publication
  · rw [exec_correctionDeadline, deadlineAt_idle hf h]
  · intro hrun htl hn hopen hnext hdue hstop hcor
    have hclosed : frameClosed s = { s with cmp := { s.cmp with frame := some { f with open_ := false } } } := by
      rw [frameClosed_some hf, ← hnext]
    rw [exec_correctionDeadline, deadlineAt_whole hf hrun htl hn hopen hdue hstop hnext, forecastClosed, hclosed]
    exact congrArg _ (if_neg (ne_true_of_eq_false hcor))
  · intro hrun htl hn hopen hlate hwb hdue hstop
    exact congrArg _ (deadlineAt_late hf hrun htl hn hopen hdue hstop hlate hwb)
  · intro b hb hn hnext hdrop hreset
    refine ⟨fun hdead => ?_, fun hlive => ?_⟩
    · rw [exec_writebackPublish, publishAt_dead hf hb hn hnext hdrop hreset hdead]
    · exact congrArg _ (publishAt_live hf hb hn hnext hdrop hreset hlive)
  · rw [exec_writebackPublish, publishAt_idle hf h]
  -- corrected values
  · by_cases hd : derate ≤ 0xFFFF
    · by_cases ht : throttle ≤ 0xFFFF
      · exact .inl (correctVal_le d c hd ht)
      · exact .inr (.inr (Nat.lt_of_not_le ht))
    · exact .inr (.inl (Nat.lt_of_not_le hd))

end Sys2Proof.Machine
end

section
/-! SUPPORT. What the cartridge manager's own updates write and leave: a command that runs or ends (R189), the life summary
(R173), the identity copy shown (R181). -/

namespace Sys2Proof.Machine

@[simp] theorem modCor_cor (g : CorState → CorState) (s : State) : (modCor g s).cor = g s.cor := rfl
@[simp] theorem modCor_mem (g : CorState → CorState) (s : State) : (modCor g s).mem = s.mem := rfl
@[simp] theorem modCor_free (g : CorState → CorState) (s : State) : (modCor g s).free = s.free := rfl
@[simp] theorem modCor_inForce (g : CorState → CorState) (s : State) : (modCor g s).inForce = s.inForce := rfl
@[simp] theorem modCor_flt (g : CorState → CorState) (s : State) : (modCor g s).flt = s.flt := rfl

/-- An identifier that is pending stays pending when another is raised. -/
theorem mem_evt_intr {i : Nat} (j : Nat) {s : State} (h : i ∈ s.evt) : i ∈ (intr j s).evt := by
  show i ∈ insertN j s.evt
  unfold insertN
  split
  · exact h
  · exact List.mem_append_left _ h

section
variable (b : CorBusy) (r : Nat) (s : State)

@[simp] theorem corBusy_cor : (corBusy b s).cor = { s.cor with busy := some b } := rfl
@[simp] theorem corBusy_mem : (corBusy b s).mem = s.mem := rfl

@[simp] theorem corBusy_runs : (corBusy b s).fld F.corCmdSTATE = 1 := fld_setFld_same ..

theorem fld_corBusy_other {f : Fld} (h : f.key ≠ F.corCmdSTATE.key) : (corBusy b s).fld f = s.fld f := fld_setFld_other _ _ h

@[simp] theorem corFinish_cor : (corFinish r s).cor = { s.cor with busy := none } := rfl
@[simp] theorem corFinish_mem : (corFinish r s).mem = s.mem := rfl
@[simp] theorem corFinish_flt : (corFinish r s).flt = s.flt := rfl

@[simp] theorem corFinish_done : (corFinish r s).fld F.corCmdSTATE = 2 :=
  (fld_setFld_other (f := F.corCmdRESULT) r _ (by decide)).trans (fld_setFld_same ..)

@[simp] theorem corFinish_evt : 261 ∈ (corFinish r s).evt := mem_intr_evt ..

theorem mem_evt_corFinish {i : Nat} (h : i ∈ s.evt) : i ∈ (corFinish r s).evt := mem_evt_intr 261 h

theorem corFinish_result (h : r < 256) : (corFinish r s).fld F.corCmdRESULT = r :=
  (fld_setFld_same ..).trans (Nat.mod_eq_of_lt h)

end

/-! Commands that COR_CMD refuses or takes (R15, R189). -/

section
variable {act : State → State} {s : State}

theorem corCommand_refused (h : s.fld F.corCmdSTATE = 1) : corCommand act s = raise .cor 1 { addr := 0x20200050, typ := 2 } s := if_pos h

theorem corCommand_taken (h : s.fld F.corCmdSTATE ≠ 1) : corCommand act s = act s := if_neg h

theorem corReady_refused (h : s.fld F.corCmdSTATE = 1) : corReady act s = raise .cor 1 { addr := 0x20200050, typ := 2 } s :=
  corCommand_refused h

theorem corReady_notReady (h : s.fld F.corCmdSTATE ≠ 1) (hst : s.fld F.corCartStatSTATE ≠ 2) : corReady act s = corFinish 6 s :=
  (corCommand_taken h).trans (if_neg hst)

theorem corReady_taken (h : s.fld F.corCmdSTATE ≠ 1) (hst : s.fld F.corCartStatSTATE = 2) : corReady act s = act s :=
  (corCommand_taken h).trans (if_pos hst)

end

/-! Writes of planes and images end with OK or FAULT (R188). -/

/-- The result of a chain of writes is OK or FAULT. -/
def EndsOkOrFault (r : Nat × State) : Prop := r.1 = 0 ∨ r.1 = 5

theorem corPut_ends (va : Nat) (l : List Byte) (s : State) : EndsOkOrFault (corPut va l s) := by
  unfold EndsOkOrFault corPut
  exact ite_eq_or_eq _ _ _

theorem andThen_ends {r : Nat × State} {f : State → Nat × State} (hr : EndsOkOrFault r) (hf : ∀ s, EndsOkOrFault (f s)) :
    EndsOkOrFault (andThen r f) := by
  unfold andThen
  split
  · exact hf r.2
  · exact hr

theorem wearPlane_ends (img wg : Nat) (s : State) : EndsOkOrFault (wearPlane img wg s) := by
  simp only [wearPlane]
  split
  · exact corPut_ends ..
  · exact .inr rfl

end Sys2Proof.Machine
end

section
/-! SUPPORT. Presence and removal (R170, R174), and ATTACH by the identity read and the authenticator's answer (R171, R172). -/

namespace Sys2Proof.Machine

theorem exec_cartRemoval (s : State) : exec .cartRemoval s = .next (removalAct s) := rfl
theorem exec_attach (s : State) : exec .attach s = .next (corCommand attachAct s) := rfl
theorem exec_authTimeout (s : State) : exec .authTimeout s = .next (authTimeoutAct s) := rfl

/-! Removal. -/

/-- The accumulators emptied: the dose that was not spilled is lost (R174). -/
def accsDropped (s : State) : State :=
  { s with mem := s.mem.filter (fun e => !(decide (0x11000000 ≤ e.1) && decide (e.1 < 0x11600000))) }

theorem removalAct_absent {s : State} (h : s.fld F.corCartStatSTATE = 0) : removalAct s = modCor (fun x => { x with cart := none }) s :=
  if_pos h

theorem removalAct_present {s : State} (h : s.fld F.corCartStatSTATE ≠ 0) : removalAct s = railsRemoved
    (let u := intr 262 (raise .cor 7 {} (accsDropped (cartGone s))); if u.cor.busy.isSome then corFinish 4 u else u) := by
  unfold removalAct
  exact if_neg h

@[simp] theorem accsDropped_cor (s : State) : (accsDropped s).cor = s.cor := rfl

theorem mem_accsDropped {s : State} {e : Host.Cell} (h : e ∈ (accsDropped s).mem) : e ∈ s.mem ∧ (e.1 < 0x11000000 ∨ 0x11600000 ≤ e.1) := by
  obtain ⟨hmem, hout⟩ := List.mem_filter.1 h
  refine ⟨hmem, ?_⟩
  by_cases hlo : e.1 < 0x11000000
  · exact .inl hlo
  · simp only [decide_eq_true (Nat.le_of_not_lt hlo), Bool.true_and, Bool.not_eq_true', decide_eq_false_iff_not, not_lt] at hout
    exact .inr hout

@[simp] theorem lifeClear_cor (s : State) : (lifeClear s).cor = { s.cor with life := [] } := by
  simp only [lifeClear, setFlag, setFld_cor, modCor_cor]

@[simp] theorem lifeClear_mem (s : State) : (lifeClear s).mem = s.mem := by
  simp only [lifeClear, setFlag, setFld_mem, modCor_mem]

@[simp] theorem lifeClear_inForce (s : State) : (lifeClear s).inForce = s.inForce := by
  simp only [lifeClear, setFlag, setFld_inForce, modCor_inForce]

@[simp] theorem lifeClear_free (s : State) : (lifeClear s).free = s.free := by
  simp only [lifeClear, setFlag, setFld_free, modCor_free]

@[simp] theorem lifeClear_invalid (s : State) : (lifeClear s).flag F.corLifeSumVALID = false := by
  simp (disch := decide) only [lifeClear, flag_setFld_other, flag_setFlag_same]

theorem cartGone_cor (s : State) : (cartGone s).cor = { s.cor with
    cart := none, id := [], produced := none, current := false, dosing := false, dark := true, ckpt := none, deferred := false,
    ckptDone := false, life := [] } := by
  simp only [cartGone, setFlag, setFld_cor, lifeClear_cor, modCor_cor]

theorem cartGone_mem (s : State) : (cartGone s).mem = s.mem := by
  simp only [cartGone, setFlag, setFld_mem, lifeClear_mem, modCor_mem]

theorem cartGone_inForce (s : State) : (cartGone s).inForce = s.inForce := by
  simp only [cartGone, setFlag, setFld_inForce, lifeClear_inForce, modCor_inForce]

theorem cartGone_absent (s : State) : (cartGone s).fld F.corCartStatSTATE = 0 := by
  simp (disch := decide) only [cartGone, setFlag, fld_setFld_other, fld_setFld_same, Nat.zero_mod]

theorem cartGone_unauthenticated (s : State) : (cartGone s).fld F.corCartStatAUTH = 0 := by
  simp (disch := decide) only [cartGone, setFlag, fld_setFld_other, fld_setFld_same, Nat.zero_mod]

theorem cartGone_invalid (s : State) : (cartGone s).flag F.corLifeSumVALID = false := by
  simp (disch := decide) only [cartGone, flag_setFld_other, flag_setFlag_other, lifeClear_invalid]

theorem cartGone_dark (s : State) : (cartGone s).corLit = false := by
  rw [State.corLit, cartGone_cor]
  exact Bool.and_false _

/-! ATTACH. -/

@[simp] theorem showId_cor (s : State) : (showId s).cor = s.cor := by
  simp only [showId, setFld_cor]

@[simp] theorem showId_mem (s : State) : (showId s).mem = s.mem := by
  simp only [showId, setFld_mem]

@[simp] theorem showId_free (s : State) : (showId s).free = s.free := by
  simp only [showId, setFld_free]

theorem fld_showId_other {f : Fld} (s : State) (hid : f.key ≠ F.corCartCalCALSETID.key) (hn : f.key ≠ F.corCartCalCALCOUNT.key)
    (hgt : f.key ≠ F.corCartCalgtGT.key) : (showId s).fld f = s.fld f := by
  rw [showId, fld_setFld_other _ _ hgt, fld_setFld_other _ _ hn, fld_setFld_other _ _ hid]

theorem leAt_lt (l : List Byte) (off n : Nat) : leAt l off n < 256 ^ n :=
  (leNat_lt _).trans_le (Nat.pow_le_pow_right (by decide) (List.length_take_le _ _))

theorem showId_count (s : State) : (showId s).fld F.corCartCalCALCOUNT = leAt s.cor.id 0x120 4 := by
  rw [showId, fld_setFld_other _ _ (by decide), fld_setFld_same]
  exact Nat.mod_eq_of_lt (leAt_lt _ _ 4)

/-- ATTACH begins: the pair that was produced and the life summary are cleared (R171, R173). -/
def attachCleared (s : State) : State := modCor (fun x => { x with produced := none, current := false, dosing := false }) s |> lifeClear

theorem attachCleared_cor (s : State) :
    (attachCleared s).cor = { s.cor with produced := none, current := false, dosing := false, life := [] } := by
  simp only [attachCleared, lifeClear_cor, modCor_cor]

theorem attachCleared_mem (s : State) : (attachCleared s).mem = s.mem := by
  simp only [attachCleared, lifeClear_mem, modCor_mem]

theorem attachCleared_free (s : State) : (attachCleared s).free = s.free := by
  simp only [attachCleared, lifeClear_free, modCor_free]

theorem fld_attachCleared {f : Fld} (s : State) (hmin : f.key ≠ F.corLifeSumHOURSMIN.key) (hv : f.key ≠ F.corLifeSumVALID.key)
    (hn : f.key ≠ F.corLifeSumNL80TOTAL.key) : (attachCleared s).fld f = s.fld f := by
  simp only [attachCleared, lifeClear, setFlag, fld_setFld_other _ _ hmin, fld_setFld_other _ _ hv, fld_setFld_other _ _ hn, fld_modCor]

/-- The cartridge once its authenticator was asked. -/
def askedCart (c : Cartridge) : Cartridge := { c with answers := c.answers.drop 1 }

/-- The identity copy is taken and shown, and the authenticator asked (R171, R172). -/
def attachAsked (c : Cartridge) (l : List Byte) (b : Bool) (s : State) : State :=
  modCor (fun x => { x with cart := some (askedCart c) })
    (modCor (fun x => { x with id := l, idIsB := b }) (attachCleared s) |> showId)

theorem attachAsked_cor (c : Cartridge) (l : List Byte) (b : Bool) (s : State) : (attachAsked c l b s).cor = { s.cor with
    produced := none, current := false, dosing := false, life := [], id := l, idIsB := b, cart := some (askedCart c) } := by
  simp only [attachAsked, modCor_cor, showId_cor, attachCleared_cor]

theorem attachAsked_mem (c : Cartridge) (l : List Byte) (b : Bool) (s : State) : (attachAsked c l b s).mem = s.mem := by
  simp only [attachAsked, modCor_mem, showId_mem, attachCleared_mem]

theorem attachAsked_free (c : Cartridge) (l : List Byte) (b : Bool) (s : State) : (attachAsked c l b s).free = s.free := by
  simp only [attachAsked, modCor_free, showId_free, attachCleared_free]

theorem attachAsked_count (c : Cartridge) (l : List Byte) (b : Bool) (s : State) :
    (attachAsked c l b s).fld F.corCartCalCALCOUNT = leAt l 0x120 4 := by
  rw [attachAsked, fld_modCor, showId_count, modCor_cor]

/-- Of the fields that ATTACH reads, it has written none before the authenticator answers. -/
theorem fld_attachAsked {f : Fld} (c : Cartridge) (l : List Byte) (b : Bool) (s : State)
    (h : ∀ g ∈ [F.corLifeSumHOURSMIN, F.corLifeSumVALID, F.corLifeSumNL80TOTAL, F.corCartCalCALSETID, F.corCartCalCALCOUNT, F.corCartCalgtGT],
      f.key ≠ g.key) : (attachAsked c l b s).fld f = s.fld f := by
  simp only [List.forall_mem_cons] at h
  obtain ⟨hmin, hv, hn, hid, hcount, hgt, -⟩ := h
  rw [attachAsked, fld_modCor, fld_showId_other _ hid hcount hgt, fld_modCor, fld_attachCleared _ hmin hv hn]

section
variable {c : Cartridge} {l : List Byte} {b : Bool} {s : State}

theorem attachAct_removed (h : s.cor.cart = none ∨ s.fld F.corCartStatSTATE = 0) : attachAct s = corFinish 4 s := by
  unfold attachAct
  split
  · rfl
  · exact if_pos (h.resolve_left (by simp [*]))

/-- Of the state, authentication reads only the free values that make its nonce. -/
theorem authResult_congr {cert sig : List Byte} {t : State} (h : t.free = s.free) :
    (authResult l cert sig t).1 = (authResult l cert sig s).1 := by
  simp only [authResult, h]

variable (hc : s.cor.cart = some c) (hst : s.fld F.corCartStatSTATE ≠ 0)
include hc hst

theorem attachAct_noCopy (hid : cartId c = none) :
    attachAct s = corBusy { result := 1 } (setFld F.corCartStatSTATE 3 (attachCleared s)) := by
  simp only [attachAct, hc, if_neg hst, hid]
  rfl

variable (hid : cartId c = some (l, b))
include hid

theorem attachAct_badIdentity (hl : leAt l 0x18 4 ≠ 0x1000040) :
    attachAct s = corBusy { result := 1 } (setFld F.corCartStatSTATE 3 (attachCleared s)) := by
  simp only [attachAct, hc, if_neg hst, hid]
  exact if_pos hl

variable (hl : leAt l 0x18 4 = 0x1000040)
include hl

/-- A silent authenticator is waited for. -/
theorem attachAct_silent (hsilent : ∀ cert sig, c.answers.head? ≠ some (some cert, some sig)) :
    attachAct s = corBusy { result := 0, waitAuth := true } (attachAsked c l b s) := by
  simp only [attachAct, hc, if_neg hst, hid, if_neg (not_not.2 hl)]
  rfl

theorem attachAct_answered {cert sig : List Byte} (hanswer : c.answers.head? = some (some cert, some sig)) :
    attachAct s = attachRest (authResult l cert sig s).1 (askedCart c) (authResult l cert sig (attachAsked c l b s)).2 := by
  simp only [attachAct, hc, if_neg hst, hid, if_neg (not_not.2 hl), hanswer]
  rw [← authResult_congr (attachAsked_free c l b s)]
  rfl

end

/-! The rest of ATTACH. -/

/-- The outcome of the authentication is recorded; one other than PASS is a fault (R172). -/
def authShown (auth : Nat) (s : State) : State :=
  if auth = 1 then setFld F.corCartStatAUTH auth s else raise .cor 8 {} (setFld F.corCartStatAUTH auth s)

theorem fld_authShown_pass {f : Fld} (s : State) (h : f.key ≠ F.corCartStatAUTH.key) : (authShown 1 s).fld f = s.fld f :=
  fld_setFld_other _ _ h

/-- The planes that ATTACH writes: the calibration area or the unity set, the doses, and the wear gains (R171). -/
def attachPlanes (c : Cartridge) (s : State) : Nat × State :=
  andThen (andThen (attachCal c s) (attachDose c)) (wearPlane (s.fld F.corCaddrVA) (s.fld F.corCaddr2VA))

theorem attachPlanes_ends (c : Cartridge) (s : State) : EndsOkOrFault (attachPlanes c s) := by
  refine andThen_ends (andThen_ends ?_ fun u => ?_) fun u => wearPlane_ends _ _ u
  · simp only [attachCal]
    split
    · exact corPut_ends ..
    · exact corPut_ends ..
  · exact corPut_ends ..

/-- READY: dose accounting runs where authentication passed, and the checkpoint period starts (R171, R173, R186). -/
def attachReady (auth : Nat) (s : State) : State :=
  setFld F.corCartStatSTATE 2 s |>
    modCor (fun x => { x with dosing := auth == 1, ckptRef := s.gt, ckptDone := false, hour := [], hourBase := [] })

/-- ATTACH runs on after its planes were written: to OK with its pair, or to FAULT. -/
def attachWritten (auth : Nat) (pair : Nat × Nat) (r : Nat × State) : State :=
  if r.1 = 0 then corBusy { result := 0, pair := some pair } (attachReady auth r.2) else corBusy { result := r.1 } r.2

theorem attachRest_eq (auth : Nat) (c : Cartridge) (s : State) : attachRest auth c s =
    attachWritten auth ((authShown auth s).fld F.corCaddrVA, (authShown auth s).fld F.corCaddr2VA) (attachPlanes c (authShown auth s)) := rfl

/-- How ATTACH ends once the outcome of the authentication is known, at the end of the command: READY with its pair, or FAULT. -/
structure AttachEnds (auth : Nat) (pair : Nat × Nat) (t : State) (x : CorBusy) : Prop where
  busy : t.cor.busy = some x
  runs : t.fld F.corCmdSTATE = 1
  answered : x.waitAuth = false
  ready : x.result = 0 → t.fld F.corCartStatSTATE = 2 ∧ t.cor.dosing = (auth == 1) ∧ x.pair = some pair
  fault : x.result ≠ 0 → x.result = 5 ∧ x.pair = none

theorem attachWritten_ends (auth : Nat) (pair : Nat × Nat) {r : Nat × State} (hr : EndsOkOrFault r) :
    ∃ x, AttachEnds auth pair (attachWritten auth pair r) x := by
  obtain ⟨n, u⟩ := r
  by_cases hn : n = 0
  · subst hn
    refine ⟨{ result := 0, pair := some pair }, rfl, corBusy_runs .., rfl, fun _ => ⟨?_, rfl, rfl⟩, fun h => absurd rfl h⟩
    rw [attachWritten, if_pos rfl, fld_corBusy_other _ _ (by decide), attachReady, fld_modCor, fld_setFld_same]
    rfl
  · rw [attachWritten, if_neg hn]
    exact ⟨{ result := n }, rfl, corBusy_runs .., rfl, fun h => absurd h hn, fun _ => ⟨hr.resolve_left hn, rfl⟩⟩

theorem attachRest_ends (auth : Nat) (c : Cartridge) (s : State) :
    ∃ x, AttachEnds auth ((authShown auth s).fld F.corCaddrVA, (authShown auth s).fld F.corCaddr2VA) (attachRest auth c s) x := by
  rw [attachRest_eq]
  exact attachWritten_ends _ _ (attachPlanes_ends ..)

theorem authTimeoutAct_idle {b : CorBusy} {s : State} (hb : s.cor.busy = some b) (hw : b.waitAuth = false) : authTimeoutAct s = s := by
  cases hc : s.cor.cart with
  | none => simp only [authTimeoutAct, hb, hc]
  | some c => simp only [authTimeoutAct, hb, hc, hw, Bool.false_eq_true, if_false]

theorem authTimeoutAct_waits {b : CorBusy} {c : Cartridge} {s : State} (hb : s.cor.busy = some b) (hw : b.waitAuth = true)
    (hc : s.cor.cart = some c) : authTimeoutAct s = attachRest 3 c s := by
  simp only [authTimeoutAct, hb, hc, hw, if_true]

end Sys2Proof.Machine
end

section
/-! SUPPORT. Presence, attachment and removal of the cartridge (R170 to R174). -/

namespace Sys2Proof.Machine

/-- Settles O35: presence and removal, ATTACH by what the cartridge brings, and the silent authenticator. -/
theorem cartridgePresenceAndAttach : Obligations.CartridgePresenceAndAttach := by
  intro c s fin pair
  have hfin : fin = corFinish := rfl
  clear_value fin
  subst hfin
  refine ⟨fun h => ?_, fun h => ?_, fun h => ?_, fun h => ?_, fun h => ?_, fun hcmd h => ?_, fun hcmd hst hc => ⟨fun hid => ?_, fun l b hid =>
    ⟨fun hl => ?_, fun hl hsilent => ?_, fun cert sig hl hanswer => ?_⟩⟩, fun b hb hw hc => ?_, fun b hb hw => ?_⟩
  -- presence and removal
  · exact congrArg _ (if_pos h)
  · exact congrArg _ (if_neg h)
  · exact congrArg _ (removalAct_absent h)
  · refine ⟨accsDropped (cartGone s), by rw [exec_cartRemoval, removalAct_present h], cartGone_absent s, cartGone_unauthenticated s, ?_, ?_, ?_,
      cartGone_dark s, cartGone_inForce s, cartGone_invalid s, fun e he => ?_⟩
    · rw [accsDropped_cor, cartGone_cor]
    · rw [accsDropped_cor, cartGone_cor]
    · rw [accsDropped_cor, cartGone_cor]
    · rw [← cartGone_mem s]
      exact mem_accsDropped he
  -- ATTACH
  · exact congrArg _ (corCommand_refused h)
  · rw [exec_attach, corCommand_taken hcmd, attachAct_removed h]
  · rw [exec_attach, corCommand_taken hcmd, attachAct_noCopy hc hst hid]
    refine ⟨_, rfl, rfl, corBusy_runs .., ?_, ?_, ?_, ?_⟩
    · rw [fld_corBusy_other _ _ (by decide), fld_setFld_same]
      rfl
    · rw [corBusy_cor, setFld_cor, attachCleared_cor]
    · rw [State.flag, fld_corBusy_other _ _ (by decide), fld_setFld_other _ _ (by decide)]
      exact lifeClear_invalid _
    · rw [corBusy_mem, setFld_mem, attachCleared_mem]
  · rw [exec_attach, corCommand_taken hcmd, attachAct_badIdentity hc hst hid hl]
    refine ⟨_, rfl, rfl, ?_, ?_⟩
    · rw [fld_corBusy_other _ _ (by decide), fld_setFld_same]
      rfl
    · rw [corBusy_mem, setFld_mem, attachCleared_mem]
  · rw [exec_attach, corCommand_taken hcmd, attachAct_silent hc hst hid hl hsilent]
    refine ⟨_, rfl, rfl, ?_, ?_, ?_, ?_, ?_, ?_⟩
    · rw [corBusy_cor, attachAsked_cor]
      rfl
    · rw [corBusy_cor, attachAsked_cor]
    · rw [corBusy_cor, attachAsked_cor]
    · rw [fld_corBusy_other _ _ (by decide), attachAsked_count]
    · rw [fld_corBusy_other _ _ (by decide), fld_attachAsked _ _ _ _ (by decide)]
    · rw [corBusy_mem, attachAsked_mem]
  · rw [exec_attach, corCommand_taken hcmd, attachAct_answered hc hst hid hl hanswer]
    obtain ⟨x, hx⟩ := attachRest_ends (authResult l cert sig s).1 (askedCart c) (authResult l cert sig (attachAsked c l b s)).2
    refine ⟨_, x, rfl, hx.busy, hx.runs, fun h0 => ?_, hx.fault⟩
    obtain ⟨hready, hdosing, hpair⟩ := hx.ready h0
    refine ⟨hready, by rw [hdosing, beq_iff_eq], fun hpass => ?_⟩
    have hasked : ∀ f : Fld, (authResult l cert sig (attachAsked c l b s)).2.fld f = (attachAsked c l b s).fld f := fun f => rfl
    rw [hpair, hpass, fld_authShown_pass _ (by decide), fld_authShown_pass _ (by decide), hasked, hasked,
      fld_attachAsked _ _ _ _ (by decide), fld_attachAsked _ _ _ _ (by decide)]
  -- the silent authenticator
  · rw [exec_authTimeout, authTimeoutAct_waits hb hw hc]
    obtain ⟨x, hx⟩ := attachRest_ends 3 c s
    refine ⟨_, x, rfl, hx.busy, hx.answered, hx.runs, fun h0 => ?_⟩
    obtain ⟨hready, hdosing, -⟩ := hx.ready h0
    exact ⟨hready, hdosing⟩
  · exact congrArg _ (authTimeoutAct_idle hb hw)

end Sys2Proof.Machine
end

section
/-! SUPPORT. Identity copies as CAL_WRITE leaves them (R179), the dose table of a checkpoint (R185), and results of images (R176). -/

namespace Sys2Proof.Machine

/-- The slice of a list where a part of it stands. -/
theorem slice_middle (pre mid post : List Byte) : slice (pre ++ (mid ++ post)) pre.length mid.length = mid := by
  rw [slice, List.drop_left, List.take_left]

theorem slice_length {l : List Byte} {off n : Nat} (h : off + n ≤ l.length) : (slice l off n).length = n := by
  rw [slice, List.length_take, List.length_drop]
  omega

/-- A rewritten identity copy holds the CAL_STATE it was given. -/
theorem leAt_rewriteId_calState {l : List Byte} (h : l.length = 4096) (calState count setId gt : Nat) :
    leAt (rewriteId l calState count setId gt) 0x11C 4 = calState % 256 ^ 4 := by
  have hpre : (l.take 4 ++ leBytes 4 (leAt l 4 4 + 1) ++ slice l 8 0x114).length = 0x11C := by
    rw [List.length_append, List.length_append, List.length_take, leBytes_length, slice_length (by omega)]
    omega
  have hmid := slice_middle (l.take 4 ++ leBytes 4 (leAt l 4 4 + 1) ++ slice l 8 0x114) (leBytes 4 calState)
  rw [hpre, leBytes_length] at hmid
  simp only [leAt, rewriteId, List.append_assoc] at hmid ⊢
  rw [hmid, leNat_leBytes]

theorem imageResult_cases (l : List Byte) : imageResult l = 0 ∨ imageResult l = 2 ∨ imageResult l = 8 := by
  unfold imageResult
  split
  · exact .inr (.inr rfl)
  · split
    · exact .inr (.inl rfl)
    · exact .inl rfl

theorem SMap.find_below {α : Type} {m : SMap α} {a : Nat} (h : ∀ e ∈ m, a < e.1) : SMap.find m a = none := by
  cases m with
  | nil => rfl
  | cons e m =>
    have ha : a < e.1 := h e List.mem_cons_self
    rw [SMap.find, if_neg ha.ne, if_pos ha]

/-- The values of a run of keys, those that are zero left out. -/
def nonzeroFrom (f : Nat → Nat) (k n : Nat) : SMap Nat := ((List.range' k n).map (fun q => (q, f q))).filter (fun e => e.2 != 0)

theorem lt_of_mem_nonzeroFrom {f : Nat → Nat} {k n : Nat} {e : Nat × Nat} (h : e ∈ nonzeroFrom f k n) : k ≤ e.1 := by
  obtain ⟨q, hq, rfl⟩ := List.mem_map.1 (List.mem_filter.1 h).1
  exact (List.mem_range'_1.1 hq).1

theorem get_nonzeroFrom (f : Nat → Nat) {k n q : Nat} (hk : k ≤ q) (hq : q < k + n) : SMap.get (nonzeroFrom f k n) q 0 = f q := by
  induction n generalizing k with
  | zero => omega
  | succ n ih =>
    have hcons : nonzeroFrom f k (n + 1) = if f k = 0 then nonzeroFrom f (k + 1) n else (k, f k) :: nonzeroFrom f (k + 1) n := by
      simp only [nonzeroFrom, List.range'_succ, List.map_cons, List.filter_cons, bne_iff_ne, ne_eq, ite_not]
    rw [hcons]
    obtain rfl | hlt := hk.eq_or_lt
    · split
      next h0 => rw [SMap.get, SMap.find_below fun e he => lt_of_mem_nonzeroFrom he, h0, Option.getD_none]
      next => rw [SMap.get, SMap.find, if_pos rfl, Option.getD_some]
    · have hrest := ih (Nat.succ_le_of_lt hlt) (by omega)
      split
      · exact hrest
      · rw [SMap.get, SMap.find, if_neg hlt.ne', if_neg hlt.asymm]
        exact hrest

end Sys2Proof.Machine
end

section
/-! SUPPORT. Commands that need READY (R176, R179 to R182), by what they read. -/

namespace Sys2Proof.Machine

theorem exec_prepare (f : Bool) (s : State) : exec (.prepare f) s = .next (corReady (prepareAct f) s) := rfl
theorem exec_exportCal (s : State) : exec .exportCal s = .next (corReady exportAct s) := rfl
theorem exec_calWrite (f : Bool) (s : State) : exec (.calWrite f) s = .next (corReady (calWriteAct f) s) := rfl
theorem exec_checkpoint (s : State) : exec .checkpoint s = .next (corReady (checkpointAct false) s) := rfl
theorem exec_shutdownCkpt (s : State) : exec .shutdownCkpt s = .next (corReady shutdownAct s) := rfl

section
variable {s : State} {l : List Byte}

/-- What a command reads of the image at COR_CADDR. -/
def stagedImage (s : State) : Option (List Byte) × State := corQuiet (s.fld F.corCaddrVA) imageLen s

/-! PREPARE. -/

theorem prepareAct_unreadable (rebase : Bool) (h : (stagedImage s).1 = none) :
    prepareAct rebase s = corBusy { result := 5 } (stagedImage s).2 := by
  rw [stagedImage] at h
  simp only [prepareAct, stagedImage, h]

theorem prepareAct_refused (rebase : Bool) (h : (stagedImage s).1 = some l) (hl : imageResult l ≠ 0) :
    prepareAct rebase s = corBusy { result := imageResult l } (stagedImage s).2 := by
  rw [stagedImage] at h
  simp only [prepareAct, stagedImage, h]
  exact if_pos hl

/-- PREPARE after its writes: it produces its pair with OK alone (R182). -/
theorem pairWithOk_ends (pair : Nat × Nat) {r : Nat × State} (hr : EndsOkOrFault r) :
    ∃ x u, corBusy { result := r.1, pair := if r.1 = 0 then some pair else none } r.2 = corBusy x u ∧
      (x.result = 0 ↔ x.pair = some pair) ∧ (x.result = 0 ∨ x.result = 5) := by
  obtain ⟨n, u⟩ := r
  refine ⟨_, _, rfl, ?_, hr⟩
  by_cases hn : n = 0
  · simp only [hn, if_true]
  · simp only [hn, if_false, reduceCtorEq]

theorem prepareAct_writes (rebase : Bool) (h : (stagedImage s).1 = some l) (hl : imageResult l = 0) : ∃ x u, prepareAct rebase s = corBusy x u ∧
    (x.result = 0 ↔ x.pair = some (s.fld F.corCaddrVA, s.fld F.corCaddr2VA)) ∧ (x.result = 0 ∨ x.result = 5) := by
  rw [stagedImage] at h
  simp only [prepareAct, h]
  rw [if_neg (not_not.2 hl)]
  refine pairWithOk_ends _ (andThen_ends ?_ fun u => wearPlane_ends _ _ u)
  split
  · exact .inl rfl
  · split
    · exact .inr rfl
    · exact andThen_ends (corPut_ends ..) fun u => corPut_ends _ _ u

/-- PREPARE runs with a result that answers for the image, and with a pair where it is OK. -/
theorem prepareAct_ends (rebase : Bool) (s : State) : ∃ x u, prepareAct rebase s = corBusy x u ∧
    (x.result = 0 ↔ x.pair = some (s.fld F.corCaddrVA, s.fld F.corCaddr2VA)) ∧
    (x.result = 0 ∨ x.result = 2 ∨ x.result = 5 ∨ x.result = 8) ∧
    (∀ l, (stagedImage s).1 = some l → imageResult l ≠ 0 → x.result = imageResult l) := by
  cases himg : (stagedImage s).1 with
  | none =>
    exact ⟨{ result := 5 }, _, prepareAct_unreadable rebase himg, iff_of_false (by decide) nofun, by decide, nofun⟩
  | some l =>
    by_cases hl : imageResult l = 0
    · obtain ⟨x, u, hx, hpair, hres⟩ := prepareAct_writes rebase himg hl
      refine ⟨x, u, hx, hpair, hres.imp_right fun h => .inr (.inl h), fun l' hl' hne => ?_⟩
      obtain rfl := Option.some.inj hl'
      exact absurd hl hne
    · refine ⟨{ result := imageResult l }, _, prepareAct_refused rebase himg hl, iff_of_false hl nofun, ?_, fun l' hl' _ => ?_⟩
      · exact (imageResult_cases l).imp_right fun h => h.imp_right .inr
      · exact congrArg imageResult (Option.some.inj hl')

/-! EXPORT. -/

/-- The result of EXPORT: that of its write, else whether the area holds its CRC (R180). -/
def exportResult (r : Nat) (img : List Byte) : Nat := if r ≠ 0 then r else if imageCrc img ≠ leAt img 0x1C 4 then 2 else 0

theorem exportResult_ends {r : Nat × State} (hr : EndsOkOrFault r) (img : List Byte) :
    (exportResult r.1 img = 0 ∨ exportResult r.1 img = 2 ∨ exportResult r.1 img = 5) ∧
    (exportResult r.1 img = 0 → imageCrc img = leAt img 0x1C 4) := by
  obtain ⟨n, u⟩ := r
  unfold exportResult
  obtain rfl | rfl : n = 0 ∨ n = 5 := hr
  · rw [if_neg (not_not.2 rfl)]
    split
    next => exact ⟨.inr (.inl rfl), nofun⟩
    next hcrc => exact ⟨.inl rfl, fun _ => not_not.1 hcrc⟩
  · exact ⟨.inr (.inr rfl), nofun⟩

theorem exportAct_runs {c : Cartridge} (hc : s.cor.cart = some c) : exportAct s =
    (let r := corPut (s.fld F.corCaddrVA) (s.cor.id ++ cartArea c) s
    corBusy { result := exportResult r.1 (cartArea c) } r.2) := by
  simp only [exportAct, hc, exportResult]

/-! CAL_WRITE. -/

/-- The cartridge while its area is programmed: the copy not in use says WRITING (R179). -/
def calWriting (l : List Byte) (s : State) (c : Cartridge) : Cartridge :=
  let id := s.cor.id
  let w := rewriteId id 1 (leAt id 0x120 4) (leAt id 0x124 4) (leAt id 0x128 8)
  if s.cor.idIsB then { c with idA := w, cal := areaOf l } else { c with idB := w, cal := areaOf l }

theorem calWriting_cal (l : List Byte) (s : State) (c : Cartridge) : (calWriting l s c).cal = areaOf l := by
  simp only [calWriting]
  split <;> rfl

theorem calWriting_ofB {l : List Byte} {s : State} (c : Cartridge) (hb : s.cor.idIsB = true) (hid : s.cor.id.length = 4096) :
    (calWriting l s c).idB = c.idB ∧ leAt (calWriting l s c).idA 0x11C 4 = 1 := by
  simp only [calWriting, hb, if_true]
  exact ⟨trivial, leAt_rewriteId_calState hid ..⟩

theorem calWriting_ofA {l : List Byte} {s : State} (c : Cartridge) (hb : s.cor.idIsB = false) (hid : s.cor.id.length = 4096) :
    (calWriting l s c).idA = c.idA ∧ leAt (calWriting l s c).idB 0x11C 4 = 1 := by
  simp only [calWriting, hb, Bool.false_eq_true, if_false]
  exact ⟨trivial, leAt_rewriteId_calState hid ..⟩

/-- The area is read back: the command ends OK, with an identity copy, where it holds its CRC. -/
theorem readBack_ends (d : Cartridge) (id : List Byte) (u : State) : ∃ x, (if imageCrc (cartArea d) ≠ leAt (cartArea d) 0x1C 4
      then corBusy { result := 2 } u else corBusy { result := 0, newId := some id } u) = corBusy x u ∧
    (x.result = 0 ∨ x.result = 2) ∧ (x.result = 0 ↔ imageCrc (cartArea d) = leAt (cartArea d) 0x1C 4) ∧
    (x.newId.isSome = true ↔ x.result = 0) := by
  by_cases hcrc : imageCrc (cartArea d) = leAt (cartArea d) 0x1C 4
  · exact ⟨_, if_neg (not_not.2 hcrc), .inl rfl, iff_of_true rfl hcrc, iff_of_true rfl rfl⟩
  · exact ⟨_, if_pos hcrc, .inr rfl, iff_of_false (by decide) hcrc, iff_of_false (by decide) (by decide)⟩

section
variable {c : Cartridge} (hc : s.cor.cart = some c)
include hc

theorem calWriteAct_unreadable (overwrite : Bool) (h : (stagedImage s).1 = none) :
    calWriteAct overwrite s = corBusy { result := 5 } (stagedImage s).2 := by
  rw [stagedImage] at h
  simp only [calWriteAct, hc, stagedImage, h]

theorem calWriteAct_refused (overwrite : Bool) (h : (stagedImage s).1 = some l) (hl : imageResult l ≠ 0) :
    calWriteAct overwrite s = corBusy { result := imageResult l } (stagedImage s).2 := by
  rw [stagedImage] at h
  simp only [calWriteAct, hc, stagedImage, h]
  exact if_pos hl

theorem calWriteAct_asks (h : (stagedImage s).1 = some l) (hl : imageResult l = 0) :
    calWriteAct false s = corFinish 3 (stagedImage s).2 := by
  rw [stagedImage] at h
  simp only [calWriteAct, hc, stagedImage, h]
  exact if_neg (not_not.2 hl)

theorem calWriteAct_programs (h : (stagedImage s).1 = some l) (hl : imageResult l = 0) : ∃ x, calWriteAct true s =
      corBusy x (modCor (fun x => { x with cart := some (calWriting l s c) }) (stagedImage s).2) ∧
    (x.result = 0 ∨ x.result = 2) ∧
    (x.result = 0 ↔ imageCrc (cartArea (calWriting l s c)) = leAt (cartArea (calWriting l s c)) 0x1C 4) ∧
    (x.newId.isSome = true ↔ x.result = 0) := by
  rw [stagedImage] at h
  simp only [calWriteAct, hc, stagedImage, h, Bool.not_true, Bool.false_eq_true, if_false]
  rw [if_neg (not_not.2 hl)]
  exact readBack_ends ..

end
end
end Sys2Proof.Machine
end

section
/-! SUPPORT. Checkpoints (R185 to R187): how one begins, ends, is due and is deferred; SHUTDOWN_CKPT; and the end of a command (R189). -/

namespace Sys2Proof.Machine

theorem exec_cartCmdComplete (s : State) : exec .cartCmdComplete s = .next (corComplete s) := rfl
theorem exec_ckptDue (s : State) : exec .ckptDue s = .next (ckptDueAct s) := rfl
theorem exec_ckptDeferredStart (s : State) : exec .ckptDeferredStart s = .next (ckptDeferredAct s) := rfl
theorem exec_checkpointWritten (s : State) : exec .checkpointWritten s = .next (ckptWrittenAct s) := rfl

/-! A checkpoint begins. -/

section
variable {clean : Bool} {c : Cartridge} {s : State}

/-- The slot that the next checkpoint takes (R185). -/
def nextSlot (s : State) : Nat := (s.cor.slot + 1) % 4

/-- What a checkpoint reads of the dose plane. -/
def dosePlane (s : State) : Option (List Byte) × State := corQuiet (s.fld F.corDoseVaVA) 0x1800000 s

/-- The next slot is taken and its header invalid (R185). -/
def slotTakenBy (c : Cartridge) (k : Nat) (s : State) : State :=
  modCor (fun x => { x with slot := k, cart := some { c with slots := SMap.erase c.slots k } }) s

/-- What the header of a checkpoint will hold: the doses of the plane `l`. -/
structure HoldsDoses (clean : Bool) (l : List Byte) (d : CkptSlot) : Prop where
  clean : d.clean = clean
  dose : ∀ q < subpixels, SMap.get d.dose q 0 = leAt l (8 * q) 6

variable (hc : s.cor.cart = some c)
include hc

theorem ckptBegin_unreadable (h : (dosePlane s).1 = none) :
    ckptBegin clean s = (some ⟨nextSlot s, none⟩, modCor (fun x => { x with slot := nextSlot s }) (dosePlane s).2) := by
  rw [dosePlane] at h
  simp only [ckptBegin, hc, h, dosePlane, nextSlot]

theorem ckptBegin_read {l : List Byte} (h : (dosePlane s).1 = some l) : ∃ data,
    ckptBegin clean s = (some ⟨nextSlot s, data⟩, slotTakenBy c (nextSlot s) (dosePlane s).2) ∧
    (data ≠ none ↔ nextSlot s ∉ c.badSlots) ∧ ∀ d, data = some d → HoldsDoses clean l d := by
  rw [dosePlane] at h
  simp only [ckptBegin, hc, h, dosePlane]
  by_cases hbad : nextSlot s ∈ c.badSlots
  · rw [nextSlot] at hbad
    rw [if_pos (List.contains_iff_mem.2 hbad)]
    exact ⟨none, rfl, iff_of_false (not_not.2 rfl) (not_not.2 hbad), nofun⟩
  · rw [nextSlot] at hbad
    rw [if_neg fun h => hbad (List.contains_iff_mem.1 h)]
    refine ⟨_, rfl, iff_of_true nofun hbad, fun d hd => ?_⟩
    obtain rfl := Option.some.inj hd
    refine ⟨rfl, fun q hq => ?_⟩
    simp only [List.range_eq_range']
    exact get_nonzeroFrom (fun q => leAt l (8 * q) 6) (Nat.zero_le q) (by rwa [Nat.zero_add])

theorem ckptBegin_slot : ∃ r, (ckptBegin clean s).1 = some r ∧ r.slot = nextSlot s := by
  cases h : (dosePlane s).1 with
  | none => exact ⟨⟨nextSlot s, none⟩, by rw [ckptBegin_unreadable hc h], rfl⟩
  | some l =>
    obtain ⟨data, hbegin, -⟩ := ckptBegin_read (clean := clean) hc h
    exact ⟨⟨nextSlot s, data⟩, by rw [hbegin], rfl⟩

end

/-! The command CHECKPOINT and SHUTDOWN_CKPT. -/

section
variable {clean : Bool} {c : Cartridge} {s : State}

/-- The result of a checkpoint command: OK where its header will be written, else FAULT. -/
def ckptResult (r : Option CkptRun) : Nat := match r with | some ⟨_, some _⟩ => 0 | _ => 5

theorem checkpointAct_unauthenticated (h : s.fld F.corCartStatAUTH ≠ 1) : checkpointAct clean s = corBusy { result := 0 } s := if_pos h

theorem checkpointAct_begins (h : s.fld F.corCartStatAUTH = 1) : checkpointAct clean s =
    corBusy { result := ckptResult (ckptBegin clean s).1, ckpt := (ckptBegin clean s).1 } (ckptBegin clean s).2 := by
  unfold checkpointAct
  rw [if_neg (not_not.2 h)]
  rfl

theorem ckptResult_ends (k : Nat) (data : Option CkptSlot) : (ckptResult (some ⟨k, data⟩) = 0 ↔ data ≠ none) ∧
    (ckptResult (some ⟨k, data⟩) = 0 ∨ ckptResult (some ⟨k, data⟩) = 5) := by
  cases data with
  | none => exact ⟨iff_of_false nofun (not_not.2 rfl), .inr rfl⟩
  | some d => exact ⟨iff_of_true rfl nofun, .inl rfl⟩

theorem shutdownAct_idle (h : s.cor.dosing = false) : shutdownAct s = checkpointAct true s := by
  simp only [shutdownAct, h, Bool.false_eq_true, if_false, if_true]

theorem shutdownAct_dosing (h : s.cor.dosing = true) : shutdownAct s =
    (let r := (List.range 256).foldl (fun a n => let x := spillTile true n a.2; (a.1 && x.1, x.2)) (true, s)
    if r.1 = true then checkpointAct true r.2 else corBusy { result := 5 } r.2) := by
  simp only [shutdownAct, h, if_true]

end

/-! A checkpoint ends. -/

theorem lifeAddr_modCor (g : CorState → CorState) (s : State) : (modCor g s).lifeAddr = s.lifeAddr := by
  simp only [State.lifeAddr, fld_modCor]

/-- The header of a checkpoint is written (R185, R186). -/
def headerWritten (r : CkptRun) (d : CkptSlot) (c : Cartridge) (s : State) : State :=
  modCor (fun x => { x with ckptRef := s.gt, seq := max x.seq d.seq, ckptDone := true, dosing := x.dosing && !d.clean,
                            cart := some { c with slots := SMap.put c.slots r.slot d } }) s

@[simp] theorem lifeSum_cor (s : State) : (lifeSum s).cor = s.cor := by
  simp only [lifeSum, setFlag, setFld_cor]

@[simp] theorem lifeSum_mem (s : State) : (lifeSum s).mem = s.mem := by
  simp only [lifeSum, setFlag, setFld_mem]

@[simp] theorem lifeSum_flt (s : State) : (lifeSum s).flt = s.flt := by
  simp only [lifeSum, setFlag, setFld_flt]

theorem mem_putBytes_congr {s t : State} (h : t.mem = s.mem) (a : Nat) (l : List Byte) : (putBytes a l t).mem = (putBytes a l s).mem := by
  simp only [putBytes, h]

theorem lifeBytes_congr {s t : State} (h : t.cor.life = s.cor.life) : lifeBytes t = lifeBytes s := by
  simp only [lifeBytes, h]

section
variable {r : CkptRun} {d : CkptSlot} {c : Cartridge} {s : State}

/-- After the header the life table goes to MRAM, and identifier 263 is raised (R187). -/
theorem ckptEnd_written (hd : r.data = some d) (hc : s.cor.cart = some c) : ckptEnd r s =
    intr 263 (lifeSum (putBytes s.lifeAddr (lifeBytes s) (headerWritten r d c s))) := by
  have haddr : (headerWritten r d c s).lifeAddr = s.lifeAddr := lifeAddr_modCor _ s
  rw [← haddr, ← lifeBytes_congr (t := headerWritten r d c s) (s := s) rfl]
  simp only [ckptEnd, hd, modCor_cor, hc]
  rfl

theorem ckptEnd_cor (hd : r.data = some d) (hc : s.cor.cart = some c) : (ckptEnd r s).cor = { s.cor with
    ckptRef := s.gt, seq := max s.cor.seq d.seq, ckptDone := true, dosing := s.cor.dosing && !d.clean,
    cart := some { c with slots := SMap.put c.slots r.slot d } } := by
  rw [ckptEnd_written hd hc, intr_cor, lifeSum_cor, putBytes_cor, headerWritten, modCor_cor]

theorem ckptEnd_flt (hd : r.data = some d) (hc : s.cor.cart = some c) : (ckptEnd r s).flt = s.flt := by
  rw [ckptEnd_written hd hc, intr_flt, lifeSum_flt, putBytes_flt, headerWritten, modCor_flt]

theorem ckptEnd_mem (hd : r.data = some d) (hc : s.cor.cart = some c) : (ckptEnd r s).mem = (putBytes s.lifeAddr (lifeBytes s) s).mem := by
  rw [ckptEnd_written hd hc, intr_mem, lifeSum_mem]
  exact mem_putBytes_congr (by rw [headerWritten, modCor_mem]) ..

theorem ckptEnd_evt (hd : r.data = some d) (hc : s.cor.cart = some c) : 263 ∈ (ckptEnd r s).evt := by
  rw [ckptEnd_written hd hc]
  exact mem_intr_evt ..

theorem ckptEnd_failed (hd : r.data = none) :
    ckptEnd r s = raise .cor 10 { addr := r.slot } (modCor (fun x => { x with ckptRef := s.gt }) s) := by
  simp only [ckptEnd, hd]

end

/-! The periodic checkpoint. -/

section
variable {s : State}

theorem ckptStart_slot {c : Cartridge} (hc : s.cor.cart = some c) :
    ∃ r, (ckptStart s).cor.ckpt = some r ∧ r.slot = nextSlot s ∧ (ckptStart s).cor.deferred = false := by
  obtain ⟨r, hr, hslot⟩ := ckptBegin_slot (clean := false) hc
  exact ⟨r, hr, hslot, rfl⟩

theorem ckptDueAct_due (h : s.fld F.corCartStatSTATE = 2 ∧ s.fld F.corCartStatAUTH = 1 ∧ s.cor.ckpt = none ∧
    s.cor.ckptRef + s.fld F.corCtrlCKPTMIN * 60000000000 ≤ s.gt) :
    ckptDueAct s = if s.cor.busy.isSome then modCor (fun x => { x with deferred := true }) s else ckptStart s := by
  obtain ⟨hst, hauth, hnone, hgt⟩ := h
  exact if_pos ⟨hst, hauth, hgt, Option.isNone_iff_eq_none.2 hnone⟩

theorem ckptDueAct_early (h : ¬ (s.fld F.corCartStatSTATE = 2 ∧ s.fld F.corCartStatAUTH = 1 ∧ s.cor.ckpt = none ∧
    s.cor.ckptRef + s.fld F.corCtrlCKPTMIN * 60000000000 ≤ s.gt)) : ckptDueAct s = s := by
  refine if_neg fun hdue => h ?_
  obtain ⟨hst, hauth, hgt, hnone⟩ := hdue
  exact ⟨hst, hauth, Option.isNone_iff_eq_none.1 hnone, hgt⟩

theorem ckptDeferredAct_waits (h : s.cor.deferred = false ∨ s.cor.busy ≠ none) : ckptDeferredAct s = s := by
  refine if_neg fun hgo => ?_
  obtain ⟨hdef, hbusy, -⟩ := hgo
  obtain h | h := h
  · exact Bool.false_ne_true (h.symm.trans hdef)
  · exact h (Option.isNone_iff_eq_none.1 hbusy)

theorem ckptDeferredAct_starts (hdef : s.cor.deferred = true) (hbusy : s.cor.busy = none) (hnone : s.cor.ckpt = none) :
    ckptDeferredAct s = ckptStart s :=
  if_pos ⟨hdef, Option.isNone_iff_eq_none.2 hbusy, Option.isNone_iff_eq_none.2 hnone⟩

theorem ckptWrittenAct_idle (h : s.cor.ckpt = none) : ckptWrittenAct s = s := by
  simp only [ckptWrittenAct, h]

/-- No periodic checkpoint runs any more. -/
def runOver (s : State) : State := modCor (fun x => { x with ckpt := none }) s

theorem runOver_cor (s : State) : (runOver s).cor = { s.cor with ckpt := none } := rfl

theorem runOver_lifeTable (s : State) : (putBytes (runOver s).lifeAddr (lifeBytes (runOver s)) (runOver s)).mem =
    (putBytes s.lifeAddr (lifeBytes s) s).mem := by
  rw [runOver, lifeAddr_modCor, lifeBytes_congr (s := s) (by rw [modCor_cor])]
  exact mem_putBytes_congr (modCor_mem ..) ..

theorem ckptWrittenAct_ends {r : CkptRun} (h : s.cor.ckpt = some r) :
    ckptWrittenAct s = ckptEnd r (runOver s) := by
  simp only [ckptWrittenAct, h, runOver]

end

/-! A command ends. -/

section
variable {b : CorBusy} {s : State}

theorem corComplete_idle (h : s.cor.busy = none) : corComplete s = s := by
  simp only [corComplete, h]

variable (hb : s.cor.busy = some b) (hw : b.waitAuth = false)
include hb hw

theorem corComplete_plain (hid : b.newId = none) (hk : b.ckpt = none) (hp : b.pair = none) : corComplete s = corFinish b.result s := by
  simp only [corComplete, hb, hw, hid, hk, hp, Bool.false_eq_true, if_false]

theorem corComplete_pair {p : Nat × Nat} (hid : b.newId = none) (hk : b.ckpt = none) (hp : b.pair = some p) :
    corComplete s = corFinish b.result (modCor (fun x => { x with produced := some p }) s) := by
  simp only [corComplete, hb, hw, hid, hk, hp, Bool.false_eq_true, if_false]

theorem corComplete_checkpoint {r : CkptRun} (hid : b.newId = none) (hp : b.pair = none) (hk : b.ckpt = some r) :
    corComplete s = corFinish b.result (ckptEnd r s) := by
  simp only [corComplete, hb, hw, hid, hk, hp, Bool.false_eq_true, if_false]

theorem corComplete_calWrite {x : List Byte} (hid : b.newId = some x) (hp : b.pair = none) (hk : b.ckpt = none) :
    corComplete s = corFinish b.result (calWriteEnd x s) := by
  simp only [corComplete, hb, hw, hid, hk, hp, Bool.false_eq_true, if_false]

end

/-- The last step of CAL_WRITE: the copy that was not in use is written and becomes the copy in use (R179). -/
theorem calWriteEnd_swaps {c : Cartridge} {s : State} (x : List Byte) (hc : s.cor.cart = some c) : ∃ d,
    (calWriteEnd x s).cor.cart = some d ∧ (calWriteEnd x s).cor.idIsB = !s.cor.idIsB ∧
    (calWriteEnd x s).cor.id = (if (calWriteEnd x s).cor.idIsB then d.idB else d.idA) := by
  simp only [calWriteEnd, hc, showId_cor, modCor_cor]
  cases s.cor.idIsB with
  | true =>
    simp only [if_true, Bool.not_true, Bool.false_eq_true, if_false]
    exact ⟨_, rfl, trivial, rfl⟩
  | false =>
    simp only [if_true, Bool.not_false, Bool.false_eq_true, if_false]
    exact ⟨_, rfl, trivial, rfl⟩

theorem calWriteEnd_keeps (x : List Byte) (s : State) : (calWriteEnd x s).mem = s.mem ∧ (calWriteEnd x s).flt = s.flt := by
  unfold calWriteEnd
  split
  · exact ⟨rfl, rfl⟩
  · simp only [showId, setFld_mem, setFld_flt, modCor_mem, modCor_flt, and_self]

end Sys2Proof.Machine
end

section
/-! SUPPORT. Cartridge commands, checkpoints and dose accounting (R176, R179 to R189). -/

namespace Sys2Proof.Machine

/-- Settles O36: BUSY and NOT_READY for every command, then each command by what it reads, the end of a command, and checkpoints. -/
theorem cartridgeCommandsAndCheckpoints : Obligations.CartridgeCommandsAndCheckpoints := by
  intro f s fin busy a ready m
  have hfin : fin = corFinish := rfl
  have hbusy : busy = corBusy := rfl
  clear_value fin busy
  subst hfin hbusy
  have hm : m = stagedImage s := rfl
  clear_value m
  subst hm
  refine ⟨fun h => ?_, fun hcmd hst => ?_, fun hready => ?_, fun h => ?_, fun b hb hw hid hk => ?_, fun b r d c hb hw hid hp hk hd hc hres => ?_,
    fun b x c hb hw hid hp hk hc hres => ?_, fun r d c hr hd hc => ?_, fun r hr hd => ?_, fun h => ?_,
    ⟨fun h => ?_, fun h hb => ?_, fun c h hb hc => ?_⟩, fun h => ?_, fun c hdef hb hnone hc => ?_⟩
  -- BUSY, and another state than READY
  · rw [exec_prepare, exec_exportCal, exec_calWrite, exec_checkpoint, exec_shutdownCkpt]
    simp only [corReady_refused h, and_self]
  · rw [exec_prepare, exec_exportCal, exec_calWrite, exec_checkpoint, exec_shutdownCkpt]
    simp only [corReady_notReady hcmd hst, and_self]
  -- commands while READY
  · obtain ⟨hcmd, hst⟩ := hready
    rw [exec_prepare, exec_exportCal, exec_calWrite, exec_checkpoint, exec_shutdownCkpt]
    simp only [corReady_taken hcmd hst]
    refine ⟨?_, fun c hc => ?_, fun c hc hlen => ?_, fun h => ?_, fun c hauth hc => ⟨fun h => ?_, fun l h => ?_⟩, fun h => ?_, fun h => ?_⟩
    · obtain ⟨x, u, hx, hends⟩ := prepareAct_ends f s
      exact ⟨_, x, congrArg _ hx, rfl, corBusy_runs .., hends⟩
    · obtain ⟨hres, hok⟩ := exportResult_ends (corPut_ends (s.fld F.corCaddrVA) (s.cor.id ++ cartArea c) s) (cartArea c)
      exact ⟨_, _, congrArg _ (exportAct_runs hc), rfl, corBusy_runs .., hres, hok⟩
    · refine ⟨_, rfl, ?_⟩
      cases himg : (stagedImage s).1 with
      | none => exact calWriteAct_unreadable hc f himg
      | some l =>
        dsimp only
        by_cases hl : imageResult l = 0
        · rw [if_neg (not_not.2 hl)]
          cases f with
          | false => exact (if_pos rfl).mpr (calWriteAct_asks hc himg hl)
          | true =>
            obtain ⟨x, hx, hres, hcrc, hid⟩ := calWriteAct_programs hc himg hl
            rw [if_neg (by decide), hx]
            exact ⟨x, calWriting l s c, rfl, hres, hcrc, hid, rfl, calWriting_cal .., fun hb => calWriting_ofB c hb hlen,
              fun hb => calWriting_ofA c hb hlen⟩
        · rw [if_pos hl]
          exact calWriteAct_refused hc f himg hl
    · exact congrArg _ (checkpointAct_unauthenticated h)
    · rw [checkpointAct_begins hauth, ckptBegin_unreadable hc h]
      rfl
    · obtain ⟨data, hbegin, hbad, hdata⟩ := ckptBegin_read (clean := false) hc h
      obtain ⟨hok, hres⟩ := ckptResult_ends (nextSlot s) data
      rw [checkpointAct_begins hauth, hbegin]
      exact ⟨_, _, ⟨nextSlot s, data⟩, rfl, rfl, corBusy_runs .., rfl, rfl, rfl, rfl, hok, hbad, hres,
        fun d hd => ⟨(hdata d hd).clean, (hdata d hd).dose⟩⟩
    · exact congrArg _ (shutdownAct_idle h)
    · exact congrArg _ (shutdownAct_dosing h)
  -- the end of a command
  · exact congrArg _ (corComplete_idle h)
  · cases hp : b.pair with
    | none => exact congrArg _ (corComplete_plain hb hw hid hk hp)
    | some p => exact congrArg _ (corComplete_pair hb hw hid hk hp)
  · rw [exec_cartCmdComplete, corComplete_checkpoint hb hw hid hp hk]
    refine ⟨_, rfl, ?_, corFinish_result _ _ (by omega), corFinish_done .., ?_, corFinish_evt .., mem_evt_corFinish _ _ (ckptEnd_evt hd hc), ?_,
      (corFinish_flt ..).trans (ckptEnd_flt hd hc)⟩
    · rw [corFinish_cor]
    · rw [corFinish_cor, ckptEnd_cor hd hc]
    · rw [corFinish_cor, ckptEnd_cor hd hc]
  · obtain ⟨d, hcart, hcopy, hread⟩ := calWriteEnd_swaps x hc
    obtain ⟨hmem, hflt⟩ := calWriteEnd_keeps x s
    rw [exec_cartCmdComplete, corComplete_calWrite hb hw hid hp hk]
    exact ⟨_, d, rfl, rfl, corFinish_result _ _ (by omega), hcart, hcopy, hread, corFinish_evt ..,
      (corFinish_flt ..).trans hflt, (corFinish_mem ..).trans hmem⟩
  -- the periodic checkpoint
  · have hover : (runOver s).cor.cart = some c := by rw [runOver_cor, hc]
    rw [exec_checkpointWritten, ckptWrittenAct_ends hr]
    refine ⟨_, rfl, ?_, ?_, ?_, ?_, ?_, ckptEnd_evt hd hover, (ckptEnd_flt hd hover).trans (modCor_flt ..),
      (ckptEnd_mem hd hover).trans (runOver_lifeTable s)⟩
    · rw [ckptEnd_cor hd hover]
    · rw [ckptEnd_cor hd hover, runOver_cor]
    · rw [ckptEnd_cor hd hover, runOver_cor]
    · rw [ckptEnd_cor hd hover]
      rfl
    · rw [ckptEnd_cor hd hover]
  · rw [exec_checkpointWritten, ckptWrittenAct_ends hr, ckptEnd_failed hd]
    rfl
  · exact congrArg _ (ckptWrittenAct_idle h)
  · exact congrArg _ (ckptDueAct_early h)
  · rw [exec_ckptDue, ckptDueAct_due h, if_pos (Option.isSome_iff_ne_none.2 hb)]
    rfl
  · obtain ⟨r, hckpt, hslot, hdef⟩ := ckptStart_slot hc
    rw [exec_ckptDue, ckptDueAct_due h, hb]
    exact ⟨_, r, rfl, hckpt, hslot, hdef⟩
  · exact congrArg _ (ckptDeferredAct_waits h)
  · obtain ⟨r, hckpt, hslot, hstarted⟩ := ckptStart_slot hc
    rw [exec_ckptDeferredStart, ckptDeferredAct_starts hdef hb hnone]
    exact ⟨_, r, rfl, hckpt, hslot, hstarted⟩

end Sys2Proof.Machine
end

section
/-! SUPPORT. The reversal of b bits (R210): its bits, its range, and that it undoes itself. -/

namespace Sys2Proof.Machine

theorem bitrev_eq_sum (b x : Nat) :
    bitrev b x = ((List.range b).map (fun i => if x.testBit i then 2 ^ (b - 1 - i) else 0)).sum := by
  simp only [bitrev, bit_eq_testBit, List.sum_eq_foldl, List.foldl_map]

/-- Bit 0 of the operand is the top bit of the reversal, over the reversal of the rest. -/
theorem bitrev_succ (b x : Nat) : bitrev (b + 1) x = (if x.testBit 0 then 2 ^ b else 0) + bitrev b (x / 2) := by
  rw [bitrev_eq_sum, bitrev_eq_sum, List.range_succ_eq_map, List.map_cons, List.sum_cons, List.map_map]
  refine congrArg _ (congrArg List.sum (List.map_congr_left fun i _ => ?_))
  have hexp : b + 1 - 1 - (i + 1) = b - 1 - i := by omega
  simp only [Function.comp_apply, Nat.succ_eq_add_one, hexp, Nat.testBit_succ]

theorem bitrev_lt (b x : Nat) : bitrev b x < 2 ^ b := by
  induction b generalizing x with
  | zero => exact Nat.one_pos
  | succ b ih =>
    have hrest := ih (x / 2)
    rw [bitrev_succ, Nat.pow_succ]
    split <;> omega

theorem testBit_bitrev {b i : Nat} (x : Nat) (hi : i < b) : (bitrev b x).testBit i = x.testBit (b - 1 - i) := by
  induction b generalizing x with
  | zero => exact absurd hi (Nat.not_lt_zero i)
  | succ b ih =>
    have hrest := bitrev_lt b (x / 2)
    rw [bitrev_succ]
    by_cases hib : i = b
    · subst hib
      rw [show i + 1 - 1 - i = 0 by omega]
      cases x.testBit 0
      · rw [if_neg (by decide), Nat.zero_add, Nat.testBit_lt_two_pow hrest]
      · rw [if_pos rfl, Nat.testBit_two_pow_add_eq, Nat.testBit_lt_two_pow hrest]
        rfl
    · have hlt : i < b := by omega
      rw [show b + 1 - 1 - i = b - 1 - i + 1 by omega, Nat.testBit_succ, ← ih _ hlt]
      split
      · exact Nat.testBit_two_pow_add_gt hlt _
      · rw [Nat.zero_add]

/-- A number of b bits is the reversal when each of its bits is the mirrored one. -/
theorem bitrev_eq_of_testBit {b r x : Nat} (hr : r < 2 ^ b) (h : ∀ i < b, r.testBit i = x.testBit (b - 1 - i)) : bitrev b x = r := by
  refine Nat.eq_of_testBit_eq fun i => ?_
  by_cases hi : i < b
  · rw [testBit_bitrev x hi, h i hi]
  · have hpow : 2 ^ b ≤ 2 ^ i := Nat.pow_le_pow_right Nat.two_pos (Nat.le_of_not_lt hi)
    rw [Nat.testBit_lt_two_pow ((bitrev_lt b x).trans_le hpow), Nat.testBit_lt_two_pow (hr.trans_le hpow)]

theorem bitrev_bitrev {b x : Nat} (hx : x < 2 ^ b) : bitrev b (bitrev b x) = x := by
  refine bitrev_eq_of_testBit hx fun i hi => ?_
  rw [testBit_bitrev x (by omega), show b - 1 - (b - 1 - i) = i by omega]

end Sys2Proof.Machine
end

section
/-! SUPPORT. The dither of an on-time (R210, R211): over a cycle of refreshes, from any of them, the reversed index is below a bound as
often as the bound says. -/

namespace Sys2Proof.Machine

/-- A predicate of a period holds as often in a window of that length wherever the window begins. -/
theorem count_window_of_periodic {p : Nat → Prop} [DecidablePred p] {n : Nat} (hp : p.Periodic n) (m : Nat) :
    Nat.count (fun j => p (m + j)) n = Nat.count p n := by
  have hshift : Nat.count (fun j => p (n + j)) m = Nat.count p m := by
    simp only [Nat.add_comm n, hp _]
  have hsplit := Nat.count_add p m n
  rw [Nat.add_comm m n, Nat.count_add p n m, hshift] at hsplit
  omega

/-- Reversal permutes the indices of a cycle, so it is below f for f of them. -/
theorem count_bitrev_lt {b f : Nat} (hf : f ≤ 2 ^ b) : Nat.count (fun j => bitrev b (j % 2 ^ b) < f) (2 ^ b) = f := by
  rw [Nat.count_eq_card_filter_range]
  refine (Finset.card_nbij' (t := Finset.range f) (bitrev b) (bitrev b) ?_ ?_ ?_ ?_).trans (Finset.card_range f)
  · intro j hj
    obtain ⟨hlt, hbelow⟩ := Finset.mem_filter.1 hj
    rw [Nat.mod_eq_of_lt (Finset.mem_range.1 hlt)] at hbelow
    exact Finset.mem_coe.2 (Finset.mem_range.2 hbelow)
  · intro r hr
    have hr : r < f := Finset.mem_range.1 hr
    refine Finset.mem_coe.2 (Finset.mem_filter.2 ⟨Finset.mem_range.2 (bitrev_lt b r), ?_⟩)
    rwa [Nat.mod_eq_of_lt (bitrev_lt b r), bitrev_bitrev (hr.trans_le hf)]
  · intro j hj
    exact bitrev_bitrev (Finset.mem_range.1 (Finset.mem_filter.1 hj).1)
  · intro r hr
    exact bitrev_bitrev ((Finset.mem_range.1 hr).trans_le hf)

/-- Over k cycles, from any refresh m. -/
theorem count_dithered {b f : Nat} (hf : f ≤ 2 ^ b) (m k : Nat) :
    Nat.count (fun j => bitrev b ((m + j) % 2 ^ b) < f) (k * 2 ^ b) = k * f := by
  have hcycle (m : Nat) : Nat.count (fun j => bitrev b ((m + j) % 2 ^ b) < f) (2 ^ b) = f := by
    refine (count_window_of_periodic (p := fun j => bitrev b (j % 2 ^ b) < f) (fun j => ?_) m).trans (count_bitrev_lt hf)
    simp only [Nat.add_mod_right]
  induction k with
  | zero => rw [Nat.zero_mul, Nat.zero_mul, Nat.count_zero]
  | succ k ih =>
    have hnext := hcycle (m + k * 2 ^ b)
    simp only [Nat.add_assoc] at hnext
    rw [Nat.succ_mul, Nat.count_add, ih, hnext, Nat.succ_mul]

/-- A base taken n times, and one more where p holds. -/
theorem sum_base_add_count (p : Nat → Prop) [DecidablePred p] (c n : Nat) :
    ((List.range n).map (fun j => c + if p j then 1 else 0)).sum = n * c + Nat.count p n := by
  induction n with
  | zero => simp
  | succ n ih =>
    rw [List.range_succ, List.map_append, List.sum_append, ih, Nat.count_succ]
    simp only [List.map_cons, List.map_nil, List.sum_cons, List.sum_nil, Nat.succ_mul]
    omega

end Sys2Proof.Machine
end

section
/-! SUPPORT. The encoding of R210: step, on-time in units of 1/Ld count, and the on-time of one refresh. -/

namespace Sys2Proof.Machine

/-- The step s of R210 for a capped value. -/
def stepOfValue (yc : Nat) (ifix : Bool) (istep : Nat) : Nat := if ifix then istep else (16 * yc + 65534) / 65535 - 1

/-- Qb of R210. -/
def onUnits (yc ld st : Nat) : Nat := min ((32 * yc * ld + 257 * (st + 1)) / (514 * (st + 1))) (255 * ld)

/-- ON of R210 at refresh j, for a dither cycle of 2 ^ b refreshes. -/
def onTime (b qb j : Nat) : Nat := qb / 2 ^ b + if bitrev b (j % 2 ^ b) < qb % 2 ^ b then 1 else 0

theorem encodeOn_eq (y ceil b j : Nat) (ifix : Bool) (istep : Nat) :
    encodeOn y ceil (2 ^ b) j ifix istep =
      (onTime b (onUnits (min y ceil) (2 ^ b) (stepOfValue (min y ceil) ifix istep)) j, stepOfValue (min y ceil) ifix istep) := by
  rw [encodeOn, Nat.log2_two_pow]
  rfl

theorem stepOfValue_le {yc istep : Nat} (ifix : Bool) (hyc : yc ≤ 0xFFFF) (histep : istep ≤ 15) : stepOfValue yc ifix istep ≤ 15 := by
  unfold stepOfValue
  split <;> omega

theorem encodeOn_zero {y ceil b : Nat} (j istep : Nat) (h : min y ceil = 0) : encodeOn y ceil (2 ^ b) j false istep = (0, 0) := by
  have hst : stepOfValue 0 false istep = 0 := rfl
  have hq : onUnits 0 (2 ^ b) 0 = 0 := by simp [onUnits]
  rw [encodeOn_eq, h, hst, hq, onTime, Nat.zero_div, Nat.zero_mod, if_neg (Nat.not_lt_zero _)]

/-- No on-time passes 255 counts: where the base is 255, nothing is left to dither. -/
theorem onTime_le {b qb : Nat} (h : qb ≤ 255 * 2 ^ b) (j : Nat) : onTime b qb j ≤ 255 := by
  have hbase : qb / 2 ^ b ≤ 255 := Nat.div_le_of_le_mul (by rwa [Nat.mul_comm])
  have hsplit := Nat.div_add_mod qb (2 ^ b)
  unfold onTime
  split
  · obtain hlt | heq := hbase.lt_or_eq
    · omega
    · rw [heq] at hsplit
      omega
  · omega

section
variable (b qb : Nat)

theorem onTime_of_reversed {r j : Nat} (hr : r < 2 ^ b) (h : ∀ i < b, r.testBit i = (j % 2 ^ b).testBit (b - 1 - i)) :
    onTime b qb j = qb / 2 ^ b + if r < qb % 2 ^ b then 1 else 0 := by
  rw [onTime, bitrev_eq_of_testBit hr h]

/-- Over the refreshes of a cycle exactly Qb mod Ld carry base + 1 (R211). -/
theorem countP_onTime (m : Nat) :
    (List.range (2 ^ b)).countP (fun j => decide (onTime b qb (m + j) = qb / 2 ^ b + 1)) = qb % 2 ^ b := by
  have hcount := count_dithered (Nat.mod_lt qb (Nat.two_pow_pos b)).le m 1
  rw [Nat.one_mul, Nat.one_mul] at hcount
  refine Eq.trans (List.countP_congr fun j _ => ?_) hcount
  simp only [onTime, decide_eq_true_eq, Nat.add_left_cancel_iff, ite_eq_left_iff, Nat.zero_ne_one, imp_false, not_not]

/-- Over k cycles the on-times sum to k × Qb (R211). -/
theorem sum_onTime (m k : Nat) : ((List.range (k * 2 ^ b)).map (fun j => onTime b qb (m + j))).sum = k * qb := by
  simp only [onTime]
  rw [sum_base_add_count, count_dithered (Nat.mod_lt qb (Nat.two_pow_pos b)).le, Nat.mul_assoc, ← Nat.mul_add, Nat.div_add_mod]

end

/-- Settles O38: the reversal of b bits permutes a dither cycle, so the fraction of Qb is met exactly over each of them. -/
theorem pixelEncoding : Obligations.PixelEncoding := by
  unfold Obligations.PixelEncoding
  intro y ceil b rc istep ifix hy hceil _ histep
  simp only [encodeOn_eq]
  refine ⟨fun j => ⟨rfl, onTime_le (Nat.min_le_right ..) j⟩, stepOfValue_le ifix ((Nat.min_le_left ..).trans hy) histep, ?_,
    fun j r hr hrev => onTime_of_reversed b _ hr hrev, countP_onTime b _ rc, sum_onTime b _ rc⟩
  rintro rfl hyc j
  rw [← encodeOn_eq, encodeOn_zero j istep hyc]

end Sys2Proof.Machine
end

section
/-! SUPPORT. The state of a tile engine after an update, and what a command of a scan program does (R202, R203, R205). -/

namespace Sys2Proof.Machine

@[simp] theorem teSt_setTe_same (n : Nat) (v : TeState) (s : State) : (setTe n v s).teSt n = v := by
  simp [State.teSt, setTe]

@[simp] theorem setTe_setTe (n : Nat) (v w : TeState) (s : State) : setTe n w (setTe n v s) = setTe n w s := by
  simp [setTe]

theorem teSt_countMod (n : Nat) (f : Fld) (k : Nat) (s : State) : (countMod f k s).teSt n = s.teSt n := rfl
theorem teSt_countSat (n : Nat) (f : Fld) (k : Nat) (s : State) : (countSat f k s).teSt n = s.teSt n := rfl

/-- A counter that saturates stops at the largest value of its field. -/
theorem fld_countSat_same (f : Fld) (k : Nat) (s : State) : (countSat f k s).fld f = min (s.fld f + k) (2 ^ f.width - 1) := by
  have hpos := Nat.two_pow_pos f.width
  rw [countSat, fld_setFld_same, Nat.mod_eq_of_lt (by omega)]

theorem exec_line (n : Fin 256) (s : State) : exec (.line n) s = .next (scanStep n.val 1 (lineInsn n.val) s) := rfl
theorem exec_scanLoop (n : Fin 256) (s : State) : exec (.scanLoop n) s = .next (scanStep n.val 2 (loopInsn n.val) s) := rfl
theorem exec_setc (n : Fin 256) (s : State) : exec (.setc n) s = .next (scanStep n.val 3 (setcInsn n.val) s) := rfl
theorem exec_jmp (n : Fin 256) (s : State) : exec (.jmp n) s = .next (scanStep n.val 4 (jmpInsn n.val) s) := rfl
theorem exec_brref (n : Fin 256) (s : State) : exec (.brref n) s = .next (scanStep n.val 5 (brrefInsn n.val) s) := rfl
theorem exec_scanEnd (n : Fin 256) (s : State) : exec (.scanEnd n) s = .next (scanStep n.val 0 (fun _ => endInsn n.val) s) := rfl

section
variable {n : Nat} {s : State}

theorem scanStep_stopped (h : (s.teSt n).run = false) (op : Nat) (act : Nat → State → State) : scanStep n op act s = s :=
  if_neg fun hc => absurd (h.symm.trans hc.1) (by decide)

theorem scanStep_mismatch {op : Nat} (h : bits (s.progWord n (s.teSt n).pc) 31 28 ≠ op) (act : Nat → State → State) :
    scanStep n op act s = s :=
  if_neg fun hc => h hc.2.1

theorem scanStep_runs {op : Nat} (hrun : (s.teSt n).run = true) (hactive : s.teActive n = true) (hreset : s.inReset (Blk.teN n) = false)
    (hop : bits (s.progWord n (s.teSt n).pc) 31 28 = op) (act : Nat → State → State) :
    scanStep n op act s = act (s.progWord n (s.teSt n).pc) s :=
  if_pos ⟨hrun, hop, hactive, by rw [hreset]; rfl⟩

/-! An instruction other than LINE (R203). -/

/-- The pending slot has been missed: it goes dark, the instruction counts toward the next one, and SLOT_MISS counts. -/
def slotMissed (n : Nat) (s : State) : State :=
  countMod (F.teStatSLOTMISS.te n) 1 (setTe n { s.teSt n with others := 1, slot := (s.teSt n).slot + 1 } s)

theorem slotMissed_teSt (n : Nat) (s : State) :
    (slotMissed n s).teSt n = { s.teSt n with others := 1, slot := (s.teSt n).slot + 1 } :=
  (teSt_countMod ..).trans (teSt_setTe_same ..)

theorem slotMissed_count (n : Nat) (s : State) :
    (slotMissed n s).fld (F.teStatSLOTMISS.te n) = (s.fld (F.teStatSLOTMISS.te n) + 1) % 65536 := fld_countMod_same ..

theorem otherInsn_counts (h : (s.teSt n).others < 8) : otherInsn n s = setTe n { s.teSt n with others := (s.teSt n).others + 1 } s :=
  if_pos h

theorem otherInsn_ninth (h : (s.teSt n).others = 8) (hslot : (s.teSt n).slot < 64) :
    otherInsn n s = raise (Blk.teN n) 3 {} (slotMissed n s) :=
  (if_neg (by omega)).trans (if_pos hslot)

theorem otherInsn_spent (h : (s.teSt n).others = 8) (hslot : 64 ≤ (s.teSt n).slot) : otherInsn n s = s :=
  (if_neg (by omega)).trans (if_neg (by omega))

theorem endInsn_counts (h : (s.teSt n).others < 8) :
    endInsn n s = setTe n { s.teSt n with others := (s.teSt n).others + 1, run := false } s := by
  simp only [endInsn, otherInsn_counts h, teSt_setTe_same, setTe_setTe]

theorem loopInsn_counts {c : Nat} (w : Nat) (h : (s.teSt n).others < 8)
    (hc : ((if bit w 27 then (s.teSt n).c1 else (s.teSt n).c0) + 255) % 256 = c) :
    loopInsn n w s = setTe n { s.teSt n with
      others := (s.teSt n).others + 1, c1 := if bit w 27 then c else (s.teSt n).c1, c0 := if bit w 27 then (s.teSt n).c0 else c,
      pc := (if c ≠ 0 then bits w 26 20 else (s.teSt n).pc + 1) % 128 } s := by
  simp only [loopInsn, scanPc, otherInsn_counts h, teSt_setTe_same, setTe_setTe, hc]
  cases bit w 27 <;> rfl

theorem setcInsn_counts (w : Nat) (h : (s.teSt n).others < 8) :
    setcInsn n w s = setTe n { s.teSt n with
      others := (s.teSt n).others + 1, c1 := if bit w 27 then bits w 7 0 else (s.teSt n).c1,
      c0 := if bit w 27 then (s.teSt n).c0 else bits w 7 0, pc := ((s.teSt n).pc + 1) % 128 } s := by
  simp only [setcInsn, scanPc, otherInsn_counts h, teSt_setTe_same, setTe_setTe]
  cases bit w 27 <;> rfl

theorem jmpInsn_counts (w : Nat) (h : (s.teSt n).others < 8) :
    jmpInsn n w s = setTe n { s.teSt n with others := (s.teSt n).others + 1, pc := bits w 27 21 % 128 } s := by
  simp only [jmpInsn, scanPc, otherInsn_counts h, teSt_setTe_same, setTe_setTe]

theorem brrefInsn_counts (w : Nat) (h : (s.teSt n).others < 8) :
    brrefInsn n w s = setTe n { s.teSt n with
      others := (s.teSt n).others + 1,
      pc := (if (s.rc &&& bits w 20 14) = bits w 13 7 then bits w 27 21 else (s.teSt n).pc + 1) % 128 } s := by
  simp only [brrefInsn, scanPc, otherInsn_counts h, teSt_setTe_same, setTe_setTe]

theorem jmpInsn_ninth (w : Nat) (h : (s.teSt n).others = 8) (hslot : (s.teSt n).slot < 64) :
    jmpInsn n w s = scanPc n (bits w 27 21) (raise (Blk.teN n) 3 {} (slotMissed n s)) := by
  rw [jmpInsn, otherInsn_ninth h hslot]

theorem endInsn_ninth (h : (s.teSt n).others = 8) (hslot : (s.teSt n).slot < 64) :
    endInsn n s = setTe n { (raise (Blk.teN n) 3 {} (slotMissed n s)).teSt n with run := false } (raise (Blk.teN n) 3 {} (slotMissed n s)) := by
  rw [endInsn, otherInsn_ninth h hslot]

theorem jmpInsn_spent (w : Nat) (h : (s.teSt n).others = 8) (hslot : 64 ≤ (s.teSt n).slot) :
    jmpInsn n w s = setTe n { s.teSt n with pc := bits w 27 21 % 128 } s := by
  rw [jmpInsn, otherInsn_spent h hslot, scanPc]

theorem endInsn_spent (h : (s.teSt n).others = 8) (hslot : 64 ≤ (s.teSt n).slot) :
    endInsn n s = setTe n { s.teSt n with run := false } s := by
  rw [endInsn, otherInsn_spent h hslot]

end

end Sys2Proof.Machine
end

section
/-! SUPPORT. The words of a row (R191, R201, R210): always 192, and where the store is sound and no audit runs, the encoded values. -/

namespace Sys2Proof.Machine

/-- A fold that appends g at every element, with an accumulator d that stands, appends them all. -/
theorem foldl_append_flatMap {α β γ : Type} {f : List α × β → γ → List α × β} {g : γ → List α} {d : β} {l : List γ}
    (hf : ∀ m, ∀ c ∈ l, f (m, d) c = (m ++ g c, d)) (m : List α) : l.foldl f (m, d) = (m ++ l.flatMap g, d) := by
  induction l generalizing m with
  | nil => rw [List.foldl_nil, List.flatMap_nil, List.append_nil]
  | cons c l ih =>
    rw [List.foldl_cons, hf m c List.mem_cons_self, ih fun m c hc => hf m c (List.mem_cons_of_mem _ hc), List.flatMap_cons,
      List.append_assoc]

/-- A fold that appends one entry at every element, with an accumulator d that stands, is a map. -/
theorem foldl_append_map {α β γ : Type} {f : List α × β → γ → List α × β} {g : γ → α} {d : β} {l : List γ}
    (hf : ∀ m, ∀ c ∈ l, f (m, d) c = (m ++ [g c], d)) : l.foldl f ([], d) = (l.map g, d) := by
  rw [foldl_append_flatMap (g := fun c => [g c]) hf, List.nil_append, List.map_eq_flatMap]

theorem getD_map_range {α : Type} (g : Nat → α) {i n : Nat} (h : i < n) (d : α) : ((List.range n).map g).getD i d = g i := by
  simp [h]

theorem rowWords_length (n row word : Nat) (s : State) : (rowWords n row word s).1.length = 192 := by
  simp only [rowWords]
  rw [length_foldl_grows, List.length_range, List.length_nil, Nat.zero_add]
  intro a c
  split <;> rw [List.length_append, List.length_singleton]

/-- The value of a subpixel in the buffer of a frame (R191). -/
def State.subpixel (s : State) (n frame p yl xl : Nat) : Nat :=
  leNat (s.bytes (0x10000000 + n * 0xC000 + (frame % 2) * 0x6000 + 2 * (4096 * p + 64 * yl + xl)) 2)

theorem auditWord_plain (on st : Nat) : auditWord false on st 0 = (16 * on + st, 0) := by
  simp [auditWord, Nat.mul_comm]

section
variable {s : State} (hue : s.ue = []) (hce : s.ce = [])
include hue hce

theorem storeWord_sound (n a : Nat) : storeWord n a s = (some ((List.range 8).map (fun i => leNat (s.bytes (a + 2 * i) 2))), s) := by
  simp only [storeWord, hue, hce, List.contains_nil, Bool.false_eq_true, if_false]

/-- Eight words of eight subpixels are the 64 sites of a row. -/
theorem storeRow_sound (n frame p yl : Nat) :
    storeRow n frame p yl s = ((List.range 64).map (fun xl => some (s.subpixel n frame p yl xl)), s) := by
  refine (foldl_append_flatMap (g := fun w => (List.range 8).map (fun i => some (s.subpixel n frame p yl (8 * w + i)))) (fun m w _ => ?_) []).trans rfl
  simp only [storeWord_sound hue hce, List.map_map]
  refine congrArg (fun l => (m ++ l, s)) (List.map_congr_left fun i _ => ?_)
  simp only [Function.comp_apply, State.subpixel]
  congr 3
  omega

/-- The word of a column: ON and step of the subpixel that R201 puts there. -/
def State.columnWord (s : State) (n row word c : Nat) : Nat :=
  let e := encodeOn (s.subpixel n s.tl.frame (c % 3) row (c / 3)) (s.ceilOf (n / 32)) (s.fld F.teScanStatLD) s.rc (bit word 15) (bits word 14 11)
  16 * e.1 + e.2

theorem rowWords_sound {n : Nat} (hdiag : s.inFlag F.diagCtrlEN = false) (hdebt : (s.teSt n).debt = []) (row word : Nat) :
    rowWords n row word s = ((List.range 192).map (s.columnWord n row word), setTe n { s.teSt n with debt := [] } s) := by
  have haudit (f : Nat) : s.auditFrame n f = false := by rw [State.auditFrame, hdiag, Bool.false_and]
  have hrows := foldl_append_map (f := fun a p => let x := storeRow n s.tl.frame p row a.2; (a.1 ++ [x.1], x.2))
    (g := fun p => (List.range 64).map (fun xl => some (s.subpixel n s.tl.frame p row xl))) (d := s) (l := List.range 3)
    (fun m p _ => by rw [storeRow_sound hue hce])
  simp only [rowWords, hrows, haudit, Bool.false_and, hdebt]
  rw [foldl_append_map (g := s.columnWord n row word) (d := [])]
  · rfl
  · intro m c hc
    have hc : c < 192 := List.mem_range.1 hc
    rw [getD_map_range _ (by omega : c % 3 < 3), getD_map_range _ (by omega : c / 3 < 64)]
    simp only [SMap.get, SMap.find_nil, Option.getD_none, auditWord_plain]
    rfl

end

/-! LINE (R199–R201, R205–R208). -/

/-- The row that a LINE drives: the one it names, or the next of the order. -/
def State.lineRow (s : State) (n w : Nat) : Nat := if bit w 27 then bits w 26 21 else s.orderRow n (s.teSt n).i s.rc

/-- The engine after a LINE that has filled its slot. -/
def State.lineDone (s : State) (n w : Nat) : TeState :=
  { s.teSt n with pc := ((s.teSt n).pc + 1) % 128, i := if bit w 27 then (s.teSt n).i else (s.teSt n).i + 1, others := 0,
                  slot := (s.teSt n).slot + 1 }

/-- The state in which a LINE encodes its row: the slot is taken and the row counts as driven. -/
def rowTaken (n w : Nat) (s : State) : State := setTe n { s.lineDone n w with rows := (s.teSt n).rows ++ [s.lineRow n w] } s

/-- What a LINE hands over for a driven row (R233). -/
def linePacket (n w : Nat) (s : State) : TePkt :=
  let rate := s.fld (F.epPstatRATE.at (n / 8 * 0x1000))
  let gap := s.gapc n (bits w 18 17) rate
  { dark := false, row := s.lineRow n w, kind := bits w 20 19, sense := bit w 16, pset := bits w 18 17, gapc := gap,
    lt := s.slotCyc rate - gap, words := (rowWords n (s.lineRow n w) w (rowTaken n w s)).1 }

theorem linePacket_length (n w : Nat) (s : State) : (linePacket n w s).words.length = 192 := by
  simp only [linePacket, rowWords_length]

/-- A packet handed over for a slot. -/
def slotFilled (n slot : Nat) (p : TePkt) (s : State) : State := setTe n { s.teSt n with out := SMap.put (s.teSt n).out slot p } s

section
variable {n : Nat} {s : State} (w : Nat) (hue : s.ue = []) (hce : s.ce = []) (hdiag : s.inFlag F.diagCtrlEN = false)
  (hdebt : (s.teSt n).debt = [])
include hue hce hdiag hdebt

/-- The state in which a sound LINE encodes its row hands out the row's words and forgets nothing but empty debts. -/
theorem rowWords_rowTaken : rowWords n (s.lineRow n w) w (rowTaken n w s) =
    ((List.range 192).map (s.columnWord n (s.lineRow n w) w),
      setTe n { s.lineDone n w with rows := (s.teSt n).rows ++ [s.lineRow n w], debt := [] } s) := by
  rw [rowWords_sound (s := rowTaken n w s) hue hce hdiag (by rw [rowTaken, teSt_setTe_same]; exact hdebt), rowTaken, teSt_setTe_same,
    setTe_setTe]
  rfl

theorem linePacket_word {xl q : Nat} (hxl : xl < 64) (hq : q < 3) : (linePacket n w s).words.getD (3 * xl + q) 0 =
    (let e := encodeOn (s.subpixel n s.tl.frame q (s.lineRow n w) xl) (s.ceilOf (n / 32)) (s.fld F.teScanStatLD) s.rc (bit w 15) (bits w 14 11)
     16 * e.1 + e.2) := by
  rw [linePacket, rowWords_rowTaken w hue hce hdiag hdebt, getD_map_range _ (by omega), State.columnWord,
    show (3 * xl + q) % 3 = q by omega, show (3 * xl + q) / 3 = xl by omega]

end

section
variable {n w : Nat} {s : State}

theorem lineInsn_waits (h : 64 ≤ (s.teSt n).slot) : lineInsn n w s = s := if_pos h

variable (hslot : (s.teSt n).slot < 64)
include hslot

theorem lineInsn_dark (h : bits w 20 19 = 2 ∨ s.forcedDark n = true) : lineInsn n w s = setTe n (s.lineDone n w) s :=
  (if_neg (Nat.not_le.2 hslot)).trans (if_pos h)

variable (hkind : bits w 20 19 ≠ 2) (hlit : s.forcedDark n = false)
include hkind hlit

theorem lineInsn_lit : lineInsn n w s =
    if (s.teSt n).rows.contains (s.lineRow n w) then
      raise (Blk.teN n) 4 { addr := s.lineRow n w } (countSat (F.teStatROWREPEAT.te n) 1 (setTe n (s.lineDone n w) s))
    else slotFilled n (s.teSt n).slot (linePacket n w s) (rowWords n (s.lineRow n w) w (rowTaken n w s)).2 :=
  (if_neg (Nat.not_le.2 hslot)).trans (if_neg (by rw [hlit]; simpa using hkind))

theorem lineInsn_repeated (h : s.lineRow n w ∈ (s.teSt n).rows) : lineInsn n w s =
    raise (Blk.teN n) 4 { addr := s.lineRow n w } (countSat (F.teStatROWREPEAT.te n) 1 (setTe n (s.lineDone n w) s)) := by
  rw [lineInsn_lit hslot hkind hlit, if_pos (List.contains_iff_mem.2 h)]

theorem lineInsn_driven (h : s.lineRow n w ∉ (s.teSt n).rows) :
    SMap.find ((lineInsn n w s).teSt n).out (s.teSt n).slot = some (linePacket n w s) := by
  rw [lineInsn_lit hslot hkind hlit, if_neg (mt List.contains_iff_mem.1 h), slotFilled, teSt_setTe_same, SMap.find_put_same]

theorem lineInsn_sound (h : s.lineRow n w ∉ (s.teSt n).rows) (hue : s.ue = []) (hce : s.ce = [])
    (hdiag : s.inFlag F.diagCtrlEN = false) (hdebt : (s.teSt n).debt = []) :
    lineInsn n w s = setTe n { s.lineDone n w with rows := (s.teSt n).rows ++ [s.lineRow n w], debt := [],
                                                   out := SMap.put (s.teSt n).out (s.teSt n).slot (linePacket n w s) } s := by
  rw [lineInsn_lit hslot hkind hlit, if_neg (mt List.contains_iff_mem.1 h), rowWords_rowTaken w hue hce hdiag hdebt, slotFilled, teSt_setTe_same,
    setTe_setTe]
  rfl

end

end Sys2Proof.Machine
end

section
/-! SUPPORT. The start of a refresh (R196, R198, R202, R214): when it begins, and what it leaves each engine. -/

namespace Sys2Proof.Machine

theorem exec_refreshStart (k : Fin 320) (s : State) : exec (.refreshStart k) s = .next (refreshAt k.val s) := rfl

theorem refreshAt_early {k : Nat} {s : State} (h : s.gt < s.rstart s.tl.frame k ∨ s.tl.running = false) : refreshAt k s = s := by
  refine if_neg ?_
  rintro ⟨hrunning, _, _, hdue, _⟩
  obtain hlt | hoff := h
  · exact absurd hdue (Nat.not_le.2 hlt)
  · exact absurd (hoff.symm.trans hrunning) (by decide)

theorem refreshAt_due {k : Nat} {s : State} (hrunning : s.tl.running = true) (hk : k < s.scanM)
    (hframe : s.rstart s.tl.frame k < s.frameStart (s.tl.frame + 1)) (hdue : s.rstart s.tl.frame k ≤ s.gt)
    (hpower : s.pwr.stopped.contains 3 = false) (hlast : ∀ l, s.scan.last = some l → l.1 ≠ s.tl.frame ∨ l.2 < k) :
    refreshAt k s = refreshBegin s.tl.frame k s := by
  refine if_pos ⟨hrunning, .inl hk, hframe, hdue, ?_, by rw [hpower]; rfl⟩
  cases hl : s.scan.last with
  | none => rfl
  | some l => simpa using hlast l hl

theorem forN_succ {α : Type} (n : Nat) (f : Nat → α → α) (s : α) : forN (n + 1) f s = f n (forN n f s) := by
  simp only [forN, List.range_succ, List.foldl_append, List.foldl_cons, List.foldl_nil]

/-- What a refresh reads or leaves alone, beside the engines. -/
def State.aroundScan (s : State) : (SMap FltSet × List Host.Cell) × (RegFile × SMap Nat) × ScanState × Nat :=
  ((s.flt, s.mem), (s.inForce, s.blkReset), s.scan, s.rc)

theorem aroundScan_eq_iff {s t : State} : t.aroundScan = s.aroundScan ↔
    t.flt = s.flt ∧ t.mem = s.mem ∧ t.inForce = s.inForce ∧ t.blkReset = s.blkReset ∧ t.scan = s.scan ∧ t.rc = s.rc := by
  simp only [State.aroundScan, Prod.mk.injEq, and_assoc]

theorem rc_setFld {f : Fld} (h : F.teScanStatRC.key ≠ f.key) (v : Nat) (s : State) : (setFld f v s).rc = s.rc := fld_setFld_other v s h

theorem aroundScan_setFld {f : Fld} (h : F.teScanStatRC.key ≠ f.key) (v : Nat) (s : State) : (setFld f v s).aroundScan = s.aroundScan := by
  simp only [State.aroundScan, rc_setFld h]
  rfl

/-- A field that does not begin at bit 0 is another than RC. -/
theorem aroundScan_setFld_of_lo {f : Fld} {l : Nat} (hf : f.lo = l) (hpos : 0 < l) (hl : l < 64) (v : Nat) (s : State) :
    (setFld f v s).aroundScan = s.aroundScan := by
  refine aroundScan_setFld ?_ v s
  simp only [Fld.key, hf, F.teScanStatRC]
  omega

theorem forcedStep_te (s : State) : (forcedStep s).te = s.te := by
  unfold forcedStep
  refine forN_keeps State.te _ _ (fun g s => ?_) s
  split <;> rfl

theorem forcedStep_aroundScan (s : State) : (forcedStep s).aroundScan = s.aroundScan := by
  unfold forcedStep
  refine forN_keeps State.aroundScan _ _ (fun g s => ?_) s
  split <;> rfl

theorem latchCeil_te (s : State) : (latchCeil s).te = s.te := by
  unfold latchCeil
  refine forN_keeps State.te _ _ (fun g s => ?_) s
  rfl

theorem latchCeil_aroundScan (s : State) : (latchCeil s).aroundScan = s.aroundScan := by
  unfold latchCeil
  refine forN_keeps State.aroundScan _ _ (fun g s => ?_) s
  have hkey (f : Fld) (h : F.teScanStatRC.key < f.key) : F.teScanStatRC.key ≠ (f.at (8 * g)).key := by
    rw [key_at]
    omega
  exact (aroundScan_setFld (hkey _ (by decide)) ..).trans ((aroundScan_setFld (hkey _ (by decide)) ..).trans
    (aroundScan_setFld (hkey _ (by decide)) ..))

/-- An engine at the start of a refresh: an active one that is not in reset runs its program from ENTRY. -/
def State.teStarted (s : State) (n : Nat) : TeState :=
  { s.teSt n with run := s.teActive n && !(s.inReset (Blk.teN n)), pc := s.inF (F.teCtrlENTRY.te n), c0 := 0, c1 := 0, i := 0, others := 0,
                  slot := 0, rows := [], out := [] }

theorem teStarted_congr {s t : State} {n : Nat} (hforce : t.inForce = s.inForce) (hreset : t.blkReset = s.blkReset)
    (hte : t.teSt n = s.teSt n) : t.teStarted n = s.teStarted n := by
  simp only [State.teStarted, State.teActive, State.inFlag, State.inF, State.inReset, hte, hforce, hreset]

section
variable {n : Nat} {s : State} (hidle : (s.teSt n).run = false)
include hidle

/-- An engine whose program has ended starts without PROG_OVERRUN. -/
theorem teRefresh_idle : ∃ v b w, teRefresh n s =
    whenB b (setFlag (F.teStatBUF.te n) w) (setFlag (F.teStatCEIL.te n) v (setTe n (s.teStarted n) s)) := by
  simp only [teRefresh, hidle, Bool.false_eq_true, if_false]
  exact ⟨_, _, _, rfl⟩

theorem teRefresh_te : (teRefresh n s).te = SMap.put s.te n (s.teStarted n) := by
  obtain ⟨v, b, w, h⟩ := teRefresh_idle hidle
  rw [h]
  cases b <;> rfl

theorem teRefresh_aroundScan : (teRefresh n s).aroundScan = s.aroundScan := by
  have hceil (v : Bool) : (setFlag (F.teStatCEIL.te n) v (setTe n (s.teStarted n) s)).aroundScan = s.aroundScan :=
    aroundScan_setFld_of_lo (l := 61) rfl (by decide) (by decide) ..
  obtain ⟨v, b, w, h⟩ := teRefresh_idle hidle
  rw [h]
  cases b
  · exact hceil v
  · exact (aroundScan_setFld_of_lo (l := 63) rfl (by decide) (by decide) ..).trans (hceil v)

end

/-- After the first m engines have started, the others stand as they were. -/
theorem forN_teRefresh {s : State} {m : Nat} (hidle : ∀ i, i < m → (s.teSt i).run = false) :
    (forN m teRefresh s).aroundScan = s.aroundScan ∧
      ∀ i, (forN m teRefresh s).teSt i = if i < m then s.teStarted i else s.teSt i := by
  induction m with
  | zero => exact ⟨rfl, fun i => by rw [if_neg (Nat.not_lt_zero i)]; rfl⟩
  | succ m ih =>
    obtain ⟨haround, hengines⟩ := ih fun i hi => hidle i (Nat.lt_succ_of_lt hi)
    have hm : (forN m teRefresh s).teSt m = s.teSt m := by rw [hengines, if_neg (Nat.lt_irrefl m)]
    have hmidle : ((forN m teRefresh s).teSt m).run = false := by rw [hm, hidle m (Nat.lt_succ_self m)]
    obtain ⟨_, _, hforce, hreset, _, _⟩ := aroundScan_eq_iff.1 haround
    rw [forN_succ]
    refine ⟨(teRefresh_aroundScan hmidle).trans haround, fun i => ?_⟩
    rw [State.teSt, teRefresh_te hmidle, teStarted_congr hforce hreset hm, SMap.get_put]
    by_cases hi : i = m
    · rw [if_pos hi, if_pos (by omega), hi]
    · rw [if_neg hi]
      refine (hengines i).trans ?_
      simp only [Nat.lt_succ_iff_lt_or_eq, hi, or_false]

/-- Refresh k of a frame, before the engines start: RC has counted, a forced refresh moves on, the ceilings are latched. -/
def refreshLatched (frame k : Nat) (s : State) : State :=
  latchCeil (forcedStep { countMod F.teScanStatRC 1 s with scan := { s.scan with last := some (frame, k) } })

theorem refreshBegin_eq (frame k : Nat) (s : State) : refreshBegin frame k s = forN 256 teRefresh (refreshLatched frame k s) := rfl

theorem refreshLatched_te (frame k : Nat) (s : State) : (refreshLatched frame k s).te = s.te :=
  (latchCeil_te _).trans (forcedStep_te _)

theorem refreshLatched_aroundScan (frame k : Nat) (s : State) : (refreshLatched frame k s).aroundScan =
    ((s.flt, s.mem), (s.inForce, s.blkReset), { s.scan with last := some (frame, k) }, (s.rc + 1) % 128) := by
  have hrc : (countMod F.teScanStatRC 1 s).rc = (s.rc + 1) % 128 := fld_countMod_same ..
  rw [refreshLatched, latchCeil_aroundScan, forcedStep_aroundScan, ← hrc]
  rfl

/-- Where every program has ended, a refresh counts RC and starts the engines, and raises nothing. -/
theorem refreshBegin_idle {s : State} (frame k : Nat) (hidle : ∀ i, i < 256 → (s.teSt i).run = false) :
    (refreshBegin frame k s).aroundScan =
        ((s.flt, s.mem), (s.inForce, s.blkReset), { s.scan with last := some (frame, k) }, (s.rc + 1) % 128) ∧
      ∀ i, i < 256 → (refreshBegin frame k s).teSt i = s.teStarted i := by
  have hte (i : Nat) : (refreshLatched frame k s).teSt i = s.teSt i := by rw [State.teSt, refreshLatched_te, State.teSt]
  have haround := refreshLatched_aroundScan frame k s
  obtain ⟨hsame, hengines⟩ := forN_teRefresh (s := refreshLatched frame k s) (m := 256) fun i hi => by rw [hte, hidle i hi]
  rw [refreshBegin_eq]
  refine ⟨hsame.trans haround, fun i hi => ?_⟩
  simp only [State.aroundScan, Prod.mk.injEq] at haround
  obtain ⟨_, ⟨hforce, hreset⟩, _, _⟩ := haround
  rw [hengines, if_pos hi, teStarted_congr hforce hreset (hte i)]

end Sys2Proof.Machine
end

section
/-! SUPPORT. Scan programs of the tile engines (R196, R198, R199 to R208, R214). -/

namespace Sys2Proof.Machine

/-- Settles O37: a stopped engine, then each opcode by how many instructions came before it, then LINE by its row, and the start of a
refresh. -/
theorem scanPrograms : Obligations.ScanPrograms := by
  unfold Obligations.ScanPrograms
  intro n s
  dsimp only
  simp only [exec_line, exec_scanLoop, exec_setc, exec_jmp, exec_brref, exec_scanEnd, exec_refreshStart]
  refine ⟨fun h => ?_, fun hrun hactive hreset => ⟨fun h => ?_, fun h => ?_, fun hfew => ⟨fun h => ?_, fun h => ?_, fun h => ?_, fun h => ?_, fun h => ?_⟩,
    fun hfull hslot h => ?_, fun hfull hslot h => ?_, fun hfull hslot => ⟨fun h => ?_, fun h => ?_⟩,
    fun h => ⟨fun hslot => ?_, fun hslot hdark => ?_, fun hslot hkind hlit hrow => ?_, fun hslot hkind hlit hrow => ?_,
      fun hslot hkind hlit hrow hue hce hdiag hdebt => ?_⟩⟩,
    fun k h => ?_, fun k hrunning hk hframe hdue hpower hlast => ⟨?_, fun hidle => ?_⟩⟩
  -- a stopped engine
  · simp only [scanStep_stopped h, and_self]
  -- a command whose opcode the word does not hold
  · rw [scanStep_mismatch h]
  · rw [scanStep_mismatch h]
  -- an instruction other than LINE, up to the eighth
  · rw [scanStep_runs hrun hactive hreset h, endInsn_counts hfew]
  · rw [scanStep_runs hrun hactive hreset h, loopInsn_counts _ hfew rfl]
  · rw [scanStep_runs hrun hactive hreset h, setcInsn_counts _ hfew]
  · rw [scanStep_runs hrun hactive hreset h, jmpInsn_counts _ hfew]
  · rw [scanStep_runs hrun hactive hreset h, brrefInsn_counts _ hfew]
  -- the ninth, with a slot left and with none
  · rw [scanStep_runs hrun hactive hreset h, jmpInsn_ninth _ hfull hslot]
    exact ⟨_, rfl, slotMissed_teSt .., slotMissed_count ..⟩
  · rw [scanStep_runs hrun hactive hreset h, endInsn_ninth hfull hslot]
    exact ⟨_, rfl, slotMissed_teSt .., slotMissed_count ..⟩
  · rw [scanStep_runs hrun hactive hreset h, jmpInsn_spent _ hfull hslot]
  · rw [scanStep_runs hrun hactive hreset h, endInsn_spent hfull hslot]
  -- LINE: waiting, dark, repeated, driven, and driven from a sound store
  · rw [scanStep_runs hrun hactive hreset h, lineInsn_waits hslot]
  · rw [scanStep_runs hrun hactive hreset h, lineInsn_dark hslot hdark]
    rfl
  · rw [scanStep_runs hrun hactive hreset h, lineInsn_repeated hslot hkind hlit hrow]
    exact ⟨_, rfl, (teSt_countSat ..).trans (teSt_setTe_same ..), fld_countSat_same ..⟩
  · rw [scanStep_runs hrun hactive hreset h]
    exact ⟨_, _, rfl, lineInsn_driven hslot hkind hlit hrow, rfl, rfl, rfl, rfl, rfl, linePacket_length ..⟩
  · rw [scanStep_runs hrun hactive hreset h]
    have hfilled := lineInsn_driven hslot hkind hlit hrow
    rw [lineInsn_sound hslot hkind hlit hrow hue hce hdiag hdebt] at hfilled ⊢
    refine ⟨_, _, rfl, hfilled, rfl, rfl, rfl, rfl, rfl, ?_⟩
    simp only [teSt_setTe_same]
    exact ⟨rfl, rfl, rfl, rfl, linePacket_length .., fun xl q hxl hq => linePacket_word _ hue hce hdiag hdebt hxl hq, rfl, rfl, rfl⟩
  -- REFRESH_START
  · rw [refreshAt_early h]
  · rw [refreshAt_due hrunning hk hframe hdue hpower hlast]
  · obtain ⟨haround, hengines⟩ := refreshBegin_idle s.tl.frame k hidle
    simp only [State.aroundScan, Prod.mk.injEq] at haround
    obtain ⟨⟨hflt, hmem⟩, _, hscan, hrc⟩ := haround
    rw [refreshAt_due hrunning hk hframe hdue hpower hlast]
    refine ⟨_, rfl, by rw [hscan], hflt, hmem, hrc, fun i hi => ?_⟩
    rw [hengines i hi]
    exact ⟨rfl, rfl, rfl, rfl, rfl, rfl, rfl⟩

end Sys2Proof.Machine
end

section
/-! SUPPORT. The words, control blocks and packets of the forward stream (R225, R228, R229, R232, R233): which bits each field takes. -/

namespace Sys2Proof.Machine

/-! The CRC word (R232). -/

theorem revBits_lt (w x : Nat) : revBits w x < 2 ^ w := by
  induction w generalizing x with
  | zero => exact Nat.one_pos
  | succ w ih =>
    have hrest := ih (x / 2)
    have htop : x % 2 * 2 ^ w ≤ 1 * 2 ^ w := Nat.mul_le_mul_right _ (Nat.le_of_lt_succ (Nat.mod_lt x Nat.two_pos))
    rw [revBits, Nat.pow_succ]
    omega

theorem crc32c_lt (l : List Byte) : crc32c l < 2 ^ 32 := Nat.xor_lt_two_pow (revBits_lt 32 _) (by decide)

theorem packet_crc (ws : List Word) :
    ((packet ws).getD ws.length 0).toNat = crc32c (ws.flatMap (fun w => leBytes 8 w.toNat)) := by
  have hlt := crc32c_lt (ws.flatMap (fun w => leBytes 8 w.toNat))
  have hlast : (packet ws).getD ws.length 0 = BitVec.ofNat 64 (crc32c (ws.flatMap (fun w => leBytes 8 w.toNat))) := by simp [packet]
  rw [hlast, BitVec.toNat_ofNat, Nat.mod_eq_of_lt (by omega)]

/-! Headers (R232). -/

section
variable {type : Nat} (bcast : Bool) (tile rest : Nat) (ht : type < 16)
include ht

theorem header_toNat : (header type bcast tile rest).toNat = type * 2 ^ 60 + b2n bcast * 2 ^ 59 + tile % 256 * 2 ^ 51 + rest % 2 ^ 51 := by
  have hb := b2n_le_one bcast
  rw [header, BitVec.toNat_ofNat]
  omega

theorem header_type : bits (header type bcast tile rest).toNat 63 60 = type := by
  have hb := b2n_le_one bcast
  rw [header_toNat bcast tile rest ht, bits_eq]
  omega

theorem header_bcast : bits (header type bcast tile rest).toNat 59 59 = b2n bcast := by
  have hb := b2n_le_one bcast
  rw [header_toNat bcast tile rest ht, bits_eq]
  omega

theorem header_tile : bits (header type bcast tile rest).toNat 58 51 = tile % 256 := by
  have hb := b2n_le_one bcast
  rw [header_toNat bcast tile rest ht, bits_eq]
  omega

end

/-- The fields of a header below TILE are those of its rest. -/
theorem bits_header (type : Nat) (bcast : Bool) (tile rest : Nat) {hi lo : Nat} (hhi : hi < 51) (hle : lo ≤ hi) :
    bits (header type bcast tile rest).toNat hi lo = bits rest hi lo := by
  refine Nat.eq_of_testBit_eq fun j => ?_
  rw [testBit_bits, testBit_bits]
  by_cases hj : j < hi - lo + 1
  · have hrest : (header type bcast tile rest).toNat % 2 ^ 51 = rest % 2 ^ 51 := by
      rw [header, BitVec.toNat_ofNat]
      omega
    have hbit := congrArg (fun x => Nat.testBit x (lo + j)) hrest
    simp only [Nat.testBit_mod_two_pow, show lo + j < 51 by omega, decide_true, Bool.true_and] at hbit
    rw [hbit]
  · rw [decide_eq_false hj, Bool.false_and, Bool.false_and]

theorem bit_header (type : Nat) (bcast : Bool) (tile rest : Nat) {i : Nat} (hi : i < 51) :
    bit (header type bcast tile rest).toNat i = bit rest i := by
  have h := bits_header type bcast tile rest hi (Nat.le_refl i)
  rw [bits, bits, Nat.sub_self] at h
  rw [bit, bit, ← Nat.pow_one 2, h]

/-! The body of a ROW packet (Table: ROW header): 12-bit words in 64-bit words. -/

theorem leWords_getD {n i : Nat} (x : Nat) (hi : i < n) : (leWords n x).getD i 0 = BitVec.ofNat 64 (x / 2 ^ (64 * i)) := by
  induction n generalizing i x with
  | zero => exact absurd hi (Nat.not_lt_zero i)
  | succ n ih =>
    cases i with
    | zero => rw [leWords, List.getD_cons_zero, Nat.mul_zero, Nat.pow_zero, Nat.div_one]
    | succ i =>
      rw [leWords, List.getD_cons_succ, ih _ (Nat.lt_of_succ_lt_succ hi), Nat.div_div_eq_div_mul, ← Nat.pow_add, Nat.mul_succ, Nat.add_comm]

theorem digits12_digit (l : List Nat) (c : Nat) : digits12 l / 2 ^ (12 * c) % 4096 = l.getD c 0 % 4096 := by
  induction l generalizing c with
  | nil => simp [digits12]
  | cons w l ih =>
    cases c with
    | zero => simp [digits12]
    | succ c =>
      rw [List.getD_cons_succ, ← ih, Nat.mul_succ, Nat.add_comm, Nat.pow_add, ← Nat.div_div_eq_div_mul, digits12]
      congr 2
      omega

/-- Twelve bits that begin at bit b of a word, and run on into the next. -/
theorem straddled_bits (z : Nat) {b : Nat} (hb : b < 64) :
    (z % 2 ^ 64 / 2 ^ b + z / 2 ^ 64 % 2 ^ 64 * 2 ^ (64 - b)) % 4096 = z / 2 ^ b % 4096 := by
  have hpow : 2 ^ 64 = 2 ^ b * 2 ^ (64 - b) := by rw [← Nat.pow_add, Nat.add_sub_cancel' (Nat.le_of_lt hb)]
  have hsplit : z / 2 ^ b = z % 2 ^ 64 / 2 ^ b + z / 2 ^ 64 * 2 ^ (64 - b) := by
    conv_lhs => rw [← Nat.mod_add_div z (2 ^ 64)]
    rw [hpow, Nat.mul_assoc, Nat.add_mul_div_left _ _ (Nat.two_pow_pos b), Nat.mul_comm (2 ^ (64 - b))]
  have hcut : z / 2 ^ 64 % 2 ^ 64 % 4096 = z / 2 ^ 64 % 4096 := Nat.mod_mod_of_dvd _ ⟨2 ^ 52, rfl⟩
  rw [hsplit, Nat.add_mod, Nat.mul_mod, hcut, ← Nat.mul_mod, ← Nat.add_mod]

/-- Column c's word in bits [12c+11:12c] of the body. -/
theorem rowBody_column (l : List Nat) {c : Nat} (hc : c < 192) :
    (((leWords 36 (digits12 l)).getD (12 * c / 64) 0).toNat / 2 ^ (12 * c % 64) +
      ((leWords 36 (digits12 l)).getD (12 * c / 64 + 1) 0).toNat * 2 ^ (64 - 12 * c % 64)) % 4096 = l.getD c 0 % 4096 := by
  have hdigit : digits12 l / 2 ^ (64 * (12 * c / 64)) / 2 ^ (12 * c % 64) % 4096 = l.getD c 0 % 4096 := by
    rw [Nat.div_div_eq_div_mul, ← Nat.pow_add, Nat.div_add_mod, digits12_digit]
  rw [leWords_getD _ (by omega), BitVec.toNat_ofNat, ← hdigit, ← straddled_bits _ (Nat.mod_lt _ (by decide))]
  by_cases hlast : 12 * c / 64 + 1 < 36
  · rw [leWords_getD _ hlast, BitVec.toNat_ofNat, Nat.div_div_eq_div_mul _ _ (2 ^ 64), ← Nat.pow_add, Nat.mul_succ]
  · -- the last word of the body: its columns do not run on
    have hdvd (y : Nat) : y * 2 ^ (64 - 12 * c % 64) % 4096 = 0 := by
      rw [show 64 - 12 * c % 64 = 12 + (52 - 12 * c % 64) by omega, Nat.pow_add, Nat.mul_left_comm]
      exact Nat.mul_mod_right ..
    rw [Nat.add_mod, hdvd, Nat.add_mod _ (_ * _), hdvd]

/-! Packets (R233). -/

theorem rowPacket_dark {n i k : Nat} {t : TePkt} (hn : n < 256) (hi : i < 64) (hk : k < 320) (h : t.dark = true) :
    ∃ w : Word, rowPacket n i k t = packet [w] ∧ bits w.toNat 63 60 = 2 ∧ bits w.toNat 59 59 = 0 ∧
      bits w.toNat 58 51 = n ∧ bits w.toNat 50 41 = 0 ∧ bits w.toNat 40 35 = i ∧ bits w.toNat 34 26 = k ∧ bits w.toNat 25 0 = 0 := by
  refine ⟨_, if_pos h, header_type _ _ _ (by decide), header_bcast _ _ _ (by decide),
    (header_tile _ _ _ (by decide)).trans (Nat.mod_eq_of_lt hn), ?_, ?_, ?_, ?_⟩ <;>
  · rw [bits_header _ _ _ _ (by decide) (by decide), bits_eq]
    omega

/-- The bits of a ROW header below TILE. -/
def rowFields (i k : Nat) (t : TePkt) : Nat :=
  t.row % 64 * 2 ^ 45 + b2n (t.kind == 1) * 2 ^ 44 + b2n t.sense * 2 ^ 43 + t.pset % 4 * 2 ^ 41 +
    i * 2 ^ 35 + k * 2 ^ 26 + t.lt % 8192 * 2 ^ 13 + t.gapc % 1024 * 2 ^ 3

theorem rowPacket_lit (n i k : Nat) {t : TePkt} (h : t.dark = false) :
    rowPacket n i k t = packet (header 1 false n (rowFields i k t) :: leWords 36 (digits12 t.words)) :=
  if_neg (by rw [h]; decide)

theorem rowFields_hold {i k : Nat} (hi : i < 64) (hk : k < 320) (t : TePkt) :
    let x := rowFields i k t
    bits x 50 45 = t.row % 64 ∧ bit x 44 = (t.kind == 1) ∧ bit x 43 = t.sense ∧ bits x 42 41 = t.pset % 4 ∧ bits x 40 35 = i ∧
      bits x 34 26 = k ∧ bits x 25 13 = t.lt % 8192 ∧ bits x 12 3 = t.gapc % 1024 ∧ bits x 2 0 = 0 := by
  have hkind := b2n_le_one (t.kind == 1)
  have hsense := b2n_le_one t.sense
  simp only [rowFields, bits_eq]
  refine ⟨?_, bit_eq_of_b2n ?_, bit_eq_of_b2n ?_, ?_, ?_, ?_, ?_, ?_, ?_⟩ <;> omega

/-- A ROW packet holds the fields of its table in its header and column c's word in bits [12c+11:12c] of its body. -/
theorem rowPacket_fields {n i k : Nat} {t : TePkt} (hn : n < 256) (hi : i < 64) (hk : k < 320) (hlit : t.dark = false) :
    ∃ (h : Word) (body : List Word), rowPacket n i k t = packet (h :: body) ∧ body.length = 36 ∧
      bits h.toNat 63 60 = 1 ∧ bits h.toNat 59 59 = 0 ∧ bits h.toNat 58 51 = n ∧ bits h.toNat 50 45 = t.row % 64 ∧
      bit h.toNat 44 = (t.kind == 1) ∧ bit h.toNat 43 = t.sense ∧ bits h.toNat 42 41 = t.pset % 4 ∧ bits h.toNat 40 35 = i ∧
      bits h.toNat 34 26 = k ∧ bits h.toNat 25 13 = t.lt % 8192 ∧ bits h.toNat 12 3 = t.gapc % 1024 ∧ bits h.toNat 2 0 = 0 ∧
      ∀ c < 192, ((body.getD (12 * c / 64) 0).toNat / 2 ^ (12 * c % 64) +
        (body.getD (12 * c / 64 + 1) 0).toNat * 2 ^ (64 - 12 * c % 64)) % 4096 = t.words.getD c 0 % 4096 := by
  have hfield {hi lo : Nat} (hhi : hi < 51) (hle : lo ≤ hi) := bits_header 1 false n (rowFields i k t) hhi hle
  have hflag {j : Nat} (hj : j < 51) := bit_header 1 false n (rowFields i k t) hj
  obtain ⟨hrow, hkind, hsense, hpset, hslot, hrefresh, hlt, hgapc, hzero⟩ := rowFields_hold hi hk t
  exact ⟨_, _, rowPacket_lit n i k hlit, leWords_length .., header_type _ _ _ (by decide), header_bcast _ _ _ (by decide),
    (header_tile _ _ _ (by decide)).trans (Nat.mod_eq_of_lt hn), (hfield (by decide) (by decide)).trans hrow, (hflag (by decide)).trans hkind,
    (hflag (by decide)).trans hsense, (hfield (by decide) (by decide)).trans hpset, (hfield (by decide) (by decide)).trans hslot,
    (hfield (by decide) (by decide)).trans hrefresh, (hfield (by decide) (by decide)).trans hlt, (hfield (by decide) (by decide)).trans hgapc,
    (hfield (by decide) (by decide)).trans hzero, fun c hc => rowBody_column _ hc⟩

/-- The header of a PARAM packet below TILE. -/
def paramFields (frame k cyc : Nat) : Nat := cyc % 8192 * 2 ^ 38 + k * 2 ^ 29 + b2n (k == 0) * 2 ^ 28 + frame % 2 ^ 28

theorem paramFields_hold {k cyc : Nat} (hk : k < 320) (hc : cyc < 8192) (frame : Nat) :
    let x := paramFields frame k cyc
    bits x 50 38 = cyc ∧ bits x 37 29 = k ∧ bit x 28 = (k == 0) ∧ bits x 27 0 = frame % 2 ^ 28 := by
  have hfirst := b2n_le_one (k == 0)
  simp only [paramFields, bits_eq]
  refine ⟨?_, ?_, bit_eq_of_b2n ?_, ?_⟩ <;> omega

theorem paramPacket_fields {k cyc : Nat} (hk : k < 320) (hc : cyc < 8192) (p frame : Nat) (s : State) : ∃ (h : Word) (body : List Word),
    s.paramPacket p frame k cyc = packet (h :: body) ∧ body.length = 4 ∧ bits h.toNat 63 60 = 3 ∧ bits h.toNat 59 59 = 1 ∧
      bits h.toNat 50 38 = cyc ∧ bits h.toNat 37 29 = k ∧ bit h.toNat 28 = (k == 0) ∧ bits h.toNat 27 0 = frame % 2 ^ 28 := by
  obtain ⟨hcyc, hrefresh, hfirst, hframe⟩ := paramFields_hold hk hc frame
  refine ⟨header 3 true (Config.paramTile p).toNat (paramFields frame k cyc), _, rfl, ?_, header_type _ _ _ (by decide),
    header_bcast _ _ _ (by decide), ?_, ?_, ?_, ?_⟩
  · rw [List.length_map, List.length_range]
  · rwa [bits_header _ _ _ _ (by decide) (by decide)]
  · rwa [bits_header _ _ _ _ (by decide) (by decide)]
  · rwa [bit_header _ _ _ _ (by decide)]
  · rwa [bits_header _ _ _ _ (by decide) (by decide)]

/-! Control blocks (Table: Control blocks). -/

section
variable (lane : Nat)

theorem slotBlock_fields {i k o : Nat} (hi : i < 64) (hk : k < 320) (ho : o < 16) :
    ∃ x, (Ctrl.slot i k o).block lane = .control 0x78 x ∧ bits x.toNat 55 50 = i ∧ bits x.toNat 49 41 = k ∧ bits x.toNat 40 37 = o ∧
      bits x.toNat 36 0 = 0 := by
  refine ⟨_, rfl, ?_⟩
  simp only [bits_eq, BitVec.toNat_ofNat]
  refine ⟨?_, ?_, ?_, ?_⟩ <;> omega

theorem trainBlock_fields {rate : Nat} (hlane : lane < 2) (hrate : rate < 4) (ready : Bool) :
    ∃ x, (Ctrl.train rate ready).block lane = .control 0x4B x ∧ bits x.toNat 55 54 = rate ∧ bits x.toNat 53 53 = lane ∧
      bit x.toNat 52 = ready ∧ bits x.toNat 51 0 = 0xCCCCCCCCCCCCC := by
  have hready := b2n_le_one ready
  refine ⟨_, rfl, ?_⟩
  simp only [bits_eq, BitVec.toNat_ofNat]
  refine ⟨?_, ?_, bit_eq_of_b2n ?_, ?_⟩ <;> omega

end

/-! The blocks of a run on their lanes, and the bits of a block on the line (R225, R228, R229). -/

theorem fwdRun_block_beyond {r : FwdRun} {lane b : Nat} (h : r.words.length ≤ 2 * b + lane) : r.block lane (b + 1) = .control 0x1E 0 := by
  simp only [FwdRun.block, List.getElem?_eq_none h]
  rfl

@[simp] theorem byteBits_length (b : Byte) : (byteBits b).length = 8 := by simp [byteBits]

theorem flatMap_byteBits_length (l : List Byte) : (l.flatMap byteBits).length = 8 * l.length := by
  simp [List.length_flatMap, Nat.mul_comm]

theorem blockBytes_length (b : Block) : b.bytes.length = 8 := by
  cases b with
  | data w => exact leBytes_length ..
  | control t x => rw [Block.bytes, List.length_cons, leBytes_length]

section
variable {rate : Nat} (b : Block) (c : Coder)

/-- Eight characters of ten bits. -/
theorem line_length_8b10b (h : rate ≤ 1) : (b.line rate c).1.length = 80 := by
  cases b with
  | data w => simp only [Block.line, if_pos h, dataChars_length, blockBytes_length]
  | control t x => simp only [Block.line, if_pos h, List.length_append, charBits_length, dataChars_length, List.length_map, List.length_range]

/-- The two bits that tell data from control in 64b/66b. -/
def Block.sync : Block → List Bool
  | .data _ => [false, true]
  | .control _ _ => [true, false]

/-- In 64b/66b the sync bits precede the scrambled payload. -/
theorem line_64b66b (h : 1 < rate) : (b.line rate c).1 = b.sync ++ (scramble (b.bytes.flatMap byteBits) c.scr).1 := by
  cases b <;> simp only [Block.line, if_neg (Nat.not_le.2 h)] <;> rfl

theorem sync_length : b.sync.length = 2 := by cases b <;> rfl

theorem line_length_64b66b (h : 1 < rate) : (b.line rate c).1.length = 66 := by
  rw [line_64b66b b c h, List.length_append, sync_length, scramble_length, flatMap_byteBits_length, blockBytes_length]

theorem line_take_sync (h : 1 < rate) : (b.line rate c).1.take 2 = b.sync := by
  rw [line_64b66b b c h, List.take_left' (sync_length b)]

end

/-- A far-end loopback of the port runs or is ending. -/
def PortState.farLoop (v : PortState) : Bool := match v.loop with | some (.far _) => true | _ => false

theorem farLoop_iff (v : PortState) : v.farLoop = true ↔ ∃ pos, v.loop = some (.far pos) := by
  unfold PortState.farLoop
  cases v.loop with
  | none => simp
  | some k => cases k <;> simp

theorem fckRuns_eq (p : Nat) (s : State) :
    s.fckRuns p = (s.epSt p == 2 || s.epSt p == 3 || s.epSt p == 4 || (s.epSt p == 5 && (s.port p).farLoop)) := rfl

/-- Where the forwarded clock runs (R226). -/
theorem fckRuns_iff (p : Nat) (s : State) :
    s.fckRuns p = true ↔ s.epSt p = 2 ∨ s.epSt p = 3 ∨ s.epSt p = 4 ∨ (s.epSt p = 5 ∧ ∃ pos, (s.port p).loop = some (.far pos)) := by
  simp only [fckRuns_eq, ← farLoop_iff, Bool.or_eq_true, Bool.and_eq_true, beq_iff_eq, or_assoc]

end Sys2Proof.Machine
end

section
/-! SUPPORT. The registers and the state of an emission port: what each reads after an update, and what an operation on a port leaves
unchanged (R224, R242, R250). -/

namespace Sys2Proof.Machine

theorem key_ep (f : Fld) (p : Nat) : (f.ep p).key = f.key + p * 0x1000 * 64 := key_at ..

/-- Another field of the same port. -/
theorem fld_setFld_ep {f g : Fld} (h : g.key ≠ f.key) (p v : Nat) (s : State) : (setFld (f.ep p) v s).fld (g.ep p) = s.fld (g.ep p) :=
  fld_setFld_at_other _ v s h

theorem fld_setFlag_ep {f g : Fld} (h : g.key ≠ f.key) (p : Nat) (v : Bool) (s : State) :
    (setFlag (f.ep p) v s).fld (g.ep p) = s.fld (g.ep p) := fld_setFld_ep h p _ s

theorem flag_setFld_ep {f g : Fld} (h : g.key ≠ f.key) (p v : Nat) (s : State) : (setFld (f.ep p) v s).flag (g.ep p) = s.flag (g.ep p) :=
  flag_setFld_at_other _ v s h

theorem flag_setFlag_ep {f g : Fld} (h : g.key ≠ f.key) (p : Nat) (v : Bool) (s : State) :
    (setFlag (f.ep p) v s).flag (g.ep p) = s.flag (g.ep p) := flag_setFld_ep h p _ s

@[simp] theorem port_modPort (p : Nat) (f : PortState → PortState) (s : State) : (modPort p f s).port p = f (s.port p) :=
  SMap.get_put_same ..

@[simp] theorem modPort_modPort (p : Nat) (f g : PortState → PortState) (s : State) :
    modPort p g (modPort p f s) = modPort p (fun v => g (f v)) s := by
  simp only [modPort, State.port, SMap.get_put_same, SMap.put_put]

@[simp] theorem fld_modPort (g : Fld) (p : Nat) (f : PortState → PortState) (s : State) : (modPort p f s).fld g = s.fld g := rfl
@[simp] theorem flag_modPort (g : Fld) (p : Nat) (f : PortState → PortState) (s : State) : (modPort p f s).flag g = s.flag g := rfl
@[simp] theorem port_setFld (p : Nat) (f : Fld) (v : Nat) (s : State) : (setFld f v s).port p = s.port p := rfl
@[simp] theorem port_setFlag (p : Nat) (f : Fld) (v : Bool) (s : State) : (setFlag f v s).port p = s.port p := rfl
@[simp] theorem port_countMod (p : Nat) (f : Fld) (k : Nat) (s : State) : (countMod f k s).port p = s.port p := rfl
@[simp] theorem port_intr (p id : Nat) (s : State) : (intr id s).port p = s.port p := rfl

/-- The registers that port p itself shows: EP_PSTAT, EP_ERRCNT, EP_PRBS and EP_CAPr. -/
abbrev Fld.shownBy (f : Fld) (p : Nat) : Prop :=
  (0x22000008 * 64 + p * 0x1000 * 64 ≤ f.key ∧ f.key < 0x22000020 * 64 + p * 0x1000 * 64) ∨
  (0x22000040 * 64 + p * 0x1000 * 64 ≤ f.key ∧ f.key < 0x22000080 * 64 + p * 0x1000 * 64)

theorem shownBy_ep {f : Fld} (h : f.shownBy 0) (p : Nat) : (f.ep p).shownBy p := by
  simp only [Fld.shownBy, Nat.zero_mul, Nat.add_zero] at h
  rw [Fld.shownBy, key_ep]
  omega

/-- The sideband's status is no register of a port. -/
theorem rilBusy_not_shown {p : Nat} (hp : p < 32) : ¬ F.rilStatBUSY.shownBy p := by
  have hkey : 0x22000080 * 64 + 31 * 0x1000 * 64 ≤ F.rilStatBUSY.key := by decide
  rintro (⟨-, h⟩ | ⟨-, h⟩) <;> omega

/-- Between s and t nothing changed but the state of port p, the registers that it shows, the interrupts pending and the free values. -/
structure PortOnly (p : Nat) (s t : State) : Prop where
  eq : t = { s with regs := t.regs, ports := t.ports, evt := t.evt, free := t.free }
  fld : ∀ f : Fld, ¬ f.shownBy p → t.fld f = s.fld f

namespace PortOnly

variable {p : Nat} {s t u : State}

theorem refl (p : Nat) (s : State) : PortOnly p s s := ⟨rfl, fun _ _ => rfl⟩

theorem trans (h : PortOnly p s t) (h' : PortOnly p t u) : PortOnly p s u :=
  ⟨by rw [h'.eq, h.eq], fun f hf => (h'.fld f hf).trans (h.fld f hf)⟩

theorem setFld (h : PortOnly p s t) {f : Fld} (hf : f.shownBy 0) (v : Nat) : PortOnly p s (setFld (f.ep p) v t) :=
  h.trans ⟨rfl, fun g hg => fld_setFld_other v t fun hk => hg (by rw [Fld.shownBy, hk]; exact shownBy_ep hf p)⟩

theorem setFlag (h : PortOnly p s t) {f : Fld} (hf : f.shownBy 0) (v : Bool) : PortOnly p s (setFlag (f.ep p) v t) := h.setFld hf _

theorem countMod (h : PortOnly p s t) {f : Fld} (hf : f.shownBy 0) (k : Nat) : PortOnly p s (countMod (f.ep p) k t) := h.setFld hf _

theorem modPort (h : PortOnly p s t) (f : PortState → PortState) : PortOnly p s (modPort p f t) := h.trans ⟨rfl, fun _ _ => rfl⟩

theorem intr (h : PortOnly p s t) (id : Nat) : PortOnly p s (intr id t) := h.trans ⟨rfl, fun _ _ => rfl⟩

section
variable (h : PortOnly p s t)
include h

theorem mem : t.mem = s.mem := by rw [h.eq]
theorem flt : t.flt = s.flt := by rw [h.eq]
theorem ril : t.ril = s.ril := by rw [h.eq]
theorem now : t.now = s.now := by rw [h.eq]
theorem inReset (b : Blk) : t.inReset b = s.inReset b := by rw [h.eq]; rfl

theorem rilBusy (hp : p < 32) : t.fld F.rilStatBUSY = s.fld F.rilStatBUSY := h.fld _ (rilBusy_not_shown hp)

/-- The records that a port would send stand: neither EP_EQ nor RIL_TRIM is shown by the port (R246). -/
theorem rillRecord {r : Nat} (hp : p < 32) (hr : r < 8) (rate : Nat) : t.rillRecord p r rate = s.rillRecord p r rate := by
  have htrim (f : Fld) (hf : 0x22000080 * 64 + 31 * 0x1000 * 64 ≤ f.key) : ¬ (f.at (8 * (8 * p + r))).shownBy p := by
    simp only [Fld.shownBy, key_at]
    omega
  have hequal (f : Fld) (hf : 0x22000020 * 64 ≤ f.key ∧ f.key < 0x22000040 * 64) : ¬ (f.ep p).shownBy p := by
    simp only [Fld.shownBy, key_ep]
    omega
  simp only [State.rillRecord, h.fld _ (hequal F.epEqBPTXEQ (by decide)), h.fld _ (hequal F.epEqBPRXEQ (by decide)),
    h.fld _ (htrim F.rilTrimIREFR (by decide)), h.fld _ (htrim F.rilTrimIREFG (by decide)), h.fld _ (htrim F.rilTrimIREFB (by decide))]

end
end PortOnly

/-! Entry to a state (Table: Port states). -/

/-- A port that has entered a state: outside RUN it has sent no slot, and its lanes begin anew but for CAP and LOOP. -/
def PortState.entered (st drive : Nat) (v : PortState) : PortState :=
  { v with driveEnd := drive, slots := if st = 4 then v.slots else [], fwd := if st = 4 ∨ st = 3 ∨ st = 5 then v.fwd else none }

section
variable (p st : Nat) (s : State)

theorem epTo_eq : epTo p st s = { setFld (F.epPstatSTATE.ep p) st s with
    ports := SMap.put s.ports p ((s.port p).entered st (s.lastDrive p)),
    evt := if st = 4 ∨ st = 6 then insertN (548 + p) s.evt else s.evt } := by
  by_cases hrun : st = 4
  · subst hrun
    rfl
  · have hports : SMap.put (SMap.put s.ports p { s.port p with driveEnd := s.lastDrive p }) p
        { s.port p with driveEnd := s.lastDrive p, slots := [], fwd := if st = 3 ∨ st = 5 then (s.port p).fwd else none } =
        SMap.put s.ports p ((s.port p).entered st (s.lastDrive p)) := by
      simp only [PortState.entered, hrun, if_false, false_or, SMap.put_put]
    simp only [epTo, hrun, if_false, false_or, modPort, ← hports]
    split <;> simp [intr, setFld, State.port]

theorem fld_epTo (g : Fld) : (epTo p st s).fld g = (setFld (F.epPstatSTATE.ep p) st s).fld g := by rw [epTo_eq]; rfl

theorem epSt_epTo (h : st < 16) : (epTo p st s).epSt p = st := by
  rw [State.epSt, fld_epTo, fld_setFld_same]
  exact Nat.mod_eq_of_lt h

theorem fld_epTo_ep {g : Fld} (h : g.key ≠ F.epPstatSTATE.key) : (epTo p st s).fld (g.ep p) = s.fld (g.ep p) := by
  rw [fld_epTo, fld_setFld_ep h]

theorem flag_epTo_ep {g : Fld} (h : g.key ≠ F.epPstatSTATE.key) : (epTo p st s).flag (g.ep p) = s.flag (g.ep p) := by
  rw [State.flag, fld_epTo_ep p st s h, State.flag]

@[simp] theorem port_epTo : (epTo p st s).port p = (s.port p).entered st (s.lastDrive p) := by
  rw [epTo_eq]
  exact SMap.get_put_same ..

theorem epTo_evt : (epTo p st s).evt = if st = 4 ∨ st = 6 then insertN (548 + p) s.evt else s.evt := by rw [epTo_eq]

/-- Entry to RUN and to FAULT raises identifier 548 + p (R252). -/
theorem mem_epTo_evt (h : st = 4 ∨ st = 6) : 548 + p ∈ (epTo p st s).evt := by
  rw [epTo_evt, if_pos h]
  exact mem_intr_evt (548 + p) s

theorem PortOnly.epTo {s t : State} (h : PortOnly p s t) : PortOnly p s (epTo p st t) := by
  have hst : F.epPstatSTATE.shownBy 0 := by decide
  refine h.trans ⟨by rw [epTo_eq]; rfl, fun f hf => ?_⟩
  rw [fld_epTo, ((PortOnly.refl p t).setFld hst st).fld f hf]

end

end Sys2Proof.Machine
end

section
/-! SUPPORT. ASSIGN, FAULT, RUN and fallbacks of an emission port (R238–R242): what each leaves. -/

namespace Sys2Proof.Machine

/-! Bits of a field that shows one flag per port. -/

theorem bit_setFld_setBit {f : Fld} {i j : Nat} (hj : j < f.width) (x : Nat) (v : Bool) (s : State) :
    bit ((setFld f (setBit x i v) s).fld f) j = if j = i then v else bit x j := by
  rw [fld_setFld_same, bit_eq_testBit, bit_eq_testBit, Nat.testBit_mod_two_pow, testBit_setBit, decide_eq_true hj, Bool.true_and]

/-- A frame that starts makes the port's sideband BUSY, and no other's (R248). -/
theorem bit_rilStart_busy {j : Nat} (hj : j < 32) (p : Nat) (assign : Bool) (s : State) :
    bit ((rilStart p assign s).fld F.rilStatBUSY) j = if j = p then true else bit (s.fld F.rilStatBUSY) j :=
  bit_setFld_setBit (f := F.rilStatBUSY) hj ..

/-! ASSIGN (R239). -/

/-- The frame of ASSIGN does not start at once: one runs on the port, or RIL is in reset. -/
def State.assignWaits (s : State) (p : Nat) : Bool := bit (s.fld F.rilStatBUSY) p || s.inReset .ril

/-- A port that has entered ASSIGN. -/
def PortState.assigned (wait : Bool) (drive : Nat) (v : PortState) : PortState :=
  { v.entered 1 drive with tries := 0, latched := none, rilWait := wait, loop := none, ending := false }

/-- The port in ASSIGN at a code, before its frame. -/
def assignedAt (p q : Nat) (s : State) : State :=
  modPort p (fun v => { v with tries := 0, latched := none, rilWait := s.assignWaits p, loop := none, ending := false })
    (setFld (F.epPstatRATE.ep p) q (epTo p 1 s))

section
variable {p : Nat} (hp : p < 32) (q : Nat) (s : State)

theorem PortOnly.assignedAt : PortOnly p s (assignedAt p q s) :=
  ((((PortOnly.refl p s).epTo p 1).setFld (f := F.epPstatRATE) (by decide) q).modPort _)

theorem port_assignedAt : (assignedAt p q s).port p = (s.port p).assigned (s.assignWaits p) (s.lastDrive p) := by
  rw [assignedAt, port_modPort, port_setFld, port_epTo]
  rfl

theorem epSt_assignedAt : (assignedAt p q s).epSt p = 1 := by
  rw [State.epSt, assignedAt, fld_modPort, fld_setFld_ep (by decide)]
  exact epSt_epTo p 1 s (by decide)

theorem epCode_assignedAt {q : Nat} (hq : q < 4) : (assignedAt p q s).epCode p = q := by
  rw [State.epCode, assignedAt, fld_modPort, fld_setFld_same]
  exact Nat.mod_eq_of_lt hq

theorem fld_assignedAt_ep {g : Fld} (hst : g.key ≠ F.epPstatSTATE.key) (hrate : g.key ≠ F.epPstatRATE.key) :
    (assignedAt p q s).fld (g.ep p) = s.fld (g.ep p) := by
  rw [assignedAt, fld_modPort, fld_setFld_ep hrate, fld_epTo_ep _ _ _ hst]

theorem assignedAt_evt : (assignedAt p q s).evt = s.evt := epTo_evt p 1 s

include hp

theorem epAssign_eq : epAssign p q s = if s.assignWaits p then assignedAt p q s else rilStart p true (assignedAt p q s) := by
  have hwait : (setFld (F.epPstatRATE.ep p) q (epTo p 1 s)).assignWaits p = s.assignWaits p := by
    have hsame := ((PortOnly.refl p s).epTo p 1).setFld (f := F.epPstatRATE) (by decide) q
    rw [State.assignWaits, hsame.rilBusy hp, hsame.inReset, State.assignWaits]
  rw [assignedAt, ← hwait]
  rfl

@[simp] theorem port_epAssign : (epAssign p q s).port p = (s.port p).assigned (s.assignWaits p) (s.lastDrive p) := by
  rw [epAssign_eq hp, ← port_assignedAt q]
  split <;> rfl

/-- What ASSIGN leaves beside the port and the sideband. -/
theorem epAssign_keeps : (epAssign p q s).mem = s.mem ∧ (epAssign p q s).flt = s.flt ∧ (epAssign p q s).evt = s.evt := by
  have hsame := PortOnly.assignedAt (p := p) q s
  rw [epAssign_eq hp, ← hsame.mem, ← hsame.flt, ← assignedAt_evt (p := p) q s]
  split <;> exact ⟨rfl, rfl, rfl⟩

/-- The frame of ASSIGN writes no register that the port shows. -/
theorem fld_epAssign_shown {g : Fld} (hg : g.shownBy 0) : (epAssign p q s).fld (g.ep p) = (assignedAt p q s).fld (g.ep p) := by
  have hbusy : (g.ep p).key ≠ F.rilStatBUSY.key := by
    intro hk
    have hshown := shownBy_ep hg p
    rw [Fld.shownBy, hk] at hshown
    exact rilBusy_not_shown hp hshown
  rw [epAssign_eq hp]
  split
  · rfl
  · exact fld_setFld_other _ _ hbusy

theorem fld_epAssign_ep {g : Fld} (hg : g.shownBy 0) (hst : g.key ≠ F.epPstatSTATE.key) (hrate : g.key ≠ F.epPstatRATE.key) :
    (epAssign p q s).fld (g.ep p) = s.fld (g.ep p) := by
  rw [fld_epAssign_shown hp q s hg, fld_assignedAt_ep q s hst hrate]

theorem flag_epAssign_ep {g : Fld} (hg : g.shownBy 0) (hst : g.key ≠ F.epPstatSTATE.key) (hrate : g.key ≠ F.epPstatRATE.key) :
    (epAssign p q s).flag (g.ep p) = s.flag (g.ep p) := by
  rw [State.flag, fld_epAssign_ep hp q s hg hst hrate, State.flag]

end

/-- Port p has gone from s to ASSIGN at a code: its frame has started with that code in its records, or waits behind one that runs. -/
def Assigned (p code : Nat) (s t : State) : Prop :=
  t.epSt p = 1 ∧ t.epCode p = code ∧ (t.port p).tries = 0 ∧ (t.port p).latched = none ∧ t.mem = s.mem ∧
  (bit (s.fld F.rilStatBUSY) p = false → s.inReset .ril = false → bit (t.fld F.rilStatBUSY) p = true ∧
    SMap.find t.ril p = some { at_ := s.now, assign := true, recs := (List.range 8).map (fun r => s.rillRecord p r code) }) ∧
  (bit (s.fld F.rilStatBUSY) p = true → (t.port p).rilWait = true ∧ t.ril = s.ril)

/-- The frame that starts in ASSIGN carries the code of the step, and what the port's records held before (R246, R247). -/
theorem rilStart_assign {p q : Nat} {s u : State} (h : PortOnly p s u) (hp : p < 32) (hst : u.epSt p = 1) (hq : u.epCode p = q) :
    SMap.find (rilStart p true u).ril p =
      some { at_ := s.now, assign := true, recs := (List.range 8).map (fun r => s.rillRecord p r q) } := by
  have hrate : (if u.epSt p = 0 ∨ u.epSt p = 6 then 0 else u.epCode p) = q := by rw [if_neg (by omega), hq]
  have hrecs : (List.range 8).map (fun r => u.rillRecord p r q) = (List.range 8).map (fun r => s.rillRecord p r q) :=
    List.map_congr_left fun r hr => h.rillRecord hp (List.mem_range.1 hr) q
  rw [← h.now, ← hrecs, ← hrate]
  exact SMap.find_put_same ..

theorem epAssign_assigned {p q : Nat} {s u : State} (h : PortOnly p s u) (hp : p < 32) (hq : q < 4) : Assigned p q s (epAssign p q u) := by
  have hwait : u.assignWaits p = s.assignWaits p := by rw [State.assignWaits, h.rilBusy hp, h.inReset, State.assignWaits]
  have hport : (epAssign p q u).port p = (u.port p).assigned (s.assignWaits p) (u.lastDrive p) := by rw [port_epAssign hp, hwait]
  have hst := epSt_assignedAt (p := p) q u
  have hcode := epCode_assignedAt (p := p) u hq
  have honly := h.trans (PortOnly.assignedAt q u)
  obtain ⟨hmem, _, _⟩ := epAssign_keeps hp q u
  refine ⟨(fld_epAssign_shown hp q u (by decide)).trans hst, (fld_epAssign_shown hp q u (by decide)).trans hcode, by rw [hport]; rfl,
    by rw [hport]; rfl, hmem.trans h.mem, fun hbusy hreset => ?_, fun hbusy => ?_⟩
  · have hgo : u.assignWaits p = false := by rw [hwait, State.assignWaits, hbusy, hreset]; rfl
    rw [epAssign_eq hp, hgo, if_neg (by decide)]
    exact ⟨(bit_rilStart_busy hp ..).trans (if_pos rfl), rilStart_assign honly hp hst hcode⟩
  · have hstay : s.assignWaits p = true := by rw [State.assignWaits, hbusy, Bool.true_or]
    rw [hport, epAssign_eq hp, hwait, hstay, if_pos rfl, honly.ril]
    exact ⟨rfl, rfl⟩

/-! FAULT, fallbacks and RUN (R240, R242, R252). -/

section
variable (p : Nat) (s : State)

theorem PortOnly.epFault (code : Nat) : PortOnly p s (epFault p code s) :=
  ((((PortOnly.refl p s).modPort _).setFld (f := F.epPstatFAULTCODE) (by decide) code).epTo p 6).setFld (f := F.epPstatRATE) (by decide) 0

theorem epSt_epFault (code : Nat) : (epFault p code s).epSt p = 6 := by
  rw [State.epSt, epFault, fld_setFld_ep (by decide)]
  exact epSt_epTo p 6 _ (by decide)

theorem epFault_code {code : Nat} (h : code < 8) : (epFault p code s).fld (F.epPstatFAULTCODE.ep p) = code := by
  rw [epFault, fld_setFld_ep (by decide), fld_epTo_ep _ _ _ (by decide), fld_setFld_same]
  exact Nat.mod_eq_of_lt h

theorem fld_epFault_ep {g : Fld} (code : Nat) (hst : g.key ≠ F.epPstatSTATE.key) (hrate : g.key ≠ F.epPstatRATE.key)
    (hcode : g.key ≠ F.epPstatFAULTCODE.key) : (epFault p code s).fld (g.ep p) = s.fld (g.ep p) := by
  rw [epFault, fld_setFld_ep hrate, fld_epTo_ep _ _ _ hst, fld_setFld_ep hcode, fld_modPort]

theorem mem_epFault_evt (code : Nat) : 548 + p ∈ (epFault p code s).evt := mem_epTo_evt p 6 _ (.inr rfl)

/-- The port before the ASSIGN of a fallback to code q: that code is its target, and the fallback counts. -/
def fellTo (p q : Nat) (s : State) : State :=
  modPort p (fun v => { v with up := false, target := q }) s |> setFlag (F.epPstatFALLBACK.ep p) true |>
    countMod (F.epErrcntFALLBACKS.ep p) 1 |> intr (548 + p)

theorem epFall_eq (q : Nat) : epFall p q s = epAssign p q (fellTo p q s) := rfl

theorem PortOnly.fellTo (q : Nat) : PortOnly p s (fellTo p q s) :=
  ((((PortOnly.refl p s).modPort _).setFlag (f := F.epPstatFALLBACK) (by decide) true).countMod (f := F.epErrcntFALLBACKS) (by decide) 1).intr _

/-- The port before it enters RUN. -/
def readyToRun (p : Nat) (s : State) : State :=
  setFlag (F.epPstatFALLBACK.ep p) (decide (s.epCode p < s.inF F.epRateRATE))
    (modPort p (fun v => { v with up := false, loop := none, ending := false, win := 0, winAt := s.gt / 1000000 }) s)

theorem epRun_eq : epRun p s = epTo p 4 (readyToRun p s) := rfl

theorem PortOnly.epRun : PortOnly p s (epRun p s) :=
  (((PortOnly.refl p s).modPort _).setFlag (f := F.epPstatFALLBACK) (by decide) _).epTo p 4

theorem epSt_epRun : (epRun p s).epSt p = 4 := epSt_epTo p 4 _ (by decide)

theorem mem_epRun_evt : 548 + p ∈ (epRun p s).evt := mem_epTo_evt p 4 _ (.inl rfl)

theorem epRun_fallback : (epRun p s).flag (F.epPstatFALLBACK.ep p) = decide (s.epCode p < s.inF F.epRateRATE) := by
  rw [epRun_eq, flag_epTo_ep _ _ _ (by decide), readyToRun, flag_setFlag_same]

theorem fld_epRun_ep {g : Fld} (hst : g.key ≠ F.epPstatSTATE.key) (hfall : g.key ≠ F.epPstatFALLBACK.key) :
    (epRun p s).fld (g.ep p) = s.fld (g.ep p) := by
  rw [epRun_eq, fld_epTo_ep _ _ _ hst, readyToRun, fld_setFlag_ep hfall, fld_modPort]

end

section
variable {p q : Nat} (hp : p < 32) (s : State)
include hp

theorem epFall_fallback : (epFall p q s).flag (F.epPstatFALLBACK.ep p) = true := by
  rw [epFall_eq, flag_epAssign_ep hp _ _ (by decide) (by decide) (by decide), fellTo, flag_intr, countMod, flag_setFld_ep (by decide),
    flag_setFlag_same]

theorem epFall_count : (epFall p q s).fld (F.epErrcntFALLBACKS.ep p) = (s.fld (F.epErrcntFALLBACKS.ep p) + 1) % 65536 := by
  rw [epFall_eq, fld_epAssign_ep hp _ _ (by decide) (by decide) (by decide), fellTo, fld_intr, fld_countMod_same, fld_setFlag_ep (by decide),
    fld_modPort]
  rfl

theorem epFall_target : ((epFall p q s).port p).target = q ∧ ((epFall p q s).port p).up = false := by
  rw [epFall_eq, port_epAssign hp, fellTo, port_intr, port_countMod, port_setFlag, port_modPort]
  exact ⟨rfl, rfl⟩

theorem mem_epFall_evt : 548 + p ∈ (epFall p q s).evt := by
  obtain ⟨_, _, hevt⟩ := epAssign_keeps hp q (fellTo p q s)
  rw [epFall_eq, hevt]
  exact mem_intr_evt ..

theorem epFall_assigned (hq : q < 4) : Assigned p q s (epFall p q s) := epAssign_assigned (.fellTo p s q) hp hq

end

/-! Where a port goes after TRAIN or CAP (R238, R243). -/

section
variable {p : Nat} {s : State}

theorem epNext_up (h : s.epCode p < (s.port p).target) :
    epNext p s = epAssign p (if (s.port p).up then s.epCode p + 1 else (s.port p).target) s := if_pos h

theorem epNext_down (h : (s.port p).target < s.epCode p) : epNext p s = epAssign p (s.port p).target s :=
  (if_neg (Nat.not_lt.2 (Nat.le_of_lt h))).trans (if_pos h)

theorem epNext_there (h : s.epCode p = (s.port p).target) : epNext p s = epRun p s :=
  (if_neg (Nat.not_lt.2 (Nat.le_of_eq h.symm))).trans (if_neg (Nat.not_lt.2 (Nat.le_of_eq h)))

theorem epNext_cases (p : Nat) (s : State) : (∃ q, epNext p s = epAssign p q s) ∨ epNext p s = epRun p s := by
  obtain h | h | h := Nat.lt_trichotomy (s.epCode p) (s.port p).target
  · exact .inl ⟨_, epNext_up h⟩
  · exact .inr (epNext_there h)
  · exact .inl ⟨_, epNext_down h⟩

variable (hp : p < 32)
include hp

theorem epNext_keeps : (epNext p s).mem = s.mem ∧ (epNext p s).flt = s.flt := by
  obtain ⟨q, h⟩ | h := epNext_cases p s
  · obtain ⟨hmem, hflt, _⟩ := epAssign_keeps hp q s
    rw [h]
    exact ⟨hmem, hflt⟩
  · rw [h]
    exact ⟨(PortOnly.epRun p s).mem, (PortOnly.epRun p s).flt⟩

theorem fld_epNext_ep {g : Fld} (hg : g.shownBy 0) (hst : g.key ≠ F.epPstatSTATE.key) (hrate : g.key ≠ F.epPstatRATE.key)
    (hfall : g.key ≠ F.epPstatFALLBACK.key) : (epNext p s).fld (g.ep p) = s.fld (g.ep p) := by
  obtain ⟨q, h⟩ | h := epNext_cases p s
  · rw [h, fld_epAssign_ep hp q s hg hst hrate]
  · rw [h, fld_epRun_ep p s hst hfall]

end

end Sys2Proof.Machine
end

section
/-! SUPPORT. The commands and events of bring-up (R238–R241, R243, R252): what each does in each state of its port. -/

namespace Sys2Proof.Machine

theorem exec_bringup (p : Fin 32) (s : State) : exec (.bringup p) s = .next (bringupAt p.val s) := rfl
theorem exec_retrain (p : Fin 32) (s : State) : exec (.retrain p) s = .next (retrainAt p.val s) := rfl
theorem exec_down (p : Fin 32) (s : State) : exec (.down p) s = .next (downAt p.val s) := rfl
theorem exec_trainStart (p : Fin 32) (s : State) : exec (.trainStart p) s = .next (trainAt p.val s) := rfl
theorem exec_trainSuccess (p : Fin 32) (s : State) : exec (.trainSuccess p) s = .next (trainOk p.val s) := rfl
theorem exec_trainTimeout (p : Fin 32) (s : State) : exec (.trainTimeout p) s = .next (trainBad p.val s) := rfl
theorem exec_capAnswer (p : Fin 32) (pos : Fin 8) (cap : BitVec 64) (s : State) :
    exec (.capAnswer p pos cap) s = .next (capAt p.val pos.val cap s) := rfl
theorem exec_capTimeout (p : Fin 32) (s : State) : exec (.capTimeout p) s = .next (capBad p.val s) := rfl

/-! BRINGUP and RETRAIN (R238, R252). -/

/-- The port before the ASSIGN of BRINGUP. -/
def bringupReady (p : Nat) (s : State) : State :=
  modPort p (fun v => { v with up := true, target := 0 }) s |> setFlag (F.epPstatCAPVALID.ep p) false |>
    setFlag (F.epPstatFALLBACK.ep p) false |> setFld (F.epPstatFAULTCODE.ep p) 0

/-- The port before the ASSIGN of RETRAIN. -/
def retrainReady (p : Nat) (s : State) : State :=
  modPort p (fun v => { v with up := false, target := s.epTarget p }) s |>
    setFlag (F.epPstatFALLBACK.ep p) (decide (s.epTarget p < s.inF F.epRateRATE)) |> setFld (F.epPstatFAULTCODE.ep p) 0

section
variable {p : Nat} {s : State}

theorem PortOnly.bringupReady : PortOnly p s (bringupReady p s) :=
  ((((PortOnly.refl p s).modPort _).setFlag (f := F.epPstatCAPVALID) (by decide) _).setFlag (f := F.epPstatFALLBACK) (by decide) _).setFld
    (f := F.epPstatFAULTCODE) (by decide) _

theorem bringupReady_shows : (bringupReady p s).flag (F.epPstatCAPVALID.ep p) = false ∧ (bringupReady p s).flag (F.epPstatFALLBACK.ep p) = false ∧
    (bringupReady p s).fld (F.epPstatFAULTCODE.ep p) = 0 := by
  refine ⟨?_, ?_, ?_⟩
  · rw [bringupReady, flag_setFld_ep (by decide), flag_setFlag_ep (by decide), flag_setFlag_same]
  · rw [bringupReady, flag_setFld_ep (by decide), flag_setFlag_same]
  · rw [bringupReady, fld_setFld_same, Nat.zero_mod]

theorem bringupReady_up : ((bringupReady p s).port p).up = true := by
  rw [bringupReady, port_setFld, port_setFlag, port_setFlag, port_modPort]

theorem PortOnly.retrainReady : PortOnly p s (retrainReady p s) :=
  (((PortOnly.refl p s).modPort _).setFlag (f := F.epPstatFALLBACK) (by decide) _).setFld (f := F.epPstatFAULTCODE) (by decide) _

theorem retrainReady_fallback :
    (retrainReady p s).flag (F.epPstatFALLBACK.ep p) = decide (s.epTarget p < s.inF F.epRateRATE) := by
  rw [retrainReady, flag_setFld_ep (by decide), flag_setFlag_same]

theorem bringupAt_loop (h : s.epSt p = 5) : bringupAt p s = s := if_pos (.inr h)

variable (hon : s.epOn p = true)
include hon

theorem bringupAt_starts (h : s.epSt p ≠ 5) : bringupAt p s = epAssign p 0 (bringupReady p s) := if_neg (by simp [hon, h])

theorem retrainAt_noCap (h : s.flag (F.epPstatCAPVALID.ep p) = false) : retrainAt p s = raise (Blk.epN p) 10 {} s := by
  simp only [retrainAt, hon, h, Bool.not_true, Bool.not_false, Bool.false_eq_true, if_false, if_true]

theorem retrainAt_loop (hcap : s.flag (F.epPstatCAPVALID.ep p) = true) (h : s.epSt p = 5) : retrainAt p s = s := by
  simp only [retrainAt, hon, hcap, h, Bool.not_true, Bool.false_eq_true, if_false, if_true]

theorem retrainAt_starts (hcap : s.flag (F.epPstatCAPVALID.ep p) = true) (h : s.epSt p ≠ 5) :
    retrainAt p s = epAssign p (s.epTarget p) (retrainReady p s) := by
  simp only [retrainAt, hon, hcap, h, Bool.not_true, Bool.false_eq_true, if_false]
  rfl

end

/-! DOWN (R243). -/

theorem PortOnly.prbsCount (p : Nat) (s : State) : PortOnly p s (prbsCount p s) :=
  have hdrawn : PortOnly p s (drawn (drawn s)) := ⟨rfl, fun _ _ => rfl⟩
  (hdrawn.setFld (f := F.epPrbsWORDS) (by decide) _).setFld (f := F.epPrbsERRORS) (by decide) _

theorem prbsCount_ports (p : Nat) (s : State) : (prbsCount p s).ports = s.ports := rfl

theorem fld_prbsCount_ep {g : Fld} (p : Nat) (s : State) (hw : g.key ≠ F.epPrbsWORDS.key) (he : g.key ≠ F.epPrbsERRORS.key) :
    (prbsCount p s).fld (g.ep p) = s.fld (g.ep p) :=
  (fld_setFld_ep he ..).trans (fld_setFld_ep hw ..)

/-- Outside RUN a port keeps the end of the last drive period (R319). -/
theorem lastDrive_idle {p : Nat} {s : State} (h : s.epSt p ≠ 4) : s.lastDrive p = (s.port p).driveEnd := by
  have hst : ¬ s.fld (F.epPstatSTATE.at (p * 0x1000)) = 4 := h
  simp only [State.lastDrive, State.port]
  split
  · rw [if_neg hst]
  · rfl

theorem lastDrive_unsent {p : Nat} {s : State} (h : (s.port p).slots = []) : s.lastDrive p = (s.port p).driveEnd := by
  have hslots : (SMap.get s.ports p {}).slots = [] := h
  simp only [State.lastDrive, State.port, hslots]

/-- The counts of a loopback that DOWN ends go on to the end. -/
def loopCounted (p : Nat) (s : State) : State := if s.epSt p = 5 then prbsCount p s else s

/-- The port before it enters DOWN. -/
def forgotten (p : Nat) (s : State) : State :=
  modPort p (fun _ => { driveEnd := (loopCounted p s).lastDrive p }) (loopCounted p s) |> setFlag (F.epPstatCAPVALID.ep p) false |>
    setFlag (F.epPstatFALLBACK.ep p) false |> setFld (F.epPstatFAULTCODE.ep p) 0 |> setFld (F.epPstatRATE.ep p) 0

section
variable (p : Nat) (s : State)

theorem PortOnly.loopCounted : PortOnly p s (loopCounted p s) := by
  unfold Machine.loopCounted
  split
  · exact .prbsCount p s
  · exact .refl p s

theorem loopCounted_lastDrive : (loopCounted p s).lastDrive p = s.lastDrive p := by
  unfold loopCounted
  split
  case isTrue h =>
    have hst : (prbsCount p s).epSt p = 5 := (fld_prbsCount_ep p s (by decide) (by decide)).trans h
    rw [lastDrive_idle (by omega), lastDrive_idle (by omega), State.port, prbsCount_ports, State.port]
  case isFalse => rfl

theorem PortOnly.forgotten : PortOnly p s (forgotten p s) :=
  (((((PortOnly.loopCounted p s).modPort _).setFlag (f := F.epPstatCAPVALID) (by decide) _).setFlag (f := F.epPstatFALLBACK) (by decide) _).setFld
    (f := F.epPstatFAULTCODE) (by decide) _).setFld (f := F.epPstatRATE) (by decide) _

theorem port_forgotten : (forgotten p s).port p = { driveEnd := s.lastDrive p } := by
  rw [forgotten, port_setFld, port_setFld, port_setFlag, port_setFlag, port_modPort, loopCounted_lastDrive]

theorem port_down : (epTo p 0 (forgotten p s)).port p = { driveEnd := s.lastDrive p } := by
  rw [port_epTo, lastDrive_unsent (by rw [port_forgotten]), port_forgotten]
  rfl

theorem down_shows : (epTo p 0 (forgotten p s)).epCode p = 0 ∧ (epTo p 0 (forgotten p s)).flag (F.epPstatCAPVALID.ep p) = false ∧
    (epTo p 0 (forgotten p s)).fld (F.epPstatFAULTCODE.ep p) = 0 := by
  refine ⟨?_, ?_, ?_⟩
  · rw [State.epCode, fld_epTo_ep _ _ _ (by decide), forgotten, fld_setFld_same, Nat.zero_mod]
  · rw [flag_epTo_ep _ _ _ (by decide), forgotten, flag_setFld_ep (by decide), flag_setFld_ep (by decide), flag_setFlag_ep (by decide),
      flag_setFlag_same]
  · rw [fld_epTo_ep _ _ _ (by decide), forgotten, fld_setFld_ep (by decide), fld_setFld_same, Nat.zero_mod]

theorem downAt_on {p : Nat} {s : State} (hon : s.epOn p = true) : downAt p s = epTo p 0 (forgotten p s) := if_neg (by simp [hon])

end

/-! TRAIN (R239, R240). -/

section
variable {p : Nat} {s : State}

theorem trainAt_early {l : Nat} (hl : (s.port p).latched = some l) (h : s.now < l + 100000) : trainAt p s = s := by
  simp only [trainAt, hl]
  exact if_neg fun hc => absurd hc.2.2 (Nat.not_le.2 h)

theorem trainAt_due {l : Nat} (hon : s.epOn p = true) (hl : (s.port p).latched = some l) (hst : s.epSt p = 1) (h : l + 100000 ≤ s.now) :
    trainAt p s = epTo p 2 (modPort p (fun v => { v with trainAt := s.now }) s) := by
  simp only [trainAt, hl]
  exact if_pos ⟨hon, hst, h⟩

theorem trainOk_other (h : s.epSt p ≠ 2) : trainOk p s = s := if_pos (.inr h)

theorem trainBad_other (h : s.epSt p ≠ 2) : trainBad p s = s := if_pos (.inr (.inl h))

theorem trainBad_early (h : s.now < (s.port p).trainAt + 2000000) : trainBad p s = s := if_pos (.inr (.inr h))

variable (hon : s.epOn p = true) (hst : s.epSt p = 2)
include hon hst

theorem trainOk_toCap (hup : (s.port p).up = true) (hcap : s.flag (F.epPstatCAPVALID.ep p) = false) :
    trainOk p s = sendCapReq p (epTo p 3 (modPort p (fun v => { v with capAt := s.now, capPos := 0, capAgain := false }) s)) := by
  simp only [trainOk, hon, hst, hup, hcap, Bool.not_true, Bool.not_false, Bool.false_eq_true, ne_eq, not_true_eq_false, or_self, if_false,
    and_self, if_true]

theorem trainOk_onwards (hcap : s.flag (F.epPstatCAPVALID.ep p) = true) : trainOk p s = epNext p s := by
  simp only [trainOk, hon, hst, hcap, Bool.not_true, Bool.false_eq_true, ne_eq, not_true_eq_false, or_self, if_false, and_false]

variable (hlate : (s.port p).trainAt + 2000000 ≤ s.now)
include hlate

theorem trainBad_late : trainBad p s =
    if (s.port p).tries < 2 then modPort p (fun v => { v with tries := v.tries + 1, trainAt := s.now }) s
    else raise (Blk.epN p) 3 { typ := 6 } (if s.epCode p = 0 then epFault p 1 s else epFall p (s.epCode p - 1) s) :=
  if_neg (by simp [hon, hst, hlate])

theorem trainBad_repeats (h : (s.port p).tries < 2) :
    trainBad p s = modPort p (fun v => { v with tries := v.tries + 1, trainAt := s.now }) s :=
  (trainBad_late hon hst hlate).trans (if_pos h)

theorem trainBad_faults (h : 2 ≤ (s.port p).tries) (hq : s.epCode p = 0) :
    trainBad p s = raise (Blk.epN p) 3 { typ := 6 } (epFault p 1 s) := by
  rw [trainBad_late hon hst hlate, if_neg (Nat.not_lt.2 h), if_pos hq]

theorem trainBad_falls (h : 2 ≤ (s.port p).tries) (hq : 0 < s.epCode p) :
    trainBad p s = raise (Blk.epN p) 3 { typ := 6 } (epFall p (s.epCode p - 1) s) := by
  rw [trainBad_late hon hst hlate, if_neg (Nat.not_lt.2 h), if_neg (Nat.ne_of_gt hq)]

end

/-! CAP (R241). -/

/-- What the lanes of a port that asks a position carry. -/
def asking (p pos : Nat) (v : PortState) : Option FwdRun :=
  let r := v.fwd.getD {}
  some { r with words := r.words ++ capReqPacket (8 * p + pos) }

theorem sendCapReq_eq (p : Nat) (s : State) :
    sendCapReq p s = modPort p (fun v => { v with fwd := asking p (s.port p).capPos v }) s := rfl

/-- The port in CAP, before it asks position 0. -/
def capEntered (p : Nat) (s : State) : State :=
  epTo p 3 (modPort p (fun v => { v with capAt := s.now, capPos := 0, capAgain := false }) s)

theorem PortOnly.sendCapReq {p : Nat} {s t : State} (h : PortOnly p s t) : PortOnly p s (sendCapReq p t) := by
  rw [sendCapReq_eq]
  exact h.modPort _

theorem PortOnly.capEntered (p : Nat) (s : State) : PortOnly p s (capEntered p s) := ((PortOnly.refl p s).modPort _).epTo p 3

/-- On entry to CAP the port asks position 0, after what its lanes have carried. -/
theorem port_capEntered (p : Nat) (s : State) : let v := (sendCapReq p (capEntered p s)).port p
    v.capPos = 0 ∧ v.capAgain = false ∧ v.fwd = asking p 0 (s.port p) := by
  rw [sendCapReq_eq, capEntered, port_modPort, port_epTo, port_modPort]
  exact ⟨rfl, rfl, rfl⟩

/-- The port whose eighth position has answered, before it goes on: the capabilities are known, and with them its target. -/
def capKnown (p : Nat) (cap : BitVec 64) (s : State) : State :=
  let u := setFld ((F.epCapCAP.ep p).at 56) cap.toNat s
  let m := (List.range 8).foldl (fun m r => min m (u.fld ((F.epCapCAP.ep p).at (8 * r)) / 2 ^ 62)) 3
  let w := setFlag (F.epPstatCAPVALID.ep p) true (setFld (F.epPstatCAPRATE.ep p) m u)
  setFlag (F.epPstatFALLBACK.ep p) (decide (w.epTarget p < w.inF F.epRateRATE)) (modPort p (fun v => { v with target := w.epTarget p }) w)

section
variable {p : Nat} {s : State}

theorem capAt_other {pos : Nat} (h : s.epSt p ≠ 3 ∨ (s.port p).capPos ≠ pos) (cap : BitVec 64) : capAt p pos cap s = s := if_pos (.inr h)

theorem capBad_waits (h : s.epSt p ≠ 3 ∨ s.now < (s.port p).capAt + 100000) : capBad p s = s := if_pos (.inr h)

variable (hon : s.epOn p = true) (hst : s.epSt p = 3)
include hon hst

theorem capAt_asked {pos : Nat} (h : (s.port p).capPos = pos) (hpos : pos < 7) (cap : BitVec 64) :
    capAt p pos cap s = sendCapReq p (modPort p (fun v => { v with capPos := pos + 1, capAgain := false, capAt := s.now })
      (setFld ((F.epCapCAP.ep p).at (8 * pos)) cap.toNat s)) := by
  simp only [capAt, hon, hst, h, hpos, Bool.not_true, Bool.false_eq_true, ne_eq, not_true_eq_false, or_self, if_false, if_true]
  rfl

theorem capAt_eighth (h : (s.port p).capPos = 7) (cap : BitVec 64) : capAt p 7 cap s = epNext p (capKnown p cap s) := by
  simp only [capAt, hon, hst, h, Bool.not_true, Bool.false_eq_true, ne_eq, not_true_eq_false, or_self, if_false, Nat.lt_irrefl]
  rfl

variable (hlate : (s.port p).capAt + 100000 ≤ s.now)
include hlate

theorem capBad_asksAgain (h : (s.port p).capAgain = false) :
    capBad p s = sendCapReq p (modPort p (fun v => { v with capAgain := true, capAt := s.now }) s) := by
  simp only [capBad, hon, hst, h, Nat.not_lt.2 hlate, Bool.not_true, Bool.not_false, Bool.false_eq_true, ne_eq, not_true_eq_false, or_self,
    if_false, if_true]

theorem capBad_faults (h : (s.port p).capAgain = true) : capBad p s =
    raise (Blk.epN p) 4 { addr := (s.port p).capPos } (epFault p 2 (setFld (F.epPstatFAULTPOS.ep p) (s.port p).capPos s)) := by
  simp only [capBad, hon, hst, h, Nat.not_lt.2 hlate, Bool.not_true, Bool.false_eq_true, ne_eq, not_true_eq_false, or_self, if_false]

end

theorem foldl_min_le {α : Type} (g : α → Nat) (l : List α) (m : Nat) : l.foldl (fun m r => min m (g r)) m ≤ m := by
  induction l generalizing m with
  | nil => exact Nat.le_refl m
  | cons r l ih => exact (ih _).trans (Nat.min_le_left ..)

theorem at_ep (f : Fld) (p off : Nat) : (f.ep p).at off = (f.at off).ep p := by
  simp only [Fld.ep, Fld.at, Nat.add_right_comm]

theorem key_cap_ne {f : Fld} (r : Nat) (h : f.key < F.epCapCAP.key) : (F.epCapCAP.at (8 * r)).key ≠ f.key := by
  rw [key_at]
  omega

section
variable (p : Nat) (cap : BitVec 64) (s : State)

theorem PortOnly.capKnown : PortOnly p s (capKnown p cap s) := by
  have hcap : PortOnly p s (Machine.setFld ((F.epCapCAP.ep p).at 56) cap.toNat s) := by
    rw [at_ep]
    exact (PortOnly.refl p s).setFld (by decide) _
  exact (((hcap.setFld (f := F.epPstatCAPRATE) (by decide) _).setFlag (f := F.epPstatCAPVALID) (by decide) _).modPort _).setFlag
    (f := F.epPstatFALLBACK) (by decide) _

theorem capKnown_valid : (capKnown p cap s).flag (F.epPstatCAPVALID.ep p) = true := by
  rw [capKnown, flag_setFlag_ep (by decide), flag_modPort, flag_setFlag_same]

/-- EP_CAPr, as the answers left it. -/
theorem capKnown_caps (r : Nat) : (capKnown p cap s).fld ((F.epCapCAP.ep p).at (8 * r)) =
    (setFld ((F.epCapCAP.ep p).at 56) cap.toNat s).fld ((F.epCapCAP.ep p).at (8 * r)) := by
  simp only [at_ep, capKnown]
  rw [fld_setFlag_ep (key_cap_ne r (by decide)), fld_modPort, fld_setFlag_ep (key_cap_ne r (by decide)), fld_setFld_ep (key_cap_ne r (by decide))]

theorem fld_epNext_cap {p r : Nat} (hp : p < 32) (hr : r < 8) (s : State) :
    (epNext p s).fld ((F.epCapCAP.ep p).at (8 * r)) = s.fld ((F.epCapCAP.ep p).at (8 * r)) := by
  have hlo : 0x22000040 * 64 = F.epCapCAP.key := by decide
  have hshown : (F.epCapCAP.at (8 * r)).shownBy 0 := by
    rw [Fld.shownBy, key_at, ← hlo]
    omega
  rw [at_ep, fld_epNext_ep hp hshown (key_cap_ne r (by decide)) (key_cap_ne r (by decide)) (key_cap_ne r (by decide))]

/-- CAP_RATE is the lowest MAX_RATE of the eight answers. -/
theorem capKnown_rate : (capKnown p cap s).fld (F.epPstatCAPRATE.ep p) =
    (List.range 8).foldl (fun m r => min m ((capKnown p cap s).fld ((F.epCapCAP.ep p).at (8 * r)) / 2 ^ 62)) 3 := by
  have hle := foldl_min_le (fun r => (setFld ((F.epCapCAP.ep p).at 56) cap.toNat s).fld ((F.epCapCAP.ep p).at (8 * r)) / 2 ^ 62) (List.range 8) 3
  simp only [capKnown_caps]
  rw [capKnown, fld_setFlag_ep (by decide), fld_modPort, fld_setFlag_ep (by decide), fld_setFld_same]
  exact Nat.mod_eq_of_lt (Nat.lt_succ_of_le hle)

end

end Sys2Proof.Machine
end

section
/-! SUPPORT. Bring-up of an emission port (R238 to R241, R247, R252). -/

namespace Sys2Proof.Machine

/-- A port that runs is in RUN, with FALLBACK where its code is below EP_RATE in force, and identifier 548 + p. -/
theorem epRun_runs (p : Nat) (s : State) : (epRun p s).epSt p = 4 ∧ 548 + p ∈ (epRun p s).evt ∧
    (epRun p s).flag (F.epPstatFALLBACK.ep p) = decide (s.epCode p < s.inF F.epRateRATE) ∧ (epRun p s).mem = s.mem ∧ (epRun p s).flt = s.flt :=
  ⟨epSt_epRun p s, mem_epRun_evt p s, epRun_fallback p s, (PortOnly.epRun p s).mem, (PortOnly.epRun p s).flt⟩

/-- Settles O39: each command and event of bring-up by the state of its port, the code it stands at and its target. -/
theorem portBringUp : Obligations.PortBringUp := by
  unfold Obligations.PortBringUp
  intro p s hon
  have hp : p.val < 32 := p.isLt
  dsimp only
  simp only [exec_bringup, exec_retrain, exec_down, exec_trainStart, exec_trainSuccess, exec_trainTimeout, exec_capAnswer, exec_capTimeout]
  refine ⟨fun hst => ⟨?_, fun hcap => ?_⟩, fun hst => ⟨_, rfl, ?_⟩, fun hcap => ?_, fun hst hcap hrate _ => ⟨_, rfl, ?_⟩, ⟨_, rfl, ?_⟩,
    fun l hl hst => ⟨fun hnow => ?_, fun hnow => ⟨_, rfl, ?_⟩⟩, fun hst => ⟨?_, ?_⟩,
    fun hst => ⟨fun hup hcap => ⟨_, rfl, ?_⟩, fun hup hcap hq htgt => ⟨_, rfl, ?_⟩, fun hcap htgt hq => ⟨_, rfl, ?_⟩,
      fun hcap hq => ⟨_, rfl, ?_⟩, fun hnow => ?_, fun hnow => ⟨fun htries => ?_, fun htries hq => ?_, fun htries hpos hq => ?_⟩⟩,
    fun pos cap h => ?_, fun pos cap hst hpos hlt => ?_, fun cap hst hpos hq => ⟨_, rfl, ?_⟩,
    fun hst hnow => ⟨fun hagain => ?_, fun hagain hpos => ?_⟩, fun h => ?_⟩
  -- BRINGUP and RETRAIN
  · rw [bringupAt_loop hst]
  · rw [retrainAt_loop hon hcap hst]
  · obtain ⟨hmem, hflt, _⟩ := epAssign_keeps hp 0 (bringupReady p s)
    obtain ⟨hvalid, hfall, hcode⟩ := bringupReady_shows (p := p) (s := s)
    rw [bringupAt_starts hon hst]
    refine ⟨epAssign_assigned .bringupReady hp (by decide), ?_, hflt.trans PortOnly.bringupReady.flt, ?_, ?_, ?_⟩
    · rw [port_epAssign hp]
      exact bringupReady_up
    · rw [flag_epAssign_ep hp _ _ (by decide) (by decide) (by decide), hvalid]
    · rw [flag_epAssign_ep hp _ _ (by decide) (by decide) (by decide), hfall]
    · rw [fld_epAssign_ep hp _ _ (by decide) (by decide) (by decide), hcode]
  · rw [retrainAt_noCap hon hcap]
  · obtain ⟨_, hflt, _⟩ := epAssign_keeps hp (s.epTarget p) (retrainReady p s)
    rw [retrainAt_starts hon hcap hst]
    refine ⟨epAssign_assigned .retrainReady hp (Nat.lt_of_le_of_lt (Nat.min_le_left ..) hrate), ?_, hflt.trans PortOnly.retrainReady.flt⟩
    rw [flag_epAssign_ep hp _ _ (by decide) (by decide) (by decide), retrainReady_fallback]
  -- DOWN
  · have honly := (PortOnly.forgotten p s).epTo p 0
    obtain ⟨hcode, hvalid, hfault⟩ := down_shows p s
    rw [downAt_on hon]
    exact ⟨epSt_epTo _ _ _ (by decide), hcode, port_down p s, hvalid, hfault, honly.ril, honly.flt, honly.mem⟩
  -- the latch, and TRAIN
  · rw [trainAt_early hl hnow]
  · rw [trainAt_due hon hl hst hnow]
    refine ⟨epSt_epTo _ _ _ (by decide), ?_, (((PortOnly.refl p s).modPort _).epTo p 2).flt⟩
    rw [port_epTo, port_modPort]
    rfl
  · rw [trainOk_other hst]
  · rw [trainBad_other hst]
  · obtain ⟨hpos, hagain, hfwd⟩ := port_capEntered p s
    rw [trainOk_toCap hon hst hup hcap]
    exact ⟨epSt_epTo _ _ _ (by decide), hpos, hagain, hfwd, (PortOnly.capEntered p s).sendCapReq.flt⟩
  · rw [trainOk_onwards hon hst hcap, epNext_up hq, hup, if_pos rfl]
    exact epAssign_assigned (.refl p s) hp (by omega)
  · rw [trainOk_onwards hon hst hcap, epNext_down htgt]
    exact epAssign_assigned (.refl p s) hp (by omega)
  · rw [trainOk_onwards hon hst hcap, epNext_there hq]
    exact epRun_runs p s
  · rw [trainBad_early hnow]
  · rw [trainBad_repeats hon hst hnow htries]
    rfl
  · rw [trainBad_faults hon hst hnow htries hq]
    exact ⟨_, rfl, epSt_epFault .., epFault_code _ _ (by decide), mem_epFault_evt ..⟩
  · obtain ⟨htarget, hup⟩ := epFall_target (q := s.epCode p - 1) hp s
    rw [trainBad_falls hon hst hnow htries hpos]
    exact ⟨_, rfl, epFall_assigned hp s (by omega), epFall_fallback hp s, htarget, hup, epFall_count hp s, mem_epFall_evt hp s⟩
  -- CAP
  · rw [capAt_other h]
  · rw [capAt_asked hon hst hpos hlt, sendCapReq_eq, modPort_modPort]
    simp only [port_modPort]
    rfl
  · obtain ⟨hmem, hflt⟩ := epNext_keeps (s := capKnown p cap s) hp
    have honly := PortOnly.capKnown p cap s
    rw [show ((7 : Fin 8) : Nat) = 7 from rfl, capAt_eighth hon hst hpos]
    refine ⟨?_, (fld_epNext_cap hp (by decide : 7 < 8) _).trans ?_, ?_, hflt.trans honly.flt, hmem.trans honly.mem⟩
    · rw [State.flag, fld_epNext_ep hp (by decide) (by decide) (by decide) (by decide)]
      exact capKnown_valid p cap s
    · rw [capKnown_caps, fld_setFld_same]
      exact Nat.mod_eq_of_lt cap.isLt
    · rw [fld_epNext_ep hp (by decide) (by decide) (by decide) (by decide), capKnown_rate]
      exact List.foldl_ext _ _ _ fun m r hr => by rw [fld_epNext_cap hp (List.mem_range.1 hr)]
  · rw [capBad_asksAgain hon hst hnow hagain, sendCapReq_eq, modPort_modPort]
    simp only [port_modPort]
    rfl
  · rw [capBad_faults hon hst hnow hagain]
    refine ⟨_, rfl, epSt_epFault .., epFault_code _ _ (by decide), ?_⟩
    rw [fld_epFault_ep _ _ _ (by decide) (by decide) (by decide), fld_setFld_same]
    exact Nat.mod_eq_of_lt hpos
  · rw [capBad_waits h]

end Sys2Proof.Machine
end

section
/-! SUPPORT. Loopbacks, error windows and lost locks of an emission port (R242, R244). -/

namespace Sys2Proof.Machine

theorem exec_loopNes (p : Fin 32) (lane : Fin 2) (s : State) : exec (.loopNes p lane) s = .next (loopStart p.val 0 (.nes lane.val) s) := rfl
theorem exec_loopNep (p : Fin 32) (lane : Fin 2) (s : State) : exec (.loopNep p lane) s = .next (loopStart p.val 0 (.nep lane.val) s) := rfl
theorem exec_loopFar (p : Fin 32) (pos : Fin 8) (s : State) : exec (.loopFar p pos) s = .next (loopStart p.val 4 (.far pos.val) s) := rfl
theorem exec_loopEnd (p : Fin 32) (s : State) : exec (.loopEnd p) s = .next (loopEndAt p.val s) := rfl
theorem exec_returnBlockLock (p : Fin 32) (s : State) : exec (.returnBlockLock p) s = .next (blockLockAt p.val s) := rfl
theorem exec_returnLockLoss (p : Fin 32) (s : State) : exec (.returnLockLoss p) s = .next (lockLossAt p.val s) := rfl
theorem exec_errWindowClose (p : Fin 32) (s : State) : exec (.errWindowClose p) s = .next (windowAt p.val s) := rfl

theorem PortOnly.sendWords {p : Nat} {s t : State} (h : PortOnly p s t) (ws : List Word) : PortOnly p s (sendWords p ws t) := h.modPort _

/-! A loopback starts (R244). -/

/-- A far-end loopback begins with a LOOP packet to its position. -/
def loopCalled (p : Nat) (k : LoopKind) (s : State) : State :=
  match k with | .far pos => sendWords p (loopPacket (8 * p + pos) false) s | _ => s

/-- The port before it enters LOOP. -/
def loopReady (p : Nat) (k : LoopKind) (s : State) : State :=
  modPort p (fun v => { v with loop := some k, ending := false }) (loopCalled p k s) |> setFld (F.epPrbsWORDS.ep p) 0 |>
    setFld (F.epPrbsERRORS.ep p) 0

section
variable {p st : Nat} {k : LoopKind} {s : State}

theorem PortOnly.loopReady : PortOnly p s (loopReady p k s) := by
  have hcalled : PortOnly p s (loopCalled p k s) := by
    cases k with
    | far pos => exact (PortOnly.refl p s).sendWords _
    | nes lane => exact .refl p s
    | nep lane => exact .refl p s
  exact ((hcalled.modPort _).setFld (f := F.epPrbsWORDS) (by decide) _).setFld (f := F.epPrbsERRORS) (by decide) _

/-- A port that has begun a loopback: in LOOP, with its counts at zero. -/
theorem loopReady_looped (p : Nat) (k : LoopKind) (s : State) : let t := epTo p 5 (loopReady p k s)
    t.epSt p = 5 ∧ (t.port p).loop = some k ∧ (t.port p).ending = false ∧ t.fld (F.epPrbsWORDS.ep p) = 0 ∧ t.fld (F.epPrbsERRORS.ep p) = 0 ∧
      t.flt = s.flt ∧ t.mem = s.mem := by
  have honly := (PortOnly.loopReady (p := p) (k := k) (s := s)).epTo p 5
  refine ⟨epSt_epTo _ _ _ (by decide), ?_, ?_, ?_, ?_, honly.flt, honly.mem⟩
  · rw [port_epTo, loopReady, port_setFld, port_setFld, port_modPort]
    rfl
  · rw [port_epTo, loopReady, port_setFld, port_setFld, port_modPort]
    rfl
  · rw [fld_epTo_ep _ _ _ (by decide), loopReady, fld_setFld_ep (by decide), fld_setFld_same, Nat.zero_mod]
  · rw [fld_epTo_ep _ _ _ (by decide), loopReady, fld_setFld_same, Nat.zero_mod]

variable (hon : s.epOn p = true)
include hon

theorem loopStart_refused (h : s.epSt p ≠ st) :
    loopStart p st k s = raise (Blk.epN p) 1 { addr := 0x22000000 + p * 0x1000, mstr := 255, typ := 2 } s := by
  simp only [loopStart, hon, Bool.not_true, Bool.false_eq_true, if_false]
  exact if_pos h

theorem loopStart_starts (h : s.epSt p = st) : loopStart p st k s = epTo p 5 (loopReady p k s) := by
  simp only [loopStart, hon, h, Bool.not_true, Bool.false_eq_true, if_false, ne_eq, not_true_eq_false]
  cases k <;> rfl

end

/-! A loopback ends. -/

section
variable {p : Nat} {s : State}

theorem loopEndAt_other (h : s.epSt p ≠ 5) : loopEndAt p s = s := if_pos (.inr h)

theorem blockLockAt_other (h : s.epSt p ≠ 5 ∨ (s.port p).ending = false) : blockLockAt p s = s := by
  refine if_neg ?_
  rintro ⟨-, hst, hend, -⟩
  obtain h | h := h
  · exact h hst
  · exact Bool.false_ne_true (h.symm.trans hend)

theorem lockLossAt_other (hst : s.epSt p ≠ 4) (h : s.epSt p ≠ 5 ∨ (s.port p).ending = false) : lockLossAt p s = s := by
  refine if_neg ?_
  rintro ⟨-, hrun | ⟨hloop, hend⟩⟩
  · exact hst hrun
  · obtain h | h := h
    · exact h hloop
    · exact Bool.false_ne_true (h.symm.trans hend)

variable (hon : s.epOn p = true)
include hon

theorem loopEndAt_near {k : LoopKind} (hst : s.epSt p = 5) (hk : (s.port p).loop = some k) (hnear : ∀ pos, k ≠ .far pos) :
    loopEndAt p s = epTo p 0 (modPort p (fun v => { v with loop := none }) (prbsCount p s)) := by
  simp only [loopEndAt, hon, hst, hk, Bool.not_true, Bool.false_eq_true, ne_eq, not_true_eq_false, or_self, if_false]
  cases k with
  | far pos => exact absurd rfl (hnear pos)
  | nes lane => rfl
  | nep lane => rfl

theorem loopEndAt_far {pos : Nat} (hst : s.epSt p = 5) (hk : (s.port p).loop = some (.far pos)) (hend : (s.port p).ending = false) :
    loopEndAt p s = sendWords p (loopPacket (8 * p + pos) true)
      (modPort p (fun v => { v with ending := true, trainAt := s.now }) (prbsCount p s)) := by
  simp only [loopEndAt, hon, hst, hk, hend, Bool.not_true, Bool.false_eq_true, ne_eq, not_true_eq_false, or_self, if_false]

theorem blockLockAt_runs (hst : s.epSt p = 5) (hend : (s.port p).ending = true) (h : s.now ≤ (s.port p).trainAt + blocks64 (s.epCode p)) :
    blockLockAt p s = epRun p s := if_pos ⟨hon, hst, hend, h⟩

theorem lockLossAt_run (hst : s.epSt p = 4) : lockLossAt p s = errFall p s := if_pos ⟨hon, .inl hst⟩

end

/-! Error windows and fallbacks from RUN (R242). -/

/-- A port that has fallen back under the error limit: to the code below, or to FAULT where that code serves no class. -/
theorem errFall_falls {p : Nat} (hp : p < 32) {s : State} (hq : s.epCode p < 4) : ∃ u, errFall p s = raise (Blk.epN p) 5 { typ := 6 } u ∧
    (s.epCode p ≤ 1 → u.epSt p = 6 ∧ u.fld (F.epPstatFAULTCODE.ep p) = 3) ∧
    (1 < s.epCode p → u.epSt p = 1 ∧ u.epCode p = s.epCode p - 1 ∧ u.flag (F.epPstatFALLBACK.ep p) = true) ∧ 548 + p ∈ u.evt := by
  refine ⟨_, rfl, ?_⟩
  by_cases hlow : s.epCode p ≤ 1
  · rw [if_pos hlow]
    exact ⟨fun _ => ⟨epSt_epFault .., epFault_code _ _ (by decide)⟩, fun h => absurd hlow (Nat.not_le.2 h), mem_epFault_evt ..⟩
  · obtain ⟨hst, hcode, _⟩ := epFall_assigned (q := s.epCode p - 1) hp s (by omega)
    rw [if_neg hlow]
    exact ⟨fun h => absurd h hlow, fun _ => ⟨hst, hcode, epFall_fallback hp s⟩, mem_epFall_evt hp s⟩

/-- The port at the start of a window. -/
def windowBegun (p : Nat) (s : State) : State := modPort p (fun v => { v with win := 0, winAt := s.gt / 1000000 }) s

section
variable {p : Nat} {s : State}

theorem windowAt_waits (h : s.epSt p ≠ 4 ∨ s.gt / 1000000 ≤ (s.port p).winAt) : windowAt p s = s := by
  refine if_neg ?_
  rintro ⟨-, hst, hwin⟩
  obtain h | h := h
  · exact h hst
  · exact absurd hwin (Nat.not_lt.2 h)

theorem windowAt_closes (hon : s.epOn p = true) (hst : s.epSt p = 4) (hwin : (s.port p).winAt < s.gt / 1000000) :
    windowAt p s = if s.fld (F.epLimitERRMAX.ep p) < (s.port p).win then errFall p (windowBegun p s) else windowBegun p s :=
  if_pos ⟨hon, hst, hwin⟩

end

end Sys2Proof.Machine
end

section
/-! SUPPORT. A slot of a port (R230, R233, R236): what the eight engines hand over, and what the port sends and remembers of it. -/

namespace Sys2Proof.Machine

theorem exec_slotStart (p : Fin 32) (i : Fin 64) (s : State) : exec (.slotStart p i) s = .next (slotAt p.val i.val s) := rfl

/-! What an engine hands over. -/

/-- The packet of engine n for slot i. -/
def State.handed (s : State) (n i : Nat) : TePkt := if s.forcedDark n then {} else SMap.get (s.teSt n).out i {}

/-- Slot i of engine n is used, filled or not. -/
def slotUsed (n i : Nat) (s : State) : State := if (s.teSt n).slot ≤ i then setTe n { s.teSt n with slot := i + 1 } s else s

theorem slotUsed_onlyTe (n i : Nat) (s : State) : ∃ te, slotUsed n i s = { s with te := te } := by
  unfold slotUsed
  split
  · exact ⟨_, rfl⟩
  · exact ⟨s.te, rfl⟩

theorem teSt_slotUsed_other {n m i : Nat} (s : State) (h : m ≠ n) : (slotUsed n i s).teSt m = s.teSt m := by
  unfold slotUsed
  split
  · exact SMap.get_put_other _ _ _ h
  · rfl

theorem slot_slotUsed (n i : Nat) (s : State) : ((slotUsed n i s).teSt n).slot = max (s.teSt n).slot (i + 1) := by
  unfold slotUsed
  split
  case isTrue h =>
    rw [teSt_setTe_same]
    exact (Nat.max_eq_right (Nat.le_succ_of_le h)).symm
  case isFalse h => exact (Nat.max_eq_left (Nat.lt_of_not_le h)).symm

/-- A port that is not in RUN darkens its engines (R218). -/
theorem handed_notRun {p r : Nat} {s : State} (hr : r < 8) (hst : s.epSt p ≠ 4) (i : Nat) : s.handed (8 * p + r) i = {} := by
  have hport : (8 * p + r) / 8 = p := by omega
  have hslow : s.portFast p = false := by
    have hrun : s.portRun p = false := decide_eq_false hst
    rw [State.portFast, hrun, Bool.false_and]
  have hdark : s.forcedDark (8 * p + r) = true := by
    rw [State.forcedDark, hport, hslow]
    simp
  exact if_pos hdark

/-! The hand-over of the first m engines of a port. -/

/-- The state after the first m engines of port p have handed over. -/
def slotsUsed (p i m : Nat) (s : State) : State := forN m (fun r s => slotUsed (8 * p + r) i s) s

theorem slotsUsed_succ (p i m : Nat) (s : State) : slotsUsed p i (m + 1) s = slotUsed (8 * p + m) i (slotsUsed p i m s) := forN_succ ..

theorem slotsUsed_onlyTe (p i m : Nat) (s : State) : ∃ te, slotsUsed p i m s = { s with te := te } := by
  induction m with
  | zero => exact ⟨s.te, rfl⟩
  | succ m ih =>
    obtain ⟨te, ih⟩ := ih
    obtain ⟨te', h⟩ := slotUsed_onlyTe (8 * p + m) i { s with te := te }
    exact ⟨te', by rw [slotsUsed_succ, ih, h]⟩

theorem teSt_slotsUsed_later {p i m r : Nat} (s : State) (h : m ≤ r) : (slotsUsed p i m s).teSt (8 * p + r) = s.teSt (8 * p + r) := by
  induction m with
  | zero => rfl
  | succ m ih => rw [slotsUsed_succ, teSt_slotUsed_other _ (by omega), ih (by omega)]

theorem slot_slotsUsed {p i m r : Nat} (s : State) (h : r < m) :
    ((slotsUsed p i m s).teSt (8 * p + r)).slot = max (s.teSt (8 * p + r)).slot (i + 1) := by
  induction m with
  | zero => exact absurd h (Nat.not_lt_zero r)
  | succ m ih =>
    rw [slotsUsed_succ]
    obtain hlt | rfl := Nat.lt_succ_iff_lt_or_eq.1 h
    · rw [teSt_slotUsed_other _ (by omega), ih hlt]
    · rw [slot_slotUsed, teSt_slotsUsed_later _ (Nat.le_refl r)]

/-- An engine hands over the same whatever those before it have handed over. -/
theorem handed_slotsUsed (p i m : Nat) (s : State) : (slotsUsed p i m s).handed (8 * p + m) i = s.handed (8 * p + m) i := by
  have hte := teSt_slotsUsed_later (p := p) (i := i) s (Nat.le_refl m)
  have hdark : (slotsUsed p i m s).forcedDark (8 * p + m) = s.forcedDark (8 * p + m) := by
    obtain ⟨te, h⟩ := slotsUsed_onlyTe p i m s
    rw [h]
    rfl
  rw [State.handed, hte, hdark, State.handed]

theorem handOver_all (p i m : Nat) (s : State) :
    (List.range m).foldl (fun (a : List TePkt × State) r => let h := handOver (8 * p + r) i a.2; (a.1 ++ [h.1], h.2)) ([], s) =
      ((List.range m).map (fun r => s.handed (8 * p + r) i), slotsUsed p i m s) := by
  induction m with
  | zero => rfl
  | succ m ih =>
    rw [List.range_succ, List.foldl_append, ih, List.map_append, slotsUsed_succ, List.map_singleton, ← handed_slotsUsed p i m s]
    rfl

/-! The slot that a port sends. -/

/-- What port p remembers of slot i of refresh k. -/
def slotOf (p i k : Nat) (s : State) : PSlot :=
  { at_ := s.now, refresh := k, slot := i, frame := s.tl.frame, slotCyc := s.slotCyc (s.epCode p),
    pkts := (List.range 8).map (fun r => s.handed (8 * p + r) i), got := if s.epSt p = 3 then 0xFF else 0,
    tap := if s.epSt p = 3 then 0xFF else 0 }

/-- The port after slot i of refresh k has started, before the RETs that are then lost. -/
def slotSent (p i k : Nat) (s : State) : State :=
  let sl := slotOf p i k s
  modPort p (fun v => { v with slots := (sl :: v.slots).take 4 }) (sendSlot p i k s.tl.frame sl.slotCyc sl.pkts (slotsUsed p i 8 s))

theorem slotAt_none {p i : Nat} {s : State} (h : s.scan.last = none) : slotAt p i s = s := by
  simp only [slotAt, h]

theorem slotAt_starts {p i k : Nat} {s : State} (hon : s.epOn p = true) (hlast : s.scan.last = some (s.tl.frame, k))
    (hst : s.epSt p = 3 ∨ s.epSt p = 4) (hnow : s.sstart s.tl.frame k i ≤ s.gt) (hframe : s.sstart s.tl.frame k i < s.frameStart (s.tl.frame + 1))
    (hfresh : ∀ l, (s.port p).slots.head? = some l → slotBefore l s.tl.frame k i = true) :
    slotAt p i s = retLost p (slotSent p i k s) := by
  have hcyc : (slotsUsed p i 8 s).slotCyc ((slotsUsed p i 8 s).epCode p) = s.slotCyc (s.epCode p) := by
    obtain ⟨te, h⟩ := slotsUsed_onlyTe p i 8 s
    rw [h]
    rfl
  simp only [slotAt, hlast, handOver_all, hcyc]
  refine if_pos ⟨hon, hst, trivial, hnow, hframe, ?_⟩
  cases hhead : (s.port p).slots.head? with
  | none => rfl
  | some l => exact hfresh l hhead

section
variable (p i k : Nat) (s : State)

theorem slots_slotSent : ((slotSent p i k s).port p).slots = (slotOf p i k s :: (s.port p).slots).take 4 := by
  obtain ⟨te, hte⟩ := slotsUsed_onlyTe p i 8 s
  rw [slotSent, hte, port_modPort, sendSlot, port_modPort]
  rfl

theorem slotSent_keeps : (slotSent p i k s).regs = s.regs ∧ (slotSent p i k s).flt = s.flt ∧ (slotSent p i k s).mem = s.mem := by
  obtain ⟨te, hte⟩ := slotsUsed_onlyTe p i 8 s
  rw [slotSent, hte]
  exact ⟨rfl, rfl, rfl⟩

theorem slot_slotSent {r : Nat} (hr : r < 8) :
    ((slotSent p i k s).teSt (8 * p + r)).slot = max (s.teSt (8 * p + r)).slot (i + 1) := by
  obtain ⟨te, hte⟩ := slotsUsed_onlyTe p i 8 s
  rw [← slot_slotsUsed s hr, slotSent, hte]
  rfl

theorem slotOf_pkts_length : (slotOf p i k s).pkts.length = 8 := by rw [slotOf, List.length_map, List.length_range]

theorem slotOf_pkts {r : Nat} (hr : r < 8) : (slotOf p i k s).pkts.getD r {} = s.handed (8 * p + r) i :=
  getD_map_range (fun r => s.handed (8 * p + r) i) hr {}

/-- What the lanes carry in slot i of refresh k: SLOT, PARAM in slot 0 in RUN, and the eight positions' packets in order (R230). -/
def slotRun (offs : Nat) (sl : PSlot) : FwdRun :=
  { start := .slot i k offs,
    words := (if i = 0 ∧ s.epSt p = 4 then s.paramPacket p s.tl.frame k sl.slotCyc else []) ++
      (List.range 8).flatMap (fun j => rowPacket (8 * p + j) i k (sl.pkts.getD j {})) }

theorem fwd_slotSent : ∃ o < 10, ((slotSent p i k s).port p).fwd = some (slotRun p i k s o (slotOf p i k s)) := by
  obtain ⟨te, hte⟩ := slotsUsed_onlyTe p i 8 s
  have hoffs (x q : Nat) : x % (if q ≤ 1 then 10 else 9) < 10 := by split <;> omega
  refine ⟨_, hoffs s.freeW.toNat (s.epCode p), ?_⟩
  rw [slotSent, hte, port_modPort, sendSlot, port_modPort]
  rfl

end

/-- With fewer than four slots remembered, no RET is lost. -/
theorem retLost_none {p : Nat} {s : State} (h : (s.port p).slots[3]? = none) : retLost p s = s := by
  simp only [retLost, h]

end Sys2Proof.Machine
end

section
/-! SUPPORT. The return of a position (R236, R237) and the frames of the Rill sideband (R248). -/

namespace Sys2Proof.Machine

theorem exec_retReceived (p : Fin 32) (r : Ret) (s : State) : exec (.retReceived p r) s = .next (retAt p.val r s) := rfl
theorem exec_rilSend (ports : BitVec 32) (s : State) : exec (.rilSend ports) s = .next (rilSendAt ports s) := rfl
theorem exec_rillLatchReport (p : Fin 32) (s : State) : exec (.rillLatchReport p) s = .next (latchAt p.val s) := rfl

/-! A RET. -/

/-- A slot once the RET of a position has come. -/
def PSlot.answered (sl : PSlot) (pos : Nat) : PSlot := { sl with got := sl.got ||| BitVec.ofNat 8 (1 <<< pos) }

/-- The port whose one slot has been answered by the position of a RET. -/
def retMarked (p : Nat) (r : Ret) (sl : PSlot) (s : State) : State := modPort p (fun v => { v with slots := [sl.answered r.pos.val] }) s

/-- A RET that fails its CRC counts (R237, R242). -/
def retFailed (p : Nat) (s : State) : State := countMod (F.epErrcntRETCRC.ep p) 1 (modPort p (fun v => { v with win := v.win + 1 }) s)

theorem modPort_congr {p : Nat} {f g : PortState → PortState} {s : State} (h : f (s.port p) = g (s.port p)) : modPort p f s = modPort p g s := by
  rw [modPort, modPort, h]

theorem retAt_unexpected {p : Nat} {r : Ret} {s : State} (h : (s.port p).slots = []) : retAt p r s = s := by
  simp only [retAt, h, List.take_nil, List.find?_nil]

section
variable {p : Nat} {r : Ret} {sl : PSlot} {s : State} (hon : s.epOn p = true) (hst : s.epSt p = 4) (hslots : (s.port p).slots = [sl])
  (hslot : sl.slot = r.slot.val) (hrefresh : sl.refresh = r.refresh.val) (hgot : sl.got.getLsbD r.pos.val = false)
include hon hst hslots hslot hrefresh hgot

theorem retAt_expected : retAt p r s =
    if !r.crcOk then raise (Blk.epN p) 7 { addr := r.pos.val } (retFailed p (retMarked p r sl s))
    else diagRet (8 * p + r.pos.val) r (sl.pkts.getD r.pos.val {}) (retStatus p r (retMarked p r sl s)) := by
  have hfind : List.find? (fun l : PSlot => l.slot == r.slot.val && l.refresh == r.refresh.val && !(l.got.getLsbD r.pos.val)) [sl] = some sl :=
    List.find?_cons_of_pos (by rw [hslot, hrefresh, hgot, BEq.rfl, BEq.rfl]; rfl)
  have hmark : modPort p (fun v => { v with slots := v.slots.map fun x => if x = sl then
      { x with got := x.got ||| BitVec.ofNat 8 (1 <<< r.pos.val) } else x }) s = retMarked p r sl s :=
    modPort_congr (by simp [hslots, PSlot.answered])
  simp only [retAt, hslots, List.take_succ_cons, List.take_nil, hfind, hon, hst, Bool.not_true, Bool.false_eq_true, ne_eq, not_true_eq_false,
    or_self, if_false, hmark]
  rfl

theorem retAt_badCrc (h : r.crcOk = false) : retAt p r s = raise (Blk.epN p) 7 { addr := r.pos.val } (retFailed p (retMarked p r sl s)) := by
  rw [retAt_expected hon hst hslots hslot hrefresh hgot, h]
  rfl

theorem retAt_good (h : r.crcOk = true) : retAt p r s =
    diagRet (8 * p + r.pos.val) r (sl.pkts.getD r.pos.val {}) (retStatus p r (retMarked p r sl s)) := by
  rw [retAt_expected hon hst hslots hslot hrefresh hgot, h]
  rfl

end

theorem slots_retMarked (p : Nat) (r : Ret) (sl : PSlot) (s : State) : ((retMarked p r sl s).port p).slots = [sl.answered r.pos.val] := by
  rw [retMarked, port_modPort]

theorem retFailed_counts (p : Nat) (s : State) :
    (retFailed p s).fld (F.epErrcntRETCRC.ep p) = (s.fld (F.epErrcntRETCRC.ep p) + 1) % 65536 ∧
      ((retFailed p s).port p).win = (s.port p).win + 1 := by
  refine ⟨fld_countMod_same .., ?_⟩
  rw [retFailed, port_countMod, port_modPort]

/-- A RET without errors and status bits only brings its temperature to THM. -/
theorem retStatus_quiet {p : Nat} {r : Ret} (s : State) (hcrc : r.crcErr.toNat = 0) (hlow : r.supplyLow = false) (hpll : r.pllUnlock = false)
    (hril : r.rillBad = false) : ∃ thm, retStatus p r s = { s with thm := thm } ∧ (SMap.find thm.ret (8 * p + r.pos.val)).isSome = true := by
  simp only [retStatus, hcrc, hlow, hpll, hril, if_true, Bool.false_eq_true, or_self, if_false]
  exact ⟨_, rfl, by rw [SMap.find_put_same]; rfl⟩

/-! RIL_SEND. -/

/-- The frames of the first m ports have started, for those that are named. -/
def framesStarted (ports : BitVec 32) (m : Nat) (s : State) : State := forN m (fun p s => if ports.getLsbD p then rilStart p false s else s) s

section
variable {ports : BitVec 32} {s : State}

theorem framesStarted_succ (ports : BitVec 32) (m : Nat) (s : State) : framesStarted ports (m + 1) s =
    if ports.getLsbD m then rilStart m false (framesStarted ports m s) else framesStarted ports m s := forN_succ ..

theorem framesStarted_keeps (ports : BitVec 32) (m : Nat) (s : State) :
    (framesStarted ports m s).flt = s.flt ∧ (framesStarted ports m s).now = s.now := by
  induction m with
  | zero => exact ⟨rfl, rfl⟩
  | succ m ih =>
    rw [framesStarted_succ]
    split
    · exact ih
    · exact ih

/-- A port that is not named, or whose turn has not come, keeps its frame. -/
theorem framesStarted_other {m i : Nat} (h : m ≤ i ∨ ports.getLsbD i = false) :
    SMap.find (framesStarted ports m s).ril i = SMap.find s.ril i := by
  induction m with
  | zero => rfl
  | succ m ih =>
    rw [framesStarted_succ, ← ih (h.imp_left Nat.le_of_succ_le)]
    split
    case isTrue hm =>
      refine SMap.find_put_other _ _ fun him => ?_
      subst him
      obtain h | h := h
      · exact absurd h (Nat.not_succ_le_self i)
      · exact Bool.false_ne_true (h.symm.trans hm)
    case isFalse => rfl

/-- A named port is BUSY with a frame of eight records that firmware has started. -/
theorem framesStarted_named {m i : Nat} (hm : m ≤ 32) (hi : i < m) (h : ports.getLsbD i = true) :
    bit ((framesStarted ports m s).fld F.rilStatBUSY) i = true ∧ ∃ f, SMap.find (framesStarted ports m s).ril i = some f ∧
      f.at_ = s.now ∧ f.assign = false ∧ f.recs.length = 8 := by
  induction m with
  | zero => exact absurd hi (Nat.not_lt_zero i)
  | succ m ih =>
    rw [framesStarted_succ]
    by_cases him : i = m
    · obtain ⟨_, hnow⟩ := framesStarted_keeps ports m s
      subst him
      rw [if_pos h, bit_rilStart_busy (by omega), if_pos rfl]
      exact ⟨rfl, _, SMap.find_put_same .., hnow, rfl, by rw [List.length_map, List.length_range]⟩
    · obtain ⟨hbusy, hframe⟩ := ih (by omega) (by omega)
      split
      · rw [bit_rilStart_busy (by omega), if_neg him]
        refine ⟨hbusy, ?_⟩
        rw [show (rilStart m false (framesStarted ports m s)).ril = SMap.put (framesStarted ports m s).ril m _ from rfl,
          SMap.find_put_other _ _ him]
        exact hframe
      · exact ⟨hbusy, hframe⟩

variable (hreset : s.inReset .ril = false) (hpower : s.pwr.stopped.contains 3 = false)
include hreset hpower

theorem rilSendAt_refused (h : (BitVec.ofNat 32 (s.fld F.rilStatBUSY) &&& ports) ≠ 0) :
    rilSendAt ports s = raise .ril 1 { addr := 0x22020000, mstr := 255, typ := 2 } s := by
  simp only [rilSendAt, hreset, hpower, Bool.false_eq_true, or_self, if_false]
  exact if_pos h

theorem rilSendAt_starts (h : (BitVec.ofNat 32 (s.fld F.rilStatBUSY) &&& ports) = 0) : rilSendAt ports s = framesStarted ports 32 s := by
  simp only [rilSendAt, hreset, hpower, h, Bool.false_eq_true, or_self, if_false, ne_eq, not_true_eq_false]
  rfl

end

/-! The latch of a frame (R248). -/

/-- A frame of port p has been reported latched. -/
def latchShown (p : Nat) (s : State) : State :=
  { s with ril := SMap.erase s.ril p } |> setFld F.rilStatBUSY (setBit (s.fld F.rilStatBUSY) p false) |>
    setFld F.rilStatDONE (setBit (s.fld F.rilStatDONE) p true) |> intr 581

section
variable {p : Nat} {s : State}

theorem latchAt_none (h : SMap.find s.ril p = none) : latchAt p s = s := by
  simp only [latchAt, h]

theorem epSt_latchShown (p : Nat) (s : State) : (latchShown p s).epSt p = s.epSt p := by
  have hst : F.epPstatSTATE.key % 64 = 60 := by decide
  have hbusy : F.rilStatBUSY.key % 64 = 0 := by decide
  have hdone : F.rilStatDONE.key % 64 = 32 := by decide
  have hne {f : Fld} (hf : f.key % 64 ≠ 60) : (F.epPstatSTATE.ep p).key ≠ f.key := by
    rw [key_ep]
    omega
  rw [State.epSt, latchShown, fld_intr, fld_setFld_other _ _ (hne (by omega)), fld_setFld_other _ _ (hne (by omega))]
  rfl

/-- What a report shows: BUSY clear, DONE set, identifier 581. -/
theorem latchShown_shows (hp : p < 32) : bit ((latchShown p s).fld F.rilStatBUSY) p = false ∧ bit ((latchShown p s).fld F.rilStatDONE) p = true ∧
    581 ∈ (latchShown p s).evt ∧ (latchShown p s).flt = s.flt ∧ (latchShown p s).mem = s.mem := by
  refine ⟨?_, ?_, mem_intr_evt .., rfl, rfl⟩
  · rw [latchShown, fld_intr, fld_setFld_other _ _ (by decide)]
    exact (bit_setFld_setBit (f := F.rilStatBUSY) hp ..).trans (if_pos rfl)
  · exact (bit_setFld_setBit (f := F.rilStatDONE) hp ..).trans (if_pos rfl)

variable {f : RilFrame} (hf : SMap.find s.ril p = some f)
include hf

theorem latchAt_early (h : s.now < f.at_ + 1596000) : latchAt p s = s := by
  simp only [latchAt, hf]
  exact if_pos (.inl h)

/-- A frame that ends with no ASSIGN behind it gives the latch to the ASSIGN that started it. -/
theorem latchAt_due (hreset : s.inReset .ril = false) (h : f.at_ + 1596000 ≤ s.now) (hwait : (s.port p).rilWait = false) :
    latchAt p s = if s.epSt p = 1 ∧ f.assign = true then modPort p (fun v => { v with latched := some s.now }) (latchShown p s)
      else latchShown p s := by
  have hst := epSt_latchShown p s
  have hport : (latchShown p s).port p = s.port p := rfl
  have hdue : ¬ (s.now < f.at_ + 1596000 ∨ s.inReset .ril = true) := by
    rw [hreset]
    simpa using h
  simp only [latchShown] at hst hport
  simp only [latchAt, hf, if_neg hdue, hst, hport, hwait, Bool.false_eq_true, if_false]
  by_cases hassign : s.epSt p = 1
  · cases hr : f.assign <;> simp [hassign, latchShown]
  · simp [hassign, latchShown]

end

end Sys2Proof.Machine
end

section
/-! SUPPORT. Emission ports in use (R230, R236, R237, R242, R244, R248). -/

namespace Sys2Proof.Machine

/-- Settles O40: loopbacks by the state they are given in, the end of each kind, lost locks and windows, then slots, RETs and Rill frames. -/
theorem portsInUse : Obligations.PortsInUse := by
  unfold Obligations.PortsInUse
  intro p s hon
  have hp : p.val < 32 := p.isLt
  dsimp only
  simp only [exec_loopNes, exec_loopNep, exec_loopFar, exec_loopEnd, exec_returnBlockLock, exec_returnLockLoss, exec_errWindowClose,
    exec_slotStart, exec_retReceived, exec_rilSend, exec_rillLatchReport]
  refine ⟨fun lane => ⟨fun hst => ⟨⟨_, rfl, ?_⟩, ⟨_, rfl, ?_⟩⟩, fun hst => ⟨?_, ?_⟩⟩, fun pos => ⟨fun hst => ⟨_, rfl, ?_⟩, fun hst => ?_⟩,
    fun hst => ?_, fun lane hst hk => ⟨_, rfl, ?_⟩, fun pos hst hk hend => ⟨_, rfl, ?_⟩, fun hst hend hnow => ⟨_, rfl, ?_⟩, fun h => ?_,
    fun hst h => ?_, fun hst hq => ?_, fun h => ?_, fun hst hwin => ⟨fun hmax => ?_, fun hmax hq => ?_⟩,
    fun i hlast => ?_, fun i k hlast hst hnow hframe hslots => ⟨_, slotOf p i k s, rfl, ?_⟩,
    fun i k hlast hst hnow hframe hfresh => ?_, fun r hslots => ?_,
    fun r sl hst hslots hslot hrefresh hgot => ⟨fun hcrc => ?_, fun hcrc herr hlow hpll hril => ?_, fun hcrc => ?_⟩,
    fun ports hreset hpower => ⟨fun h => ?_, fun h => ⟨_, rfl, ?_⟩⟩, fun hf => ?_,
    fun f hf hreset => ⟨fun hnow => ?_, fun hnow hwait => ⟨_, rfl, ?_⟩⟩⟩
  -- a loopback starts, or is refused
  · rw [loopStart_starts hon hst]
    exact loopReady_looped ..
  · rw [loopStart_starts hon hst]
    exact loopReady_looped ..
  · rw [loopStart_refused hon hst]
  · rw [loopStart_refused hon hst]
  · rw [loopStart_starts hon hst]
    exact loopReady_looped ..
  · rw [loopStart_refused hon hst]
  -- LOOP_END and the lock after it
  · rw [loopEndAt_other hst]
  · have honly := ((PortOnly.prbsCount p s).modPort (fun v => { v with loop := none })).epTo p 0
    have hend : loopEndAt p s = epTo p 0 (modPort p (fun v => { v with loop := none }) (prbsCount p s)) := by
      obtain hk | hk := hk <;> exact loopEndAt_near hon hst hk nofun
    rw [hend]
    refine ⟨epSt_epTo _ _ _ (by decide), ?_, honly.flt, honly.mem⟩
    rw [port_epTo, port_modPort]
    rfl
  · have honly := (PortOnly.prbsCount p s).modPort (fun v => { v with ending := true, trainAt := s.now })
    rw [loopEndAt_far hon hst hk hend, sendWords]
    refine ⟨?_, ?_, ?_, honly.flt⟩
    · exact (fld_prbsCount_ep p s (by decide) (by decide)).trans hst
    · rw [port_modPort, port_modPort]
    · rw [port_modPort, port_modPort]
  · obtain ⟨hrun, hevt, _, _, hflt⟩ := epRun_runs p s
    rw [blockLockAt_runs hon hst hend hnow]
    refine ⟨hrun, ?_, hevt, hflt⟩
    rw [epRun_eq, port_epTo, readyToRun, port_setFlag, port_modPort]
    rfl
  · rw [blockLockAt_other h]
  -- a lock lost in RUN, and the windows
  · rw [lockLossAt_other hst h]
  · obtain ⟨u, hu, hfailed⟩ := errFall_falls hp hq
    exact ⟨u, by rw [lockLossAt_run hon hst, hu], hfailed⟩
  · rw [windowAt_waits h]
  · rw [windowAt_closes hon hst hwin, if_neg (Nat.not_lt.2 hmax)]
    rfl
  · obtain ⟨u, hu, hfailed⟩ := errFall_falls (s := windowBegun p s) hp hq
    exact ⟨u, by rw [windowAt_closes hon hst hwin, if_pos hmax, hu], hfailed⟩
  -- a slot
  · rw [slotAt_none hlast]
  · obtain ⟨hregs, hflt, hmem⟩ := slotSent_keeps p i k s
    have hsent : ((slotSent p i k s).port p).slots = [slotOf p i k s] := by rw [slots_slotSent, hslots]; rfl
    have hgot : (slotOf p i k s).got = 0 := if_neg (by omega)
    rw [slotAt_starts hon hlast (.inr hst) hnow hframe (by rw [hslots]; nofun), retLost_none (by rw [hsent]; rfl)]
    exact ⟨hsent, rfl, rfl, rfl, hgot, slotOf_pkts_length .., fun r hr => slotOf_pkts p i k s hr, fun r hr => slot_slotSent p i k s hr,
      hregs, hflt, hmem⟩
  · obtain ⟨hregs, hflt, hmem⟩ := slotSent_keeps p i k s
    obtain ⟨o, ho, hfwd⟩ := fwd_slotSent p i k s
    refine ⟨slotSent p i k s, slotOf p i k s, _, by rw [slotAt_starts hon hlast hst hnow hframe hfresh], slots_slotSent .., rfl, rfl, rfl,
      slotOf_pkts_length .., hfwd, ⟨o, ho, rfl⟩, hregs, hflt, hmem, fun hcap => ⟨if_pos hcap, fun j hj => ?_⟩⟩
    rw [slotOf_pkts _ _ _ _ hj, handed_notRun hj (by omega)]
  -- a RET
  · rw [retAt_unexpected hslots]
  · obtain ⟨hcount, hwin⟩ := retFailed_counts p (retMarked p r sl s)
    refine ⟨_, by rw [retAt_badCrc hon hst hslots hslot hrefresh hgot hcrc], hcount, hwin.trans ?_⟩
    rw [retMarked, port_modPort]
  · obtain ⟨thm, hquiet, hseen⟩ := retStatus_quiet (retMarked p r sl s) herr hlow hpll hril
    refine ⟨{ retMarked p r sl s with thm := thm }, by rw [retAt_good hon hst hslots hslot hrefresh hgot hcrc, hquiet],
      slots_retMarked p r sl s, rfl, rfl, hseen⟩
  · exact ⟨_, by rw [retAt_good hon hst hslots hslot hrefresh hgot hcrc], slots_retMarked p r sl s, rfl, rfl⟩
  -- RIL_SEND and the latch
  · rw [rilSendAt_refused hreset hpower h]
  · obtain ⟨hflt, _⟩ := framesStarted_keeps ports 32 s
    rw [rilSendAt_starts hreset hpower h]
    exact ⟨hflt, fun i hi hnamed => framesStarted_named (Nat.le_refl 32) hi hnamed, fun i _ hother => framesStarted_other (.inr hother)⟩
  · rw [latchAt_none hf]
  · rw [latchAt_early hf hnow]
  · obtain ⟨hbusy, hdone, hevt, hflt, hmem⟩ := latchShown_shows (s := s) hp
    rw [latchAt_due hf hreset hnow hwait]
    by_cases hassign : s.epSt p = 1 ∧ f.assign = true
    · rw [if_pos hassign]
      exact ⟨hbusy, hdone, hevt, fun _ _ => by rw [port_modPort], hflt, hmem⟩
    · rw [if_neg hassign]
      exact ⟨hbusy, hdone, hevt, fun hst hr => absurd ⟨hst, hr⟩ hassign, hflt, hmem⟩

end Sys2Proof.Machine
end

section
/-! SUPPORT. The forward stream of an emission port (R225, R226, R228 to R230, R232, R233). -/

namespace Sys2Proof.Machine

/-- Settles O41: a run's blocks on its lanes, the fields of control blocks, packets and headers, the line codes, and the run that a slot
begins. -/
theorem forwardStream : Obligations.ForwardStream := by
  unfold Obligations.ForwardStream
  refine ⟨fun r lane b w x _ => ⟨fwdRun_block_zero r lane, fun h => fwdRun_block_word (by rwa [Nat.div_add_mod]), fwdRun_block_beyond⟩,
    fun lane i k o rate ready hlane hi hk ho hrate => ⟨slotBlock_fields lane hi hk ho, trainBlock_fields lane hlane hrate ready⟩,
    fun ws => ⟨packet_length ws, List.take_left' rfl, packet_crc ws⟩,
    fun n i k t hn hi hk => ⟨rowPacket_dark hn hi hk, rowPacket_fields hn hi hk⟩,
    fun p frame k cyc s hk hcyc => paramPacket_fields hk hcyc p frame s,
    fun rate b c => ⟨?_, fun hrate => ?_⟩,
    fun p s => ⟨fckRuns_iff p s, fun hidle lane b => fwdBlock_idle hidle lane b⟩,
    fun p i k s hon hlast hst hnow hframe hfresh => ?_⟩
  · by_cases hrate : rate ≤ 1
    · rw [if_pos hrate, line_length_8b10b b c hrate]
    · rw [if_neg hrate, line_length_64b66b b c (Nat.lt_of_not_le hrate)]
  · rw [line_take_sync b c hrate]
    cases b <;> rfl
  · obtain ⟨o, ho, hfwd⟩ := fwd_slotSent p i k s
    refine ⟨slotSent p i k s, slotOf p i k s, o, ?_, ?_, ho, hfwd⟩
    · rw [exec_slotStart, slotAt_starts hon hlast hst hnow hframe hfresh]
    · rw [slots_slotSent]
      rfl

end Sys2Proof.Machine
end

section
/-! SUPPORT. What an update of DIAG leaves to read: a subpixel's state, its evidence and the command that runs (R254 to R256, R266, R271). -/

namespace Sys2Proof.Machine

@[simp] theorem modDiag_diag (f : DiagState → DiagState) (s : State) : (modDiag f s).diag = f s.diag := rfl

/-- A subpixel reads back what was stored for it, where that is not what an unlisted one reads. -/
theorem sub_setSub_same {v : SubSt} (h : v ≠ {}) (q : Nat) (s : State) : (setSub q v s).sub q = v := by
  rw [State.sub, setSub, modDiag_diag, SMap.store, if_neg h, SMap.get_put_same]

theorem sub_evNote {kind : Nat} (h : kind ≠ 0) (q run : Nat) (s : State) :
    (evNote q kind run s).sub q = { s.sub q with kind := kind, run := run } :=
  sub_setSub_same (fun heq => h (congrArg SubSt.kind heq)) q s

/-- A run that has ended is in the evidence table no more (R255). -/
theorem evRun_evEnd (q : Nat) (s : State) : (evEnd q s).evRun q = none := by
  rw [State.evRun, evEnd, modDiag_diag, List.find?_eq_none]
  intro e he
  have hne : (e.q != q) = true := (List.mem_filter.1 he).2
  simpa using hne

/-- A command of DIAG runs, and its result waits for its completion (R271). -/
def diagBusy (init : Bool) (r : Nat × State) : State :=
  setFld F.diagCmdSTATE 1 (modDiag (fun d => { d with busy := some (r.1, init) }) r.2)

theorem diagBusy_runs (init : Bool) (r : Nat × State) :
    (diagBusy init r).diag.busy = some (r.1, init) ∧ (diagBusy init r).fld F.diagCmdSTATE = 1 :=
  ⟨rfl, fld_setFld_same ..⟩

end Sys2Proof.Machine
end

section
/-! SUPPORT. The commands of DIAG and their completion (R255, R256, R271): which are refused, what each does in each state of its
subpixel, and what shows at the end. -/

namespace Sys2Proof.Machine

theorem exec_diagInit (s : State) : exec .diagInit s = .next (diagCommand diagInitAct true s) := rfl
theorem exec_diagMask (n : Fin 256) (p : Fin 4) (yl xl : Fin 64) (s : State) :
    exec (.diagMask n p yl xl) s = .next (diagCommand (diagSub n p yl xl maskSub) false s) := rfl
theorem exec_diagUnmask (n : Fin 256) (p : Fin 4) (yl xl : Fin 64) (s : State) :
    exec (.diagUnmask n p yl xl) s = .next (diagCommand (diagSub n p yl xl unmaskSub) false s) := rfl
theorem exec_diagClear (n : Fin 256) (p : Fin 4) (yl xl : Fin 64) (s : State) :
    exec (.diagClear n p yl xl) s = .next (diagCommand (diagSub n p yl xl clearSub) false s) := rfl
theorem exec_diagCmdComplete (s : State) : exec .diagCmdComplete s = .next (diagDone s) := rfl

section
variable {act : State → Nat × State} {init : Bool} {s : State} (hreset : s.inReset .diag = false)
include hreset

theorem diagCommand_refused (h : s.fld F.diagCmdSTATE = 1) :
    diagCommand act init s = raise .diag 1 { addr := 0x20300028, mstr := 255, typ := 2 } s := by
  rw [diagCommand, hreset, if_neg Bool.false_ne_true, if_pos h]

theorem diagCommand_taken (h : s.fld F.diagCmdSTATE ≠ 1) : diagCommand act init s = diagBusy init (act s) := by
  rw [diagCommand, hreset, if_neg Bool.false_ne_true, if_neg h]
  rfl

end

/-! What a command makes of its subpixel (R255, R256). -/

/-- A change whose write of the map or the mask plane failed ends with code 3. -/
def changeResult (r : Bool × State) : Nat × State := (if r.1 then 0 else 3, r.2)

section
variable {n p yl xl : Nat} {act : SubSt → Option SubSt} {w : SubSt} {s : State}

theorem diagSub_badPrimary (h : p = 3) : diagSub n p yl xl act s = (1, s) := if_pos h

variable (hp : p ≠ 3)
include hp

theorem diagSub_notSet (h : act (s.sub (subIdx n p yl xl)) = none) : diagSub n p yl xl act s = (5, s) := by
  simp only [diagSub, if_neg hp, h]

theorem diagSub_unchanged (h : act (s.sub (subIdx n p yl xl)) = some (s.sub (subIdx n p yl xl))) : diagSub n p yl xl act s = (0, s) := by
  simp only [diagSub, if_neg hp, h, if_true]

theorem diagSub_masks (h : act (s.sub (subIdx n p yl xl)) = some w) (hfw : w.fw ≠ (s.sub (subIdx n p yl xl)).fw)
    (hst : w.st = (s.sub (subIdx n p yl xl)).st) : diagSub n p yl xl act s =
      changeResult (writeEntry (subIdx n p yl xl) none (setSub (subIdx n p yl xl) { s.sub (subIdx n p yl xl) with fw := w.fw } s)) := by
  have hne : w ≠ s.sub (subIdx n p yl xl) := fun heq => hfw (congrArg SubSt.fw heq)
  simp only [diagSub, if_neg hp, h, if_neg hne, if_pos hst]
  rfl

theorem diagSub_changes (h : act (s.sub (subIdx n p yl xl)) = some w) (hst : w.st ≠ (s.sub (subIdx n p yl xl)).st) :
    diagSub n p yl xl act s =
      changeResult (subTo (subIdx n p yl xl) w.st 1 (setSub (subIdx n p yl xl) { s.sub (subIdx n p yl xl) with fw := w.fw } s)) := by
  have hne : w ≠ s.sub (subIdx n p yl xl) := fun heq => hst (congrArg SubSt.st heq)
  simp only [diagSub, if_neg hp, h, if_neg hne, if_neg hst]
  rfl

end

section
variable {v : SubSt}

theorem maskSub_sound (h : v.st = 0 ∨ v.st = 4) : maskSub v = some { v with fw := true, st := 5 } := by
  rw [maskSub, if_pos h]

theorem maskSub_faulty (h0 : v.st ≠ 0) (h4 : v.st ≠ 4) : maskSub v = some { v with fw := true } := by
  rw [maskSub, if_neg (not_or.2 ⟨h0, h4⟩)]

theorem unmaskSub_masked (h : v.st = 5) : unmaskSub v = some { v with fw := false, st := 4 } := by
  rw [unmaskSub, if_pos h]

theorem unmaskSub_other (h : v.st ≠ 5) : unmaskSub v = some { v with fw := false } := by
  rw [unmaskSub, if_neg h]

theorem clearSub_faulty (h : v.st = 1 ∨ v.st = 2 ∨ v.st = 3) : clearSub v = some { v with st := if v.fw then 5 else 4 } := if_pos h

theorem clearSub_notSet (h1 : v.st ≠ 1) (h2 : v.st ≠ 2) (h3 : v.st ≠ 3) : clearSub v = none :=
  if_neg (not_or.2 ⟨h1, not_or.2 ⟨h2, h3⟩⟩)

/-- Storing a firmware mask that stands already keeps the record. -/
theorem SubSt.with_fw {b : Bool} (h : v.fw = b) : { v with fw := b } = v := by
  subst h
  rfl

end

/-- A change of STATE that STUCK_ON has no part in writes the map and mask plane and pushes an event (R255, R269). -/
theorem subTo_plain {q new : Nat} {s : State} (hnew : new ≠ 3) (hold : (s.sub q).st ≠ 3) (cause : Nat) :
    subTo q new cause s = ((writeEntry q none (setSub q { s.sub q with st := new } s)).1, diagEvent q (s.sub q).st new cause false
      (writeEntry q none (setSub q { s.sub q with st := new } s)).2) := by
  simp only [subTo, if_neg hnew, if_neg hold, beq_eq_false_iff_ne.2 hnew, Bool.false_and]

/-! INIT and the completion of a command (R271). -/

theorem diagInitAct_enabled {s : State} (h : s.inFlag F.diagCtrlEN = true) : diagInitAct s = (2, s) := if_pos h

/-- INIT while idle ends with OK or with the fault of a write. -/
theorem diagInitAct_ends {s : State} (h : s.inFlag F.diagCtrlEN = false) : (diagInitAct s).1 = 0 ∨ (diagInitAct s).1 = 3 := by
  unfold diagInitAct
  simp only [h, Bool.false_eq_true, if_false]
  exact ite_eq_or_eq ..

theorem diagDone_idle {s : State} (h : s.diag.busy = none) : diagDone s = s := by
  rw [diagDone, h]

/-- The result of a command that has run (R271). -/
def diagShown (b : Nat × Bool) (s : State) : State :=
  modDiag (fun d => { d with busy := none, inited := d.inited || (b.2 && b.1 == 0) }) s |> setFld F.diagCmdSTATE 2 |>
    setFld F.diagCmdRESULT b.1 |> intr 277

theorem diagDone_busy {s : State} {b : Nat × Bool} (h : s.diag.busy = some b) : diagDone s = diagShown b s := by
  rw [diagDone, h]
  rfl

theorem diagShown_state (b : Nat × Bool) (s : State) : (diagShown b s).fld F.diagCmdSTATE = 2 :=
  (fld_setFld_other (f := F.diagCmdRESULT) b.1 _ (by decide)).trans (fld_setFld_same ..)

theorem diagShown_result {b : Nat × Bool} (h : b.1 < 256) (s : State) : (diagShown b s).fld F.diagCmdRESULT = b.1 :=
  (fld_setFld_same ..).trans (Nat.mod_eq_of_lt h)

end Sys2Proof.Machine
end

section
/-! SUPPORT. The sweep (R258, R268) and items of evidence (R255, R256, R266). -/

namespace Sys2Proof.Machine

theorem exec_diagSweep (s : State) : exec .diagSweep s = .next (sweepAt s) := rfl
theorem exec_sweepComplete (s : State) : exec .sweepComplete s = .next (sweepDone s) := rfl

/-! When a sweep runs (R258). -/

theorem sweepAt_waits {s : State}
    (h : s.inFlag F.diagCtrlEN = false ∨ s.tl.running = false ∨ s.diag.swept = some (s.tl.frame / 256)) : sweepAt s = s := by
  refine if_neg ?_
  rintro ⟨hen, hrun, hswept, -⟩
  rcases h with h | h | h
  · exact Bool.false_ne_true (h.symm.trans hen)
  · exact Bool.false_ne_true (h.symm.trans hrun)
  · exact hswept h

theorem sweepAt_runs {s : State} (hen : s.inFlag F.diagCtrlEN = true) (hrun : s.tl.running = true)
    (hswept : s.diag.swept ≠ some (s.tl.frame / 256)) (hidle : s.diag.sweeping = false) (hreset : s.inReset .diag = false)
    (hpower : s.pwr.stopped.contains 4 = false) : sweepAt s =
      forN 3145728 sweepOne (modDiag (fun d => { d with swept := some (s.tl.frame / 256), sweeping := true }) s) := by
  refine if_pos ⟨hen, hrun, hswept, ?_, ?_, ?_⟩
  · rw [hidle, Bool.not_false]
  · rw [hreset, Bool.not_false]
  · rw [hpower, Bool.not_false]

theorem sweepDone_sweeping {s : State} (h : s.diag.sweeping = true) :
    sweepDone s = intr 280 (modDiag (fun d => { d with sweeping := false }) s) := if_pos h

theorem sweepDone_idle {s : State} (h : s.diag.sweeping = false) : sweepDone s = s := if_neg (ne_true_of_eq_false h)

/-! One entry at the sweep, once it has been read (R258, R268). -/

/-- The read of a subpixel's map entry. -/
def mapRead (q : Nat) (s : State) : Except VErr (List Byte) × State :=
  ioRead { mstr := 255 } .rt false (s.fld F.mmuRtAsidASID) (s.fld F.diagMapVaVA + 4 * q) 4 s

section
variable {q : Nat} {l : List Byte} {s : State} (hread : (mapRead q s).1 = .ok l)
include hread

/-- An entry that DRIVE_OK has verified since the last sweep: it carries the stamp of the sweep, and is written where it did not. -/
theorem sweepOne_verified (hver : SMap.get (mapRead q s).2.diag.ver q false = true) :
    sweepOne q s = if leAt l 0 2 = (mapRead q s).2.stamp ∧ q ∉ (mapRead q s).2.diag.dirty then
        modDiag (fun d => { d with ver := SMap.erase d.ver q }) (mapRead q s).2
      else (writeEntry q (some (mapRead q s).2.stamp) (modDiag (fun d => { d with ver := SMap.erase d.ver q }) (mapRead q s).2)).2 := by
  simp only [mapRead] at hread hver ⊢
  simp only [sweepOne, hread, hver, if_true, modDiag_diag, Bool.not_eq_true', List.contains_eq_mem, decide_eq_false_iff_not]
  rfl

/-- An entry that nothing has verified: an OK entry past its age is UNVERIFIED, and a failed write is made again. -/
theorem sweepOne_unverified (hver : SMap.get (mapRead q s).2.diag.ver q false = false) :
    sweepOne q s = if ((mapRead q s).2.sub q).st = 0 ∧
          (mapRead q s).2.inF F.diagCtrlAGEMAX < ((mapRead q s).2.stamp + 65536 - leAt l 0 2) % 65536 then
        (subTo q 4 2 (mapRead q s).2).2
      else if q ∈ (mapRead q s).2.diag.dirty then (writeEntry q none (mapRead q s).2).2 else (mapRead q s).2 := by
  simp only [mapRead] at hread hver ⊢
  simp only [sweepOne, hread, hver, Bool.false_eq_true, if_false, List.contains_eq_mem, decide_eq_true_eq]
  rfl

end

/-! Items of evidence (R255, R256, R258). -/

/-- A first item of LEAK, OPEN or SHORT takes a place in the evidence table (R266). -/
def evAdded (q kind : Nat) (s : State) : State := modDiag (fun d => { d with table := s.diag.table ++ [⟨q, kind, 1⟩] }) s

theorem evCount_first {q : Nat} {s : State} (kind : Nat) (hrun : s.evRun q = none) (hroom : s.diag.table.length < 4096) :
    evCount q kind s = (some 1, evAdded q kind s) := by
  simp only [evCount, hrun, if_pos hroom]
  rfl

theorem evRun_evAdded {q : Nat} {s : State} (kind : Nat) (hrun : s.evRun q = none) : (evAdded q kind s).evRun q = some ⟨q, kind, 1⟩ := by
  simp only [State.evRun] at hrun
  simp only [State.evRun, evAdded, modDiag_diag, List.find?_append, hrun, Option.none_or, List.find?_singleton, BEq.rfl, if_true]

/-- A first item that needs confirmation only notes its kind and run. -/
theorem evidence_unconfirmed {q kind : Nat} {s : State} (hkind : 3 ≤ kind) (hrun : s.evRun q = none) (hroom : s.diag.table.length < 4096)
    (hconfirm : 1 < s.confirm kind) : evidence q kind s = evNote q kind 1 (evAdded q kind s) := by
  have hstill : 1 < (evNote q kind 1 (evAdded q kind s)).confirm kind := hconfirm
  simp only [evidence, if_neg (Nat.not_le.2 hkind), evCount_first kind hrun hroom, if_pos hstill]

/-- The subpixel after an item of DRIVE_OK, before any change of its STATE: it is verified, and its run of faults has ended (R258). -/
def driveNoted (q : Nat) (s : State) : State :=
  modDiag (fun d => { d with ver := SMap.put d.ver q true })
    (evNote q 1 (if (s.sub q).kind = 1 then min ((s.sub q).run + 1) 15 else 1) (evEnd q s))

theorem driveNoted_verified (q : Nat) (s : State) : SMap.get (driveNoted q s).diag.ver q false = true := SMap.get_put_same ..

theorem sub_driveNoted_st (q : Nat) (s : State) : ((driveNoted q s).sub q).st = (s.sub q).st := by
  show ((evNote q 1 _ (evEnd q s)).sub q).st = _
  rw [sub_evNote Nat.one_ne_zero]
  rfl

theorem evRun_driveNoted (q : Nat) (s : State) : (driveNoted q s).evRun q = none := evRun_evEnd q s

theorem evidence_driveOk {q : Nat} {s : State} (h : (s.sub q).st = 4) : evidence q 1 s = (subTo q 0 0 (driveNoted q s)).2 := by
  simp only [evidence, Nat.one_le_ofNat, if_true, OfNat.one_ne_ofNat, if_false, if_pos h]
  rfl

end Sys2Proof.Machine
end

section
/-! SUPPORT. Pixel diagnostics (R254 to R258, R268 to R271). -/

namespace Sys2Proof.Machine

/-- Settles O42: a command while one is BUSY, primary 3, each command by the state of its subpixel, INIT, completion, the sweep and
its entries, and items of evidence. -/
theorem diagnostics : Obligations.Diagnostics := by
  unfold Obligations.Diagnostics
  intro n p yl xl s q v busy done
  have hdone : done = fun r => diagBusy false (changeResult r) := rfl
  have hbusy : busy = fun r init u => diagBusy init (r, u) := rfl
  clear_value done busy
  subst hdone hbusy v q
  dsimp only
  simp only [exec_diagInit, exec_diagMask, exec_diagUnmask, exec_diagClear, exec_diagCmdComplete, exec_diagSweep, exec_sweepComplete]
  have hprim (h : p ≠ 3) : p.val ≠ 3 := fun heq => h (Fin.ext heq)
  refine ⟨fun hreset hbusy => ?_, fun ⟨hreset, hidle⟩ hp => ?_, fun ⟨hreset, hidle⟩ hp => ⟨fun h => ?_, fun h0 h4 hfw => ?_, fun h0 h4 hfw => ?_,
      fun h => ?_, fun h hfw => ?_, fun h hfw => ?_, fun h => ?_, fun h1 h2 h3 => ?_⟩,
    fun new cause hnew hold => ?_, fun ⟨hreset, hidle⟩ hen => ?_, fun ⟨hreset, hidle⟩ hen => ?_, fun h => ?_, fun b hb hr => ?_,
    fun h => ?_, fun hen hrun hswept hsweeping hreset hpower => ?_,
    fun l hread => ⟨fun hver => ⟨fun hold => ?_, fun hold hdirty => ?_, fun hold hdirty => ?_⟩, fun hver => ⟨fun h => ?_, fun hst hdirty => ?_⟩⟩,
    fun h => ?_, fun h => ?_, fun kind hlow _ hrun hroom hconfirm => ?_, fun h => ?_⟩
  -- a command while one is BUSY, and primary 3
  · simp only [diagCommand_refused hreset hbusy, and_self]
  · have hbad : p.val = 3 := congrArg Fin.val hp
    simp only [diagCommand_taken hreset hidle, diagSub_badPrimary hbad, and_self]
  -- MASK
  · rw [diagCommand_taken hreset hidle, diagSub_changes (hprim hp) (maskSub_sound h) (by dsimp only; omega)]
  · rw [diagCommand_taken hreset hidle, diagSub_masks (hprim hp) (maskSub_faulty h0 h4) (by simp [hfw]) rfl]
  · rw [diagCommand_taken hreset hidle, diagSub_unchanged (hprim hp) ((maskSub_faulty h0 h4).trans (congrArg some (SubSt.with_fw hfw)))]
  -- UNMASK
  · rw [diagCommand_taken hreset hidle, diagSub_changes (hprim hp) (unmaskSub_masked h) (by dsimp only; omega)]
  · rw [diagCommand_taken hreset hidle, diagSub_masks (hprim hp) (unmaskSub_other h) (by simp [hfw]) rfl]
  · rw [diagCommand_taken hreset hidle, diagSub_unchanged (hprim hp) ((unmaskSub_other h).trans (congrArg some (SubSt.with_fw hfw)))]
  -- CLEAR
  · rw [diagCommand_taken hreset hidle, diagSub_changes (hprim hp) (clearSub_faulty h) (by dsimp only; split <;> omega)]
  · rw [diagCommand_taken hreset hidle, diagSub_notSet (hprim hp) (clearSub_notSet h1 h2 h3)]
  -- a change of STATE, INIT and the completion of a command
  · exact subTo_plain hnew hold cause
  · rw [diagCommand_taken hreset hidle, diagInitAct_enabled hen]
  · obtain ⟨hresult, hruns⟩ := diagBusy_runs true (diagInitAct s)
    exact ⟨_, _, congrArg _ (diagCommand_taken hreset hidle), hresult, diagInitAct_ends hen, hruns⟩
  · rw [diagDone_idle h]
  · exact ⟨_, congrArg _ (diagDone_busy hb), rfl, diagShown_state b s, diagShown_result (by omega) s, rfl, mem_intr_evt .., rfl, rfl, rfl⟩
  -- the sweep
  · rw [sweepAt_waits h]
  · rw [sweepAt_runs hen hrun hswept hsweeping hreset hpower]
    rfl
  · rw [sweepOne_unverified hread hver]
    exact if_pos hold
  · rw [sweepOne_unverified hread hver]
    exact (if_neg hold).trans (if_neg hdirty)
  · rw [sweepOne_unverified hread hver]
    exact (if_neg hold).trans (if_pos hdirty)
  · rw [sweepOne_verified hread hver]
    exact if_neg fun hboth => h.elim (absurd hboth.1) hboth.2
  · rw [sweepOne_verified hread hver]
    exact if_pos ⟨hst, hdirty⟩
  · rw [sweepDone_sweeping h]
    rfl
  · rw [sweepDone_idle h]
  -- evidence
  · have hnoted := sub_evNote (kind := kind) (by omega) (subIdx n p yl xl) 1 (evAdded (subIdx n p yl xl) kind s)
    rw [evidence_unconfirmed hlow hrun hroom hconfirm, hnoted]
    exact ⟨rfl, rfl, rfl, evRun_evAdded kind hrun, rfl, rfl, rfl⟩
  · exact ⟨driveNoted (subIdx n p yl xl) s, evidence_driveOk h, (sub_driveNoted_st _ s).trans h, driveNoted_verified _ s, evRun_driveNoted _ s⟩

end Sys2Proof.Machine
end

section
/-! SUPPORT. The registers and the engine of a rail: what each reads after an update, and what an operation on rails leaves unchanged
(R273 to R288). -/

namespace Sys2Proof.Machine

/-- Fields at different bits of their registers are different fields, whatever the registers. -/
theorem key_ne_of_lo {f g : Fld} (h : g.lo < 64 ∧ f.lo < 64 ∧ g.lo ≠ f.lo) : g.key ≠ f.key := by
  simp only [Fld.key]
  omega

@[simp] theorem rail_setRail_same (k : Nat) (v : RailState) (s : State) : (setRail k v s).rail k = v := SMap.get_put_same ..

theorem rail_setRail_other {j k : Nat} (h : j ≠ k) (v : RailState) (s : State) : (setRail k v s).rail j = s.rail j :=
  SMap.get_put_other _ _ _ h

@[simp] theorem fld_setRail (g : Fld) (k : Nat) (v : RailState) (s : State) : (setRail k v s).fld g = s.fld g := rfl
@[simp] theorem railSt_setRail (j k : Nat) (v : RailState) (s : State) : (setRail k v s).railSt j = s.railSt j := rfl
@[simp] theorem setRail_evt (k : Nat) (v : RailState) (s : State) : (setRail k v s).evt = s.evt := rfl
@[simp] theorem rail_setFld (k : Nat) (f : Fld) (v : Nat) (s : State) : (setFld f v s).rail k = s.rail k := rfl

/-! What stands beside the rails. -/

/-- A field of a register in the window of rail k. -/
abbrev Fld.ofRail (f : Fld) (k : Nat) : Prop :=
  0x23000000 * 64 + k * 0x1000 * 64 ≤ f.key ∧ f.key < 0x23001000 * 64 + k * 0x1000 * 64

theorem ofRail_rail {f : Fld} (h : f.ofRail 0) (k : Nat) : (f.rail k).ofRail k := by
  simp only [Fld.ofRail, Fld.rail, key_at, Nat.zero_mul, Nat.add_zero] at h ⊢
  omega

/-- The register of phase i of a rail lies in the rail's window. -/
theorem ofRail_phase {f : Fld} {i : Nat} (h : 0x23000080 * 64 ≤ f.key ∧ f.key < 0x23000088 * 64) (hi : i < 4) (k : Nat) :
    ((f.rail k).at (8 * i)).ofRail k := by
  simp only [Fld.ofRail, Fld.rail, key_at]
  omega

theorem not_ofRail_other {f : Fld} {j k : Nat} (h : f.ofRail 0) (hjk : j ≠ k) : ¬ (f.rail j).ofRail k := by
  simp only [Fld.ofRail, Fld.rail, key_at, Nat.zero_mul, Nat.add_zero] at h ⊢
  omega

/-- Between s and t nothing changed but the engines of the rails that satisfy P and the registers in their windows, and interrupts
that became pending. -/
structure RailsOnly (P : Nat → Prop) (s t : State) : Prop where
  eq : t = { s with regs := t.regs, rails := t.rails, evt := t.evt }
  rail : ∀ j, ¬ P j → t.rail j = s.rail j
  fld : ∀ f : Fld, (∀ j, P j → ¬ f.ofRail j) → t.fld f = s.fld f
  evt : ∀ i ∈ s.evt, i ∈ t.evt

/-- Nothing changed but rail k. -/
abbrev RailOnly (k : Nat) : State → State → Prop := RailsOnly (· = k)

namespace RailsOnly

variable {P Q : Nat → Prop} {k : Nat} {s t u : State}

theorem refl (P : Nat → Prop) (s : State) : RailsOnly P s s := ⟨rfl, fun _ _ => rfl, fun _ _ => rfl, fun _ => id⟩

theorem trans (h : RailsOnly P s t) (h' : RailsOnly P t u) : RailsOnly P s u where
  eq := by rw [h'.eq, h.eq]
  rail j hj := (h'.rail j hj).trans (h.rail j hj)
  fld f hf := (h'.fld f hf).trans (h.fld f hf)
  evt i hi := h'.evt i (h.evt i hi)

theorem mono (h : RailsOnly P s t) (hPQ : ∀ j, P j → Q j) : RailsOnly Q s t where
  eq := h.eq
  rail j hj := h.rail j fun hp => hj (hPQ j hp)
  fld f hf := h.fld f fun j hp => hf j (hPQ j hp)
  evt := h.evt

theorem forN {n : Nat} {f : Nat → State → State} (hf : ∀ i t, i < n → RailsOnly P t (f i t)) (s : State) :
    RailsOnly P s (forN n f s) := by
  induction n with
  | zero => exact refl P s
  | succ n ih =>
    rw [forN_succ]
    exact (ih fun i t hi => hf i t (Nat.lt_succ_of_lt hi)).trans (hf n _ (Nat.lt_succ_self n))

theorem setFld (h : RailOnly k s t) {f : Fld} (hf : f.ofRail k) (v : Nat) : RailOnly k s (setFld f v t) :=
  h.trans ⟨rfl, fun _ _ => rfl, fun _ hg => fld_setFld_other v t fun hk => hg k rfl (by rw [Fld.ofRail, hk]; exact hf), fun _ => id⟩

theorem setFlag (h : RailOnly k s t) {f : Fld} (hf : f.ofRail k) (v : Bool) : RailOnly k s (setFlag f v t) := h.setFld hf _

theorem setRail (h : RailOnly k s t) (v : RailState) : RailOnly k s (setRail k v t) :=
  h.trans ⟨rfl, fun _ hj => rail_setRail_other hj v t, fun _ _ => rfl, fun _ => id⟩

theorem intr (h : RailsOnly P s t) (id : Nat) : RailsOnly P s (intr id t) :=
  h.trans ⟨rfl, fun _ _ => rfl, fun _ _ => rfl, fun _ => mem_evt_intr id⟩

section
variable (h : RailsOnly P s t)
include h

theorem flt : t.flt = s.flt := by rw [h.eq]
theorem mem : t.mem = s.mem := by rw [h.eq]
theorem inF (f : Fld) : t.inF f = s.inF f := by rw [h.eq]; rfl
theorem railReset (j : Nat) : t.railReset j = s.railReset j := by rw [h.eq]; rfl

/-- The registers of a rail outside P stand. -/
theorem fld_rail {f : Fld} (hf : f.ofRail 0) {j : Nat} (hj : ¬ P j) : t.fld (f.rail j) = s.fld (f.rail j) :=
  h.fld _ fun _ hi => not_ofRail_other hf fun hji => hj (hji ▸ hi)

theorem flag_rail {f : Fld} (hf : f.ofRail 0) {j : Nat} (hj : ¬ P j) : t.flag (f.rail j) = s.flag (f.rail j) := by
  simp only [State.flag, h.fld_rail hf hj]

theorem railSt {j : Nat} (hj : ¬ P j) : t.railSt j = s.railSt j := h.fld_rail (f := F.railStatSTATE) (by decide) hj

end

/-- Faults, memory and the other rails stand. -/
theorem kept (h : RailOnly k s t) :
    t.flt = s.flt ∧ t.mem = s.mem ∧ ∀ j, j < 24 → j ≠ k → t.rail j = s.rail j ∧ t.railSt j = s.railSt j :=
  ⟨h.flt, h.mem, fun j _ hj => ⟨h.rail j hj, h.railSt hj⟩⟩

end RailsOnly

end Sys2Proof.Machine
end

section
/-! SUPPORT. The operations that the states of a rail share: entry to a state, the phases, the target, HOLD, TRACK and OFF (R273 to R276,
R285). -/

namespace Sys2Proof.Machine

/-! Entry to a state (Table: Rail states, R288). -/

section
variable (k st : Nat) (s : State)

theorem railTo_eq : railTo k st s =
    { setFld (F.railStatSTATE.rail k) st s with evt := if st = 2 ∨ st = 3 ∨ st = 4 then insertN (584 + k) s.evt else s.evt } := by
  unfold railTo
  split <;> rfl

theorem fld_railTo (g : Fld) : (railTo k st s).fld g = (setFld (F.railStatSTATE.rail k) st s).fld g := by rw [railTo_eq]; rfl

@[simp] theorem rail_railTo (j : Nat) : (railTo k st s).rail j = s.rail j := by rw [railTo_eq]; rfl

theorem railSt_railTo (h : st < 8) : (railTo k st s).railSt k = st := by
  rw [State.railSt, fld_railTo, fld_setFld_same]
  exact Nat.mod_eq_of_lt h

/-- Entry to HOLD, TRACK and FAULT raises identifier 584 + k (R288). -/
theorem mem_railTo_evt (h : st = 2 ∨ st = 3 ∨ st = 4) : 584 + k ∈ (railTo k st s).evt := by
  rw [railTo_eq, if_pos h]
  exact mem_insertN ..

theorem RailsOnly.railTo {s t : State} (h : RailOnly k s t) : RailOnly k s (railTo k st t) := by
  have hset := h.setFld (ofRail_rail (f := F.railStatSTATE) (by decide) k) st
  unfold Machine.railTo
  split
  · exact hset.intr _
  · exact hset

end

/-! The phases that regulate (R280). -/

section
variable (k n : Nat) (s : State)

/-- The n healthy phases of lowest index, as PHACTIVE shows them. -/
def State.phaseMask (s : State) (k n : Nat) : Nat := ((s.healthy k).take n).foldl (fun m i => m + 2 ^ i) 0

/-- A reading that no ACTIVE bit changes sees only the write of PHACTIVE. -/
theorem setPhases_reads {γ : Type} (g : State → γ) (hg : ∀ i v t, g (setFlag ((F.railPhACTIVE.rail k).at (8 * i)) v t) = g t) :
    g (setPhases k n s) = g (setFld (F.railStatPHACTIVE.rail k) (s.phaseMask k n) s) :=
  forN_keeps g 4 _ (fun i t => hg i _ t) _

@[simp] theorem rail_setPhases (j : Nat) : (setPhases k n s).rail j = s.rail j := setPhases_reads k n s (State.rail · j) fun _ _ _ => rfl
@[simp] theorem setPhases_evt : (setPhases k n s).evt = s.evt := setPhases_reads k n s State.evt fun _ _ _ => rfl

theorem fld_setPhases_shown {g : Fld} (h : g.lo < 64 ∧ g.lo ≠ 30) :
    (setPhases k n s).fld g = (setFld (F.railStatPHACTIVE.rail k) (s.phaseMask k n) s).fld g :=
  setPhases_reads k n s (State.fld · g) fun _ _ t => fld_setFld_other _ t (key_ne_of_lo ⟨h.1, (by decide : 30 < 64), h.2⟩)

/-- The phases are shown by PHACTIVE and by ACTIVE of each, and by nothing else. -/
theorem fld_setPhases {g : Fld} (h : g.lo < 64 ∧ g.lo ≠ 57 ∧ g.lo ≠ 30) : (setPhases k n s).fld g = s.fld g := by
  obtain ⟨hlo, hcount, hphase⟩ := h
  rw [fld_setPhases_shown k n s ⟨hlo, hphase⟩]
  exact fld_setFld_other _ s (key_ne_of_lo ⟨hlo, (by decide : 57 < 64), hcount⟩)

@[simp] theorem railSt_setPhases (j : Nat) : (setPhases k n s).railSt j = s.railSt j :=
  fld_setPhases k n s (by decide : 61 < 64 ∧ 61 ≠ 57 ∧ 61 ≠ 30)

/-- With no phase PHACTIVE shows 0. -/
theorem setPhases_zero : (setPhases k 0 s).fld (F.railStatPHACTIVE.rail k) = 0 := by
  rw [fld_setPhases_shown k 0 s (by decide : 57 < 64 ∧ 57 ≠ 30), fld_setFld_same]
  exact Nat.zero_mod _

theorem RailsOnly.setPhases {s t : State} (h : RailOnly k s t) : RailOnly k s (setPhases k n t) :=
  (h.setFld (ofRail_rail (f := F.railStatPHACTIVE) (by decide) k) _).trans
    (RailsOnly.forN (fun _ u hi => (RailsOnly.refl _ u).setFlag (ofRail_phase (f := F.railPhACTIVE) (by decide) hi k) _) _)

end

/-! The target (R285). -/

/-- Where the target of a rail moves: the goal of its newest stretch. -/
def State.railAim (s : State) (k : Nat) : Option Nat := ((s.rail k).segs.map (fun g => g.goal)).head?

section
variable (k v : Nat) (s : State)

@[simp] theorem railAim_railGoal : (railGoal k v s).railAim k = some v := by simp [State.railAim, railGoal]
@[simp] theorem railGoal_eff : ((railGoal k v s).rail k).eff = (s.rail k).eff := by simp [railGoal]
@[simp] theorem railSt_railGoal (j : Nat) : (railGoal k v s).railSt j = s.railSt j := rfl
@[simp] theorem railGoal_evt : (railGoal k v s).evt = s.evt := rfl

theorem RailsOnly.railGoal {s t : State} (h : RailOnly k s t) : RailOnly k s (railGoal k v t) := h.setRail _

/-- A stretch begins at the value it moves from. -/
theorem RailSeg.at_start (g : RailSeg) : g.at g.t0 = g.v := by
  simp only [RailSeg.at, Nat.sub_self, Nat.mul_zero, Nat.zero_div, Nat.add_zero, Nat.sub_zero]
  split <;> omega

end

/-! HOLD (R276). -/

section
variable (k : Nat) (s : State)

/-- HOLD before its target moves: the lowest healthy phase, and no setpoint. -/
def railHeld (k : Nat) (s : State) : State :=
  let t := setPhases k 1 (railTo k 2 s)
  setRail k { t.rail k with eff := none } t

theorem railHold_eq : railHold k s =
    if (s.rail k).slewOff then railHeld k s else railGoal k ((railHeld k s).inF (F.railVlimVIDLE.rail k)) (railHeld k s) := by
  have hslew : ((railHeld k s).rail k).slewOff = (s.rail k).slewOff := by simp [railHeld]
  rw [← hslew]
  rfl

theorem RailsOnly.railHeld {s t : State} (h : RailOnly k s t) : RailOnly k s (railHeld k t) := ((h.railTo k 2).setPhases k 1).setRail _

theorem RailsOnly.railHold {s t : State} (h : RailOnly k s t) : RailOnly k s (railHold k t) := by
  rw [railHold_eq]
  split
  · exact h.railHeld k
  · exact (h.railHeld k).railGoal k _

theorem fld_railHold (g : Fld) : (railHold k s).fld g = (setPhases k 1 (railTo k 2 s)).fld g := by
  rw [railHold_eq]
  split <;> rfl

theorem railHold_evt : (railHold k s).evt = (railTo k 2 s).evt := by
  rw [railHold_eq]
  split <;> simp [railHeld]

@[simp] theorem railSt_railHold : (railHold k s).railSt k = 2 := by
  rw [State.railSt, fld_railHold, ← State.railSt, railSt_setPhases, railSt_railTo k 2 s (by decide)]

@[simp] theorem mem_railHold_evt : 584 + k ∈ (railHold k s).evt := by
  rw [railHold_evt]
  exact mem_railTo_evt k 2 s (by decide)

@[simp] theorem railHold_eff : ((railHold k s).rail k).eff = none := by
  rw [railHold_eq]
  split <;> simp [railHeld]

theorem railAim_railHold {k : Nat} {s : State} (h : (s.rail k).slewOff = false) :
    (railHold k s).railAim k = some (s.inF (F.railVlimVIDLE.rail k)) := by
  rw [railHold_eq, h, if_neg Bool.false_ne_true, railAim_railGoal, ((RailsOnly.refl _ s).railHeld k).inF]

end

/-! TRACK (R282). -/

section
variable (k v n : Nat) (s : State)

@[simp] theorem railAim_railApplySet : (railApplySet k v n s).railAim k = some v := railAim_railGoal ..

@[simp] theorem railApplySet_eff : ((railApplySet k v n s).rail k).eff = some (v, n) := by simp [railApplySet]

@[simp] theorem railSt_railApplySet (j : Nat) : (railApplySet k v n s).railSt j = s.railSt j := by simp [railApplySet]

@[simp] theorem railApplySet_evt : (railApplySet k v n s).evt = s.evt := by simp [railApplySet]

theorem RailsOnly.railApplySet {s t : State} (h : RailOnly k s t) : RailOnly k s (railApplySet k v n t) :=
  ((h.setRail _).setPhases k _).railGoal k v

end

/-! OFF (R273). -/

section
variable (k : Nat) (s : State)

@[simp] theorem railSt_railOff : (railOff k s).railSt k = 0 := by simp [railOff, railSt_railTo]

@[simp] theorem railOff_segs : ((railOff k s).rail k).segs = [] := by simp [railOff]

/-- OFF changes no field of the rail's registers but STATE and the phases. -/
theorem fld_railOff {g : Fld} (h : g.lo < 64 ∧ g.lo ≠ 57 ∧ g.lo ≠ 30 ∧ g.lo ≠ 61) : (railOff k s).fld g = s.fld g := by
  obtain ⟨hlo, hcount, hphase, hst⟩ := h
  show (setPhases k 0 (railTo k 0 s)).fld g = _
  rw [fld_setPhases k 0 _ ⟨hlo, hcount, hphase⟩, fld_railTo]
  exact fld_setFld_other _ _ (key_ne_of_lo ⟨hlo, (by decide : 61 < 64), hst⟩)

theorem flag_railOff {g : Fld} (h : g.lo < 64 ∧ g.lo ≠ 57 ∧ g.lo ≠ 30 ∧ g.lo ≠ 61) : (railOff k s).flag g = s.flag g := by
  simp only [State.flag, fld_railOff k s h]

theorem railTarget_railOff : (railOff k s).railTarget k = 0 := by simp [State.railTarget, State.railOn]

theorem RailsOnly.railOff {s t : State} (h : RailOnly k s t) : RailOnly k s (railOff k t) := ((h.railTo k 0).setPhases k 0).setRail _

end

end Sys2Proof.Machine
end

section
/-! SUPPORT. The states of a rail from START to OFF and RESTART (R274 to R279): when each operation acts, and what it leaves. -/

namespace Sys2Proof.Machine

theorem exec_railStart (k : Fin 24) (s : State) : exec (.railStart k) s = .next (railStartAt k s) := rfl
theorem exec_railHoldEntry (k : Fin 24) (v : BitVec 16) (s : State) : exec (.railHoldEntry k v) s = .next (railHoldEntryAt k v.toNat s) := rfl
theorem exec_railTrackEntry (k : Fin 24) (s : State) : exec (.railTrackEntry k) s = .next (railTrackEntryAt k s) := rfl
theorem exec_railTrackExit (k : Fin 24) (s : State) : exec (.railTrackExit k) s = .next (railTrackExitAt k s) := rfl
theorem exec_railSlewOff (k : Fin 24) (s : State) : exec (.railSlewOff k) s = .next (railSlewOffAt k s) := rfl
theorem exec_railRestart (k : Fin 24) (s : State) : exec (.railRestart k) s = .next (railRestartAt k s) := rfl

/-! A sample of VSENSE (R286, R287). -/

section
variable (k v : Nat) (s : State)

theorem RailsOnly.railSense {s t : State} (h : RailOnly k s t) : RailOnly k s (railSense k v t) := by
  have hset := h.setFld (ofRail_rail (f := F.railStatVSENSE) (by decide) k) v
  unfold Machine.railSense
  dsimp only
  split
  · exact hset.setRail _
  · exact hset

theorem fld_railSense (g : Fld) : (railSense k v s).fld g = (setFld (F.railStatVSENSE.rail k) v s).fld g := by
  unfold railSense
  dsimp only
  split <;> rfl

theorem railSense_vsense : (railSense k v s).fld (F.railStatVSENSE.rail k) = v % 2 ^ 16 := by
  rw [fld_railSense]
  exact fld_setFld_same ..

@[simp] theorem railSt_railSense (j : Nat) : (railSense k v s).railSt j = s.railSt j :=
  (fld_railSense k v s _).trans (fld_setFld_other v s (key_ne_of_lo (by decide : 61 < 64 ∧ 32 < 64 ∧ 61 ≠ 32)))

@[simp] theorem railSense_slewOff : ((railSense k v s).rail k).slewOff = (s.rail k).slewOff := by
  unfold railSense
  dsimp only
  split <;> simp

end

/-! START (R274, R275). -/

section
variable {k : Nat} {s : State}

/-- The stretch of the target in START: from the sensed output to V_IDLE. -/
def State.startSeg (s : State) (k : Nat) : RailSeg :=
  ⟨s.now, s.fld (F.railStatVSENSE.rail k), s.inF (F.railVlimVIDLE.rail k),
    if s.fld (F.railStatVSENSE.rail k) ≤ s.inF (F.railVlimVIDLE.rail k) then s.inF (F.railSlewSLEWUP.rail k)
    else s.inF (F.railSlewSLEWDN.rail k)⟩

/-- A rail that has entered START. -/
def railStarted (k : Nat) (s : State) : State :=
  setRail k { s.rail k with slewOff := false, startAt := s.now, segs := [s.startSeg k], low := false } (setPhases k 1 (railTo k 1 s))

theorem railStartAt_refused (h : s.startOk k = false) : railStartAt k s = s := if_neg (by simp [h])

theorem railStartAt_starts (h : s.startOk k = true) : railStartAt k s = railStarted k s := if_pos h

theorem railOnly_railStarted (k : Nat) (s : State) : RailOnly k s (railStarted k s) :=
  (((RailsOnly.refl _ s).railTo k 1).setPhases k 1).setRail _

theorem railSt_railStarted (k : Nat) (s : State) : (railStarted k s).railSt k = 1 := by simp [railStarted, railSt_railTo]

theorem rail_railStarted (k : Nat) (s : State) :
    (railStarted k s).rail k = { s.rail k with slewOff := false, startAt := s.now, segs := [s.startSeg k], low := false } :=
  rail_setRail_same ..

/-- The target begins at the sensed output. -/
theorem railTarget_railStarted (k : Nat) (s : State) : (railStarted k s).railTarget k = s.fld (F.railStatVSENSE.rail k) := by
  have hnow : (railStarted k s).now = (s.startSeg k).t0 := by rw [(railOnly_railStarted k s).eq]; rfl
  simp only [State.railTarget, State.railOn, railSt_railStarted, rail_railStarted, hnow, RailSeg.at_start]
  rfl

end

/-! HOLD (R275, R276). -/

section
variable {k v : Nat} {s : State}

theorem railHoldEntryAt_reset (h : s.railReset k = true) (v : Nat) : railHoldEntryAt k v s = s := if_pos h

/-- VSENSE is within UV_MARGIN of V_IDLE. -/
abbrev State.nearIdle (s : State) (k v : Nat) : Prop :=
  s.inF (F.railVlimVIDLE.rail k) ≤ v + 10 * s.fld (F.railProtUVMARGIN.rail k) ∧
  v ≤ s.inF (F.railVlimVIDLE.rail k) + 10 * s.fld (F.railProtUVMARGIN.rail k)

section
variable (hreset : s.railReset k = false)
include hreset

theorem railHoldEntryAt_eq :
    railHoldEntryAt k v s = if s.railSt k = 1 ∧ s.nearIdle k v then railHold k (railSense k v s) else railSense k v s := by
  rw [railHoldEntryAt, hreset, if_neg Bool.false_ne_true]
  simp only [railSt_railSense]

theorem railHoldEntryAt_senses (h : ¬ (s.railSt k = 1 ∧ s.nearIdle k v)) : railHoldEntryAt k v s = railSense k v s :=
  (railHoldEntryAt_eq hreset).trans (if_neg h)

theorem railHoldEntryAt_holds (hst : s.railSt k = 1) (hnear : s.nearIdle k v) :
    railHoldEntryAt k v s = railHold k (railSense k v s) :=
  (railHoldEntryAt_eq hreset).trans (if_pos ⟨hst, hnear⟩)

end

theorem railHold_vsense (k v : Nat) (s : State) : (railHold k (railSense k v s)).fld (F.railStatVSENSE.rail k) = v % 2 ^ 16 := by
  rw [fld_railHold, fld_setPhases k 1 _ (by decide : 32 < 64 ∧ 32 ≠ 57 ∧ 32 ≠ 30), fld_railTo,
    fld_setFld_other _ _ (key_ne_of_lo (by decide : 32 < 64 ∧ 61 < 64 ∧ 32 ≠ 61)), railSense_vsense]

end

/-! TRACK and its end (R275, R276). -/

section
variable {k : Nat} {s : State}

theorem railTrackEntryAt_waits (h : s.railSt k ≠ 2 ∨ (s.swLine (k / 3)).on = false ∨ s.now < (s.swLine (k / 3)).since + 2000) :
    railTrackEntryAt k s = s := by
  refine if_neg fun ⟨hst, hon, hsince, _⟩ => ?_
  rcases h with h | h | h
  · exact h hst
  · exact absurd (h.symm.trans hon) Bool.false_ne_true
  · omega

/-- A rail that has entered TRACK at the displayed frame's setpoint. -/
def railTracked (k : Nat) (s : State) : State := railApplySet k (s.dispSet k).1 (s.dispSet k).2 (railTo k 3 s)

theorem railTrackEntryAt_enters (hst : s.railSt k = 2) (hon : (s.swLine (k / 3)).on = true)
    (hsince : (s.swLine (k / 3)).since + 2000 ≤ s.now) (hreset : s.railReset k = false) (hslew : (s.rail k).slewOff = false)
    (hgroup : ∀ j ∈ neighbours k, s.railSt j ≠ 4 ∧ s.railSt j ≠ 1 ∧ s.railReset j = false) :
    railTrackEntryAt k s = railTracked k s := by
  refine if_pos ⟨hst, hon, hsince, by simp [hreset], by simp [hslew], ?_⟩
  simpa [not_or, and_assoc] using hgroup

theorem railOnly_railTracked (k : Nat) (s : State) : RailOnly k s (railTracked k s) := ((RailsOnly.refl _ s).railTo k 3).railApplySet k _ _

theorem railSt_railTracked (k : Nat) (s : State) : (railTracked k s).railSt k = 3 := by simp [railTracked, railSt_railTo]

theorem mem_railTracked_evt (k : Nat) (s : State) : 584 + k ∈ (railTracked k s).evt := by
  rw [railTracked, railApplySet_evt]
  exact mem_railTo_evt k 3 s (by decide)

theorem railTrackExitAt_stays (h : s.railSt k ≠ 3 ∨ (s.swLine (k / 3)).on = true ∨ s.now < (s.swLine (k / 3)).since + 2000) :
    railTrackExitAt k s = s := by
  refine if_neg fun ⟨hst, hlost⟩ => ?_
  simp only [State.swLost, Bool.and_eq_true, Bool.not_eq_true', decide_eq_true_eq] at hlost
  obtain ⟨hon, hsince⟩ := hlost
  rcases h with h | h | h
  · exact h hst
  · exact absurd (hon.symm.trans h) Bool.false_ne_true
  · omega

theorem railTrackExitAt_leaves (hst : s.railSt k = 3) (hon : (s.swLine (k / 3)).on = false)
    (hsince : (s.swLine (k / 3)).since + 2000 ≤ s.now) : railTrackExitAt k s = railHold k s :=
  if_pos ⟨hst, by simp [State.swLost, hon, hsince]⟩

end

/-! OFF and RESTART (R274, R278, R279). -/

section
variable {k : Nat} {s : State}

theorem railSlewOffAt_stays (h : (s.rail k).slewOff = false) : railSlewOffAt k s = s := if_neg (by simp [h])

theorem railSlewOffAt_off (hslew : (s.rail k).slewOff = true) (hon : s.railOn k = true)
    (htarget : s.railTarget k = s.inF (F.railVlimVMIN.rail k)) : railSlewOffAt k s = railOff k s :=
  if_pos ⟨hslew, hon, htarget⟩

/-- A rail that regulates is in START, HOLD or TRACK. -/
theorem railOn_iff : s.railOn k = true ↔ s.railSt k = 1 ∨ s.railSt k = 2 ∨ s.railSt k = 3 := by simp [State.railOn, or_assoc]

theorem railRestartAt_on (h : s.railOn k = true) : railRestartAt k s = s := by
  have hst : ¬ (s.railSt k = 0 ∨ s.railSt k = 4) := by
    have hon := railOn_iff.1 h
    omega
  rw [railRestartAt, if_neg hst, ite_self]

/-- The FAILED bits of a rail's four phases are clear. -/
def phasesMended (k : Nat) (s : State) : State := forN 4 (fun i s => setFlag ((F.railPhFAILED.rail k).at (8 * i)) false s) s

/-- A rail that RESTART has left OFF. -/
def railRestarted (k : Nat) (s : State) : State := railOff k (setFlag (F.railStatNEEDRESTART.rail k) false (phasesMended k s))

theorem railRestartAt_restarts (hreset : s.railReset k = false) (hst : s.railSt k = 0 ∨ s.railSt k = 4) :
    railRestartAt k s = railRestarted k s := by
  rw [railRestartAt, hreset, if_neg Bool.false_ne_true, if_pos hst]
  rfl

theorem railOnly_railRestarted (k : Nat) (s : State) : RailOnly k s (railRestarted k s) :=
  ((RailsOnly.forN (fun _ t hi => (RailsOnly.refl _ t).setFlag (ofRail_phase (f := F.railPhFAILED) (by decide) hi k) false) s).setFlag
    (ofRail_rail (f := F.railStatNEEDRESTART) (by decide) k) false).railOff k

theorem railRestarted_needRestart (k : Nat) (s : State) : (railRestarted k s).flag (F.railStatNEEDRESTART.rail k) = false := by
  rw [railRestarted, flag_railOff k _ (by decide : 56 < 64 ∧ 56 ≠ 57 ∧ 56 ≠ 30 ∧ 56 ≠ 61)]
  exact flag_setFlag_same ..

/-- Phases cleared one by one: the flag of phase i is clear once the first n > i are. -/
theorem forN_clears_phases {f : Fld} {i n : Nat} (hi : i < n) (s : State) :
    (forN n (fun i s => setFlag (f.at (8 * i)) false s) s).flag (f.at (8 * i)) = false := by
  induction n with
  | zero => omega
  | succ n ih =>
    rw [forN_succ]
    by_cases hlast : i = n
    · rw [hlast]
      exact flag_setFlag_same ..
    · rw [flag_setFlag_other false _ (by rw [key_at, key_at]; omega)]
      exact ih (by omega)

theorem railRestarted_failed {i : Nat} (hi : i < 4) (k : Nat) (s : State) :
    (railRestarted k s).flag ((F.railPhFAILED.rail k).at (8 * i)) = false := by
  rw [railRestarted, flag_railOff k _ (by decide : 31 < 64 ∧ 31 ≠ 57 ∧ 31 ≠ 30 ∧ 31 ≠ 61),
    flag_setFlag_other false _ (key_ne_of_lo (by decide : 31 < 64 ∧ 56 < 64 ∧ 31 ≠ 56))]
  exact forN_clears_phases hi s

end

end Sys2Proof.Machine
end

section
/-! SUPPORT. The rise for the next frame (R282 to R284): which rails it moves, and the rail without a forecast. -/

namespace Sys2Proof.Machine

theorem exec_railRaise (n : BitVec 48) (s : State) : exec (.railRaise n) s = .next (railRaiseAt n.toNat s) := rfl

section
variable {k n : Nat} {s : State}

theorem railRaiseAt_waits (h : s.tl.running = false ∨ s.tl.frame ≠ n ∨ s.gt + s.railLead < s.frameStart (n + 1)) : railRaiseAt n s = s := by
  refine if_neg fun ⟨hrun, hframe, hdue⟩ => ?_
  rcases h with h | h | h
  · exact absurd (h.symm.trans hrun) Bool.false_ne_true
  · exact h hframe
  · omega

theorem railRaiseAt_rises (hrun : s.tl.running = true) (hframe : s.tl.frame = n) (hdue : s.frameStart (n + 1) ≤ s.gt + s.railLead) :
    railRaiseAt n s = forN 24 (fun j u => railRise j n u) s :=
  if_pos ⟨hrun, hframe, hdue⟩

/-- A rail that has the forecast of the next frame is not late. -/
theorem railLate_known {x : Nat × Nat} (h : (s.rail k).next = some (n + 1, x)) : railLate k n s = s := by simp [railLate, h]

/-- A rail that does not regulate, and is held in reset or has its forecast, does nothing at a rise. -/
theorem railRise_idle (hon : s.railOn k = false) (h : s.railReset k = true ∨ ∃ x, (s.rail k).next = some (n + 1, x)) :
    railRise k n s = s := by
  have hst : s.railSt k ≠ 3 := fun h3 => absurd (railOn_iff.2 (.inr (.inr h3))) (by simp [hon])
  rcases h with h | ⟨x, h⟩
  · exact if_pos h
  · unfold railRise
    rw [railLate_known h]
    cases he : (s.rail k).eff <;> simp [h, he, hst]

/-- When every other rail does nothing, the rises of all rails are that of rail k. -/
theorem forN_railRise_alone {m : Nat} (hm : m ≤ 24) (hk : RailOnly k s (railRise k n s))
    (hidle : ∀ j t, j < 24 → j ≠ k → RailOnly k s t → railRise j n t = t) :
    forN m (fun j u => railRise j n u) s = if k < m then railRise k n s else s := by
  induction m with
  | zero => rfl
  | succ m ih =>
    have hprev : forN m (fun j u => railRise j n u) s = if k < m then railRise k n s else s := ih (by omega)
    rw [forN_succ, hprev]
    by_cases hmk : m = k
    · rw [hmk, if_neg (Nat.lt_irrefl k), if_pos (Nat.lt_succ_self k)]
    · rw [hidle m _ (by omega) hmk (by split <;> [exact hk; exact RailsOnly.refl _ s])]
      simp only [Nat.lt_succ_iff_lt_or_eq, Ne.symm hmk, or_false]

section
variable {v m e x : Nat} (hreset : s.railReset k = false) (hst : s.railSt k = 3) (hslew : (s.rail k).slewOff = false)
  (hlost : s.swLost k = false) (hnext : (s.rail k).next = some (n + 1, v, m)) (heff : (s.rail k).eff = some (e, x))
include hreset hst hslew hlost hnext heff

/-- A rail in TRACK takes the higher of the two setpoints and of the two phase counts, where the next frame's is higher. -/
theorem railRise_tracks : railRise k n s = if e < v ∨ x < m then railApplySet k (max e v) (max x m) s else s := by
  unfold railRise
  rw [hreset, if_neg Bool.false_ne_true, railLate_known hnext]
  simp [hnext, heff, hst, hslew, hlost]

theorem railRise_rises (h : e < v ∨ x < m) : railRise k n s = railApplySet k (max e v) (max x m) s :=
  (railRise_tracks hreset hst hslew hlost hnext heff).trans (if_pos h)

theorem railRise_stays (hv : v ≤ e) (hm : m ≤ x) : railRise k n s = s :=
  (railRise_tracks hreset hst hslew hlost hnext heff).trans (if_neg (by omega))

end

/-- The other rails of a rise: none of them regulates, and each is held in reset or has its forecast. -/
theorem railRise_others (h : ∀ j, j < 24 → j ≠ k → s.railOn j = false ∧ (s.railReset j = true ∨ ∃ x, (s.rail j).next = some (n + 1, x)))
    (j : Nat) (t : State) (hj : j < 24) (hjk : j ≠ k) (ht : RailOnly k s t) : railRise j n t = t := by
  obtain ⟨hon, hwait⟩ := h j hj hjk
  exact railRise_idle (by rw [State.railOn, ht.railSt hjk]; exact hon) (by rw [ht.railReset, ht.rail j hjk]; exact hwait)

/-- A rail without a forecast: V_MAX with every healthy phase for the next frame, and one more in FC_LATE (R283). -/
def railSubstituted (k n : Nat) (s : State) : State :=
  countMod (F.railCntFCLATE.rail k) 1 (setRail k { s.rail k with
    next := some (n + 1, s.inF (F.railVlimVMAX.rail k), max 1 (s.healthy k).length), late := some (n + 1) } s)

theorem railLate_substitutes (h : (s.rail k).next = none) :
    railLate k n s = raise (Blk.railN k) 9 { addr := n + 1 } (railSubstituted k n s) := by
  unfold railLate
  rw [h]
  rfl

theorem railSubstituted_next (k n : Nat) (s : State) : ((railSubstituted k n s).rail k).next =
    some (n + 1, s.inF (F.railVlimVMAX.rail k), max 1 (s.healthy k).length) := by
  have hrail := rail_setRail_same k { s.rail k with
    next := some (n + 1, s.inF (F.railVlimVMAX.rail k), max 1 (s.healthy k).length), late := some (n + 1) } s
  exact congrArg RailState.next hrail

end

end Sys2Proof.Machine
end

section
/-! SUPPORT. Rail states and setpoints (R274 to R278, R282 to R285). -/

namespace Sys2Proof.Machine

/-- Settles O43: each operation by whether its condition holds; a rise by the rail that it alone moves. -/
theorem railStates : Obligations.RailStates := by
  unfold Obligations.RailStates
  intro k s r idle goal w sensed kept
  simp only [exec_railStart, exec_railHoldEntry, exec_railTrackEntry, exec_railTrackExit, exec_railSlewOff, exec_railRestart, exec_railRaise,
    Host.Outcome.next.injEq]
  have hself := RailsOnly.refl (· = k.val) s
  refine ⟨railStartAt_refused, fun h => ?_,
    fun v h => railHoldEntryAt_reset h _, fun v hreset hst => railHoldEntryAt_senses hreset fun h => hst h.1,
    fun v hst hreset => ⟨fun hnear hslew => ?_, fun hfar => railHoldEntryAt_senses hreset fun h => hfar h.2⟩,
    railTrackEntryAt_waits, fun hst hon hsince hreset hslew hgroup => ?_, railTrackExitAt_stays, fun hst hon hsince hslew => ?_,
    railSlewOffAt_stays, fun hslew hon htarget => ?_, railRestartAt_on, fun hreset hst => ?_,
    fun n => ⟨railRaiseAt_waits, railRaiseAt_rises,
      fun hrun hframe hdue hst hslew hlost hreset hothers v m e x hnext heff => ?_, fun hnone => ?_⟩⟩
  -- START, HOLD and TRACK
  · exact ⟨_, railStartAt_starts h, railSt_railStarted k s, congrArg RailState.startAt (rail_railStarted k s),
      by simp [goal, rail_railStarted, State.startSeg, idle], railTarget_railStarted k s, (railOnly_railStarted k s).kept⟩
  · have hsense := hself.railSense k v.toNat
    refine ⟨_, railHoldEntryAt_holds hreset hst hnear, railSt_railHold .., ?_, ?_, mem_railHold_evt .., (hsense.railHold k).kept⟩
    · rw [railHold_vsense, Nat.mod_eq_of_lt v.isLt]
    · exact (railAim_railHold (by rw [railSense_slewOff]; exact hslew)).trans (congrArg some (hsense.inF _))
  · exact ⟨_, railTrackEntryAt_enters hst hon hsince hreset hslew hgroup, railSt_railTracked k s, railApplySet_eff .., railAim_railApplySet ..,
      mem_railTracked_evt k s, (railOnly_railTracked k s).kept⟩
  · exact ⟨_, railTrackExitAt_leaves hst hon hsince, railSt_railHold .., railHold_eff .., railAim_railHold hslew, mem_railHold_evt ..,
      (hself.railHold k).kept⟩
  -- OFF and RESTART
  · exact ⟨_, railSlewOffAt_off hslew hon htarget, railSt_railOff .., railOff_segs .., railTarget_railOff ..,
      flag_railOff k s (by decide : 56 < 64 ∧ 56 ≠ 57 ∧ 56 ≠ 30 ∧ 56 ≠ 61), (hself.railOff k).kept⟩
  · exact ⟨_, railRestartAt_restarts hreset hst, railSt_railOff .., railRestarted_needRestart k s, fun i hi => railRestarted_failed hi k s,
      railOff_segs .., (railOnly_railRestarted k s).kept⟩
  -- the rise for the next frame
  · have hrises (hk : RailOnly k s (railRise k n.toNat s)) : railRaiseAt n.toNat s = railRise k n.toNat s := by
      rw [railRaiseAt_rises hrun hframe hdue, forN_railRise_alone (Nat.le_refl 24) hk (railRise_others hothers), if_pos k.isLt]
    refine ⟨fun h => ?_, fun hv hm => ?_⟩
    · have hrise := railRise_rises hreset hst hslew hlost hnext heff h
      have happlied := hself.railApplySet k (max e v) (max x m)
      exact ⟨_, (hrises (hrise ▸ happlied)).trans hrise, railApplySet_eff .., railAim_railApplySet .., (railSt_railApplySet ..).trans hst,
        happlied.kept⟩
    · have hstay := railRise_stays hreset hst hslew hlost hnext heff hv hm
      exact (hrises (hstay.symm ▸ hself)).trans hstay
  · exact ⟨_, railLate_substitutes hnone, railSubstituted_next .., fld_setFld_same ..⟩

end Sys2Proof.Machine
end

section
/-! SUPPORT. FAULT of a rail and the HOLD of its group (R278, R286). -/

namespace Sys2Proof.Machine

/-! The group neighbours of a rail that leaves regulation (log entry 49). -/

/-- A rail in TRACK goes to HOLD. -/
def railLetGo (j : Nat) (s : State) : State := if s.railSt j = 3 then railHold j s else s

theorem railOnly_railLetGo (j : Nat) (s : State) : RailOnly j s (railLetGo j s) := by
  unfold railLetGo
  split
  · exact (RailsOnly.refl _ s).railHold j
  · exact RailsOnly.refl _ s

theorem railSt_railLetGo (j : Nat) (s : State) : (railLetGo j s).railSt j = if s.railSt j = 3 then 2 else s.railSt j := by
  unfold railLetGo
  split
  · exact railSt_railHold j s
  · rfl

/-- The rails of a list let go in turn. -/
def railsLetGo (l : List Nat) (s : State) : State := l.foldl (fun t j => railLetGo j t) s

theorem railsOnly_railsLetGo (l : List Nat) (s : State) : RailsOnly (· ∈ l) s (railsLetGo l s) := by
  induction l generalizing s with
  | nil => exact RailsOnly.refl _ s
  | cons i l ih =>
    exact ((railOnly_railLetGo i s).mono fun _ hj => hj ▸ List.mem_cons_self).trans
      ((ih (railLetGo i s)).mono fun _ => List.mem_cons_of_mem i)

theorem railSt_railsLetGo {l : List Nat} (hl : l.Nodup) (s : State) {j : Nat} (hj : j ∈ l) :
    (railsLetGo l s).railSt j = if s.railSt j = 3 then 2 else s.railSt j := by
  induction l generalizing s with
  | nil => cases hj
  | cons i l ih =>
    obtain ⟨hi, hl⟩ := List.nodup_cons.1 hl
    rcases List.mem_cons.1 hj with rfl | hj
    · exact ((railsOnly_railsLetGo l _).railSt hi).trans (railSt_railLetGo j s)
    · have hji : j ≠ i := fun h => hi (h ▸ hj)
      exact (ih hl (railLetGo i s) hj).trans (by rw [(railOnly_railLetGo i s).railSt hji])

theorem neighboursHold_eq (k : Nat) (s : State) : neighboursHold k s = railsLetGo (neighbours k) s := rfl

theorem not_mem_neighbours (k : Nat) : k ∉ neighbours k := by simp [neighbours]

theorem neighbours_nodup (k : Nat) : (neighbours k).Nodup := List.Nodup.filter _ (by simp)

/-! FAULT. -/

section
variable (k : Nat) (low : Bool) (s : State)

/-- A rail that has entered FAULT, before its group holds. -/
def railFaulted : State :=
  setFlag (F.railStatNEEDRESTART.rail k) true
    (setRail k { s.rail k with slewOff := false, segs := [], eff := none, low := low } (setPhases k 0 (railTo k 4 s)))

theorem railFault_eq : railFault k low s = railsLetGo (neighbours k) (railFaulted k low s) := neighboursHold_eq k _

theorem railOnly_railFaulted : RailOnly k s (railFaulted k low s) :=
  ((((RailsOnly.refl _ s).railTo k 4).setPhases k 0).setRail _).setFlag (ofRail_rail (f := F.railStatNEEDRESTART) (by decide) k) true

theorem railsOnly_railFault : RailsOnly (· ∈ neighbours k) (railFaulted k low s) (railFault k low s) := railsOnly_railsLetGo ..

theorem rail_railFault :
    (railFault k low s).rail k = { s.rail k with slewOff := false, segs := [], eff := none, low := low } :=
  ((railsOnly_railFault k low s).rail k (not_mem_neighbours k)).trans (rail_setRail_same ..)

theorem railSt_railFault : (railFault k low s).railSt k = 4 := by
  rw [(railsOnly_railFault k low s).railSt (not_mem_neighbours k), railFaulted, State.railSt, setFlag,
    fld_setFld_other _ _ (key_ne_of_lo (by decide : 61 < 64 ∧ 56 < 64 ∧ 61 ≠ 56)), fld_setRail, ← State.railSt, railSt_setPhases]
  exact railSt_railTo k 4 s (by decide)

theorem railFault_needRestart : (railFault k low s).flag (F.railStatNEEDRESTART.rail k) = true := by
  rw [(railsOnly_railFault k low s).flag_rail (by decide) (not_mem_neighbours k)]
  exact flag_setFlag_same ..

/-- No phase regulates in FAULT. -/
theorem railFault_phases : (railFault k low s).fld (F.railStatPHACTIVE.rail k) = 0 := by
  rw [(railsOnly_railFault k low s).fld_rail (by decide) (not_mem_neighbours k), railFaulted, setFlag,
    fld_setFld_other _ _ (key_ne_of_lo (by decide : 57 < 64 ∧ 56 < 64 ∧ 57 ≠ 56)), fld_setRail]
  exact setPhases_zero ..

theorem mem_railFault_evt : 584 + k ∈ (railFault k low s).evt := by
  refine (railsOnly_railFault k low s).evt _ ?_
  show 584 + k ∈ (setPhases k 0 (railTo k 4 s)).evt
  rw [setPhases_evt]
  exact mem_railTo_evt k 4 s (by decide)

theorem railFault_neighbour {j : Nat} (hj : j ∈ neighbours k) :
    (railFault k low s).railSt j = if s.railSt j = 3 then 2 else s.railSt j := by
  have hjk : j ≠ k := fun h => not_mem_neighbours k (h ▸ hj)
  rw [railFault_eq, railSt_railsLetGo (neighbours_nodup k) _ hj, (railOnly_railFaulted k low s).railSt hjk]

end

/-- The outcome of a trip of rail k by a source: the rail in FAULT with its phases off or low, and waiting for RESTART; its neighbours
in TRACK gone to HOLD; the source raised. -/
def RailTrips (k : Fin 24) (s : State) (src : Nat) (low : Bool) (o : Host.Outcome State Fault Refusal) : Prop :=
  ∃ u, o = .next (raise (Blk.railN k) src { addr := k } u) ∧ u.railSt k = 4 ∧ (u.rail k).low = low ∧ (u.rail k).segs = [] ∧
    u.flag (F.railStatNEEDRESTART.rail k) = true ∧ u.fld (F.railStatPHACTIVE.rail k) = 0 ∧ 584 + k.val ∈ u.evt ∧
    (∀ j ∈ neighbours k, u.railSt j = if s.railSt j = 3 then 2 else s.railSt j) ∧ u.flt = s.flt ∧ u.mem = s.mem

/-- An update of the rail alone that comes before its trip, as the sample that shows the cause does, is part of the trip. -/
theorem railTrip_trips {k : Fin 24} {s t : State} (h : RailOnly k s t) (src : Nat) (low : Bool) :
    RailTrips k s src low (.next (railTrip k src low t)) := by
  have hown := railOnly_railFaulted k low t
  have hgroup := railsOnly_railFault k low t
  refine ⟨railFault k low t, rfl, railSt_railFault .., congrArg RailState.low (rail_railFault ..), congrArg RailState.segs (rail_railFault ..),
    railFault_needRestart .., railFault_phases .., mem_railFault_evt .., fun j hj => ?_, ?_, ?_⟩
  · have hjk : j ≠ k.val := fun h => not_mem_neighbours k (h ▸ hj)
    rw [railFault_neighbour _ _ _ hj, h.railSt hjk]
  · exact hgroup.flt.trans (hown.flt.trans h.flt)
  · exact hgroup.mem.trans (hown.mem.trans h.mem)

end Sys2Proof.Machine
end

section
/-! SUPPORT. What trips a rail (R278, R286), and its phases (R279): when each acts. -/

namespace Sys2Proof.Machine

theorem exec_ov (k : Fin 24) (v : BitVec 16) (s : State) : exec (.ov k v) s = .next (ovAt k v.toNat s) := rfl
theorem exec_uv (k : Fin 24) (v : BitVec 16) (s : State) : exec (.uv k v) s = .next (uvAt k v.toNat s) := rfl
theorem exec_oc (k : Fin 24) (s : State) : exec (.oc k) s = .next (ocAt k s) := rfl
theorem exec_startFail (k : Fin 24) (s : State) : exec (.startFail k) s = .next (startFailAt k s) := rfl
theorem exec_senseFail (k : Fin 24) (v : BitVec 16) (s : State) : exec (.senseFail k v) s = .next (senseFailAt k v.toNat s) := rfl
theorem exec_phaseFail (k : Fin 24) (i : Fin 4) (s : State) : exec (.phaseFail k i) s = .next (phaseFailAt k i s) := rfl
theorem exec_phaseCurrentLimit (k : Fin 24) (i : Fin 4) (s : State) : exec (.phaseCurrentLimit k i) s = .next (phaseLimitAt k i s) := rfl

section
variable {k v : Nat} {s : State}

/-! Over-voltage, under-voltage, over-current and a START that lasts (R278, R286). -/

theorem ovAt_trips (hon : s.railOn k = true) (h : s.railVhi k + 10 * s.fld (F.railProtOVMARGIN.rail k) < v) :
    ovAt k v s = railTrip k 3 true (railSense k v s) := if_pos ⟨hon, h⟩

theorem ovAt_stays (h : s.railOn k = false ∨ v ≤ s.railVhi k + 10 * s.fld (F.railProtOVMARGIN.rail k)) : ovAt k v s = s := by
  refine if_neg fun ⟨hon, hover⟩ => ?_
  rcases h with h | h
  · exact absurd (h.symm.trans hon) Bool.false_ne_true
  · omega

theorem uvAt_trips (hst : s.railSt k = 2 ∨ s.railSt k = 3) (h : v + 10 * s.fld (F.railProtUVMARGIN.rail k) < s.railTarget k) :
    uvAt k v s = railTrip k 4 false (railSense k v s) := if_pos ⟨hst, h⟩

theorem uvAt_stays (h : s.railSt k = 1 ∨ s.railTarget k ≤ v + 10 * s.fld (F.railProtUVMARGIN.rail k)) : uvAt k v s = s :=
  if_neg (by omega)

theorem ocAt_trips (hon : s.railOn k = true) : ocAt k s = railTrip k 5 false s := if_pos hon

theorem ocAt_off (hon : s.railOn k = false) : ocAt k s = s := if_neg (by simp [hon])

theorem startFailAt_trips (hst : s.railSt k = 1) (h : (s.rail k).startAt + 2000000 ≤ s.now) : startFailAt k s = railTrip k 6 false s :=
  if_pos ⟨hst, h⟩

theorem startFailAt_stays (h : s.railSt k ≠ 1 ∨ s.now < (s.rail k).startAt + 2000000) : startFailAt k s = s := if_neg (by omega)

/-! A sense outside 0.2 to 6.5 V (R286). -/

theorem senseFailAt_stays (h : s.railSt k = 0 ∨ s.railReset k = true ∨ (200 ≤ v ∧ v ≤ 6500)) : senseFailAt k v s = s := if_pos h

/-- A sample that the engine takes, and that no sound sense gives. -/
theorem senseFailAt_fails (hoff : s.railSt k ≠ 0) (hreset : s.railReset k = false) (h : v < 200 ∨ 6500 < v) :
    senseFailAt k v s = if s.railSt k = 4 then
        raise (Blk.railN k) 7 { addr := k } (setRail k { (railSense k v s).rail k with low := false } (railSense k v s))
      else railTrip k 7 false (railSense k v s) := by
  have hout : ¬ (s.railSt k = 0 ∨ s.railReset k = true ∨ (200 ≤ v ∧ v ≤ 6500)) := by
    rw [hreset]
    simp only [Bool.false_eq_true, false_or]
    omega
  rw [senseFailAt, if_neg hout]
  simp only [railSt_railSense]

/-! Phases (R279). -/

/-- The phase count in force: in TRACK that of the setpoint, and otherwise one. -/
def State.phasesWanted (s : State) (k : Nat) : Nat := match (s.rail k).eff with | some p => p.2 | none => 1

section
variable {i : Nat}

theorem phaseFailAt_inactive (h : bit (s.fld (F.railStatPHACTIVE.rail k)) i = false) : phaseFailAt k i s = s := if_neg (by simp [h])

theorem phaseLimitAt_inactive (h : bit (s.fld (F.railStatPHACTIVE.rail k)) i = false) : phaseLimitAt k i s = s := if_neg (by simp [h])

variable (hactive : bit (s.fld (F.railStatPHACTIVE.rail k)) i = true) (hon : s.railOn k = true)
include hactive hon

theorem phaseFailAt_last (h : (setFlag ((F.railPhFAILED.rail k).at (8 * i)) true s).healthy k = []) :
    phaseFailAt k i s = raise (Blk.railN k) 8 { addr := i } (railFault k false (setFlag ((F.railPhFAILED.rail k).at (8 * i)) true s)) := by
  rw [phaseFailAt, if_pos ⟨hon, hactive⟩]
  exact congrArg (raise (Blk.railN k) 8 { addr := i }) (if_pos h)

theorem phaseFailAt_excluded (h : (setFlag ((F.railPhFAILED.rail k).at (8 * i)) true s).healthy k ≠ []) :
    phaseFailAt k i s = raise (Blk.railN k) 8 { addr := i }
      (setPhases k (max 1 (s.phasesWanted k)) (setFlag ((F.railPhFAILED.rail k).at (8 * i)) true s)) := by
  rw [phaseFailAt, if_pos ⟨hon, hactive⟩]
  exact congrArg (raise (Blk.railN k) 8 { addr := i }) (if_neg h)

theorem phaseLimitAt_counts : phaseLimitAt k i s = countSat (F.railCntILIM.rail k) 1 s := if_pos ⟨hon, hactive⟩

end
end

end Sys2Proof.Machine
end

section
/-! SUPPORT. Rail trips and failed phases (R278, R279, R286). -/

namespace Sys2Proof.Machine

/-- Settles O44: each protection by whether its condition holds, a sense failure by the state it finds, then the phases. -/
theorem railProtection : Obligations.RailProtection := by
  unfold Obligations.RailProtection
  intro k v i s tripped vhi low
  have htripped : tripped = RailTrips k s := rfl
  rw [htripped]
  simp only [exec_ov, exec_uv, exec_oc, exec_startFail, exec_senseFail, exec_phaseFail, exec_phaseCurrentLimit, Host.Outcome.next.injEq]
  have hself := RailsOnly.refl (· = k.val) s
  have hsense := hself.railSense k v.toNat
  refine ⟨fun hon hover => ?_, ovAt_stays, fun hst hunder => ?_, uvAt_stays, fun hon => ?_, ocAt_off, fun hst hlate => ?_, startFailAt_stays,
    fun hoff hfault hreset hout => ?_, fun hfault hreset hout => ?_, senseFailAt_stays,
    fun hidle => ⟨phaseFailAt_inactive hidle, phaseLimitAt_inactive hidle⟩,
    fun hactive hon => ⟨phaseFailAt_last hactive hon, phaseFailAt_excluded hactive hon, phaseLimitAt_counts hactive hon⟩⟩
  · rw [ovAt_trips hon hover]
    exact railTrip_trips hsense 3 true
  · rw [uvAt_trips hst hunder]
    exact railTrip_trips hsense 4 false
  · rw [ocAt_trips hon]
    exact railTrip_trips hself 5 false
  · rw [startFailAt_trips hst hlate]
    exact railTrip_trips hself 6 false
  · rw [senseFailAt_fails hoff hreset hout, if_neg hfault]
    exact railTrip_trips hsense 7 false
  · have hlow := hsense.setRail { (railSense k v.toNat s).rail k with low := false }
    refine ⟨_, (senseFailAt_fails (by omega) hreset hout).trans (if_pos hfault), ?_, congrArg RailState.low (rail_setRail_same ..),
      hlow.flt, hlow.mem⟩
    rw [railSt_setRail, railSt_railSense, hfault]

end Sys2Proof.Machine
end

section
/-! SUPPORT. Operations that leave Rook as it stands: resets, faults, accesses of memory and translation. -/

namespace Sys2Proof.Machine

theorem foldl_rook {β : Type} {f : State → β → State} (hf : ∀ s x, (f s x).rook = s.rook) (l : List β) (s : State) :
    (l.foldl f s).rook = s.rook := foldl_keeps State.rook f hf l s

theorem forN_rook {n : Nat} {f : Nat → State → State} (hf : ∀ i s, (f i s).rook = s.rook) (s : State) : (forN n f s).rook = s.rook :=
  forN_keeps State.rook n f hf s

@[simp] theorem rook_ite (c : Prop) [Decidable c] (a b : State) : (if c then a else b).rook = if c then a.rook else b.rook :=
  apply_ite ..

@[simp] theorem rook_snd_ite {α : Type} (c : Prop) [Decidable c] (a b : α × State) :
    (if c then a else b).2.rook = if c then a.2.rook else b.2.rook := apply_ite (fun r : α × State => r.2.rook) ..

@[simp] theorem rook_whenB {b : Bool} {f : State → State} (hf : ∀ s, (f s).rook = s.rook) (s : State) : (whenB b f s).rook = s.rook := by
  cases b <;> simp [whenB, hf]

/-- A fold of steps that leave a part of what they carry alone leaves it alone. -/
theorem foldl_same {σ β γ : Type} {g : σ → γ} {f : σ → β → σ} (hf : ∀ a x, g (f a x) = g a) (l : List β) (a : σ) :
    g (l.foldl f a) = g a := by
  induction l generalizing a with
  | nil => rfl
  | cons x l ih => exact (ih _).trans (hf a x)

theorem foldl_snd_rook {α β : Type} {f : α × State → β → α × State} (hf : ∀ r x, (f r x).2.rook = r.2.rook) (l : List β) (r : α × State) :
    (l.foldl f r).2.rook = r.2.rook := foldl_same (g := fun r : α × State => r.2.rook) hf l r

/-- An answer leaves Rook as it stands in s. As a statement about the whole answer it lets a case split go by without evaluating what
was read. -/
def RookStands (s : State) {α : Type} (r : α × State) : Prop := r.2.rook = s.rook

theorem RookStands.mk {s t : State} {α : Type} {x : α} (h : t.rook = s.rook) : RookStands s (x, t) := h

/-! Shared updates. -/

@[simp] theorem rook_setFlag (f : Fld) (v : Bool) (s : State) : (setFlag f v s).rook = s.rook := by simp [setFlag]

/-! Rail registers. -/

@[simp] theorem rook_setRail (k : Nat) (v : RailState) (s : State) : (setRail k v s).rook = s.rook := by simp [setRail]
@[simp] theorem rook_railGoal (k goal : Nat) (s : State) : (railGoal k goal s).rook = s.rook := by simp [railGoal]
@[simp] theorem rook_setPhases (k n : Nat) (s : State) : (setPhases k n s).rook = s.rook := by simp [setPhases, forN_rook]
@[simp] theorem rook_railTo (k st : Nat) (s : State) : (railTo k st s).rook = s.rook := by simp [railTo]
@[simp] theorem rook_railOff (k : Nat) (s : State) : (railOff k s).rook = s.rook := by simp [railOff]
@[simp] theorem rook_railHold (k : Nat) (s : State) : (railHold k s).rook = s.rook := by simp [railHold]
@[simp] theorem rook_neighboursHold (k : Nat) (s : State) : (neighboursHold k s).rook = s.rook := by simp [neighboursHold, foldl_rook]

/-! Registers. -/

@[simp] theorem rook_resetRegs (b : Blk) (s : State) : (resetRegs b s).rook = s.rook := by simp [resetRegs]

/-! Block and system resets (R422). -/

@[simp] theorem rook_restage (b : Blk) (s : State) : (restage b s).rook = s.rook := by simp [restage]
@[simp] theorem rook_startHart0 (s : State) : (startHart0 s).rook = s.rook := by simp [startHart0]
@[simp] theorem rook_resetCores (s : State) : (resetCores s).rook = s.rook := by simp [resetCores]
@[simp] theorem rook_postRes (off result len items : Nat) (s : State) : (postRes off result len items s).rook = s.rook := by simp [postRes]
@[simp] theorem rook_resetQm (s : State) : (resetQm s).rook = s.rook := by simp [resetQm, foldl_rook]
@[simp] theorem rook_resetRail (k : Nat) (s : State) : (resetRail k s).rook = s.rook := by simp [resetRail]

@[simp] theorem rook_resetRegsBut (b : Blk) (keep : Nat → Bool) (s : State) :
    (resetRegsBut b keep s).rook = s.rook := by simp [resetRegsBut]

@[simp] theorem rook_blockResetClear (b : Blk) (s : State) : (blockResetClear b s).rook = s.rook := by
  unfold blockResetClear
  split <;> simp

@[simp] theorem rook_loadTrial (s : State) : (loadTrial s).rook = s.rook := by simp [loadTrial]

@[simp] theorem rook_failPending (s : State) : (failPending s).rook = s.rook := by
  simp only [failPending]
  (repeat' split) <;> simp

@[simp] theorem rook_systemClear (s : State) : (systemClear s).rook = s.rook := rook_failPending s
@[simp] theorem rook_warmClear (s : State) : (warmClear s).rook = s.rook := by simp [warmClear]

/-! Fault registers (R419). -/

@[simp] theorem rook_setFlt (b : Blk) (f : FltSet) (s : State) : (setFlt b f s).rook = s.rook := by simp [setFlt]

/-! Events and reactions (R420, R421). -/

@[simp] theorem rook_startBlockReset (b : Blk) (s : State) : (startBlockReset b s).rook = s.rook := by simp [startBlockReset]
@[simp] theorem rook_intoForce (l : RegFile) (s : State) : (intoForce l s).rook = s.rook := by simp [intoForce]

@[simp] theorem rook_chipReset (b : Blk) (src : Nat) (s : State) : (chipReset b src s).rook = s.rook := by
  have hclear : ∀ t, (systemClear (setFlag F.sysRstCauseCHIP true (setFld F.sysRstCauseCHIPSRC src (setFld F.sysRstCauseCHIPID b.id t)))).rook =
      t.rook := fun t => rook_systemClear _
  exact (hclear _).trans (putBytes_rook ..)

@[simp] theorem rook_takeReactions (b : Blk) (src : Nat) (s : State) : (takeReactions b src s).rook = s.rook := by simp [takeReactions]
@[simp] theorem rook_raise (b : Blk) (src : Nat) (e : Ev) (s : State) : (raise b src e s).rook = s.rook := by simp [raise]
@[simp] theorem rook_raiseCond (b : Blk) (src : Nat) (e : Ev) (s : State) : (raiseCond b src e s).rook = s.rook := by simp [raiseCond]
@[simp] theorem rook_endCond (b : Blk) (src : Nat) (s : State) : (endCond b src s).rook = s.rook := by simp [endCond]

/-! Accesses of memory (R21, R22, R437, R443). -/

@[simp] theorem rook_countSat (f : Fld) (k : Nat) (s : State) : (countSat f k s).rook = s.rook := by simp [countSat]
@[simp] theorem rook_countMod (f : Fld) (k : Nat) (s : State) : (countMod f k s).rook = s.rook := by simp [countMod]

@[simp] theorem rook_reportUe (w : Who) (typ a : Nat) (s : State) : (reportUe w typ a s).rook = s.rook := by
  unfold reportUe
  split <;> simp

@[simp] theorem rook_reportCe (w : Who) (typ a : Nat) (s : State) : (reportCe w typ a s).rook = s.rook := by
  simp only [reportCe]
  split <;> simp

@[simp] theorem rook_eccRead (w : Who) (typ a n : Nat) (s : State) : (eccRead w typ a n s).2.rook = s.rook := by
  simp only [eccRead]
  (repeat' split) <;> simp [foldl_rook]

@[simp] theorem rook_badAddr (w : Who) (typ a : Nat) (s : State) : (badAddr w typ a s).2.rook = s.rook := by simp [badAddr]

@[simp] theorem rook_captureOnly (b : Blk) (mstr typ a : Nat) (s : State) :
    (captureOnly b mstr typ a s).rook = s.rook := by simp [captureOnly]

@[simp] theorem rook_regRefuse (w : Who) (typ a : Nat) (s : State) : (regRefuse w typ a s).2.rook = s.rook := by
  unfold regRefuse
  split <;> simp

@[simp] theorem rook_checkRead (w : Who) (typ a n : Nat) (s : State) : (checkRead w typ a n s).2.rook = s.rook := by
  unfold checkRead
  split <;> simp

@[simp] theorem rook_memRead (w : Who) (a n : Nat) (s : State) : (memRead w a n s).2.rook = s.rook := by
  simp only [memRead]
  split <;> simp

@[simp] theorem rook_checkWrite (w : Who) (a n : Nat) (s : State) : (checkWrite w a n s).2.rook = s.rook := by
  unfold checkWrite
  split <;> simp

@[simp] theorem rook_eccStore (w : Who) (a : Nat) (l : List Byte) (s : State) : (eccStore w a l s).2.rook = s.rook := by
  simp only [eccStore]
  split <;> simp

@[simp] theorem rook_memWrite (w : Who) (a : Nat) (l : List Byte) (s : State) : (memWrite w a l s).2.rook = s.rook := by
  simp only [memWrite]
  (repeat' split) <;> simp

@[simp] theorem rook_markStale (a n : Nat) (s : State) : (markStale a n s).rook = s.rook := by simp [markStale]
@[simp] theorem rook_unstale (a n : Nat) (s : State) : (unstale a n s).rook = s.rook := by simp [unstale]
@[simp] theorem rook_settleLines (a n : Nat) (s : State) : (settleLines a n s).rook = s.rook := by simp [settleLines]
@[simp] theorem rook_writeUnder (a n : Nat) (s t : State) : (writeUnder a n s t).rook = t.rook := by simp [writeUnder]

/-! Cells and queues (R106 to R112). -/

@[simp] theorem rook_setPtrs (q : Nat) (p : QPtrs) (s : State) : (setPtrs q p s).rook = s.rook := by simp [setPtrs]
@[simp] theorem rook_freeList (l : List Nat) (s : State) : (freeList l s).rook = s.rook := by simp [freeList]
@[simp] theorem rook_noteLow (s : State) : (noteLow s).rook = s.rook := by simp [noteLow]
@[simp] theorem rook_dropMark (q : Nat) (s : State) : (dropMark q s).rook = s.rook := by simp [dropMark]
@[simp] theorem rook_judgePush (q n : Nat) (s : State) : (judgePush q n s).2.rook = s.rook := by simp [judgePush]

@[simp] theorem rook_allocItem (q : Nat) (idle : Bool) (bytes : List Byte) (idx : List Nat) (s : State) :
    (allocItem q idle bytes idx s).rook = s.rook := by simp [allocItem]

@[simp] theorem rook_linkItem (q : Nat) (idx : List Nat) (s : State) : (linkItem q idx s).rook = s.rook := by simp [linkItem]

@[simp] theorem rook_unlinkHead (q : Nat) (s : State) : (unlinkHead q s).rook = s.rook := by
  simp only [unlinkHead]
  split <;> simp

@[simp] theorem rook_breakQueue (q src : Nat) (s : State) : (breakQueue q src s).rook = s.rook := by simp [breakQueue]
@[simp] theorem rook_queueCheck (q : Nat) (s : State) : (queueCheck q s).2.rook = s.rook := by simp [queueCheck]

@[simp] theorem rook_hwPush (q : Nat) (bytes : List Byte) (s : State) : (hwPush q bytes s).2.rook = s.rook := by
  simp only [hwPush]
  (repeat' split) <;> simp

@[simp] theorem rook_hwPop (q : Nat) (s : State) : (hwPop q s).2.rook = s.rook := by
  simp only [hwPop]
  split <;> simp

/-! Translation (R75 to R84). -/

@[simp] theorem rook_readEntry (w : Who) (a : Nat) (s : State) : (readEntry w a s).2.rook = s.rook := by
  simp only [readEntry]
  split <;> simp

@[simp] theorem rook_walk3 (w : Who) (k : Acc3) (asid va t : Nat) (s : State) : (walk3 w k asid va t s).2.rook = s.rook := by
  simp only [walk3]
  split <;> simp

@[simp] theorem rook_walk2 (w : Who) (k : Acc3) (asid va t : Nat) (s : State) : (walk2 w k asid va t s).2.rook = s.rook := by
  simp only [walk2]
  split <;> simp

@[simp] theorem rook_walk1 (w : Who) (k : Acc3) (asid va root : Nat) (s : State) : (walk1 w k asid va root s).2.rook = s.rook := by
  simp only [walk1]
  (repeat' split) <;> simp

@[simp] theorem rook_asidRoot (w : Who) (k : Acc3) (asid : Nat) (s : State) : (asidRoot w k asid s).2.rook = s.rook := by
  suffices RookStands s (asidRoot w k asid s) from this
  have hr : ∀ a, (readEntry w a s).2.rook = s.rook := fun a => rook_readEntry w a s
  simp only [asidRoot]
  split
  · exact .mk rfl
  · split
    · exact .mk (hr _)
    · split_ifs <;> exact .mk (hr _)

@[simp] theorem rook_tlbFill (e : TlbEntry) (s : State) : (tlbFill e s).rook = s.rook := by simp [tlbFill]

@[simp] theorem rook_xlate {root : State → Except VErr Nat × State} (hroot : ∀ s, (root s).2.rook = s.rook) (w : Who) (c : PClass)
    (k : Acc3)
    (asid va : Nat) (s : State) : (xlate w c k asid va root s).2.rook = s.rook := by
  simp only [xlate]
  (repeat' split) <;> simp [hroot]

@[simp] theorem rook_ioXlate (w : Who) (c : PClass) (k : Acc3) (phys : Bool) (asid va : Nat) (s : State) :
    (ioXlate w c k phys asid va s).2.rook = s.rook := by
  simp only [ioXlate]
  (repeat' split) <;> simp

@[simp] theorem rook_ioReadChunks (w : Who) (c : PClass) (phys : Bool) (asid : Nat) (l : List (Nat × Nat)) (s : State) :
    (ioReadChunks w c phys asid l s).2.rook = s.rook := by
  induction l generalizing s with
  | nil => rfl
  | cons e l ih => simp only [ioReadChunks]; (repeat' split) <;> simp [ih]

@[simp] theorem rook_ioRead (w : Who) (c : PClass) (phys : Bool) (asid va n : Nat) (s : State) :
    (ioRead w c phys asid va n s).2.rook = s.rook := by simp [ioRead]

@[simp] theorem rook_ioXlates (w : Who) (c : PClass) (phys : Bool) (asid : Nat) (l : List (Nat × Nat)) (s : State) :
    (ioXlates w c phys asid l s).2.rook = s.rook := by
  induction l generalizing s with
  | nil => rfl
  | cons e l ih => simp only [ioXlates]; (repeat' split) <;> simp [ih]

@[simp] theorem rook_snoopWrite (c : PClass) (pa n : Nat) (s t : State) : (snoopWrite c pa n s t).rook = t.rook := by simp [snoopWrite]

@[simp] theorem rook_ioWriteChunks (w : Who) (c : PClass) (cs : List (Nat × Nat × Nat)) (l : List Byte) (s : State) :
    (ioWriteChunks w c cs l s).2.rook = s.rook := by
  induction cs generalizing l s with
  | nil => rfl
  | cons e cs ih => simp only [ioWriteChunks]; split <;> simp [ih]

@[simp] theorem rook_ioWrite (w : Who) (c : PClass) (phys : Bool) (asid va : Nat) (l : List Byte) (s : State) :
    (ioWrite w c phys asid va l s).2.rook = s.rook := by
  simp only [ioWrite]
  split <;> simp

@[simp] theorem rook_setFrec (f : Fld) (ws : List Nat) (s : State) : (setFrec f ws s).rook = s.rook :=
  forN_rook (f := fun i => setFld (f.at (8 * i)) (ws.getD i 0)) (fun _ _ => rfl) s

@[simp] theorem rook_fltqPush (ws : List Nat) (s : State) : (fltqPush ws s).rook = s.rook := by simp [fltqPush]

@[simp] theorem rook_rtFault (unit : Nat) (write : Bool) (e : VErr) (s : State) :
    (rtFault unit write e s).rook = s.rook := by simp [rtFault]

@[simp] theorem rook_rtRead (unit va n : Nat) (s : State) : (rtRead unit va n s).2.rook = s.rook := by
  simp only [rtRead]
  split <;> simp

@[simp] theorem rook_rtWrite (unit va : Nat) (l : List Byte) (s : State) : (rtWrite unit va l s).2.rook = s.rook := by
  simp only [rtWrite]
  split <;> simp

end Sys2Proof.Machine
end

section
/-! SUPPORT. Operations that leave Rook as it stands: queues, handles, ingest, composition, rails, the cartridge and cooling. -/

namespace Sys2Proof.Machine

/-! Queue commands (R97, R108 to R116). -/

@[simp] theorem rook_slotBusy (op : QmOp) (result len : Nat) (scan push : Bool) (s : State) :
    (slotBusy op result len scan push s).rook = s.rook := by simp [slotBusy]

@[simp] theorem rook_postSlot (slot q result len : Nat) (s : State) : (postSlot slot q result len s).rook = s.rook := by simp [postSlot]

@[simp] theorem rook_judgeCmd (op : QmOp) (isPush isPop isReset : Bool) (s : State) :
    (judgeCmd op isPush isPop isReset s).2.rook = s.rook := by simp [judgeCmd]

@[simp] theorem rook_queueCmd {act : State → Option (Nat × Nat) × State} (hact : ∀ s, (act s).2.rook = s.rook) (op : QmOp)
    (isPush isPop isReset : Bool)
    (s : State) : (queueCmd op isPush isPop isReset act s).rook = s.rook := by
  simp only [queueCmd]
  (repeat' split) <;> simp [hact]

theorem rook_parkOp {o : ParkOp} {slotOld : Option Nat} {e : VErr} {s t : State} (h : parkOp o slotOld e s = some t) : t.rook = s.rook := by
  have hparked : ∀ (k : Nat) (ws : List Nat) (u : State), (fltqPush ws (intr (161 + k) (setFld (F.qmSlotResPARK.slot o.slot) k
      (setFld (F.qmSlotResSTATE.slot o.slot) 3 (setFld (F.qmParkCtrlSLOT.park k) o.slot
        (setFlag (F.qmParkCtrlPARKED.park k) true (setFrec (F.qmParkFrecW.park k) ws u))))))).rook = u.rook := by
    intro k ws u
    simp
  simp only [parkOp] at h
  split at h
  · cases h
  · obtain rfl := Option.some.inj h
    exact hparked _ _ { s with qm := _ }

@[simp] theorem rook_fillCells (o : ParkOp) (n j : Nat) (s : State) : (fillCells o n j s).2.rook = s.rook := by
  induction n generalizing j s with
  | zero => rfl
  | succ n ih => simp only [fillCells]; (repeat' split) <;> simp [ih]

@[simp] theorem rook_drainCells (o : ParkOp) (n j : Nat) (s : State) : (drainCells o n j s).2.rook = s.rook := by
  induction n generalizing j s with
  | zero => rfl
  | succ n ih => simp only [drainCells]; (repeat' split) <;> simp [ih]

@[simp] theorem rook_dropCells (q : Nat) (cs : List Nat) (s : State) : (dropCells q cs s).rook = s.rook := by simp [dropCells]
@[simp] theorem rook_ParkOp_drawn (o : ParkOp) (s : State) : (ParkOp.drawn o s).rook = s.rook := by simp [ParkOp.drawn]

@[simp] theorem rook_runPush (o : ParkOp) (slotOld : Option Nat) (s : State) : (runPush o slotOld s).2.rook = s.rook := by
  simp only [runPush]
  split
  · simp
  · split
    · simp
    · split
      · simp
      · split
        · rename_i hpark
          exact (rook_parkOp hpark).trans (rook_fillCells ..)
        · simp

@[simp] theorem rook_runPop (o : ParkOp) (slotOld : Option Nat) (s : State) : (runPop o slotOld s).2.rook = s.rook := by
  simp only [runPop]
  split
  · simp
  · split
    · simp
    · split
      · simp
      · split
        · rename_i hpark
          exact (rook_parkOp hpark).trans (rook_drainCells ..)
        · simp

@[simp] theorem rook_pushAct (op : QmOp) (s : State) : (pushAct op s).2.rook = s.rook := by
  simp only [pushAct]
  split <;> simp

@[simp] theorem rook_popAct (op : QmOp) (s : State) : (popAct op s).2.rook = s.rook := by
  simp only [popAct]
  split <;> simp

@[simp] theorem rook_pushIdleAct (op : QmOp) (s : State) : (pushIdleAct op s).2.rook = s.rook := by
  simp only [pushIdleAct]
  split <;> simp

@[simp] theorem rook_flushAct (op : QmOp) (s : State) : (flushAct op s).2.rook = s.rook := by simp [flushAct]
@[simp] theorem rook_markAct (op : QmOp) (s : State) : (markAct op s).2.rook = s.rook := by simp [markAct]
@[simp] theorem rook_rewindAct (op : QmOp) (s : State) : (rewindAct op s).2.rook = s.rook := by simp [rewindAct]
@[simp] theorem rook_unmarkAct (op : QmOp) (s : State) : (unmarkAct op s).2.rook = s.rook := by simp [unmarkAct]
@[simp] theorem rook_resetAct (op : QmOp) (s : State) : (resetAct op s).2.rook = s.rook := by simp [resetAct]
@[simp] theorem rook_freePark (k : Nat) (s : State) : (freePark k s).rook = s.rook := by simp [freePark]

@[simp] theorem rook_endPark (k : Nat) (o : ParkOp) (result len : Nat) (s : State) :
    (endPark k o result len s).rook = s.rook := by simp [endPark]

@[simp] theorem rook_endShort (k : Nat) (o : ParkOp) (result : Nat) (s : State) :
    (endShort k o result s).rook = s.rook := by simp [endShort]

@[simp] theorem rook_scanEnd (q : Nat) (s : State) : (scanEnd q s).rook = s.rook := by simp [scanEnd, foldl_rook]

@[simp] theorem rook_cmdComplete (slot : Nat) (s : State) : (cmdComplete slot s).rook = s.rook := by
  unfold cmdComplete
  split <;> simp

@[simp] theorem rook_resumePark (k : Nat) (s : State) : (resumePark k s).rook = s.rook := by
  simp only [resumePark]
  (repeat' split) <;> simp

@[simp] theorem rook_abortPark (k : Nat) (s : State) : (abortPark k s).rook = s.rook := by
  unfold abortPark
  split <;> simp

/-! Cluster services (R117 to R119). -/

@[simp] theorem rook_countOpen (f : Fld) (k : Nat) (s : State) : (countOpen f k s).rook = s.rook := by simp [countOpen]
@[simp] theorem rook_crcSelect (c st alg : Nat) (s : State) : (crcSelect c st alg s).rook = s.rook := by simp [crcSelect]
@[simp] theorem rook_crcFeed (c st n word : Nat) (s : State) : (crcFeed c st n word s).rook = s.rook := by simp [crcFeed]
@[simp] theorem rook_timerExpire (t : Nat) (s : State) : (timerExpire t s).rook = s.rook := by simp [timerExpire]
@[simp] theorem rook_claimMbx (c reader : Nat) (s : State) : (claimMbx c reader s).rook = s.rook := by simp [claimMbx]
@[simp] theorem rook_raiseSwi (c : Nat) (s : State) : (raiseSwi c s).rook = s.rook := by simp [raiseSwi]
@[simp] theorem rook_sendMbx (c sender : Nat) (s : State) : (sendMbx c sender s).rook = s.rook := by simp [sendMbx]
@[simp] theorem rook_ackMbx (c receiver : Nat) (s : State) : (ackMbx c receiver s).rook = s.rook := by simp [ackMbx]

/-! Surface handles (R123 to R128). -/

@[simp] theorem rook_setHandle (h : Nat) (v : HandleState) (s : State) : (setHandle h v s).rook = s.rook := by simp [setHandle]

@[simp] theorem rook_pagePinned (write : Bool) (va : Nat) (s : State) : (pagePinned write va s).2.rook = s.rook := by
  simp only [pagePinned]
  split <;> simp

@[simp] theorem rook_pagesPinned (write : Bool) (l : List Nat) (s : State) : (pagesPinned write l s).2.rook = s.rook := by
  induction l generalizing s with
  | nil => rfl
  | cons va l ih => simp [pagesPinned, ih]

@[simp] theorem rook_publishBuf (h b : Nat) (t : Int) (s : State) : (publishBuf h b t s).rook = s.rook := by simp [publishBuf]
@[simp] theorem rook_unpublish (h b : Nat) (s : State) : (unpublish h b s).rook = s.rook := by simp [unpublish]

@[simp] theorem rook_takeForWrite (h : Nat) (s : State) : (takeForWrite h s).2.rook = s.rook := by
  unfold takeForWrite
  split <;> simp

@[simp] theorem rook_hcmdBusy (c : HCmd) (s : State) : (hcmdBusy c s).rook = s.rook := by simp [hcmdBusy]

@[simp] theorem rook_hcmd {act : State → State} (hact : ∀ s, (act s).rook = s.rook) (s : State) : (hcmd act s).rook = s.rook := by
  simp [hcmd, hact]

@[simp] theorem rook_registerAct (h : Nat) (s : State) : (registerAct h s).rook = s.rook := by
  simp only [registerAct]
  (repeat' split) <;> simp

@[simp] theorem rook_publishAct (h b : Nat) (s : State) : (publishAct h b s).rook = s.rook := by simp [publishAct]
@[simp] theorem rook_acquireAct (h b : Nat) (s : State) : (acquireAct h b s).rook = s.rook := by simp [acquireAct]
@[simp] theorem rook_releaseAct (h : Nat) (s : State) : (releaseAct h s).rook = s.rook := by simp [releaseAct]

@[simp] theorem rook_hcmdComplete (s : State) : (hcmdComplete s).rook = s.rook := by
  unfold hcmdComplete
  split <;> simp

@[simp] theorem rook_handleFree (h : Nat) (s : State) : (handleFree h s).rook = s.rook := by simp [handleFree]

/-! Ingest (R132 to R138). -/

@[simp] theorem rook_setRx (r : Nat) (c : RxCtx) (s : State) : (setRx r c s).rook = s.rook := by simp [setRx]
@[simp] theorem rook_setRxFrame (r : Nat) (f : Option RxFrame) (s : State) : (setRxFrame r f s).rook = s.rook := by simp [setRxFrame]
@[simp] theorem rook_dropFrame (r : Nat) (f : RxFrame) (s : State) : (dropFrame r f s).rook = s.rook := by simp [dropFrame]

@[simp] theorem rook_rxWrite (r va : Nat) (l : List Byte) (s : State) : (rxWrite r va l s).rook = s.rook := by
  simp only [rxWrite]
  (repeat' split) <;> simp

@[simp] theorem rook_beginFrame (r : Nat) (p : RxPkt) (gt : Nat) (s : State) : (beginFrame r p gt s).rook = s.rook := by simp [beginFrame]

@[simp] theorem rook_storeRun (r : Nat) (p : RxPkt) (f : RxFrame) (d : SurfDesc) (b : Nat) (s : State) :
    (storeRun r p f d b s).rook = s.rook := by simp [storeRun, foldl_rook]

@[simp] theorem rook_zeroMissing (r : Nat) (f : RxFrame) (d : SurfDesc) (b : Nat) (s : State) : (zeroMissing r f d b s).rook = s.rook := by
  refine forN_rook (fun y s => forN_rook (fun x s => ?_) s) s
  split
  · rfl
  · exact forN_rook (fun p s => rook_rxWrite ..) s

@[simp] theorem rook_publishFrame (r : Nat) (f : RxFrame) (b : Nat) (s : State) : (publishFrame r f b s).rook = s.rook := by
  unfold publishFrame
  split <;> simp

@[simp] theorem rook_storeDecoded (r : Nat) (d : SurfDesc) (b : Nat) (px : List Nat) (s : State) :
    (storeDecoded r d b px s).rook = s.rook := by simp [storeDecoded, foldl_rook]

@[simp] theorem rook_decodeFrame (r : Nat) (f : RxFrame) (d : SurfDesc) (b : Nat) (s : State) : (decodeFrame r f d b s).rook = s.rook := by
  simp only [decodeFrame]
  (repeat' split) <;> simp

@[simp] theorem rook_endFrame (r : Nat) (s : State) : (endFrame r s).rook = s.rook := by
  simp only [endFrame]
  (repeat' split) <;> simp

@[simp] theorem rook_rxInOrder (r : Nat) (p : RxPkt) (gt : Nat) (s : State) : (rxInOrder r p gt s).rook = s.rook := by
  simp only [rxInOrder]
  (repeat' split) <;> simp

@[simp] theorem rook_rxDrain (r n : Nat) (s : State) : (rxDrain r n s).rook = s.rook := by
  induction n generalizing s with
  | zero => rfl
  | succ n ih => simp only [rxDrain]; (repeat' split) <;> simp [ih]

@[simp] theorem rook_rxPacketIn (r : Nat) (p : RxPkt) (s : State) : (rxPacketIn r p s).rook = s.rook := by simp [rxPacketIn]
@[simp] theorem rook_previewPx (d : SurfDesc) (b y : Nat) (s : State) : (previewPx d b y s).2.rook = s.rook := by simp [previewPx]

@[simp] theorem rook_previewLines (d : SurfDesc) (b : Nat) (s : State) : (previewLines d b s).2.rook = s.rook := by
  unfold previewLines
  refine foldl_snd_rook (fun a y => ?_) _ _
  simp only
  split <;> simp

@[simp] theorem rook_previewSent (n : Nat) (s : State) : (previewSent n s).rook = s.rook := by
  simp only [previewSent]
  (repeat' split) <;> simp

/-! Composition (R139 to R164). -/

@[simp] theorem rook_setLayer (k : Nat) (v : LayerState) (s : State) : (setLayer k v s).rook = s.rook := by simp [setLayer]
@[simp] theorem rook_setLevel (k fill : Nat) (s : State) : (setLevel k fill s).rook = s.rook := by simp [setLevel]
@[simp] theorem rook_showLayer (k : Nat) (v : LayerState) (s : State) : (showLayer k v s).rook = s.rook := by simp [showLayer]

@[simp] theorem rook_takeLayer (n k : Nat) (r : LayerRec) (s : State) : (takeLayer n k r s).rook = s.rook := by
  unfold takeLayer
  dsimp only
  split
  · simp
  · split
    · simp
    · split
      · split <;> simp
      · simp

@[simp] theorem rook_countTakes (l : List Byte) (s : State) : (countTakes l s).rook = s.rook := by simp [countTakes, foldl_rook]

@[simp] theorem rook_queueList (s : State) : (queueList s).2.rook = s.rook := by
  simp only [queueList]
  split <;> simp

@[simp] theorem rook_takeList (s : State) : (takeList s).2.rook = s.rook := by simp [takeList]
@[simp] theorem rook_latchOcc (s : State) : (latchOcc s).rook = s.rook := by simp [latchOcc, forN_rook]
@[simp] theorem rook_takeFrame (n : Nat) (s : State) : (takeFrame n s).rook = s.rook := by simp [takeFrame, forN_rook]

@[simp] theorem rook_wbDropFrame (at_ : Option Nat) (s : State) : (wbDropFrame at_ s).rook = s.rook := by
  unfold wbDropFrame
  split <;> simp

@[simp] theorem rook_listTakeAt (n : Nat) (s : State) : (listTakeAt n s).rook = s.rook := by simp [listTakeAt]
@[simp] theorem rook_layerFault (k line va : Nat) (s : State) : (layerFault k line va s).rook = s.rook := by simp [layerFault]

@[simp] theorem rook_fetchBytes (k line va n : Nat) (s : State) : (fetchBytes k line va n s).2.rook = s.rook := by
  simp only [fetchBytes]
  split <;> simp

@[simp] theorem rook_sample16 (k line : Nat) (d : SurfDesc) (b p x y : Nat) (s : State) :
    (sample16 k line d b p x y s).2.rook = s.rook := by simp [sample16]

@[simp] theorem rook_chroma (k line : Nat) (d : SurfDesc) (b c x y cropEnd : Nat) (s : State) :
    (chroma k line d b c x y cropEnd s).2.rook = s.rook := by simp [chroma]

@[simp] theorem rook_fetchPx (k line : Nat) (d : SurfDesc) (b x y cropEnd : Nat) (s : State) :
    (fetchPx k line d b x y cropEnd s).2.rook = s.rook := by
  unfold fetchPx
  split <;> simp

@[simp] theorem rook_scaledPx (k : Nat) (r : LayerRec) (d : SurfDesc) (b X Y : Nat) (s : State) :
    (scaledPx k r d b X Y s).2.rook = s.rook := by
  unfold scaledPx
  extract_lets px py tx ty cx cy go
  have hgo : go.2.rook = s.rook := by
    refine foldl_snd_rook (fun acc e => ?_) _ _
    split
    · rfl
    · split_ifs
      · rfl
      · extract_lets p
        have hp : p.2.rook = acc.2.rook := rook_fetchPx ..
        clear_value p
        split <;> exact hp
  clear_value go
  split <;> exact hgo

@[simp] theorem rook_maskValue (k X Y : Nat) (s : State) : (maskValue k X Y s).2.rook = s.rook := by
  simp only [maskValue]
  (repeat' split) <;> simp

@[simp] theorem rook_maskFactors (k X Y e : Nat) (s : State) : (maskFactors k X Y e s).2.rook = s.rook := by
  unfold maskFactors
  refine foldl_snd_rook (fun a m => ?_) _ _
  simp only
  split <;> simp

@[simp] theorem rook_layerPx (k X Y : Nat) (d : Nat × Nat × Nat) (s : State) : (layerPx k X Y d s).2.rook = s.rook := by
  simp only [layerPx]
  (repeat' split) <;> simp

@[simp] theorem rook_compPx (X Y : Nat) (s : State) : (compPx X Y s).2.rook = s.rook := by
  unfold compPx
  refine foldl_snd_rook (fun a m => ?_) _ _
  split <;> simp

@[simp] theorem rook_compAt (X Y : Int) (s : State) : (compAt X Y s).2.rook = s.rook := by simp [compAt]
@[simp] theorem rook_sitePx (x y : Nat) (s : State) : (sitePx x y s).2.rook = s.rook := by simp [sitePx]

@[simp] theorem rook_lineSites (y : Nat) (s : State) : (lineSites y s).2.rook = s.rook := by
  suffices RookStands s (lineSites y s) from this
  unfold lineSites
  generalize List.range 1024 = l
  refine RookStands.mk (foldl_snd_rook (fun a x => ?_) l _)
  exact rook_sitePx ..

@[simp] theorem rook_composeLine (y : Nat) (s : State) : (composeLine y s).2.rook = s.rook := by
  suffices RookStands s (composeLine y s) from this
  have hr := rook_lineSites y s
  unfold composeLine
  split
  · exact .mk rfl
  · generalize lineSites y s = r at hr ⊢
    refine RookStands.mk ?_
    rw [drawn_rook, rook_snd_ite, rook_lineSites, ite_self, hr]

@[simp] theorem rook_fetchBurst (k va len : Nat) (s : State) : (fetchBurst k va len s).rook = s.rook := by
  simp only [fetchBurst]
  (repeat' split) <;> simp

@[simp] theorem rook_consumeLine (y : Nat) (s : State) : (consumeLine y s).rook = s.rook := by
  unfold consumeLine
  split
  · rfl
  · refine foldl_rook (fun s k => ?_) _ s
    simp only
    split <;> simp

/-! Rails (R273 to R288). -/

@[simp] theorem rook_railFault (k : Nat) (low : Bool) (s : State) : (railFault k low s).rook = s.rook := by simp [railFault]
@[simp] theorem rook_railTrip (k src : Nat) (low : Bool) (s : State) : (railTrip k src low s).rook = s.rook := by simp [railTrip]
@[simp] theorem rook_railStartAt (k : Nat) (s : State) : (railStartAt k s).rook = s.rook := by simp [railStartAt]
@[simp] theorem rook_railRestartAt (k : Nat) (s : State) : (railRestartAt k s).rook = s.rook := by simp [railRestartAt, forN_rook]

@[simp] theorem rook_railSense (k v : Nat) (s : State) : (railSense k v s).rook = s.rook := by
  simp only [railSense]
  split <;> simp

@[simp] theorem rook_railSample (k : Nat) (s : State) : (railSample k s).rook = s.rook := by
  simp only [railSample, setFld_rook]
  refine (forN_rook (fun _ _ => ?_) _).trans (rook_railSense ..)
  rfl

@[simp] theorem rook_railHoldEntryAt (k v : Nat) (s : State) : (railHoldEntryAt k v s).rook = s.rook := by simp [railHoldEntryAt]
@[simp] theorem rook_startFailAt (k : Nat) (s : State) : (startFailAt k s).rook = s.rook := by simp [startFailAt]
@[simp] theorem rook_railApplySet (k v n : Nat) (s : State) : (railApplySet k v n s).rook = s.rook := by simp [railApplySet]
@[simp] theorem rook_railTrackEntryAt (k : Nat) (s : State) : (railTrackEntryAt k s).rook = s.rook := by simp [railTrackEntryAt]
@[simp] theorem rook_railTrackExitAt (k : Nat) (s : State) : (railTrackExitAt k s).rook = s.rook := by simp [railTrackExitAt]
@[simp] theorem rook_railDown (k : Nat) (s : State) : (railDown k s).rook = s.rook := by simp [railDown]
@[simp] theorem rook_railSlewOffAt (k : Nat) (s : State) : (railSlewOffAt k s).rook = s.rook := by simp [railSlewOffAt]
@[simp] theorem rook_ovAt (k v : Nat) (s : State) : (ovAt k v s).rook = s.rook := by simp [ovAt]
@[simp] theorem rook_uvAt (k v : Nat) (s : State) : (uvAt k v s).rook = s.rook := by simp [uvAt]
@[simp] theorem rook_ocAt (k : Nat) (s : State) : (ocAt k s).rook = s.rook := by simp [ocAt]
@[simp] theorem rook_senseFailAt (k v : Nat) (s : State) : (senseFailAt k v s).rook = s.rook := by simp [senseFailAt]
@[simp] theorem rook_phaseFailAt (k i : Nat) (s : State) : (phaseFailAt k i s).rook = s.rook := by simp [phaseFailAt]
@[simp] theorem rook_phaseLimitAt (k i : Nat) (s : State) : (phaseLimitAt k i s).rook = s.rook := by simp [phaseLimitAt]
@[simp] theorem rook_railsRemoved (s : State) : (railsRemoved s).rook = s.rook := by simp [railsRemoved, forN_rook]

@[simp] theorem rook_railForecast (k n smax ipk : Nat) (tmin : Int) (s : State) :
    (railForecast k n smax ipk tmin s).rook = s.rook := by simp [railForecast]

@[simp] theorem rook_railLate (k n : Nat) (s : State) : (railLate k n s).rook = s.rook := by simp [railLate]

@[simp] theorem rook_railRise (k n : Nat) (s : State) : (railRise k n s).rook = s.rook := by
  simp only [railRise]
  (repeat' split) <;> simp

@[simp] theorem rook_railRaiseAt (n : Nat) (s : State) : (railRaiseAt n s).rook = s.rook := by simp [railRaiseAt, forN_rook]
@[simp] theorem rook_railFall (k n : Nat) (s : State) : (railFall k n s).rook = s.rook := by simp [railFall]

@[simp] theorem rook_railCommitted (k : Nat) (s : State) : (railCommitted k s).rook = s.rook := by
  simp only [railCommitted]
  (repeat' split) <;> simp

@[simp] theorem rook_railsStop (s : State) : (railsStop s).rook = s.rook := by simp [railsStop, forN_rook]

/-! The cartridge (R170 to R189). -/

@[simp] theorem rook_modCor (f : CorState → CorState) (s : State) : (modCor f s).rook = s.rook := by simp [modCor]
@[simp] theorem rook_corQuiet (va n : Nat) (s : State) : (corQuiet va n s).2.rook = s.rook := by simp [corQuiet]
@[simp] theorem rook_corQuietW (va : Nat) (l : List Byte) (s : State) : (corQuietW va l s).2.rook = s.rook := by simp [corQuietW]
@[simp] theorem rook_corRead (cm : Bool) (va n : Nat) (s : State) : (corRead cm va n s).2.rook = s.rook := by simp [corRead]

@[simp] theorem rook_corWrite (cm : Bool) (va : Nat) (l : List Byte) (s : State) :
    (corWrite cm va l s).2.rook = s.rook := by simp [corWrite]

@[simp] theorem rook_setAcc (q v : Nat) (s : State) : (setAcc q v s).rook = s.rook := by simp [setAcc]
@[simp] theorem rook_authResult (id cert sig : List Byte) (s : State) : (authResult id cert sig s).2.rook = s.rook := by simp [authResult]
@[simp] theorem rook_corFinish (r : Nat) (s : State) : (corFinish r s).rook = s.rook := by simp [corFinish]
@[simp] theorem rook_corBusy (b : CorBusy) (s : State) : (corBusy b s).rook = s.rook := by simp [corBusy]
@[simp] theorem rook_corPut (va : Nat) (l : List Byte) (s : State) : (corPut va l s).2.rook = s.rook := by simp [corPut]

@[simp] theorem rook_wearPlane (img wg : Nat) (s : State) : (wearPlane img wg s).2.rook = s.rook := by
  simp only [wearPlane]
  split <;> simp

@[simp] theorem rook_andThen {f : State → Nat × State} (hf : ∀ s, (f s).2.rook = s.rook) (r : Nat × State) :
    (andThen r f).2.rook = r.2.rook := by
  simp [andThen, hf]

@[simp] theorem rook_attachCal (c : Cartridge) (s : State) : (attachCal c s).2.rook = s.rook := by simp [attachCal]

@[simp] theorem rook_attachDose (c : Cartridge) (s : State) : (attachDose c s).2.rook = s.rook := by
  unfold attachDose
  split <;> simp

@[simp] theorem rook_attachRest (auth : Nat) (c : Cartridge) (s : State) : (attachRest auth c s).rook = s.rook := by
  unfold attachRest
  extract_lets s1 s2 a b r
  have h2 : s2.rook = s.rook := by
    have h1 : s1.rook = s.rook := setFld_rook ..
    clear_value s1
    unfold s2
    split
    · exact h1
    · rw [rook_raise, h1]
  have hr : r = andThen (andThen (attachCal c s2) (attachDose c)) (wearPlane a b) := rfl
  clear_value r
  replace hr : r.2.rook = s2.rook := by
    rw [hr, rook_andThen (rook_wearPlane a b), rook_andThen (rook_attachDose c), rook_attachCal]
  rw [rook_ite, rook_corBusy, rook_corBusy, rook_modCor, setFld_rook, ite_self, hr, h2]

@[simp] theorem rook_lifeClear (s : State) : (lifeClear s).rook = s.rook := by simp [lifeClear]
@[simp] theorem rook_showId (s : State) : (showId s).rook = s.rook := by simp [showId]

@[simp] theorem rook_attachAct (s : State) : (attachAct s).rook = s.rook := by
  simp only [attachAct]
  (repeat' split) <;> simp

@[simp] theorem rook_corCommand {act : State → State} (hact : ∀ s, (act s).rook = s.rook) (s : State) :
    (corCommand act s).rook = s.rook := by
  simp [corCommand, hact]

@[simp] theorem rook_corReady {act : State → State} (hact : ∀ s, (act s).rook = s.rook) (s : State) : (corReady act s).rook = s.rook :=
  rook_corCommand (fun s => by simp [hact]) s

@[simp] theorem rook_authTimeoutAct (s : State) : (authTimeoutAct s).rook = s.rook := by
  unfold authTimeoutAct
  split <;> simp

@[simp] theorem rook_prepareAct (rebase : Bool) (s : State) : (prepareAct rebase s).rook = s.rook := by
  simp only [prepareAct]
  (repeat' split) <;> simp

@[simp] theorem rook_exportAct (s : State) : (exportAct s).rook = s.rook := by
  unfold exportAct
  split <;> simp

@[simp] theorem rook_calWriteAct (overwrite : Bool) (s : State) : (calWriteAct overwrite s).rook = s.rook := by
  simp only [calWriteAct]
  (repeat' split) <;> simp

@[simp] theorem rook_calWriteEnd (id : List Byte) (s : State) : (calWriteEnd id s).rook = s.rook := by
  unfold calWriteEnd
  split <;> simp

@[simp] theorem rook_lifeSum (s : State) : (lifeSum s).rook = s.rook := by simp [lifeSum]

@[simp] theorem rook_ckptBegin (clean : Bool) (s : State) : (ckptBegin clean s).2.rook = s.rook := by
  simp only [ckptBegin]
  (repeat' split) <;> simp

@[simp] theorem rook_ckptEnd (r : CkptRun) (s : State) : (ckptEnd r s).rook = s.rook := by
  simp only [ckptEnd]
  split <;> simp

@[simp] theorem rook_checkpointAct (clean : Bool) (s : State) : (checkpointAct clean s).rook = s.rook := by simp [checkpointAct]
@[simp] theorem rook_lifeUpdate (n p : Nat) (doses : List Nat) (s : State) : (lifeUpdate n p doses s).rook = s.rook := by simp [lifeUpdate]

@[simp] theorem rook_spillWear (cm : Bool) (p q dose : Nat) (l : List (Nat × Nat)) (s : State) :
    (spillWear cm p q dose l s).2.rook = s.rook := by
  induction l generalizing s with
  | nil => rfl
  | cons e l ih => simp only [spillWear]; (repeat' split) <;> simp [ih]

@[simp] theorem rook_spillSub (cm : Bool) (n p i : Nat) (s : State) : (spillSub cm n p i s).2.rook = s.rook := by
  simp only [spillSub]
  split <;> simp

@[simp] theorem rook_spillTile (cm : Bool) (n : Nat) (s : State) : (spillTile cm n s).2.rook = s.rook := by
  have hsub : ∀ (p : Nat) (l : List Nat) (a : Bool × State),
      (l.foldl (fun (a : Bool × State) i => let x := spillSub cm n p i a.2; (a.1 && x.1, x.2)) a).2.rook = a.2.rook := by
    intro p l a
    refine foldl_snd_rook (fun a i => ?_) l a
    exact rook_spillSub ..
  unfold spillTile
  generalize List.range 4096 = l
  simp only [rook_lifeSum]
  refine foldl_snd_rook (fun a p => ?_) _ _
  have hr := hsub p l a
  simp only at hr ⊢
  split <;> simp [hr]

@[simp] theorem rook_shutdownAct (s : State) : (shutdownAct s).rook = s.rook := by
  simp only [shutdownAct]
  (repeat' split) <;> simp [foldl_snd_rook]

@[simp] theorem rook_corComplete (s : State) : (corComplete s).rook = s.rook := by
  simp only [corComplete]
  (repeat' split) <;> simp

@[simp] theorem rook_presenceAct (c : Cartridge) (s : State) : (presenceAct c s).rook = s.rook := by simp [presenceAct]
@[simp] theorem rook_cartGone (s : State) : (cartGone s).rook = s.rook := by simp [cartGone]
@[simp] theorem rook_removalAct (s : State) : (removalAct s).rook = s.rook := by simp [removalAct]
@[simp] theorem rook_ckptStart (s : State) : (ckptStart s).rook = s.rook := by simp [ckptStart]
@[simp] theorem rook_ckptDueAct (s : State) : (ckptDueAct s).rook = s.rook := by simp [ckptDueAct]
@[simp] theorem rook_ckptDeferredAct (s : State) : (ckptDeferredAct s).rook = s.rook := by simp [ckptDeferredAct]

@[simp] theorem rook_ckptWrittenAct (s : State) : (ckptWrittenAct s).rook = s.rook := by
  unfold ckptWrittenAct
  split <;> simp

/-! Correction (R177 to R187). -/

@[simp] theorem rook_readThetas (s : State) : (readThetas s).2.rook = s.rook := by
  simp only [readThetas]
  split <;> simp

@[simp] theorem rook_corLatch (s : State) : (corLatch s).rook = s.rook := by simp [corLatch]
@[simp] theorem rook_takeAt (n : Nat) (s : State) : (takeAt n s).rook = s.rook := by simp [takeAt]
@[simp] theorem rook_calFault (va : Nat) (s : State) : (calFault va s).rook = s.rook := by simp [calFault]

@[simp] theorem rook_faultIn (q : Nat) (s : State) : (faultIn q s).2.rook = s.rook := by
  simp only [faultIn]
  split <;> simp

@[simp] theorem rook_portFault (n va q : Nat) (s : State) : (portFault n va q s).2.rook = s.rook := by simp [portFault]

@[simp] theorem rook_calIn (n q : Nat) (s : State) : (calIn n q s).2.rook = s.rook := by
  simp only [calIn]
  (repeat' split) <;> simp

@[simp] theorem rook_doseAcc (n q frame y : Nat) (s : State) : (doseAcc n q frame y s).rook = s.rook := by simp [doseAcc]
@[simp] theorem rook_gather (n p sum top : Nat) (s : State) : (gather n p sum top s).rook = s.rook := by simp [gather]

@[simp] theorem rook_correctRow (frame n yl p : Nat) (d : List Nat) (s : State) : (correctRow frame n yl p d s).rook = s.rook := by
  unfold correctRow
  extract_lets one r st words t
  have hr : r.2.rook = s.rook := by
    refine foldl_snd_rook (fun a xl => ?_) _ _
    simp only [one]
    by_cases hlit : a.2.corLit
    · simp [hlit]
    · simp [hlit]
  clear_value r
  rw [putBytes_rook, rook_gather]
  exact hr

@[simp] theorem rook_correctLine (frame y : Nat) (line : List (Nat × Nat × Nat)) (s : State) :
    (correctLine frame y line s).rook = s.rook := by simp [correctLine, forN_rook]

@[simp] theorem rook_spillAfter (frame y : Nat) (s : State) : (spillAfter frame y s).rook = s.rook := by simp [spillAfter, forN_rook]

@[simp] theorem rook_wbWriteLine (d : SurfDesc) (b y : Nat) (l : List (Nat × Nat × Nat)) (s : State) :
    (wbWriteLine d b y l s).2.rook = s.rook := by simp [wbWriteLine]

@[simp] theorem rook_wbLine (y : Nat) (line : List (Nat × Nat × Nat)) (s : State) : (wbLine y line s).rook = s.rook := by
  simp only [wbLine]
  (repeat' split) <;> simp

@[simp] theorem rook_setNext (y : Nat) (s : State) : (setNext y s).rook = s.rook := by
  unfold setNext
  split <;> simp

@[simp] theorem rook_lineAt (y : Nat) (s : State) : (lineAt y s).rook = s.rook := by
  unfold lineAt
  split <;> simp

@[simp] theorem rook_fillLines (frame : Nat) (l : List Nat) (s : State) : (fillLines frame l s).rook = s.rook := by
  induction l generalizing s with
  | nil => rfl
  | cons y l ih => rw [fillLines, ih, rook_spillAfter, rook_correctLine]

@[simp] theorem rook_closeForecast (n : Nat) (s : State) : (closeForecast n s).rook = s.rook := by simp [closeForecast, forN_rook]

@[simp] theorem rook_deadlineAt (n : Nat) (s : State) : (deadlineAt n s).rook = s.rook := by
  simp only [deadlineAt]
  (repeat' split) <;> simp

@[simp] theorem rook_publishAt (n : Nat) (s : State) : (publishAt n s).rook = s.rook := by
  simp only [publishAt]
  (repeat' split) <;> simp

/-! Thermal and fans (R289 to R303). -/

@[simp] theorem rook_modThm (f : ThmState → ThmState) (s : State) : (modThm f s).rook = s.rook := by simp [modThm]
@[simp] theorem rook_judge (i : Nat) (x : Option Int) (s : State) : (judge i x s).rook = s.rook := by simp [judge]
@[simp] theorem rook_condStep (i : Nat) (fresh : Bool) (s : State) : (condStep i fresh s).rook = s.rook := by simp [condStep, foldl_rook]
@[simp] theorem rook_ovtStep (n : Nat) (s : State) : (ovtStep n s).rook = s.rook := by simp [ovtStep]

@[simp] theorem rook_ovtRaise (s : State) : (ovtRaise s).rook = s.rook := by
  unfold ovtRaise
  split <;> simp

@[simp] theorem rook_ceilStep (s : State) : (ceilStep s).rook = s.rook := by simp [ceilStep, forN_rook]

@[simp] theorem rook_throttleStep (ms t : Nat) (govLost : Bool) (s : State) : (throttleStep ms t govLost s).rook = s.rook := by
  simp only [throttleStep, rook_ite, intr_rook, rook_raise, ite_self]
  split <;> simp

@[simp] theorem rook_showGroups (s : State) : (showGroups s).rook = s.rook := by simp [showGroups]

@[simp] theorem rook_showDerate (s : State) : (showDerate s).rook = s.rook := by
  unfold showDerate
  refine forN_rook (fun _ _ => ?_) s
  rfl

@[simp] theorem rook_thmQuiet (s : State) : (thmQuiet s).rook = s.rook := by simp [thmQuiet]
@[simp] theorem rook_thmSwitch (en : Bool) (s : State) : (thmSwitch en s).rook = s.rook := by simp [thmSwitch]
@[simp] theorem rook_dieStep (s : State) : (dieStep s).rook = s.rook := by simp [dieStep]

@[simp] theorem rook_showSensors (s : State) : (showSensors s).rook = s.rook := by
  rw [showSensors, setFld_rook, drawn_rook, rook_showDerate]
  refine foldl_rook (fun _ _ => ?_) _ s
  rfl

@[simp] theorem rook_fanDrive (c : Nat) (s : State) : (fanDrive c s).rook = s.rook := by simp [fanDrive]
@[simp] theorem rook_fansDrive (s : State) : (fansDrive s).rook = s.rook := by simp [fansDrive, forN_rook]

@[simp] theorem rook_sampleAll (es : List (BitVec 32)) (die : List (BitVec 16)) (t : Nat) (s : State) :
    (sampleAll es die t s).rook = s.rook := by simp [sampleAll, foldl_rook, forN_rook]

@[simp] theorem rook_thmSampleAt (es : List (BitVec 32)) (die : List (BitVec 16)) (s : State) :
    (thmSampleAt es die s).rook = s.rook := by simp [thmSampleAt]

@[simp] theorem rook_holdEnd (s : State) : (holdEnd s).rook = s.rook := by
  unfold holdEnd
  split <;> simp

@[simp] theorem rook_tachWindow (c pulses : Nat) (s : State) : (tachWindow c pulses s).rook = s.rook := by simp [tachWindow]

@[simp] theorem rook_spinupEnd (c : Nat) (s : State) : (spinupEnd c s).rook = s.rook := by
  simp only [spinupEnd]
  split <;> simp

@[simp] theorem rook_fanMode (c mode : Nat) (s : State) : (fanMode c mode s).rook = s.rook := by simp [fanMode]

end Sys2Proof.Machine
end

section
/-! SUPPORT. Operations that leave Rook as it stands: scan, diagnostics, ports, time, accessories, DMA, commits and update. -/

namespace Sys2Proof.Machine

/-! What Rook shows. -/

@[simp] theorem rook_putCause (g : Nat) (c : BitVec 12) (s : State) : (putCause g c s).rook = s.rook := by simp [putCause]
@[simp] theorem rook_latchCause (gs : BitVec 8) (b : Nat) (s : State) : (latchCause gs b s).rook = s.rook := by simp [latchCause, forN_rook]
@[simp] theorem rook_showRook (s : State) : (showRook s).rook = s.rook := by simp [showRook]

@[simp] theorem rook_showDigest (s : State) : (showDigest s).rook = s.rook := by
  simp only [showDigest]
  exact forN_rook (f := fun i => setFld (F.rookDigestD.at (8 * i)) _) (fun _ _ => rfl) s

/-! Scan (R190 to R214). -/

@[simp] theorem rook_setTe (n : Nat) (v : TeState) (s : State) : (setTe n v s).rook = s.rook := by simp [setTe]
@[simp] theorem rook_storeWord (n a : Nat) (s : State) : (storeWord n a s).2.rook = s.rook := by simp [storeWord]

@[simp] theorem rook_storeRow (n frame p yl : Nat) (s : State) : (storeRow n frame p yl s).2.rook = s.rook := by
  unfold storeRow
  exact foldl_snd_rook (fun r w => by simp) _ _

@[simp] theorem rook_rowWords (n row word : Nat) (s : State) : (rowWords n row word s).2.rook = s.rook := by
  simp only [rowWords]
  split <;> simp [foldl_snd_rook]

@[simp] theorem rook_slotDark (n i : Nat) (s : State) : (slotDark n i s).rook = s.rook := by simp [slotDark]
@[simp] theorem rook_slotMiss (n : Nat) (s : State) : (slotMiss n s).rook = s.rook := by simp [slotMiss]
@[simp] theorem rook_otherInsn (n : Nat) (s : State) : (otherInsn n s).rook = s.rook := by simp [otherInsn]
@[simp] theorem rook_lineInsn (n word : Nat) (s : State) : (lineInsn n word s).rook = s.rook := by simp [lineInsn]

@[simp] theorem rook_scanStep {act : Nat → State → State} (hact : ∀ w s, (act w s).rook = s.rook) (n op : Nat) (s : State) :
    (scanStep n op act s).rook = s.rook := by
  simp [scanStep, hact]

@[simp] theorem rook_scanPc (n pc : Nat) (s : State) : (scanPc n pc s).rook = s.rook := by simp [scanPc]
@[simp] theorem rook_loopInsn (n w : Nat) (s : State) : (loopInsn n w s).rook = s.rook := by simp [loopInsn]
@[simp] theorem rook_setcInsn (n w : Nat) (s : State) : (setcInsn n w s).rook = s.rook := by simp [setcInsn]
@[simp] theorem rook_jmpInsn (n w : Nat) (s : State) : (jmpInsn n w s).rook = s.rook := by simp [jmpInsn]
@[simp] theorem rook_brrefInsn (n w : Nat) (s : State) : (brrefInsn n w s).rook = s.rook := by simp [brrefInsn]
@[simp] theorem rook_endInsn (n : Nat) (s : State) : (endInsn n s).rook = s.rook := by simp [endInsn]
@[simp] theorem rook_latchCeil (s : State) : (latchCeil s).rook = s.rook := by simp [latchCeil, forN_rook]
@[simp] theorem rook_teRefresh (n : Nat) (s : State) : (teRefresh n s).rook = s.rook := by simp [teRefresh]
@[simp] theorem rook_classChange (f : Nat) (s : State) : (classChange f s).rook = s.rook := by simp [classChange]

@[simp] theorem rook_scanClass (n : Nat) (s : State) : (scanClass n s).rook = s.rook := by
  unfold scanClass
  split <;> simp

@[simp] theorem rook_scanFrame (n : Nat) (s : State) : (scanFrame n s).rook = s.rook := by
  simp only [scanFrame]
  (repeat' split) <;> simp [forN_rook]

/-! Pixel diagnostics (R253 to R271). -/

@[simp] theorem rook_modDiag (f : DiagState → DiagState) (s : State) : (modDiag f s).rook = s.rook := by simp [modDiag]
@[simp] theorem rook_setSub (q : Nat) (v : SubSt) (s : State) : (setSub q v s).rook = s.rook := by simp [setSub]

@[simp] theorem rook_diagWrite (va : Nat) (l : List Byte) (s : State) : (diagWrite va l s).2.rook = s.rook := by
  simp only [diagWrite]
  split <;> simp

@[simp] theorem rook_writeEntry (q : Nat) (stamp : Option Nat) (s : State) : (writeEntry q stamp s).2.rook = s.rook := by
  unfold writeEntry
  split <;> simp

@[simp] theorem rook_diagEvent (q old new cause : Nat) (ko : Bool) (s : State) :
    (diagEvent q old new cause ko s).rook = s.rook := by simp [diagEvent]

@[simp] theorem rook_showStk (i : Nat) (s : State) : (showStk i s).rook = s.rook := by simp [showStk]

@[simp] theorem rook_evCount (q kind : Nat) (s : State) : (evCount q kind s).2.rook = s.rook := by
  simp only [evCount]
  (repeat' split) <;> simp

@[simp] theorem rook_evEnd (q : Nat) (s : State) : (evEnd q s).rook = s.rook := by simp [evEnd]
@[simp] theorem rook_evNote (q kind run : Nat) (s : State) : (evNote q kind run s).rook = s.rook := by simp [evNote]
@[simp] theorem rook_sweepDone (s : State) : (sweepDone s).rook = s.rook := by simp [sweepDone]

@[simp] theorem rook_diagCommand {act : State → Nat × State} (hact : ∀ s, (act s).2.rook = s.rook) (init : Bool) (s : State) :
    (diagCommand act init s).rook = s.rook := by
  simp [diagCommand, hact]

@[simp] theorem rook_diagDone (s : State) : (diagDone s).rook = s.rook := by
  unfold diagDone
  split <;> simp

/-! Emission ports (R225 to R252). -/

@[simp] theorem rook_modPort (p : Nat) (f : PortState → PortState) (s : State) : (modPort p f s).rook = s.rook := by simp [modPort]
@[simp] theorem rook_sendWords (p : Nat) (ws : List Word) (s : State) : (sendWords p ws s).rook = s.rook := by simp [sendWords]
@[simp] theorem rook_sendCapReq (p : Nat) (s : State) : (sendCapReq p s).rook = s.rook := by simp [sendCapReq]
@[simp] theorem rook_epTo (p st : Nat) (s : State) : (epTo p st s).rook = s.rook := by simp [epTo]
@[simp] theorem rook_rilStart (p : Nat) (assign : Bool) (s : State) : (rilStart p assign s).rook = s.rook := by simp [rilStart]
@[simp] theorem rook_epAssign (p q : Nat) (s : State) : (epAssign p q s).rook = s.rook := by simp [epAssign]
@[simp] theorem rook_epFault (p code : Nat) (s : State) : (epFault p code s).rook = s.rook := by simp [epFault]
@[simp] theorem rook_epFall (p q : Nat) (s : State) : (epFall p q s).rook = s.rook := by simp [epFall]
@[simp] theorem rook_errFall (p : Nat) (s : State) : (errFall p s).rook = s.rook := by simp [errFall]
@[simp] theorem rook_epRun (p : Nat) (s : State) : (epRun p s).rook = s.rook := by simp [epRun]
@[simp] theorem rook_epNext (p : Nat) (s : State) : (epNext p s).rook = s.rook := by simp [epNext]
@[simp] theorem rook_bringupAt (p : Nat) (s : State) : (bringupAt p s).rook = s.rook := by simp [bringupAt]
@[simp] theorem rook_retrainAt (p : Nat) (s : State) : (retrainAt p s).rook = s.rook := by simp [retrainAt]
@[simp] theorem rook_prbsCount (p : Nat) (s : State) : (prbsCount p s).rook = s.rook := by simp [prbsCount]
@[simp] theorem rook_downAt (p : Nat) (s : State) : (downAt p s).rook = s.rook := by simp [downAt]

@[simp] theorem rook_loopStart (p from_ : Nat) (k : LoopKind) (s : State) : (loopStart p from_ k s).rook = s.rook := by
  simp only [loopStart]
  (repeat' split) <;> simp

@[simp] theorem rook_loopEndAt (p : Nat) (s : State) : (loopEndAt p s).rook = s.rook := by
  simp only [loopEndAt]
  (repeat' split) <;> simp

@[simp] theorem rook_blockLockAt (p : Nat) (s : State) : (blockLockAt p s).rook = s.rook := by simp [blockLockAt]
@[simp] theorem rook_lockLossAt (p : Nat) (s : State) : (lockLossAt p s).rook = s.rook := by simp [lockLossAt]

@[simp] theorem rook_trainAt (p : Nat) (s : State) : (trainAt p s).rook = s.rook := by
  unfold trainAt
  split <;> simp

@[simp] theorem rook_trainOk (p : Nat) (s : State) : (trainOk p s).rook = s.rook := by simp [trainOk]
@[simp] theorem rook_trainBad (p : Nat) (s : State) : (trainBad p s).rook = s.rook := by simp [trainBad]
@[simp] theorem rook_capAt (p pos : Nat) (cap : BitVec 64) (s : State) : (capAt p pos cap s).rook = s.rook := by simp [capAt]
@[simp] theorem rook_capBad (p : Nat) (s : State) : (capBad p s).rook = s.rook := by simp [capBad]

@[simp] theorem rook_windowAt (p : Nat) (s : State) : (windowAt p s).rook = s.rook := by
  simp only [windowAt]
  split_ifs <;> simp

@[simp] theorem rook_epRerate (p : Nat) (s : State) : (epRerate p s).rook = s.rook := by
  unfold epRerate
  split <;> simp

@[simp] theorem rook_handOver (n i : Nat) (s : State) : (handOver n i s).2.rook = s.rook := by simp [handOver]

@[simp] theorem rook_retLost (p : Nat) (s : State) : (retLost p s).rook = s.rook := by
  simp only [retLost]
  (repeat' split) <;> simp [forN_rook]

@[simp] theorem rook_sendSlot (p i k frame slotCyc : Nat) (pkts : List TePkt) (s : State) :
    (sendSlot p i k frame slotCyc pkts s).rook = s.rook := by simp [sendSlot]

@[simp] theorem rook_slotAt (p i : Nat) (s : State) : (slotAt p i s).rook = s.rook := by
  unfold slotAt
  (repeat' split) <;> simp [foldl_snd_rook]

@[simp] theorem rook_retStatus (p : Nat) (r : Ret) (s : State) : (retStatus p r s).rook = s.rook := by simp [retStatus]
@[simp] theorem rook_rilSendAt (ports : BitVec 32) (s : State) : (rilSendAt ports s).rook = s.rook := by simp [rilSendAt, forN_rook]

@[simp] theorem rook_latchAt (p : Nat) (s : State) : (latchAt p s).rook = s.rook := by
  simp only [latchAt]
  (repeat' split) <;> simp

@[simp] theorem rook_rilResume (s : State) : (rilResume s).rook = s.rook := by simp [rilResume, forN_rook]

@[simp] theorem rook_epOp (p op lane pos : Nat) (s : State) : (epOp p op lane pos s).rook = s.rook := by
  unfold epOp
  split <;> simp

/-! Time (R348 to R360). -/

@[simp] theorem rook_modDom (d : Nat) (f : DomState → DomState) (s : State) : (modDom d f s).rook = s.rook := by simp [modDom]

@[simp] theorem rook_gtShow (s : State) : (gtShow s).rook = s.rook := by
  simp only [gtShow]
  (repeat' split) <;> simp

@[simp] theorem rook_domTo (d st : Nat) (s : State) : (domTo d st s).rook = s.rook := by simp [domTo]
@[simp] theorem rook_setGt (v : Int) (s : State) : (setGt v s).rook = s.rook := by simp [setGt]
@[simp] theorem rook_castleTo (d : Nat) (s : State) : (castleTo d s).rook = s.rook := by simp [castleTo]
@[simp] theorem rook_castleReq (s : State) : (castleReq s).2.rook = s.rook := by simp [castleReq]
@[simp] theorem rook_applyStep (n : Nat) (plan : Option Int) (s : State) : (applyStep n plan s).rook = s.rook := by simp [applyStep]
@[simp] theorem rook_decideStep (plan : Option Int) (s : State) : (decideStep plan s).rook = s.rook := by simp [decideStep]
@[simp] theorem rook_jumpConfirmed (d : Nat) (st : Int) (s : State) : (jumpConfirmed d st s).rook = s.rook := by simp [jumpConfirmed]
@[simp] theorem rook_holdSample (d : Nat) (o : Int) (s : State) : (holdSample d o s).rook = s.rook := by simp [holdSample]
@[simp] theorem rook_servo (d : Nat) (o : Int) (s : State) : (servo d o s).rook = s.rook := by simp [servo]
@[simp] theorem rook_trackSample (d : Nat) (o : Int) (s : State) : (trackSample d o s).rook = s.rook := by simp [trackSample]
@[simp] theorem rook_syncAt (d : Nat) (t1 corr : Int) (s : State) : (syncAt d t1 corr s).rook = s.rook := by simp [syncAt]
@[simp] theorem rook_holdover (d : Nat) (s : State) : (holdover d s).rook = s.rook := by simp [holdover]

@[simp] theorem rook_messageAt (d : Nat) (m : PtpRes) (s : State) : (messageAt d m s).rook = s.rook := by
  simp only [messageAt]
  (repeat' split) <;> simp

@[simp] theorem rook_holdoverAt (d : Nat) (s : State) : (holdoverAt d s).rook = s.rook := by simp [holdoverAt]
@[simp] theorem rook_castleAt (s : State) : (castleAt s).rook = s.rook := by simp [castleAt]
@[simp] theorem rook_castleStepAt (s : State) : (castleStepAt s).rook = s.rook := by simp [castleStepAt]
@[simp] theorem rook_domEnable (d : Nat) (on : Bool) (s : State) : (domEnable d on s).rook = s.rook := by simp [domEnable]

/-! Egress (R343 to R347). -/

@[simp] theorem rook_chnCount (src : Nat) (s : State) : (chnCount src s).rook = s.rook := by simp [chnCount]
@[simp] theorem rook_send (c : Nat) (f : List Byte) (s : State) : (send c f s).rook = s.rook := by simp [send]
@[simp] theorem rook_sendUp (c : Nat) (f : List Byte) (s : State) : (sendUp c f s).rook = s.rook := by simp [sendUp]

@[simp] theorem rook_sendBl (c : Nat) (hop : Bool) (ty : Nat) (down : Bool) (body : List Byte) (s : State) :
    (sendBl c hop ty down body s).rook = s.rook := by simp [sendBl]

/-! The tap. -/

@[simp] theorem rook_tapMark (p pos : Nat) (miss : Bool) (s : State) : (tapMark p pos miss s).rook = s.rook := by simp [tapMark]

/-! The mailbox buffer. -/

@[simp] theorem rook_rookWrite (n : Nat) (l : List Byte) (s : State) : (rookWrite n l s).2.rook = s.rook := by
  simp only [rookWrite]
  (repeat' split) <;> simp

@[simp] theorem rook_paramReadAct (s : State) : (paramReadAct s).2.rook = s.rook := by simp [paramReadAct]
@[simp] theorem rook_logReadAct (s : State) : (logReadAct s).2.rook = s.rook := by simp [logReadAct]

/-! Resets and their pins (R410 to R424). -/

@[simp] theorem rook_warmReset (cause : Fld) (s : State) : (warmReset cause s).rook = s.rook := by simp [warmReset]
@[simp] theorem rook_systemReset (cause : Fld) (s : State) : (systemReset cause s).rook = s.rook := by simp [systemReset]
@[simp] theorem rook_resetPin (s : State) : (resetPin s).rook = s.rook := by simp [resetPin]
@[simp] theorem rook_resetPinEnd (s : State) : (resetPinEnd s).rook = s.rook := by simp [resetPinEnd]
@[simp] theorem rook_rstStuckAt (s : State) : (rstStuckAt s).rook = s.rook := by simp [rstStuckAt]
@[simp] theorem rook_svcStuckAt (s : State) : (svcStuckAt s).rook = s.rook := by simp [svcStuckAt]
@[simp] theorem rook_svcWarm (s : State) : (svcWarm s).rook = s.rook := by simp [svcWarm]
@[simp] theorem rook_rstCmd (op key : Nat) (s : State) : (rstCmd op key s).rook = s.rook := by simp [rstCmd]
@[simp] theorem rook_cmpTakes (l : CmpLoads) (s : State) : (cmpTakes l s).rook = s.rook := by simp [cmpTakes]
@[simp] theorem rook_rxRebound (old : RegFile) (s : State) : (rxRebound old s).rook = s.rook := by simp [rxRebound, forN_rook]

@[simp] theorem rook_showSetId (s : State) : (showSetId s).rook = s.rook := by
  simp only [showSetId]
  split <;> simp

@[simp] theorem rook_corApplied (old : Nat × Nat) (s : State) : (corApplied old s).rook = s.rook := by simp [corApplied]

@[simp] theorem rook_loadLate (b : Blk) (s : State) : (loadLate b s).rook = s.rook := by
  simp only [loadLate]
  (repeat' split) <;> simp [forN_rook]

@[simp] theorem rook_blockRestart (b : Blk) (s : State) : (blockRestart b s).rook = s.rook := by
  unfold blockRestart
  split <;> simp

@[simp] theorem rook_blockResetEnd (b : Blk) (s : State) : (blockResetEnd b s).rook = s.rook := by
  unfold blockResetEnd
  split <;> simp

@[simp] theorem rook_shadowEnd (b : Blk) (s : State) : (shadowEnd b s).rook = s.rook := by
  unfold shadowEnd
  split <;> simp

@[simp] theorem rook_forceEvent (b : Blk) (src : Nat) (s : State) : (forceEvent b src s).rook = s.rook := by simp [forceEvent]

@[simp] theorem rook_forceList (b : Blk) (l : List Nat) (s : State) : (forceList b l s).rook = s.rook := by
  induction l generalizing s with
  | nil => rfl
  | cons i l ih => simp [forceList, ih]

@[simp] theorem rook_fltForce (b : Blk) (m : BitVec 32) (s : State) : (fltForce b m s).rook = s.rook := by simp [fltForce]
@[simp] theorem rook_capClear (b : Blk) (s : State) : (capClear b s).rook = s.rook := by simp [capClear]

/-! DMX and CAN (R365 to R372). -/

@[simp] theorem rook_modDmx (f : DmxState → DmxState) (s : State) : (modDmx f s).rook = s.rook := by simp [modDmx]

@[simp] theorem rook_dmxNull (slots : List Byte) (s : State) : (dmxNull slots s).rook = s.rook := by
  simp only [dmxNull, rook_ite, intr_rook, rook_raise, rook_endCond, rook_setFlag, ite_self, rook_modDmx, rook_countMod, setFld_rook]
  exact forN_rook (f := fun i => setFld (F.dmxSlotsSLOTS.at (8 * i)) (leAt (slots ++ List.replicate (512 - slots.length) 0) (8 * i) 8))
    (fun _ _ => setFld_rook ..) s

@[simp] theorem rook_dmxPacketIn (code : Nat) (slots : List Byte) (s : State) :
    (dmxPacketIn code slots s).rook = s.rook := by simp [dmxPacketIn]

@[simp] theorem rook_dmxLost (s : State) : (dmxLost s).rook = s.rook := by simp [dmxLost]
@[simp] theorem rook_rdmIn (l : List Byte) (s : State) : (rdmIn l s).rook = s.rook := by simp [rdmIn]
@[simp] theorem rook_rdmArm (len : Nat) (s : State) : (rdmArm len s).rook = s.rook := by simp [rdmArm]

@[simp] theorem rook_rdmSent (s : State) : (rdmSent s).rook = s.rook := by
  unfold rdmSent
  split <;> simp

@[simp] theorem rook_rdmMissed (s : State) : (rdmMissed s).rook = s.rook := by
  unfold rdmMissed
  split <;> simp

@[simp] theorem rook_modCan (n : Nat) (f : CanPort → CanPort) (s : State) : (modCan n f s).rook = s.rook := by simp [modCan]
@[simp] theorem rook_canTo (n st : Nat) (s : State) : (canTo n st s).rook = s.rook := by simp [canTo]
@[simp] theorem rook_canCounters (n : Nat) (s : State) : (canCounters n s).rook = s.rook := by simp [canCounters]

@[simp] theorem rook_canAccept (n : Nat) (f : CanFrame) (s : State) : (canAccept n f s).rook = s.rook := by
  unfold canAccept
  split <;> simp

@[simp] theorem rook_canRx (n : Nat) (f : CanFrame) (s : State) : (canRx n f s).rook = s.rook := by simp [canRx]

@[simp] theorem rook_canTake (n : Nat) (s : State) : (canTake n s).rook = s.rook := by
  simp only [canTake]
  (repeat' split) <;> simp

@[simp] theorem rook_canSent (n : Nat) (s : State) : (canSent n s).rook = s.rook := by
  unfold canSent
  split <;> simp

@[simp] theorem rook_canError (n : Nat) (transmit : Bool) (inc lec : Nat) (s : State) :
    (canError n transmit inc lec s).rook = s.rook := by simp [canError]

@[simp] theorem rook_canBusOff (n : Nat) (s : State) : (canBusOff n s).rook = s.rook := by simp [canBusOff]
@[simp] theorem rook_canRecover (n : Nat) (s : State) : (canRecover n s).rook = s.rook := by simp [canRecover]
@[simp] theorem rook_canRecovered (n : Nat) (s : State) : (canRecovered n s).rook = s.rook := by simp [canRecovered]
@[simp] theorem rook_canEnable (n : Nat) (on : Bool) (s : State) : (canEnable n on s).rook = s.rook := by simp [canEnable]

/-! DMA (R90 to R105). -/

@[simp] theorem rook_chEvent (n : Nat) (s : State) : (chEvent n s).rook = s.rook := by simp [chEvent]

@[simp] theorem rook_chFault (n phase : Nat) (c : Cause) (va : Nat) (s : State) : (chFault n phase c va s).rook = s.rook := by
  have hshown : ∀ (ws : List Nat) (r st : Nat), (fltqPush ws (chEvent n (setFld (F.dmaChStatSTATE.dma n) st
      (setFld (F.dmaChStatRESULT.dma n) r (setFrec (F.dmaChFrecW.dma n) ws s))))).rook = s.rook := by
    intro ws r st
    simp
  simp only [chFault]
  split
  · exact hshown ..
  · exact (rook_raise ..).trans (hshown ..)

@[simp] theorem rook_loadDesc (n : Nat) (s : State) : (loadDesc n s).rook = s.rook := by
  simp only [loadDesc]
  split <;> simp

@[simp] theorem rook_startCh (n : Nat) (s : State) : (startCh n s).rook = s.rook := by simp [startCh]

@[simp] theorem rook_resumeCh (n : Nat) (s : State) : (resumeCh n s).rook = s.rook := by
  simp only [resumeCh]
  (repeat' split) <;> simp

@[simp] theorem rook_pauseIf (n : Nat) (s : State) : (pauseIf n s).rook = s.rook := by simp [pauseIf]
@[simp] theorem rook_pauseCh (n : Nat) (s : State) : (pauseCh n s).rook = s.rook := by simp [pauseCh]

@[simp] theorem rook_abortCh (n : Nat) (s : State) : (abortCh n s).rook = s.rook := by
  simp only [abortCh]
  (repeat' split) <;> simp

@[simp] theorem rook_burstBytes (n : Nat) (d : DmaDesc) (row byte k : Nat) (s : State) :
    (burstBytes n d row byte k s).2.rook = s.rook := by simp [burstBytes]

@[simp] theorem rook_burstCh (n : Nat) (s : State) : (burstCh n s).rook = s.rook := by
  simp only [burstCh]
  (repeat' split) <;> simp

@[simp] theorem rook_completeCh (n : Nat) (s : State) : (completeCh n s).rook = s.rook := by
  simp only [completeCh]
  (repeat' split) <;> simp

@[simp] theorem rook_chLate (n : Nat) (walk write : Bool) (s : State) : (chLate n walk write s).rook = s.rook := by simp [chLate]

/-! Commits (R28 to R40). -/

@[simp] theorem rook_showCommit (s : State) : (showCommit s).rook = s.rook := by simp [showCommit]
@[simp] theorem rook_setPend (p : Option PendCommit) (s : State) : (setPend p s).rook = s.rook := by simp [setPend]

@[simp] theorem rook_commitRefused (member : Option Nat) (code : Nat) (s : State) : (commitRefused member code s).rook = s.rook := by
  unfold commitRefused
  split <;> simp

@[simp] theorem rook_satFail (e : Option Nat) (s : State) : (satFail e s).rook = s.rook := by
  unfold satFail
  split <;> simp

@[simp] theorem rook_submit (target : Nat) (g : BitVec 10) (asap : Bool) (sat : Option Nat) (s : State) :
    (submit target g asap sat s).rook = s.rook := by simp [submit]

@[simp] theorem rook_goAt (target : Nat) (g : BitVec 10) (asap : Bool) (s : State) : (goAt target g asap s).rook = s.rook := by simp [goAt]

@[simp] theorem rook_cancelAt (s : State) : (cancelAt s).rook = s.rook := by
  unfold cancelAt
  split <;> simp

@[simp] theorem rook_cmpLoad (va n : Nat) (s : State) : (cmpLoad va n s).2.rook = s.rook := by
  simp only [cmpLoad]
  (repeat' split) <;> simp

@[simp] theorem rook_loadList (s : State) : (loadList s).2.rook = s.rook := by
  simp only [loadList]
  (repeat' split) <;> simp

@[simp] theorem rook_loadMesh (s : State) : (loadMesh s).2.rook = s.rook := by
  simp only [loadMesh]
  split <;> simp

@[simp] theorem rook_loadIf {f : State → Except Nat (List Byte) × State} (hf : ∀ s, (f s).2.rook = s.rook) (c : Bool) (s : State) :
    (loadIf c f s).2.rook = s.rook := by
  simp [loadIf, hf]

@[simp] theorem rook_cmpCheck (g : BitVec 10) (s : State) : (cmpCheck g s).2.rook = s.rook := by
  simp only [cmpCheck]
  (repeat' split) <;> simp

@[simp] theorem rook_corCheck (s : State) : (corCheck s).2.rook = s.rook := by simp [corCheck]

@[simp] theorem rook_teValidate (g : BitVec 10) (s : State) : (teValidate g s).2.rook = s.rook := by
  simp only [teValidate]
  split <;> simp

@[simp] theorem rook_memberCheck (g : BitVec 10) (m : Nat) (s : State) : (memberCheck g m s).2.2.rook = s.rook := by
  simp only [memberCheck]
  (repeat' split) <;> simp

@[simp] theorem rook_validate (g : BitVec 10) (s : State) : (validate g s).2.2.rook = s.rook := by
  unfold validate
  refine foldl_same (g := fun a : Option (Nat × Nat) × CmpLoads × State => a.2.2.rook) (fun a m => ?_) _ _
  dsimp only
  split <;> simp

@[simp] theorem rook_closeFull (p : PendCommit) (s : State) : (closeFull p s).rook = s.rook := by simp [closeFull]

@[simp] theorem rook_pipeApply (c : ArmedCommit) (s : State) : (pipeApply c s).rook = s.rook := by
  have hrails : ∀ t : State, (forN 24 (fun k s => whenB (!(s.commitHeld (Blk.railN k))) (railCommitted k) s) t).rook = t.rook :=
    fun t => forN_rook (fun k s => by simp) t
  simp [pipeApply, hrails]

@[simp] theorem rook_rebase (f : Nat) (old new : State) : (rebase f old new).rook = new.rook := by simp [rebase]
@[simp] theorem rook_retireCommits (n : Nat) (s : State) : (retireCommits n s).rook = s.rook := by simp [retireCommits]

/-! Update (R374 to R403). -/

@[simp] theorem rook_modUpd (f : UpdState → UpdState) (s : State) : (modUpd f s).rook = s.rook := by simp [modUpd]
@[simp] theorem rook_setBank (b : Nat) (r : BankRec) (s : State) : (setBank b r s).rook = s.rook := by simp [setBank]
@[simp] theorem rook_setBankSt (b st : Nat) (s : State) : (setBankSt b st s).rook = s.rook := by simp [setBankSt]
@[simp] theorem rook_eraseBank (b : Nat) (s : State) : (eraseBank b s).rook = s.rook := by simp [eraseBank]
@[simp] theorem rook_showSess (s : State) : (showSess s).rook = s.rook := by simp [showSess]
@[simp] theorem rook_lastCode (c : Nat) (s : State) : (lastCode c s).rook = s.rook := by simp [lastCode]
@[simp] theorem rook_modSess (f : UpdSess → UpdSess) (s : State) : (modSess f s).rook = s.rook := by simp [modSess]
@[simp] theorem rook_sendUpd (c ty : Nat) (body : List Byte) (s : State) : (sendUpd c ty body s).rook = s.rook := by simp [sendUpd]
@[simp] theorem rook_sendCode (c ty id code : Nat) (s : State) : (sendCode c ty id code s).rook = s.rook := by simp [sendCode]
@[simp] theorem rook_abortFwd (code : Nat) (s : State) : (abortFwd code s).rook = s.rook := by simp [abortFwd, foldl_rook]
@[simp] theorem rook_localResult (x : UpdSess) (code : Nat) (s : State) : (localResult x code s).rook = s.rook := by simp [localResult]

@[simp] theorem rook_abortSess (code : Nat) (tell : Bool) (s : State) : (abortSess code tell s).rook = s.rook := by
  unfold abortSess
  split <;> simp

@[simp] theorem rook_offerTo (h : List Byte) (c : Nat) (s : State) : (offerTo h c s).rook = s.rook := by simp [offerTo]
@[simp] theorem rook_forward (src : Nat) (h : List Byte) (s : State) : (forward src h s).rook = s.rook := by simp [forward, foldl_rook]
@[simp] theorem rook_startSess (src id : Nat) (h : List Byte) (s : State) : (startSess src id h s).rook = s.rook := by simp [startSess]
@[simp] theorem rook_resumeSess (src id : Nat) (x : UpdSess) (s : State) : (resumeSess src id x s).rook = s.rook := by simp [resumeSess]

@[simp] theorem rook_offered (src id : Nat) (h : List Byte) (s : State) : (offered src id h s).2.2.rook = s.rook := by
  unfold offered
  split <;> simp

@[simp] theorem rook_offerAct (c id : Nat) (h : List Byte) (s : State) : (offerAct c id h s).rook = s.rook := by simp [offerAct]
@[simp] theorem rook_sendResult (x : UpdSess) (i code : Nat) (s : State) : (sendResult x i code s).rook = s.rook := by simp [sendResult]

@[simp] theorem rook_judgeBlock (x : UpdSess) (i : Nat) (l : List Byte) (s : State) : (judgeBlock x i l s).2.rook = s.rook := by
  simp only [judgeBlock]
  (repeat' split) <;> simp

@[simp] theorem rook_sendBlock (f : FwdSess) (i : Nat) (l : List Byte) (s : State) :
    (sendBlock f i l s).rook = s.rook := by simp [sendBlock, foldl_rook]

@[simp] theorem rook_pumpOne (x : UpdSess) (n : Nat) (f : FwdSess) (s : State) : (pumpOne x n f s).2.rook = s.rook := by
  induction n generalizing f s with
  | zero => rfl
  | succ n ih => unfold pumpOne; (repeat' split) <;> simp [ih]

@[simp] theorem rook_pump (s : State) : (pump s).rook = s.rook := by
  unfold pump
  split <;> simp [foldl_snd_rook]

@[simp] theorem rook_dataAct (c id i off : Nat) (l : List Byte) (s : State) : (dataAct c id i off l s).rook = s.rook := by
  unfold dataAct
  split <;> simp

@[simp] theorem rook_finish (s : State) : (finish s).rook = s.rook := by
  simp only [finish]
  (repeat' split) <;> simp

@[simp] theorem rook_doneAct (c id : Nat) (s : State) : (doneAct c id s).rook = s.rook := by
  unfold doneAct
  split <;> simp

@[simp] theorem rook_modFwd (c : Nat) (f : FwdSess → FwdSess) (s : State) : (modFwd c f s).rook = s.rook := by simp [modFwd]

@[simp] theorem rook_answerAct (c id code next : Nat) (s : State) : (answerAct c id code next s).rook = s.rook := by
  unfold answerAct
  split <;> simp

@[simp] theorem rook_blockResultAct (c id i code : Nat) (s : State) : (blockResultAct c id i code s).rook = s.rook := by
  unfold blockResultAct
  split <;> simp

@[simp] theorem rook_finalAct (c id code : Nat) (s : State) : (finalAct c id code s).rook = s.rook := by
  unfold finalAct
  split <;> simp

@[simp] theorem rook_abortAct (c id code : Nat) (s : State) : (abortAct c id code s).rook = s.rook := by
  simp only [abortAct]
  (repeat' split) <;> simp

@[simp] theorem rook_timeoutAct (fwd : Option Nat) (s : State) : (timeoutAct fwd s).rook = s.rook := by
  simp only [timeoutAct]
  (repeat' split) <;> simp

@[simp] theorem rook_writeDone (i res : Nat) (s : State) : (writeDone i res s).rook = s.rook := by
  simp only [writeDone]
  (repeat' split) <;> simp

@[simp] theorem rook_updReset (s : State) : (updReset s).rook = s.rook := by simp [updReset]
@[simp] theorem rook_trialBank (b : Nat) (s : State) : (trialBank b s).rook = s.rook := by simp [trialBank]
@[simp] theorem rook_activateBank (b : Nat) (s : State) : (activateBank b s).rook = s.rook := by simp [activateBank]
@[simp] theorem rook_rollFrom (b : Nat) (s : State) : (rollFrom b s).rook = s.rook := by simp [rollFrom]

@[simp] theorem rook_updCmd {act : State → Option Nat × State} (hact : ∀ s, (act s).2.rook = s.rook) (s : State) :
    (updCmd act s).rook = s.rook := by
  simp only [updCmd]
  (repeat' split) <;> simp [hact]

@[simp] theorem rook_openResult (s : State) : (openResult s).2.rook = s.rook := by simp [openResult]

@[simp] theorem rook_updRead (off n : Nat) (s : State) : (updRead off n s).2.rook = s.rook := by
  simp only [updRead]
  (repeat' split) <;> simp

@[simp] theorem rook_localOffer (s : State) : (localOffer s).2.rook = s.rook := by
  simp only [localOffer]
  split <;> simp

@[simp] theorem rook_localBlock (s : State) : (localBlock s).2.rook = s.rook := by
  simp only [localBlock]
  (repeat' split) <;> simp

@[simp] theorem rook_localDone (s : State) : (localDone s).2.rook = s.rook := by
  unfold localDone
  split <;> simp

@[simp] theorem rook_abandonAct (s : State) : (abandonAct s).2.rook = s.rook := by simp [abandonAct]

@[simp] theorem rook_confirmAct (s : State) : (confirmAct s).2.rook = s.rook := by
  unfold confirmAct
  split <;> simp

@[simp] theorem rook_rollbackAct (s : State) : (rollbackAct s).2.rook = s.rook := by
  unfold rollbackAct
  split <;> simp

@[simp] theorem rook_activateAct (b : Nat) (s : State) : (activateAct b s).2.rook = s.rook := by simp [activateAct]
@[simp] theorem rook_eraseAct (b : Nat) (s : State) : (eraseAct b s).2.rook = s.rook := by simp [eraseAct]

@[simp] theorem rook_hashAct (s : State) : (hashAct s).2.rook = s.rook := by
  simp only [hashAct]
  split
  · rename_i l _
    exact (forN_rook (f := fun i => setFld (F.updHashH.at (8 * i)) (leAt (beBytes 48 (Config.sha384 l).toNat) (8 * i) 8))
      (fun _ _ => rfl) _).trans (rook_updRead ..)
  · simp

@[simp] theorem rook_updComplete (s : State) : (updComplete s).rook = s.rook := by
  unfold updComplete
  split <;> simp

@[simp] theorem rook_trialExpired (s : State) : (trialExpired s).rook = s.rook := by
  unfold trialExpired
  split <;> simp

@[simp] theorem rook_updCtrlWrite (v : Nat) (s : State) : (updCtrlWrite v s).rook = s.rook := by simp [updCtrlWrite]
@[simp] theorem rook_enterImage (b : Nat) (p : List Byte) (s : State) : (enterImage b p s).rook = s.rook := by simp [enterImage]
@[simp] theorem rook_enterRecovery (s : State) : (enterRecovery s).rook = s.rook := by simp [enterRecovery, foldl_rook, forN_rook]

@[simp] theorem rook_bootFrom (n : Nat) (s : State) : (bootFrom n s).rook = s.rook := by
  induction n generalizing s with
  | zero => simp [bootFrom]
  | succ n ih => simp only [bootFrom]; split <;> simp [ih]

@[simp] theorem rook_ddrConfigure (s : State) : (ddrConfigure s).rook = s.rook := by simp [ddrConfigure]
@[simp] theorem rook_romBoot (svcHeld : Bool) (s : State) : (romBoot svcHeld s).rook = s.rook := by simp [romBoot]

@[simp] theorem rook_imageComplete (s : State) : (imageComplete s).rook = s.rook := by
  unfold imageComplete
  split <;> simp

end Sys2Proof.Machine
end

section
/-! SUPPORT. Operations that leave Rook as it stands: power, the chain, frames, registers, and what a context reads. -/

namespace Sys2Proof.Machine

/-! Power (R404 to R409). -/

@[simp] theorem rook_modPwr (f : PwrState → PwrState) (s : State) : (modPwr f s).rook = s.rook := by simp [modPwr]

@[simp] theorem rook_askIslands (off : Bool) (k : Nat) (s : State) : (askIslands off k s).rook = s.rook := by
  simp only [askIslands]
  (repeat' split) <;> simp [forN_rook]

@[simp] theorem rook_modSeq (f : PwrSeq → PwrSeq) (s : State) : (modSeq f s).rook = s.rook := by simp [modSeq]

@[simp] theorem rook_stopStep (k : Nat) (s : State) : (stopStep k s).rook = s.rook := by
  unfold stopStep
  split <;> simp

@[simp] theorem rook_gtRestore (s : State) : (gtRestore s).rook = s.rook := by simp [gtRestore]

@[simp] theorem rook_restartStep (s2 : Bool) (k : Nat) (s : State) : (restartStep s2 k s).rook = s.rook := by
  simp only [restartStep]
  (repeat' split) <;> simp [foldl_rook, forN_rook]

@[simp] theorem rook_pwrResult (r : Nat) (s : State) : (pwrResult r s).rook = s.rook := by simp [pwrResult]
@[simp] theorem rook_seqRefused (q : PwrSeq) (s : State) : (seqRefused q s).rook = s.rook := by simp [seqRefused]
@[simp] theorem rook_seqInA (s : State) : (seqInA s).rook = s.rook := by simp [seqInA]

@[simp] theorem rook_seqRestart (s : State) : (seqRestart s).rook = s.rook := by
  simp only [seqRestart]
  (repeat' split) <;> simp

@[simp] theorem rook_seqBack (s : State) : (seqBack s).rook = s.rook := by simp [seqBack]
@[simp] theorem rook_seqRefuse (k reason : Nat) (s : State) : (seqRefuse k reason s).rook = s.rook := by simp [seqRefuse]
@[simp] theorem rook_askStep (k : Nat) (s : State) : (askStep k s).rook = s.rook := by simp [askStep]

@[simp] theorem rook_seqLeave (b : Nat) (s : State) : (seqLeave b s).rook = s.rook := by
  simp only [seqLeave]
  split <;> simp

@[simp] theorem rook_wakeReq (b : Nat) (s : State) : (wakeReq b s).rook = s.rook := by
  unfold wakeReq
  split <;> simp

@[simp] theorem rook_seqReached (q : PwrSeq) (s : State) : (seqReached q s).rook = s.rook := by
  simp only [seqReached]
  split <;> simp

@[simp] theorem rook_seqEnter (t : PwrSt) (sat : Option Nat) (s : State) : (seqEnter t sat s).2.rook = s.rook := by simp [seqEnter]
@[simp] theorem rook_seqWake (s : State) : (seqWake s).2.rook = s.rook := by simp [seqWake]

@[simp] theorem rook_stepAgree (s : State) : (stepAgree s).rook = s.rook := by
  unfold stepAgree
  split <;> simp

@[simp] theorem rook_stepTimeout (s : State) : (stepTimeout s).rook = s.rook := by
  unfold stepTimeout
  split <;> simp

@[simp] theorem rook_wakeEvent (b : Nat) (s : State) : (wakeEvent b s).rook = s.rook := by simp [wakeEvent]
@[simp] theorem rook_ratioCalibrate (s : State) : (ratioCalibrate s).rook = s.rook := by simp [ratioCalibrate]
@[simp] theorem rook_supplyRise (s : State) : (supplyRise s).rook = s.rook := by simp [supplyRise]
@[simp] theorem rook_supplyRetry (s : State) : (supplyRetry s).rook = s.rook := by simp [supplyRetry]
@[simp] theorem rook_powerOn (s : State) : (powerOn s).rook = s.rook := by simp [powerOn]
@[simp] theorem rook_scrubRead (word err : Nat) (s : State) : (scrubRead word err s).rook = s.rook := by simp [scrubRead]
@[simp] theorem rook_trainingEnd (ok : Bool) (s : State) : (trainingEnd ok s).rook = s.rook := by simp [trainingEnd]

@[simp] theorem rook_ddrThermAt (ch code : Nat) (above : Bool) (s : State) : (ddrThermAt ch code above s).rook = s.rook := by
  simp only [ddrThermAt]
  split_ifs <;> simp

/-! The chain (R343 to R347, R373). -/

@[simp] theorem rook_modChn (f : ChnState → ChnState) (s : State) : (modChn f s).rook = s.rook := by simp [modChn]
@[simp] theorem rook_linkTo (c v : Nat) (s : State) : (linkTo c v s).rook = s.rook := by simp [linkTo]
@[simp] theorem rook_moduleIn (c : Nat) (rate : Option Nat) (s : State) : (moduleIn c rate s).rook = s.rook := by simp [moduleIn]
@[simp] theorem rook_moduleOut (c : Nat) (s : State) : (moduleOut c s).rook = s.rook := by simp [moduleOut]
@[simp] theorem rook_linkChange (c : Nat) (up : Bool) (s : State) : (linkChange c up s).rook = s.rook := by simp [linkChange]

@[simp] theorem rook_transparent (f : List Byte) (s : State) : (transparent f s).2.rook = s.rook := by
  unfold transparent
  split <;> simp

@[simp] theorem rook_hostRx (c : Nat) (f : List Byte) (s : State) : (hostRx c f s).rook = s.rook := by simp [hostRx]

@[simp] theorem rook_frameRx (c : Nat) (f : List Byte) (fcsOk cut room : Bool) (s : State) :
    (frameRx c f fcsOk cut room s).rook = s.rook := by simp [frameRx]

@[simp] theorem rook_hostSend (s : State) : (hostSend s).rook = s.rook := by
  simp only [hostSend]
  (repeat' split) <;> simp

@[simp] theorem rook_assignIn (c next : Nat) (s : State) : (assignIn c next s).rook = s.rook := by simp [assignIn]
@[simp] theorem rook_statusSend (s : State) : (statusSend s).rook = s.rook := by simp [statusSend]
@[simp] theorem rook_walkIn (c : Nat) (down : Bool) (w : Walk) (s : State) : (walkIn c down w s).rook = s.rook := by simp [walkIn]
@[simp] theorem rook_resultIn (c : Nat) (f : List Byte) (s : State) : (resultIn c f s).rook = s.rook := by simp [resultIn]
@[simp] theorem rook_wakeIn (c : Nat) (r : Option (Nat × Nat)) (s : State) : (wakeIn c r s).rook = s.rook := by simp [wakeIn]

/-! Instruction fetch and translation of a context. -/

@[simp] theorem rook_ptRoot (h : Hart) (s : State) : (ptRoot h s).2.rook = s.rook := by simp [ptRoot]

@[simp] theorem rook_hartXlate (h : Hart) (k : Acc3) (va : Nat) (s : State) : (hartXlate h k va s).2.rook = s.rook := by
  simp only [hartXlate]
  split
  · rfl
  · split <;> exact rook_xlate (rook_ptRoot h) ..

@[simp] theorem rook_fetchRegion (h : Hart) (pa : Nat) (s : State) : (fetchRegion h pa s).2.rook = s.rook := by
  unfold fetchRegion
  split <;> simp

@[simp] theorem rook_fetchCheck (h : Hart) (s : State) : (fetchCheck h s).2.rook = s.rook := by
  simp only [fetchCheck]
  (repeat' split) <;> simp

@[simp] theorem rook_plain (f : State → State) (s : State) : (plain f s).2.rook = (f s).rook := rfl

/-! Scheduled actions (R361 to R364). -/

@[simp] theorem rook_satTo (e st : Nat) (s : State) : (satTo e st s).rook = s.rook := by simp [satTo]
@[simp] theorem rook_showLate (e : Nat) (l : Int) (s : State) : (showLate e l s).rook = s.rook := by simp [showLate]
@[simp] theorem rook_satPast (e : Nat) (l : Int) (s : State) : (satPast e l s).rook = s.rook := by simp [satPast]
@[simp] theorem rook_armAct (e : Nat) (s : State) : (armAct e s).rook = s.rook := by simp [armAct]
@[simp] theorem rook_disarmAct (e : Nat) (s : State) : (disarmAct e s).rook = s.rook := by simp [disarmAct]
@[simp] theorem rook_satSubmit (e : Nat) (s : State) : (satSubmit e s).rook = s.rook := by simp [satSubmit]

/-! Frames (R27). -/

@[simp] theorem rook_tlEnable (en : Bool) (s : State) : (tlEnable en s).rook = s.rook := by
  simp only [tlEnable]
  (repeat' split) <;> simp

/-! Register reads. -/

@[simp] theorem rook_readEffect (mstr a n : Nat) (s : State) : (readEffect mstr a n s).rook = s.rook := by
  simp only [readEffect]
  (repeat' split) <;> simp

@[simp] theorem rook_readSample (a : Nat) (s : State) : (readSample a s).rook = s.rook := by
  unfold readSample
  split <;> simp

@[simp] theorem rook_regCheck (w : Who) (typ a n : Nat) (s : State) : (regCheck w typ a n s).2.rook = s.rook := by
  unfold regCheck
  split <;> simp

@[simp] theorem rook_regLoad (w : Who) (a n : Nat) (s : State) : (regLoad w a n s).2.rook = s.rook := by
  simp only [regLoad]
  split <;> simp

/-! Register writes (R11, R12). -/

@[simp] theorem rook_RegWr_storeField (w : RegWr) (locked : Bool) (f : FieldDesc) (s : State) :
    (RegWr.storeField w locked f s).rook = s.rook := by
  simp only [RegWr.storeField]
  (repeat' split) <;> simp

@[simp] theorem rook_RegWr_store (w : RegWr) (b : Blk) (s : State) : (RegWr.store w b s).rook = s.rook := by simp [RegWr.store, foldl_rook]

@[simp] theorem rook_slotWrite (slot v : Nat) (s : State) : (slotWrite slot v s).rook = s.rook := by
  unfold slotWrite
  split <;> simp

@[simp] theorem rook_hcmdWrite (v : Nat) (s : State) : (hcmdWrite v s).rook = s.rook := by
  unfold hcmdWrite
  split <;> simp

@[simp] theorem rook_corCmdWrite (v : Nat) (s : State) : (corCmdWrite v s).rook = s.rook := by
  unfold corCmdWrite
  split <;> simp

@[simp] theorem rook_updCmdWrite (v : Nat) (s : State) : (updCmdWrite v s).rook = s.rook := by
  unfold updCmdWrite
  split <;> simp

@[simp] theorem rook_dmaCmds (n v : Nat) (s : State) : (dmaCmds n v s).rook = s.rook := by simp [dmaCmds]
@[simp] theorem rook_parkCmds (k v : Nat) (s : State) : (parkCmds k v s).rook = s.rook := by simp [parkCmds]

@[simp] theorem rook_mbxCmds (mstr c v : Nat) (s : State) : (mbxCmds mstr c v s).rook = s.rook := by
  unfold mbxCmds
  split <;> simp

@[simp] theorem rook_eoiAct (id : Nat) (s : State) : (eoiAct id s).rook = s.rook := by simp [eoiAct]
@[simp] theorem rook_swiAct (mask : Nat) (s : State) : (swiAct mask s).rook = s.rook := by simp [swiAct]

@[simp] theorem rook_satCmd (mstr e cmd : Nat) {s0 s : State} (h : s0.rook = s.rook) : (satCmd mstr e cmd s0 s).rook = s.rook := by
  simp [satCmd, h]

@[simp] theorem rook_fltWrite (b : Blk) (mstr off v : Nat) (s : State) : (fltWrite b mstr off v s).rook = s.rook := by
  unfold fltWrite
  split <;> simp

@[simp] theorem rook_nameInitiator (b : Blk) (mstr : Nat) (s0 s : State) :
    (nameInitiator b mstr s0 s).rook = s.rook := by simp [nameInitiator]

/-! Loads and stores of a context (R49). -/

@[simp] theorem rook_dataXlate (h : Hart) (k : Acc3) (va : Nat) (s : State) : (dataXlate h k va s).2.rook = s.rook := by
  simp only [dataXlate]
  split
  · rfl
  · split <;> exact rook_xlate (rook_ptRoot h) ..

@[simp] theorem rook_misaligned (h : Hart) (k : Acc3) (va : Nat) (s : State) : (misaligned h k va s).2.rook = s.rook := by
  simp only [misaligned]
  (repeat' split) <;> simp

@[simp] theorem rook_coreRead (w : Who) (cached : Bool) (pa n : Nat) (s : State) : (coreRead w cached pa n s).2.rook = s.rook := by
  simp only [coreRead]
  split <;> simp

@[simp] theorem rook_hartLoad (h : Hart) (va n : Nat) (s : State) : (hartLoad h va n s).2.rook = s.rook := by
  simp only [hartLoad]
  (repeat' split) <;> simp

/-! Fences and invalidations (R52, R82). -/

@[simp] theorem rook_readCycle (h : Hart) (s : State) : (readCycle h s).rook = s.rook := by simp [readCycle]
@[simp] theorem rook_crRead (h : Hart) (n : Nat) (s : State) : (crRead h n s).2.rook = s.rook := by simp [crRead]
@[simp] theorem rook_dinvLine (a : Nat) (s : State) : (dinvLine a s).rook = s.rook := by simp [dinvLine]
@[simp] theorem rook_dcleanLine (a : Nat) (s : State) : (dcleanLine a s).rook = s.rook := by simp [dcleanLine]
@[simp] theorem rook_tlbInv (a b : Word) (s : State) : (tlbInv a b s).rook = s.rook := by simp [tlbInv]

/-! Table lookups (R59). -/

@[simp] theorem rook_plutElem (h : Hart) (base a : Nat) (s : State) : (plutElem h base a s).2.rook = s.rook := by
  simp only [plutElem]
  (repeat' split) <;> simp

end Sys2Proof.Machine
end

section
/-! SUPPORT. Operations of Rook, of its cores, and of the units it watches that leave its switches as they stand. -/

namespace Sys2Proof.Machine

@[simp] theorem groups_ite (c : Prop) [Decidable c] (a b : RookState) : (if c then a else b).groups = if c then a.groups else b.groups :=
  apply_ite ..

theorem foldl_groups {β : Type} {f : State → β → State} (hf : ∀ s x, (f s x).rook.groups = s.rook.groups) (l : List β) (s : State) :
    (l.foldl f s).rook.groups = s.rook.groups := foldl_same (g := fun s : State => s.rook.groups) hf l s

theorem forN_groups {n : Nat} {f : Nat → State → State} (hf : ∀ i s, (f i s).rook.groups = s.rook.groups) (s : State) :
    (forN n f s).rook.groups = s.rook.groups := forN_keeps (fun s => s.rook.groups) n f hf s

@[simp] theorem groups_whenB {b : Bool} {f : State → State} (hf : ∀ s, (f s).rook.groups = s.rook.groups) (s : State) :
    (whenB b f s).rook.groups = s.rook.groups := by
  cases b <;> simp [whenB, hf]

/-! Causes, inputs and states (R307 to R318, R328 to R335). -/

@[simp] theorem rook_modRook (f : RookState → RookState) (s : State) : (modRook f s).rook = f s.rook := rfl
@[simp] theorem groups_rlog (kind groups input : Nat) (s : State) : (rlog kind groups input s).rook.groups = s.rook.groups := by simp [rlog]

@[simp] theorem groups_restart (gs : BitVec 8) (ms : List Nat) (s : State) :
    (restart gs ms s).rook.groups = s.rook.groups := by simp [restart, forN_groups]

@[simp] theorem groups_stuckSet (gs : BitVec 8) (line : Nat) (s : State) :
    (stuckSet gs line s).rook.groups = s.rook.groups := by simp [stuckSet, forN_groups]

@[simp] theorem groups_stuckHear (s : State) : (stuckHear s).rook.groups = s.rook.groups := by simp [stuckHear, forN_groups]
@[simp] theorem groups_rookEval (s : State) : (rookEval s).rook.groups = s.rook.groups := by simp [rookEval, forN_groups]
@[simp] theorem groups_rookTo (st : Nat) (s : State) : (rookTo st s).rook.groups = s.rook.groups := by simp [rookTo]

@[simp] theorem groups_singleFault (f : RFault) (s : State) : (singleFault f s).rook.groups = s.rook.groups := by
  unfold singleFault
  split <;> simp

@[simp] theorem groups_endgameExpire (s : State) : (endgameExpire s).rook.groups = s.rook.groups := by simp [endgameExpire]

@[simp] theorem groups_switchFaultAt (g : Nat) (hs : Bool) (s : State) :
    (switchFaultAt g hs s).rook.groups = s.rook.groups := by simp [switchFaultAt]

@[simp] theorem groups_testForcedAt (g : Nat) (s : State) : (testForcedAt g s).rook.groups = s.rook.groups := by simp [testForcedAt]

@[simp] theorem groups_forcedStep (s : State) : (forcedStep s).rook.groups = s.rook.groups := by
  unfold forcedStep
  refine forN_groups (fun g s => ?_) s
  split <;> simp

@[simp] theorem groups_chanSet (ch : Nat) (high : Bool) (s : State) : (chanSet ch high s).rook.groups = s.rook.groups := by simp [chanSet]

@[simp] theorem groups_filterChange (ch : Nat) (high : Bool) (samples : List Bool) (s : State) :
    (filterChange ch high samples s).rook.groups = s.rook.groups := by simp [filterChange]

@[simp] theorem groups_pulseJudge (src : Nat) (high : BitVec 10) (s : State) : (pulseJudge src high s).rook.groups = s.rook.groups := by
  unfold pulseJudge
  refine foldl_groups (fun s j => ?_) _ s
  simp only
  split
  · split <;> simp
  · simp

@[simp] theorem groups_tpoPulseAt (src : Nat) (high : BitVec 10) (s : State) :
    (tpoPulseAt src high s).rook.groups = s.rook.groups := by simp [tpoPulseAt]

@[simp] theorem groups_discrepancyAt (i : Nat) (s : State) : (discrepancyAt i s).rook.groups = s.rook.groups := by
  unfold discrepancyAt
  split <;> simp

@[simp] theorem groups_setHand (h : Nat) (v : RHand) (s : State) : (setHand h v s).rook.groups = s.rook.groups := by simp [setHand]

@[simp] theorem groups_handActed (h : Nat) (s : State) : (handActed h s).rook.groups = s.rook.groups := by
  simp only [handActed]
  (repeat' split) <;> simp

@[simp] theorem groups_handGone (h : Nat) (bad : Bool) (s : State) : (handGone h bad s).rook.groups = s.rook.groups := by simp [handGone]

@[simp] theorem groups_handActuatedAt (h : Nat) (samples : List (Bool × Bool)) (s : State) :
    (handActuatedAt h samples s).rook.groups = s.rook.groups := by simp [handActuatedAt]

@[simp] theorem groups_handFreed (h : Nat) (samples : List (Bool × Bool)) (s : State) :
    (handFreed h samples s).rook.groups = s.rook.groups := by simp [handFreed]

@[simp] theorem groups_pairFaultAt (h : Nat) (samples : List (Bool × Bool)) (s : State) :
    (pairFaultAt h samples s).rook.groups = s.rook.groups := by simp [pairFaultAt, forN_groups]

@[simp] theorem groups_serviceAck (s : State) : (serviceAck s).rook.groups = s.rook.groups := by simp [serviceAck, forN_groups]
@[simp] theorem groups_sackAt (held : Nat) (s : State) : (sackAt held s).rook.groups = s.rook.groups := by simp [sackAt]
@[simp] theorem groups_sackRearmAt (s : State) : (sackRearmAt s).rook.groups = s.rook.groups := by simp [sackRearmAt]
@[simp] theorem groups_railOkAt (g : Nat) (s : State) : (railOkAt g s).rook.groups = s.rook.groups := by simp [railOkAt]

@[simp] theorem groups_railClear (g : Nat) (s : State) : (railClear g s).rook.groups = s.rook.groups := by
  unfold railClear
  split <;> simp

@[simp] theorem groups_rookCart (present : Bool) (samples : Nat) (s : State) :
    (rookCart present samples s).rook.groups = s.rook.groups := by simp [rookCart]

@[simp] theorem groups_stuckLine (k : Nat) (s : State) : (stuckLine k s).rook.groups = s.rook.groups := by simp [stuckLine]
@[simp] theorem groups_stuckLineEnd (k : Nat) (s : State) : (stuckLineEnd k s).rook.groups = s.rook.groups := by simp [stuckLineEnd]
@[simp] theorem groups_adoptBlock (b : List Byte) (s : State) : (adoptBlock b s).rook.groups = s.rook.groups := by simp [adoptBlock]
@[simp] theorem groups_rookRun (s : State) : (rookRun s).rook.groups = s.rook.groups := by simp [rookRun]

/-! Refreshes (R322). -/

@[simp] theorem groups_refreshBegin (frame k : Nat) (s : State) :
    (refreshBegin frame k s).rook.groups = s.rook.groups := by simp [refreshBegin, forN_groups]

@[simp] theorem groups_refreshAt (k : Nat) (s : State) : (refreshAt k s).rook.groups = s.rook.groups := by simp [refreshAt]

/-! Pixel diagnostics (R253 to R271). -/

@[simp] theorem groups_stuckAdd (q : Nat) (s : State) : (stuckAdd q s).rook.groups = s.rook.groups := by
  simp only [stuckAdd]
  split <;> simp

@[simp] theorem groups_ovfCheck (s : State) : (ovfCheck s).rook.groups = s.rook.groups := by simp [ovfCheck]

@[simp] theorem groups_stuckRemove (q : Nat) (s : State) : (stuckRemove q s).rook.groups = s.rook.groups := by
  unfold stuckRemove
  split <;> simp

@[simp] theorem groups_subTo (q new cause : Nat) (s : State) : (subTo q new cause s).2.rook.groups = s.rook.groups := by simp [subTo]

@[simp] theorem groups_evidence (q kind : Nat) (s : State) : (evidence q kind s).rook.groups = s.rook.groups := by
  simp only [evidence]
  (repeat' split) <;> simp

@[simp] theorem groups_senseColumn (n row c on code : Nat) (dark : Bool) (s : State) :
    (senseColumn n row c on code dark s).rook.groups = s.rook.groups := by
  unfold senseColumn
  split <;> simp

@[simp] theorem groups_diagRet (n : Nat) (r : Ret) (pkt : TePkt) (s : State) :
    (diagRet n r pkt s).rook.groups = s.rook.groups := by simp [diagRet, forN_groups]

@[simp] theorem groups_diagZones (ko : List KoRect) (s : State) :
    (diagZones ko s).rook.groups = s.rook.groups := by simp [diagZones, foldl_groups]

@[simp] theorem groups_sweepOne (q : Nat) (s : State) : (sweepOne q s).rook.groups = s.rook.groups := by
  simp only [sweepOne]
  split <;> simp

@[simp] theorem groups_sweepAt (s : State) : (sweepAt s).rook.groups = s.rook.groups := by simp [sweepAt, forN_groups]

@[simp] theorem groups_diagCommand {act : State → Nat × State} (hact : ∀ s, (act s).2.rook.groups = s.rook.groups) (init : Bool)
    (s : State) :
    (diagCommand act init s).rook.groups = s.rook.groups := by
  simp [diagCommand, hact]

@[simp] theorem groups_diagSub (n p yl xl : Nat) (act : SubSt → Option SubSt) (s : State) :
    (diagSub n p yl xl act s).2.rook.groups = s.rook.groups := by
  simp only [diagSub]
  (repeat' split) <;> simp

@[simp] theorem groups_diagInitAct (s : State) : (diagInitAct s).2.rook.groups = s.rook.groups := by
  have hwritten : ∀ (f : Nat → State → Nat) (b : List Byte) (l : List Nat) (a : Bool × State),
      (l.foldl (fun (a : Bool × State) i => let r := diagWrite (f i a.2) b a.2; (a.1 && r.1, r.2)) a).2.rook = a.2.rook := by
    intro f b l a
    refine foldl_snd_rook (fun a i => ?_) l a
    exact rook_diagWrite ..
  have hshown : ∀ t : State, (forN 256 showStk t).rook = t.rook := fun t => forN_rook (f := showStk) rook_showStk t
  simp only [diagInitAct]
  split
  · rfl
  · generalize List.replicate 4096 (0 : Byte) = b
    generalize List.range 96 = k
    generalize List.range 3072 = m
    rw [rook_diagEvent]
    rw [hwritten (fun i t => t.fld F.diagMaskVaVA + 4096 * i) b k]
    rw [hwritten (fun i t => t.fld F.diagMapVaVA + 4096 * i) _ m]
    simp [hshown]

@[simp] theorem groups_diagOp (op n p yl xl : Nat) (s : State) : (diagOp op n p yl xl s).rook.groups = s.rook.groups := by
  unfold diagOp
  split <;> simp

/-! Returns (R236, R237). -/

@[simp] theorem groups_retAt (p : Nat) (r : Ret) (s : State) : (retAt p r s).rook.groups = s.rook.groups := by
  simp only [retAt]
  split <;> simp

/-! The tap (R323 to R327). -/

@[simp] theorem groups_zoneExceed (z : Zone) (s : State) : (zoneExceed z s).rook.groups = s.rook.groups := by simp [zoneExceed]
@[simp] theorem groups_addBin (p z a b full : Nat) (s : State) : (addBin p z a b full s).rook.groups = s.rook.groups := by simp [addBin]

@[simp] theorem groups_tapWord (p z c on st : Nat) (zn : Zone) (s : State) :
    (tapWord p z c on st zn s).rook.groups = s.rook.groups := by simp [tapWord]

@[simp] theorem groups_tapRow (p n : Nat) (k : TePkt) (s : State) :
    (tapRow p n k s).rook.groups = s.rook.groups := by simp [tapRow, forN_groups]

@[simp] theorem groups_tapParam (p : Nat) (l : PSlot) (s : State) : (tapParam p l s).rook.groups = s.rook.groups := by
  have hbins : ∀ (b : List TapBin) (t : State), (forN 16 (fun z s => modRook (fun r =>
      { r with bins := SMap.put r.bins (16 * p + z) b }) s) t).rook.groups = t.rook.groups := by
    intro b t
    refine forN_groups (fun _ _ => ?_) t
    rfl
  unfold tapParam
  split
  · rfl
  · split
    · rfl
    · split
      · rfl
      · exact hbins _ (modRook _ s)

@[simp] theorem groups_tapStreak (p : Nat) (miss : Bool) (s : State) : (tapStreak p miss s).rook.groups = s.rook.groups := by
  unfold tapStreak
  split <;> simp

@[simp] theorem groups_tapPacketAt (p pos : Nat) (s : State) : (tapPacketAt p pos s).rook.groups = s.rook.groups := by
  unfold tapPacketAt
  split <;> simp

@[simp] theorem groups_tapLostAt (p pos : Nat) (s : State) : (tapLostAt p pos s).rook.groups = s.rook.groups := by
  simp only [tapLostAt]
  (repeat' split) <;> simp [forN_groups]

@[simp] theorem groups_rookArm (f : Nat) (s : State) : (rookArm f s).rook.groups = s.rook.groups := by
  unfold rookArm
  split <;> simp

@[simp] theorem groups_rookApply (n : Nat) (s : State) : (rookApply n s).rook.groups = s.rook.groups := by
  unfold rookApply
  split <;> simp

/-! The mailbox (R338 to R342). -/

@[simp] theorem groups_rookCommand {act : State → Nat × State} (hact : ∀ s, (act s).2.rook.groups = s.rook.groups) (seq : Nat) (s : State) :
    (rookCommand seq act s).rook.groups = s.rook.groups := by
  simp only [rookCommand]
  (repeat' split) <;> simp [hact]

theorem groups_rookRead {act : List Byte → State → Nat × State} (hact : ∀ l s, (act l s).2.rook.groups = s.rook.groups) (n : Nat) (s : State) :
    (rookRead n act s).2.rook.groups = s.rook.groups := by
  simp only [rookRead]
  (repeat' split) <;> simp [hact]

@[simp] theorem groups_reqAct (gs : BitVec 8) (s : State) : (reqAct gs s).2.rook.groups = s.rook.groups := by simp [reqAct]
@[simp] theorem groups_restartAct (gs : BitVec 8) (s : State) : (restartAct gs s).2.rook.groups = s.rook.groups := by simp [restartAct]

@[simp] theorem groups_paramLoadAct (s : State) : (paramLoadAct s).2.rook.groups = s.rook.groups := by
  refine groups_rookRead (fun b s => ?_) ..
  (repeat' split) <;> simp

@[simp] theorem groups_lockAct (s : State) : (lockAct s).2.rook.groups = s.rook.groups := by
  refine groups_rookRead (fun b s => ?_) ..
  split <;> simp

@[simp] theorem groups_nonceAct (s : State) : (nonceAct s).2.rook.groups = s.rook.groups := by
  have hdrawn : ∀ (l : List Nat) (a : List Byte × State),
      (l.foldl (fun (a : List Byte × State) _ => (a.1 ++ leBytes 8 a.2.freeW.toNat, drawn a.2)) a).2.rook = a.2.rook := by
    intro l a
    refine foldl_snd_rook (fun _ _ => ?_) l a
    rfl
  simp only [nonceAct]
  split <;> simp [hdrawn]

@[simp] theorem groups_unlockAct (s : State) : (unlockAct s).2.rook.groups = s.rook.groups := by
  unfold unlockAct
  refine groups_rookRead (fun l s => ?_) ..
  simp only
  (repeat' split) <;> simp

@[simp] theorem groups_rookDone (s : State) : (rookDone s).rook.groups = s.rook.groups := by
  unfold rookDone
  split <;> simp

@[simp] theorem groups_rookOp (op seq groups : Nat) (s : State) : (rookOp op seq groups s).rook.groups = s.rook.groups := by
  unfold rookOp
  split <;> simp

/-! The apply points (R30, R34). -/

@[simp] theorem groups_closeWindow (p : PendCommit) (s : State) : (closeWindow p s).rook.groups = s.rook.groups := by
  simp only [closeWindow]
  (repeat' split) <;> simp

@[simp] theorem groups_closeAt (s : State) : (closeAt s).rook.groups = s.rook.groups := by
  unfold closeAt
  split <;> simp

@[simp] theorem groups_dispApply (c : ArmedCommit) (s : State) :
    (dispApply c s).rook.groups = s.rook.groups := by simp [dispApply, forN_groups]

@[simp] theorem groups_applyOne (disp : Bool) (n : Nat) (c : ArmedCommit) (s : State) :
    (applyOne disp n c s).rook.groups = s.rook.groups := by simp [applyOne]

@[simp] theorem groups_applyCommits (n : Nat) (s : State) :
    (applyCommits n s).rook.groups = s.rook.groups := by simp [applyCommits, foldl_groups]

/-! Steps of the power sequence (R406). -/

@[simp] theorem groups_enterNext (q : PwrSeq) (s : State) : (enterNext q s).rook.groups = s.rook.groups := by simp [enterNext]

/-! Contexts (R45, R60 to R65). -/

@[simp] theorem groups_setHart (h : Hart) (v : HartState) (s : State) : (setHart h v s).rook.groups = s.rook.groups := by
  simp [setHart]

@[simp] theorem groups_setG (h : Hart) (r : Fin 32) (v : Word) (s : State) : (setG h r v s).rook.groups = s.rook.groups := by simp [setG]
@[simp] theorem groups_setP (h : Hart) (r : Fin 8) (v : Word) (s : State) : (setP h r v s).rook.groups = s.rook.groups := by simp [setP]
@[simp] theorem groups_setV (h : Hart) (r : Fin 16) (v : Vec) (s : State) : (setV h r v s).rook.groups = s.rook.groups := by simp [setV]
@[simp] theorem groups_setPc (h : Hart) (v : Word) (s : State) : (setPc h v s).rook.groups = s.rook.groups := by simp [setPc]
@[simp] theorem groups_advance (h : Hart) (s : State) : (advance h s).rook.groups = s.rook.groups := by simp [advance]

@[simp] theorem groups_monitorTrap (h : Hart) (cause tval epc : Word) (s : State) :
    (monitorTrap h cause tval epc s).rook.groups = s.rook.groups := by simp [monitorTrap]

@[simp] theorem groups_enterTrap (h : Hart) (cause tval epc : Word) (s : State) :
    (enterTrap h cause tval epc s).rook.groups = s.rook.groups := by simp [enterTrap]

@[simp] theorem groups_parkCtx (h : Hart) (x : Trap) (s : State) : (parkCtx h x s).rook.groups = s.rook.groups := by simp [parkCtx]
@[simp] theorem groups_except (h : Hart) (x : Trap) (s : State) : (except h x s).rook.groups = s.rook.groups := by simp [except]

@[simp] theorem groups_issue {body : State → Option Trap × State} (hbody : ∀ s, (body s).2.rook.groups = s.rook.groups) (h : Hart)
    (word : Nat)
    (ill : HartState → Option Nat) (level : Nat) (s : State) : (issue h word ill level body s).rook.groups = s.rook.groups := by
  simp only [issue]
  (repeat' split) <;> simp [hbody]

@[simp] theorem groups_plain (f : State → State) (s : State) : (plain f s).2.rook.groups = (f s).rook.groups := rfl

/-! Frames (R27). -/

@[simp] theorem groups_frameBegins (n : Nat) (s : State) :
    (frameBegins n s).rook.groups = s.rook.groups := by simp [frameBegins, forN_groups]

@[simp] theorem groups_boundaryAt (n : Nat) (s : State) : (boundaryAt n s).rook.groups = s.rook.groups := by simp [boundaryAt]

@[simp] theorem groups_timeStepAt (s : State) : (timeStepAt s).rook.groups = s.rook.groups := by
  simp only [timeStepAt]
  (repeat' split) <;> simp

@[simp] theorem groups_epochWrite (v : Nat) (s : State) : (epochWrite v s).rook.groups = s.rook.groups := by
  simp only [epochWrite]
  split_ifs <;> simp

@[simp] theorem groups_hsTimeout (x : Crossing) (s : State) : (hsTimeout x s).rook.groups = s.rook.groups := by
  simp only [hsTimeout]
  (repeat' split) <;> simp

/-! Integer instructions (R46, R48). -/

@[simp] theorem groups_intR (o : AluOp) (h : Hart) (f : RForm) (s : State) : (intR o h f s).rook.groups = s.rook.groups := by simp [intR]

@[simp] theorem groups_intI (op : Nat) (o : AluOp) (imm : Word) (h : Hart) (f : IForm) (s : State) :
    (intI op o imm h f s).rook.groups = s.rook.groups := by simp [intI]

@[simp] theorem groups_lui (h : Hart) (f : IForm) (s : State) : (lui h f s).rook.groups = s.rook.groups := by simp [lui]
@[simp] theorem groups_auipc (h : Hart) (f : IForm) (s : State) : (auipc h f s).rook.groups = s.rook.groups := by simp [auipc]
@[simp] theorem groups_insh (h : Hart) (f : HForm) (s : State) : (insh h f s).rook.groups = s.rook.groups := by simp [insh]
@[simp] theorem groups_shi (h : Hart) (f : SForm) (s : State) : (shi h f s).rook.groups = s.rook.groups := by simp [shi]

@[simp] theorem groups_branch (op : Nat) (c : Word → Word → Bool) (h : Hart) (f : BForm) (s : State) :
    (branch op c h f s).rook.groups = s.rook.groups := by simp [branch]

@[simp] theorem groups_branchP (op : Nat) (any : Bool) (h : Hart) (f : PForm) (s : State) :
    (branchP op any h f s).rook.groups = s.rook.groups := by simp [branchP]

@[simp] theorem groups_jump (link : Bool) (h : Hart) (f : JForm) (s : State) :
    (jump link h f s).rook.groups = s.rook.groups := by simp [jump]

@[simp] theorem groups_jlr (h : Hart) (f : IForm) (s : State) : (jlr h f s).rook.groups = s.rook.groups := by simp [jlr]

/-! Loads (R49). -/

@[simp] theorem groups_rookStore (a : Nat) (l : List Byte) (s : State) : (rookStore a l s).rook.groups = s.rook.groups := rfl

@[simp] theorem groups_loadI (op n : Nat) (signed : Bool) (h : Hart) (f : IForm) (s : State) :
    (loadI op n signed h f s).rook.groups = s.rook.groups := by
  unfold loadI
  refine groups_issue (fun s => ?_) ..
  simp only
  split <;> simp

@[simp] theorem groups_atomRook (o : AtomOp) (h : Hart) (f : AForm) (va : Nat) (s : State) :
    (atomRook o h f va s).rook.groups = s.rook.groups := by simp [atomRook]

/-! Control and context instructions (R43, R44, R53). -/

@[simp] theorem groups_crOp (fn : Nat) (rd wr : Bool) (new : Word → Word → Word) (h : Hart) (f : XForm) (s : State) :
    (crOp fn rd wr new h f s).rook.groups = s.rook.groups := by simp [crOp]

@[simp] theorem groups_ctxOp {act : Hart → State → Option Trap × State} (hact : ∀ p s, (act p s).2.rook.groups = s.rook.groups) (fn : Nat)
    (ill : HartState → Option Nat) (h : Hart) (f : XForm) (s : State) : (ctxOp fn ill act h f s).rook.groups = s.rook.groups := by
  refine groups_issue (fun s => ?_) ..
  simp only
  (repeat' split) <;> simp [hact]

@[simp] theorem groups_ctxStartAct (b : Nat) (p : Hart) (s : State) :
    (ctxStartAct b p s).2.rook.groups = s.rook.groups := by simp [ctxStartAct]

@[simp] theorem groups_ctxStop (h : Hart) (f : XForm) (s : State) : (ctxStop h f s).rook.groups = s.rook.groups := by simp [ctxStop]

@[simp] theorem groups_ctxCrdAct (h : Hart) (f : XForm) (p : Hart) (s : State) :
    (ctxCrdAct h f p s).2.rook.groups = s.rook.groups := by simp [ctxCrdAct]

@[simp] theorem groups_ctxCwrAct (h : Hart) (f : XForm) (p : Hart) (s : State) :
    (ctxCwrAct h f p s).2.rook.groups = s.rook.groups := by simp [ctxCwrAct]

@[simp] theorem groups_lineOp {act : Nat → State → State} (hact : ∀ a s, (act a s).rook.groups = s.rook.groups) (fn level : Nat) (h : Hart)
    (f : XForm)
    (s : State) : (lineOp fn level act h f s).rook.groups = s.rook.groups := by
  refine groups_issue (fun s => ?_) ..
  simp only
  (repeat' split) <;> simp [hact]

/-! Vector instructions (R55 to R59). -/

@[simp] theorem groups_predOp (fn : Nat) (op : Word → Word → Word) (h : Hart) (f : QForm) (s : State) :
    (predOp fn op h f s).rook.groups = s.rook.groups := by simp [predOp]

@[simp] theorem groups_predG (fn : Nat) (op : Word → Word) (h : Hart) (f : QForm) (s : State) :
    (predG fn op h f s).rook.groups = s.rook.groups := by simp [predG]

@[simp] theorem groups_pToG (h : Hart) (f : QForm) (s : State) : (pToG h f s).rook.groups = s.rook.groups := by simp [pToG]
@[simp] theorem groups_setVstart (h : Hart) (n : Nat) (s : State) : (setVstart h n s).rook.groups = s.rook.groups := by simp [setVstart]
@[simp] theorem groups_vecDone (h : Hart) (s : State) : (vecDone h s).rook.groups = s.rook.groups := by simp [vecDone]

@[simp] theorem groups_vecOp (op fn : Nat) (ill : HartState → Option Nat) (g : Nat → Nat → Nat → Nat → Nat) (h : Hart) (f : VForm) (s : State) :
    (vecOp op fn ill g h f s).rook.groups = s.rook.groups := by simp [vecOp]

@[simp] theorem groups_vecA (fn : Nat) (g : Nat → Nat → Nat → Nat) (h : Hart) (f : VForm) (s : State) :
    (vecA fn g h f s).rook.groups = s.rook.groups := by simp [vecA]

@[simp] theorem groups_vSel (h : Hart) (f : VForm) (s : State) : (vSel h f s).rook.groups = s.rook.groups := by simp [vSel]

@[simp] theorem groups_vCmp (fn : Nat) (c : Nat → Nat → Nat → Bool) (h : Hart) (f : VForm) (s : State) :
    (vCmp fn c h f s).rook.groups = s.rook.groups := by simp [vCmp]

@[simp] theorem groups_vecB (fn : Nat) (g : Nat → Nat → Nat → Nat) (h : Hart) (f : VForm) (s : State) :
    (vecB fn g h f s).rook.groups = s.rook.groups := by simp [vecB]

@[simp] theorem groups_vecToG (fn : Nat) (r : Nat → List Nat → State → Nat) (h : Hart) (f : VForm) (s : State) :
    (vecToG fn r h f s).rook.groups = s.rook.groups :=
  groups_issue (fun s => by simp) ..

@[simp] theorem groups_partialFault (h : Hart) (i : Nat) (x : Trap) (s : State) :
    (partialFault h i x s).2.rook.groups = s.rook.groups := by simp [partialFault]

@[simp] theorem groups_eachElem {act : Nat → State → Option Trap × State} (hact : ∀ i s, (act i s).2.rook.groups = s.rook.groups) (h : Hart)
    (l : List Nat) (s : State) : (eachElem h act l s).2.rook.groups = s.rook.groups := by
  induction l generalizing s with
  | nil => simp [eachElem]
  | cons i l ih => simp only [eachElem]; split <;> simp [ih, hact]

@[simp] theorem groups_setElem (h : Hart) (d : Fin 16) (w i x : Nat) (s : State) :
    (setElem h d w i x s).rook.groups = s.rook.groups := by simp [setElem]

@[simp] theorem groups_vLoad (h : Hart) (f : VmForm) (s : State) : (vLoad h f s).rook.groups = s.rook.groups := by
  unfold vLoad
  refine groups_issue (fun s => groups_eachElem (fun i s => ?_) ..) ..
  simp only
  split <;> simp

@[simp] theorem groups_pix (fn : Nat) (g : Nat → Nat → Nat → Nat) (h : Hart) (f : VForm) (s : State) :
    (pix fn g h f s).rook.groups = s.rook.groups := by simp [pix]

@[simp] theorem groups_pLut (h : Hart) (f : VForm) (s : State) : (pLut h f s).rook.groups = s.rook.groups := by
  unfold pLut
  refine groups_issue (fun s => groups_eachElem (fun i s => ?_) ..) ..
  simp only
  split <;> simp

@[simp] theorem groups_pMat (h : Hart) (f : VForm) (s : State) : (pMat h f s).rook.groups = s.rook.groups := by simp [pMat]

/-! Interrupts of a context (R68 to R70). -/

@[simp] theorem groups_interruptTake (h : Hart) (s : State) : (interruptTake h s).rook.groups = s.rook.groups := by
  unfold interruptTake
  split <;> simp

@[simp] theorem groups_nmiDeliver (s : State) : (nmiDeliver s).rook.groups = s.rook.groups := by
  simp only [nmiDeliver]
  (repeat' split) <;> simp

@[simp] theorem groups_wfiWake (h : Hart) (s : State) : (wfiWake h s).rook.groups = s.rook.groups := by simp [wfiWake]
@[simp] theorem groups_timerOut (h : Hart) (s : State) : (timerOut h s).rook.groups = s.rook.groups := by simp [timerOut]
@[simp] theorem groups_timerTrap (h : Hart) (s : State) : (timerTrap h s).rook.groups = s.rook.groups := by simp [timerTrap]

end Sys2Proof.Machine
end

section
/-! SUPPORT. Which operations turn switch gates off (R304, R315, R320, R336), and that what a register write or a store sets off turns none on. -/

namespace Sys2Proof.Machine

/-- No switch gate that is on in the second table of groups is off in the first. -/
def GatesKept (m m' : SMap RGroup) : Prop :=
  ∀ g hs, ((SMap.get m' g {}).sw hs).gate = true → ((SMap.get m g {}).sw hs).gate = true

variable {m : SMap RGroup} {s : State}

@[simp] theorem GatesKept.refl (m : SMap RGroup) : GatesKept m m := fun _ _ => id

theorem GatesKept.trans {m' m'' : SMap RGroup} (h : GatesKept m m') (h' : GatesKept m' m'') : GatesKept m m'' :=
  fun g hs hg => h g hs (h' g hs hg)

@[simp] theorem SMap.find_map {α β : Type} (f : α → β) (m : SMap α) (a : Nat) :
    SMap.find (List.map (fun e => (e.1, f e.2)) m) a = (SMap.find m a).map f := by
  induction m with
  | nil => rfl
  | cons e m ih => simp only [List.map_cons, SMap.find, ih]; split_ifs <;> rfl

@[simp] theorem sw_put (v : RGroup) (hs hs' : Bool) (w : RSwitch) : (v.put hs w).sw hs' = if hs' = hs then w else v.sw hs' := by
  cases hs <;> cases hs' <;> rfl

@[simp] theorem gate_off (w : RSwitch) (t : Nat) : (w.off t).gate = false := by
  unfold RSwitch.off RSwitch.drive
  split <;> simp_all

/-- A write of one group in which no gate goes on. -/
theorem gates_setGroup {g : Nat} {v : RGroup} (hv : ∀ hs, (v.sw hs).gate = true → ((s.rgroup g).sw hs).gate = true)
    (h : GatesKept m s.rook.groups) : GatesKept m (setGroup g v s).rook.groups := by
  refine h.trans fun k hs hk => ?_
  simp only [setGroup, rook_modRook, SMap.get_put] at hk
  split at hk
  · subst k
    exact hv hs hk
  · exact hk

@[simp] theorem gates_groupOff (g : Nat) (h : GatesKept m s.rook.groups) : GatesKept m (groupOff g s).rook.groups :=
  gates_setGroup (by simp [RGroup.sw]) h

theorem gates_forN {n : Nat} {f : Nat → State → State} (hf : ∀ i {s : State}, GatesKept m s.rook.groups → GatesKept m (f i s).rook.groups)
    (h : GatesKept m s.rook.groups) : GatesKept m (forN n f s).rook.groups := by
  induction n with
  | zero => exact h
  | succ n ih => rw [forN_succ]; exact hf n ih

@[simp] theorem gates_rookHalt (h : GatesKept m s.rook.groups) : GatesKept m (rookHalt s).rook.groups := by
  unfold rookHalt
  split
  · exact h
  · simpa using gates_forN (fun g _ h => gates_groupOff g h) h

@[simp] theorem gates_groupSafety (g : Nat) (h : GatesKept m s.rook.groups) : GatesKept m (groupSafety g s).rook.groups := by
  unfold groupSafety
  split <;> simp [h]

@[simp] theorem gates_groupOrderly (g : Nat) (h : GatesKept m s.rook.groups) : GatesKept m (groupOrderly g s).rook.groups := by
  simp only [groupOrderly]
  split
  · refine gates_setGroup (fun hs => ?_) h
    cases hs <;> simp [RGroup.sw]
  · exact h

@[simp] theorem gates_groupLsOff (g : Nat) (h : GatesKept m s.rook.groups) : GatesKept m (groupLsOff g s).rook.groups := by
  simp only [groupLsOff]
  split
  · refine gates_setGroup (fun hs => ?_) h
    cases hs <;> simp [RGroup.sw]
  · exact h

@[simp] theorem gates_readbackAt (g : Nat) (hs level : Bool) (h : GatesKept m s.rook.groups) :
    GatesKept m (readbackAt g hs level s).rook.groups := by
  have hput : ∀ w, w.gate = ((s.rgroup g).sw hs).gate → GatesKept m (setGroup g ((s.rgroup g).put hs w) s).rook.groups := by
    refine fun w hw => gates_setGroup (fun x => ?_) h
    rw [sw_put]
    split
    · subst x
      rw [hw]
      exact id
    · exact id
  unfold readbackAt
  extract_lets v w v' on u
  have hu : GatesKept m u.rook.groups := hput _ rfl
  split <;> exact hu

@[simp] theorem gates_testBegin (g : Nat) (hs : Bool) (win : Option Nat) (h : GatesKept m s.rook.groups) :
    GatesKept m (testBegin g hs win s).rook.groups := by
  refine gates_setGroup (fun x => ?_) h
  cases hs <;> cases x <;> simp [RGroup.sw, RGroup.put]

@[simp] theorem gates_switchTestAt (g : Nat) (h : GatesKept m s.rook.groups) : GatesKept m (switchTestAt g s).rook.groups := by
  simp only [switchTestAt]
  (repeat' split) <;> simp [h]

/-- After Rook's power-on every gate is off. -/
@[simp] theorem gates_rookPowerOnAt : GatesKept m (rookPowerOnAt s).rook.groups := by
  have hkeep : (rookPowerOnAt s).rook.groups =
      s.rook.groups.map (fun e => (e.1, { hs := { rb := e.2.hs.rb }, ls := { rb := e.2.ls.rb } : RGroup })) := by
    have hdigest : ∀ t, (forN 6 (fun i s => setFld (F.rookDigestD.at (8 * i)) 0 s) t).rook = t.rook :=
      fun t => forN_rook (f := fun i => setFld (F.rookDigestD.at (8 * i)) 0) (fun _ _ => rfl) t
    have hcause : ∀ c t, (forN 8 (fun g s => putCause g c s) t).rook = t.rook :=
      fun c t => forN_rook (f := fun g => putCause g c) (fun _ _ => rook_putCause ..) t
    simp [rookPowerOnAt, hdigest, hcause]
  rw [hkeep]
  intro g hs hg
  exfalso
  revert hg
  rw [SMap.get, SMap.find_map (fun v : RGroup => { hs := { rb := v.hs.rb }, ls := { rb := v.ls.rb } : RGroup })]
  cases SMap.find s.rook.groups g <;> cases hs <;> simp [RGroup.sw]

@[simp] theorem gates_rookInitDone (i : RookInit) (h : GatesKept m s.rook.groups) : GatesKept m (rookInitDone i s).rook.groups := by
  simp only [rookInitDone]
  (repeat' split) <;> simp [h]

@[simp] theorem gates_ite (c : Prop) [Decidable c] (a b : SMap RGroup) :
    GatesKept m (if c then a else b) ↔ (c → GatesKept m a) ∧ (¬c → GatesKept m b) := by
  split <;> simp [*]

@[simp] theorem gates_binCloseAt (h : GatesKept m s.rook.groups) : GatesKept m (binCloseAt s).rook.groups := by
  have hsets : ∀ (l : List Nat) (t : State), (l.foldl (fun s k => forN 16 (fun z s =>
      let zn := s.rzone k z
      if zn.en ∧ zn.sumLim < s.winSum z zn.winMs then zoneExceed zn s else s) s) t).rook.groups = t.rook.groups := by
    intro l t
    refine foldl_groups (fun s k => forN_groups (fun z s => ?_) s) l t
    simp only
    split <;> simp
  simp only [binCloseAt]
  split
  · exact h
  · split
    · exact gates_rookHalt h
    · rw [groups_rookEval, rook_modRook, hsets]
      exact h

@[simp] theorem gates_goOff : GatesKept m (goOff s).rook.groups := gates_rookPowerOnAt

@[simp] theorem gates_seqOff (h : GatesKept m s.rook.groups) : GatesKept m (seqOff s).rook.groups := by
  simp [seqOff, h]

@[simp] theorem gates_pwrCtrl (op : Nat) (h : GatesKept m s.rook.groups) : GatesKept m (pwrCtrl op s).2.rook.groups := by
  unfold pwrCtrl
  split_ifs <;> simp [h]

@[simp] theorem gates_offNext (q : PwrSeq) (h : GatesKept m s.rook.groups) : GatesKept m (offNext q s).rook.groups := by
  simp [offNext, h]

@[simp] theorem gates_delayEnd (h : GatesKept m s.rook.groups) : GatesKept m (delayEnd s).rook.groups := by
  simp only [delayEnd]
  (repeat' split) <;> simp [h]

@[simp] theorem gates_switchDom (h : GatesKept m s.rook.groups) : GatesKept m (switchDom s).rook.groups := by
  simp only [switchDom]
  (repeat' split) <;> simp [h]

@[simp] theorem gates_satAct (n e : Nat) (h : GatesKept m s.rook.groups) : GatesKept m (satAct n e s).2.rook.groups := by
  simp only [satAct]
  (repeat' split) <;> simp [h]

@[simp] theorem gates_satEntry (n e : Nat) (h : GatesKept m s.rook.groups) : GatesKept m (satEntry n e s).rook.groups := by
  simp only [satEntry]
  (repeat' split) <;> simp [h]

@[simp] theorem gates_satBoundary (n : Nat) (h : GatesKept m s.rook.groups) : GatesKept m (satBoundary n s).rook.groups := by
  unfold satBoundary
  exact gates_forN (fun e _ h => gates_satEntry n e h) h

@[simp] theorem gates_frameStartAt (n : Nat) (h : GatesKept m s.rook.groups) : GatesKept m (frameStartAt n s).rook.groups := by
  simp only [frameStartAt]
  (repeat' split) <;> simp [h]

theorem gates_foldl {β : Type} {f : State → β → State} (hf : ∀ x {s : State}, GatesKept m s.rook.groups → GatesKept m (f s x).rook.groups)
    (l : List β) (h : GatesKept m s.rook.groups) : GatesKept m (l.foldl f s).rook.groups := by
  induction l generalizing s with
  | nil => exact h
  | cons x l ih => exact ih (hf x h)

/-- The effects of a register write, on the state before it and the state with the value stored. -/
theorem gates_RegWr_act (w : RegWr) (mstr : Nat) {s0 : State} (h0 : s0.rook = s.rook) (h : GatesKept m s.rook.groups) :
    GatesKept m (w.act mstr s0 s).rook.groups := by
  unfold RegWr.act
  extract_lets i
  split
  case h_7 => (repeat' split) <;> simp [h, h0]
  case h_24 _ u _ _ => simp [u, h]
  case h_27 => rw [rook_satCmd _ _ _ h0]; exact h
  all_goals simp [h, h0]

@[simp] theorem gates_RegWr_perform (b : Blk) (mstr : Nat) (w : RegWr) (h : GatesKept m s.rook.groups) :
    GatesKept m (RegWr.perform b mstr s w).rook.groups := by
  simp only [RegWr.perform]
  split
  · exact h
  · split
    · split <;> simp [h]
    · simpa using gates_RegWr_act w mstr (rook_RegWr_store ..).symm (by simpa using h)

@[simp] theorem gates_blkWrite (b : Blk) (mstr a n v : Nat) (h : GatesKept m s.rook.groups) :
    GatesKept m (blkWrite b mstr a n v s).rook.groups := by
  simp only [blkWrite, rook_nameInitiator]
  split
  · split
    · exact h
    · split <;> simp [h]
  · exact gates_foldl (fun w _ => gates_RegWr_perform b mstr w) _ h

@[simp] theorem gates_teBroadcast (mstr a n v : Nat) (h : GatesKept m s.rook.groups) :
    GatesKept m (teBroadcast mstr a n v s).rook.groups := by
  unfold teBroadcast
  split
  · exact gates_forN (fun i _ h => gates_blkWrite _ _ _ _ _ h) h
  · exact h

@[simp] theorem gates_regStore (w : Who) (a n v : Nat) (h : GatesKept m s.rook.groups) :
    GatesKept m (regStore w a n v s).2.rook.groups := by
  simp only [regStore]
  split
  · simpa using h
  · split <;> simp [h]

@[simp] theorem gates_physStore (w : Who) (cached : Bool) (pa : Nat) (l : List Byte) (h : GatesKept m s.rook.groups) :
    GatesKept m (physStore w cached pa l s).2.rook.groups := by
  simp only [physStore]
  (repeat' split) <;> simp [h]

/-! Stores and atomics of a context (R49, R51, R57). -/

theorem gates_issue {body : State → Option Trap × State}
    (hbody : ∀ {s : State}, GatesKept m s.rook.groups → GatesKept m (body s).2.rook.groups) (hart : Hart) (word : Nat)
    (ill : HartState → Option Nat) (level : Nat) (h : GatesKept m s.rook.groups) :
    GatesKept m (issue hart word ill level body s).rook.groups := by
  have hb : GatesKept m (body (fetchCheck hart s).2).2.rook.groups := hbody (by simpa using h)
  simp only [issue]
  (repeat' split) <;> simp [h, hb]

theorem gates_eachElem {act : Nat → State → Option Trap × State}
    (hact : ∀ i {s : State}, GatesKept m s.rook.groups → GatesKept m (act i s).2.rook.groups) (hart : Hart) (l : List Nat)
    (h : GatesKept m s.rook.groups) : GatesKept m (eachElem hart act l s).2.rook.groups := by
  induction l generalizing s with
  | nil => simpa [eachElem] using h
  | cons i l ih =>
    have hi := hact i h
    simp only [eachElem]
    split
    · simpa using hi
    · exact ih hi

@[simp] theorem gates_hartStore (hart : Hart) (va : Nat) (l : List Byte) (h : GatesKept m s.rook.groups) :
    GatesKept m (hartStore hart va l s).2.rook.groups := by
  simp only [hartStore]
  (repeat' split) <;> simp [h]

@[simp] theorem gates_storeI (op n : Nat) (hart : Hart) (f : IForm) (h : GatesKept m s.rook.groups) :
    GatesKept m (storeI op n hart f s).rook.groups := by
  unfold storeI
  refine gates_issue (fun h => ?_) _ _ _ _ h
  simp only
  split <;> simp [h]

@[simp] theorem gates_vStore (hart : Hart) (f : VmForm) (h : GatesKept m s.rook.groups) : GatesKept m (vStore hart f s).rook.groups := by
  unfold vStore
  exact gates_issue (fun h => gates_eachElem (fun i _ h => gates_hartStore _ _ _ h) _ _ h) _ _ _ _ h

@[simp] theorem gates_atomAt (o : AtomOp) (hart : Hart) (f : AForm) (va pa : Nat) (cached : Bool) (h : GatesKept m s.rook.groups) :
    GatesKept m (atomAt o hart f va pa cached s).2.rook.groups := by
  simp only [atomAt]
  split
  · simpa using h
  · split <;> simp [h]

@[simp] theorem gates_atomic (o : AtomOp) (hart : Hart) (f : AForm) (h : GatesKept m s.rook.groups) :
    GatesKept m (atomic o hart f s).rook.groups := by
  unfold atomic
  refine gates_issue (fun h => ?_) _ _ _ _ h
  simp only
  (repeat' split) <;> simp [h]

end Sys2Proof.Machine
end

section
/-! SUPPORT. What turns a switch gate on (R307, R315, R320). -/

namespace Sys2Proof.Machine

theorem rgroup_setGroup (k g : Nat) (v : RGroup) (s : State) : (setGroup k v s).rgroup g = if g = k then v else s.rgroup g := by
  simp [State.rgroup, setGroup, SMap.get_put]

variable {k g : Nat} {hs rb : Bool} {s : State}

/-- A write of group k turns on no gate of another group. -/
theorem gate_setGroup {v : RGroup} (h : (((setGroup k v s).rgroup g).sw hs).gate = true) :
    ((s.rgroup g).sw hs).gate = true ∨ g = k ∧ (v.sw hs).gate = true := by
  rw [rgroup_setGroup] at h
  split at h
  · exact .inr ⟨‹_›, h⟩
  · exact .inl h

/-- GROUP_CLOSE acts under the permit alone (R307, R315). -/
theorem gate_groupCloseAt (h : (((groupCloseAt k s).rgroup g).sw hs).gate = true) :
    ((s.rgroup g).sw hs).gate = true ∨ s.permit g = true := by
  simp only [groupCloseAt] at h
  split at h
  case isTrue hp => exact (gate_setGroup h).imp_right fun ⟨hg, _⟩ => hg ▸ hp.1
  case isFalse => exact .inl h

theorem gate_groupHsOn (h : (((groupHsOn k s).rgroup g).sw hs).gate = true) :
    ((s.rgroup g).sw hs).gate = true ∨ s.permit g = true := by
  simp only [groupHsOn] at h
  split at h
  case isTrue hp => exact (gate_setGroup h).imp_right fun ⟨hg, _⟩ => hg ▸ hp.1
  case isFalse => exact .inl h

/-- The end of a test turns on the gate of the switch under test (R320). -/
theorem gate_switchTestEndAt (h : (((switchTestEndAt k rb s).rgroup g).sw hs).gate = true) :
    ((s.rgroup g).sw hs).gate = true ∨ ((s.rgroup g).sw hs).testing = true := by
  simp only [switchTestEndAt] at h
  split at h
  case isTrue => exact .inl h
  case isFalse hrun =>
    simp only [not_or, Bool.not_eq_true, Bool.not_eq_false'] at hrun
    have hput : ∀ {w}, (((setGroup k ((s.rgroup k).put (s.rgroup k).hs.testing w) s).rgroup g).sw hs).gate = true →
        ((s.rgroup g).sw hs).gate = true ∨ ((s.rgroup g).sw hs).testing = true := by
      intro w hw
      obtain hw | ⟨rfl, hw⟩ := gate_setGroup hw
      · exact .inl hw
      · rw [sw_put] at hw
        split at hw
        case isTrue hx => exact .inr (hx ▸ by simpa using hrun.1)
        case isFalse => exact .inl hw
    rw [State.rgroup, rook_ite, groups_ite, groups_singleFault, ite_self] at h
    exact hput h

/-- Settles O50: GROUP_CLOSE and GROUP_CLOSE_HS_ON act under the permit, the end of a test on the switch under test, and no other
command turns a gate on. -/
theorem gatesCloseOnlyUnderPermit : Obligations.GatesCloseOnlyUnderPermit := by
  unfold Obligations.GatesCloseOnlyUnderPermit
  intro c g hs s t h hon
  have hkept : GatesKept s.rook.groups t.rook.groups → ((s.rgroup g).sw hs).gate = true := fun hk => hk g hs hon
  cases c
  all_goals obtain rfl := Host.Outcome.next.inj h
  case groupClose => exact (gate_groupCloseAt hon).imp_right .inr
  case groupCloseHsOn => exact (gate_groupHsOn hon).imp_right .inr
  case switchTestEnd => exact (gate_switchTestEndAt hon).imp_right .inl
  all_goals exact .inl (hkept (by simp))

end Sys2Proof.Machine
end

section
/-! SUPPORT. Rook's mailbox (R338 to R342): the common course of a command, then what each command answers. -/

namespace Sys2Proof.Machine

/-- A mailbox command is under way: BUSY with its SEQ, and its result waits for the completion (R340). -/
def rookBegun (seq r : Nat) (u : State) : State :=
  setFld F.rookResSEQ seq (setFld F.rookResSTATE 1 { u with rook := { u.rook with busy := some r } })

section
variable {s : State} (hreset : s.inReset .rook = false) (seq : Nat) (act : State → Nat × State)
include hreset

theorem rookCommand_busy (hbusy : s.fld F.rookResSTATE = 1) :
    rookCommand seq act s = raise .rook 1 { addr := 0x24000000, mstr := 255, typ := 2 } s := by
  simp [rookCommand, hreset, hbusy]

theorem rookCommand_halted (hidle : s.fld F.rookResSTATE ≠ 1) (hhalt : s.rookSt = 4) : rookCommand seq act s = rookBegun seq 9 s := by
  simp only [rookCommand, hreset, hidle, hhalt, if_true, if_false, Bool.false_eq_true]
  rfl

theorem rookCommand_runs (hidle : s.fld F.rookResSTATE ≠ 1) (hrun : s.rookSt ≠ 4) {r : Nat} {u : State} (hact : act s = (r, u)) :
    rookCommand seq act s = rookBegun seq r u := by
  simp only [rookCommand, hreset, hidle, hrun, hact, if_false, Bool.false_eq_true]
  rfl

theorem rookCommand_ite (hidle : s.fld F.rookResSTATE ≠ 1) (hrun : s.rookSt ≠ 4) {c : Prop} [Decidable c] {r r' : Nat} {u u' : State}
    (hact : act s = if c then (r, u) else (r', u')) :
    rookCommand seq act s = if c then rookBegun seq r u else rookBegun seq r' u' := by
  split_ifs at hact ⊢ <;> exact rookCommand_runs hreset seq act hidle hrun hact

end

/-! The buffer (R340). -/

theorem rookRead_out (n : Nat) (act : List Byte → State → Nat × State) {s : State} (h : s.rookBufOk n = false) : rookRead n act s = (7, s) := by
  simp [rookRead, h]

theorem rookRead_ok {n : Nat} (act : List Byte → State → Nat × State) {s u : State} {l : List Byte} (h : s.rookBufOk n = true)
    (hread : memRead rookWho s.rookBuf n s = (.ok l, u)) : rookRead n act s = act l u := by
  simp [rookRead, h, hread]

theorem rookWrite_out {n : Nat} (l : List Byte) {s : State} (h : s.rookBufOk n = false) : rookWrite n l s = (7, s) := by
  simp [rookWrite, h]

theorem rookWrite_ok {n : Nat} {l : List Byte} {s u : State} (h : s.rookBufOk n = true)
    (hwrite : memWrite rookWho s.rookBuf l s = (none, u)) : rookWrite n l s = (0, u) := by
  simp [rookWrite, h, hwrite]

/-- A command that writes the buffer ends OK or BAD_ADDR. -/
theorem rookWrite_result (n : Nat) (l : List Byte) (s : State) : (rookWrite n l s).1 = 0 ∨ (rookWrite n l s).1 = 7 := by
  simp only [rookWrite]
  (repeat' split) <;> simp

/-- A buffer that lies in scratch holds a shorter one. -/
theorem rookBufOk_mono {s : State} {m n : Nat} (hmn : m ≤ n) (h : s.rookBufOk n = true) : s.rookBufOk m = true := by
  simp only [State.rookBufOk, Bool.and_eq_true, decide_eq_true_eq] at h ⊢
  omega

/-! What each command answers. -/

/-- A group whose latched causes are all MANUAL_PANEL, one of them at least (R308, R342). -/
def State.panelOnly (s : State) (g : Nat) : Prop :=
  (∃ j < 9, (s.causes g).getLsbD (j + 3) = true) ∧ ∀ j < 9, (s.causes g).getLsbD (j + 3) = true → s.causeMode (j + 3) = 1

theorem restartAct_eq (gs : BitVec 8) (s : State) [Decidable (∃ g < 8, gs.getLsbD g = true ∧ s.panelOnly g)] :
    restartAct gs s = if ∃ g < 8, gs.getLsbD g = true ∧ s.panelOnly g then (8, s) else (0, rookEval (restart gs [2] s)) := by
  refine if_congr ?_ rfl rfl
  simp [State.panelOnly, List.filter_eq_nil_iff, imp_iff_not_or]

theorem restartAct_refused {gs : BitVec 8} {s : State} (h : ∃ g < 8, gs.getLsbD g = true ∧ s.panelOnly g) : restartAct gs s = (8, s) := by
  classical rw [restartAct_eq, if_pos h]

theorem restartAct_runs {gs : BitVec 8} {s : State} (h : ∀ g < 8, gs.getLsbD g = true → ¬ s.panelOnly g) :
    restartAct gs s = (0, rookEval (restart gs [2] s)) := by
  classical
  rw [restartAct_eq, if_neg]
  rintro ⟨g, hg, hgs, hp⟩
  exact h g hg hgs hp

section
variable {s u : State} {l : List Byte}

/-- PARAM_LOAD of a running Rook that is not locked, by whether every gate is off and the block valid (R338). -/
theorem paramLoadAct_runs (hbuf : s.rookBufOk 4608 = true) (hread : memRead rookWho s.rookBuf 4608 s = (.ok l, u))
    (hwait : u.rook.waiting = false) : paramLoadAct s =
      if u.rook.lock.isSome = true then (2, u) else if u.allOff = false then (3, u)
      else if blockOk l = true then (0, rookEval (adoptBlock l { u with rook := { u.rook with stored := some l } })) else (4, u) := by
  rw [paramLoadAct, rookRead_ok _ hbuf hread]
  cases hok : blockOk l <;> cases hoff : u.allOff <;> simp [hwait, modRook]

/-- PARAM_LOAD while Rook waits for the locked block (R339). -/
theorem paramLoadAct_waits (hbuf : s.rookBufOk 4608 = true) (hread : memRead rookWho s.rookBuf 4608 s = (.ok l, u))
    (hwait : u.rook.waiting = true) {k : BitVec 384 × BitVec 384} (hlock : u.rook.lock = some k) : paramLoadAct s =
      if blockOk l = true ∧ Config.sha384 l = k.2 then (0, rookRun (adoptBlock l { u with rook := { u.rook with stored := some l } }))
      else (4, u) := by
  rw [paramLoadAct, rookRead_ok _ hbuf hread]
  simp only [hwait, hlock, if_true, modRook]

theorem lockAct_eq (hbuf : s.rookBufOk 48 = true) (hread : memRead rookWho s.rookBuf 48 s = (.ok l, u)) : lockAct s =
    if u.rook.lock.isSome = true then (2, u)
    else (0, setFlag F.rookStatLOCKED true { u with rook := { u.rook with lock := some (BitVec.ofNat 384 (beNat l), u.rookDigest) } }) := by
  rw [lockAct, rookRead_ok _ hbuf hread]
  rfl

theorem unlockAct_noNonce (hbuf : s.rookBufOk 193 = true) (hread : memRead rookWho s.rookBuf 193 s = (.ok l, u)) (hn : u.rook.nonce = none) :
    unlockAct s = (6, u) := by
  rw [unlockAct, rookRead_ok _ hbuf hread]
  simp only [hn]

/-- UNLOCK against a recorded key: the nonce is spent, and the lock opens to the key's signature (R342). -/
theorem unlockAct_nonce (hbuf : s.rookBufOk 193 = true) (hread : memRead rookWho s.rookBuf 193 s = (.ok l, u)) {n : List Byte}
    {k : BitVec 384 × BitVec 384} (hn : u.rook.nonce = some n) (hlock : u.rook.lock = some k) : unlockAct s =
      if Config.sha384 (l.take 97) = k.1 ∧
          Config.p384Verify (l.take 97) (Config.sha384 (n ++ digestBytes u.rookDigest)) (slice l 97 96) = true
      then (0, setFlag F.rookStatLOCKED false { u with rook := { u.rook with nonce := none, lock := none } })
      else (5, { u with rook := { u.rook with nonce := none } }) := by
  rw [unlockAct, rookRead_ok _ hbuf hread]
  have hdigest : (modRook (fun r => { r with nonce := none }) u).rookDigest = u.rookDigest := rfl
  simp only [hn, rook_modRook, hlock, hdigest]
  simp only [modRook, hlock]

/-- NONCE ends OK with a nonce held, or BAD_ADDR. -/
theorem nonceAct_result (s : State) : ∃ r t, nonceAct s = (r, t) ∧ (r = 0 ∨ r = 7) ∧ (r = 0 → t.rook.nonce.isSome = true) := by
  unfold nonceAct
  extract_lets r w
  have hw : w.1 = 0 ∨ w.1 = 7 := rookWrite_result ..
  clear_value w
  by_cases h0 : w.1 = 0
  · exact ⟨_, _, if_pos h0, .inl rfl, fun _ => rfl⟩
  · exact ⟨w.1, w.2, if_neg h0, hw, fun h => absurd h h0⟩

end

theorem rookDone_idle {s : State} (h : s.rook.busy = none) : rookDone s = s := by
  simp [rookDone, h]

theorem rookDone_busy {s : State} {r : Nat} (h : s.rook.busy = some r) : rookDone s =
    intr 621 (setFld F.rookResRESULT r (setFld F.rookResSTATE 2 { s with rook := { s.rook with busy := none } })) := by
  simp only [rookDone, h]
  rfl

end Sys2Proof.Machine
end

section
/-! SUPPORT. Rook's mailbox (R338 to R342): the statement, from what each command answers. -/

namespace Sys2Proof.Machine

/-- The mailbox commands, each with what it does where Rook takes it (R340). -/
theorem exec_rookMail (gs : BitVec 8) (seq : BitVec 16) (s : State) :
    exec (.req gs seq) s = .next (rookCommand seq.toNat (reqAct gs) s) ∧
    exec (.rookRestart gs seq) s = .next (rookCommand seq.toNat (restartAct gs) s) ∧
    exec (.paramLoad seq) s = .next (rookCommand seq.toNat paramLoadAct s) ∧
    exec (.paramRead seq) s = .next (rookCommand seq.toNat paramReadAct s) ∧
    exec (.lock seq) s = .next (rookCommand seq.toNat lockAct s) ∧
    exec (.nonce seq) s = .next (rookCommand seq.toNat nonceAct s) ∧
    exec (.unlock seq) s = .next (rookCommand seq.toNat unlockAct s) ∧
    exec (.logRead seq) s = .next (rookCommand seq.toNat logReadAct s) := by
  have hgs : BitVec.ofNat 8 gs.toNat = gs := BitVec.eq_of_toNat_eq (by simp)
  refine ⟨?_, ?_, rfl, rfl, rfl, rfl, rfl, rfl⟩
  · exact congrArg (fun x => Host.Outcome.next (rookCommand seq.toNat (reqAct x) s)) hgs
  · exact congrArg (fun x => Host.Outcome.next (rookCommand seq.toNat (restartAct x) s)) hgs

/-- What a command that is begun shows: BUSY, its SEQ, and the result it will end with. -/
theorem rookBegun_shows (seq : BitVec 16) (r : Nat) (u : State) :
    (rookBegun seq.toNat r u).rook = { u.rook with busy := some r } ∧ (rookBegun seq.toNat r u).fld F.rookResSTATE = 1 ∧
      (rookBegun seq.toNat r u).fld F.rookResSEQ = seq.toNat := by
  refine ⟨rfl, ?_, ?_⟩
  · rw [rookBegun, fld_setFld_other _ _ (by decide), fld_setFld_same]
    rfl
  · rw [rookBegun, fld_setFld_same]
    exact Nat.mod_eq_of_lt seq.isLt

/-- Settles O46: a command not refused by BUSY or HALT begins with what its own action answers, and the completion shows it. -/
theorem rookMailbox : Obligations.RookMailbox := by
  unfold Obligations.RookMailbox
  intro gs seq s hreset begun all a panel
  obtain ⟨hreq, hrestart, hload, hpread, hlock, hnonce, hunlock, hlog⟩ := exec_rookMail gs seq s
  have hbegun : begun = rookBegun seq.toNat := rfl
  have hpanel : panel = s.panelOnly := rfl
  have ha : a = s.rookBuf := rfl
  simp only [all, hreq, hrestart, hload, hpread, hlock, hnonce, hunlock, hlog, hbegun, hpanel, ha, Host.Outcome.next.injEq]
  clear_value begun panel a
  refine ⟨fun h => ?_, fun hi hh => ?_, fun hi hr => ?_, fun h => ?_, fun r h => ?_⟩
  · simp only [rookCommand_busy hreset _ _ h, and_self]
  · simp only [rookCommand_halted hreset _ _ hi hh, and_self]
  · have hruns : ∀ {act r u}, act s = (r, u) → rookCommand seq.toNat act s = rookBegun seq.toNat r u :=
      rookCommand_runs hreset _ _ hi hr
    have hite : ∀ {act} {c : Prop} [Decidable c] {r u r' u'}, act s = (if c then (r, u) else (r', u')) →
        rookCommand seq.toNat act s = if c then rookBegun seq.toNat r u else rookBegun seq.toNat r' u' :=
      rookCommand_ite hreset _ _ hi hr
    refine ⟨hruns rfl, fun h => hruns (restartAct_refused h), fun h => hruns (restartAct_runs h), fun hout => ?_, fun b u hbuf hread hw => ?_,
      fun b u k hbuf hread hw hk => ?_, fun l u hbuf hread => ?_, fun l u hbuf hread => ?_, fun u hbuf hw => hruns (rookWrite_ok hbuf hw),
      fun u hbuf hw => hruns (rookWrite_ok hbuf hw), ?_⟩
    · have hlong : ∀ n, 48 ≤ n → s.rookBufOk n = false := fun n hn =>
        Bool.eq_false_iff.mpr fun h => Bool.eq_false_iff.mp hout (rookBufOk_mono hn h)
      exact ⟨hruns (rookRead_out _ _ (hlong _ (by decide))), hruns (rookWrite_out _ (hlong _ (by decide))), hruns (rookRead_out _ _ hout),
        hruns (rookRead_out _ _ (hlong _ (by decide))), hruns (rookWrite_out _ (hlong _ (by decide)))⟩
    · have hact := paramLoadAct_runs hbuf hread hw
      refine ⟨fun hl => hruns ?_, fun hl ho => hruns ?_, fun hl ho => ?_⟩
      · rw [hact, if_pos hl]
      · rw [hact, if_neg (by simp [hl]), if_pos ho]
      · rw [if_neg (by simp [hl]), if_neg (by simp [ho])] at hact
        exact hite hact
    · exact hite (paramLoadAct_waits hbuf hread hw hk)
    · have hact := lockAct_eq hbuf hread
      exact ⟨fun hl => hruns (by rw [hact, if_pos hl]), fun hl => hruns (by rw [hact, if_neg (by simp [hl])])⟩
    · exact ⟨fun hn => hruns (unlockAct_noNonce hbuf hread hn), fun n k hn hk => hite (unlockAct_nonce hbuf hread hn hk)⟩
    · obtain ⟨r, t, hact, hor, hheld⟩ := nonceAct_result s
      obtain ⟨hrook, hstate, hseq⟩ := rookBegun_shows seq r t
      exact ⟨_, r, hruns hact, by rw [hrook], hstate, hor, fun h0 => by rw [hrook]; exact hheld h0, hseq⟩
  · exact congrArg Host.Outcome.next (rookDone_idle h)
  · exact congrArg Host.Outcome.next (rookDone_busy h)

end Sys2Proof.Machine
end
section
/-! SUPPORT. Rook's switch pairs (R315, R316): what each command does, by the permit, the gates and the readbacks. -/

namespace Sys2Proof.Machine

/-! A switch driven and turned off. -/

theorem RSwitch.drive_of_ne {w : RSwitch} {on : Bool} (t : Nat) (h : w.gate ≠ on) :
    w.drive on t = { w with gate := on, since := t, testing := false } := if_neg h

@[simp] theorem testing_off (w : RSwitch) (t : Nat) : (w.off t).testing = false := rfl

section
variable {g : Nat} {s : State}

theorem rgroup_setGroup_same (g : Nat) (v : RGroup) (s : State) : (setGroup g v s).rgroup g = v := by
  rw [rgroup_setGroup, if_pos rfl]

theorem rgroup_setGroup_other {k : Nat} (v : RGroup) (s : State) (h : k ≠ g) : (setGroup g v s).rgroup k = s.rgroup k := by
  rw [rgroup_setGroup, if_neg h]

/-! Closing. -/

theorem groupCloseAt_denied (h : s.permit g = false) : groupCloseAt g s = s := by
  simp [groupCloseAt, h]

theorem groupCloseAt_closes (hp : s.permit g = true) (hh : (s.rgroup g).hs.gate = false) (hl : (s.rgroup g).ls.gate = false)
    (hq : (s.rgroup g).hs.testing = false ∧ (s.rgroup g).ls.testing = false) : groupCloseAt g s = setGroup g { s.rgroup g with
      ls := { (s.rgroup g).ls with gate := true, since := s.rookNow, testing := false }, opening := false, stepAt := s.rookNow } s := by
  have hdrive : (s.rgroup g).ls.drive true s.rookNow = { (s.rgroup g).ls with gate := true, since := s.rookNow, testing := false } :=
    RSwitch.drive_of_ne _ (by simp [hl])
  simp [groupCloseAt, hp, hh, hl, hq, hdrive]

theorem groupHsOn_denied (h : s.permit g = false) : groupHsOn g s = s := by
  simp [groupHsOn, h]

theorem groupHsOn_early (h : s.rookSince (s.rgroup g).stepAt 10000 = false) : groupHsOn g s = s := by
  simp [groupHsOn, h]

theorem groupHsOn_closes (hp : s.permit g = true) (hl : (s.rgroup g).ls.gate = true) (hh : (s.rgroup g).hs.gate = false)
    (hq : (s.rgroup g).hs.testing = false) (ho : (s.rgroup g).opening = false) (ht : s.rookSince (s.rgroup g).stepAt 10000 = true) :
    groupHsOn g s = setGroup g { s.rgroup g with
      hs := { (s.rgroup g).hs with gate := true, since := s.rookNow, testing := false }, closedAt := s.rookNow } s := by
  have hdrive : (s.rgroup g).hs.drive true s.rookNow = { (s.rgroup g).hs with gate := true, since := s.rookNow, testing := false } :=
    RSwitch.drive_of_ne _ (by simp [hh])
  simp [groupHsOn, hp, hh, hl, hq, ho, ht, hdrive]

/-! Opening. -/

theorem groupSafety_idle (h : s.mustOpen g = false) : groupSafety g s = s := by
  simp [groupSafety, h]

theorem groupSafety_opens (h : s.mustOpen g = true) : groupSafety g s = groupOff g s := if_pos h

theorem groupOff_rgroup_same : (groupOff g s).rgroup g =
    { s.rgroup g with hs := (s.rgroup g).hs.off s.rookNow, ls := (s.rgroup g).ls.off s.rookNow, opening := false } :=
  rgroup_setGroup_same ..

theorem groupOff_rgroup_other {k : Nat} (h : k ≠ g) : (groupOff g s).rgroup k = s.rgroup k :=
  rgroup_setGroup_other _ _ h

theorem groupOrderly_idle (h : s.permit g = true ∨ s.mustOpen g = true) : groupOrderly g s = s := by
  rcases h with h | h <;> simp [groupOrderly, h]

theorem groupOrderly_opens (hp : s.permit g = false) (hm : s.mustOpen g = false) (ho : (s.rgroup g).opening = false)
    (hh : (s.rgroup g).hs.gate = true) : groupOrderly g s = setGroup g { s.rgroup g with
      hs := (s.rgroup g).hs.off s.rookNow, opening := true, stepAt := s.rookNow } s := by
  simp [groupOrderly, hp, hm, ho, hh]

theorem groupLsOff_idle (h : (s.rgroup g).opening = false ∨ s.rookSince (s.rgroup g).stepAt 10000 = false) : groupLsOff g s = s := by
  rcases h with h | h <;> simp [groupLsOff, h]

theorem groupLsOff_opens (ho : (s.rgroup g).opening = true) (ht : s.rookSince (s.rgroup g).stepAt 10000 = true) :
    groupLsOff g s = setGroup g { s.rgroup g with ls := (s.rgroup g).ls.off s.rookNow, opening := false } s := by
  simp [groupLsOff, ho, ht]

/-! Readbacks (R275, R316). -/

theorem rbWrong_iff (w : RSwitch) : s.rbWrong w = true ↔ w.rb ≠ w.gate ∧ w.testing = false ∧ 1 ≤ s.rookSample ∧
    w.rbAt ≤ 20000 * (s.rookSample - 1) ∧ w.since + s.swSettle w.gate ≤ 20000 * (s.rookSample - 1) := by
  simp [State.rbWrong, and_assoc]

theorem switchFaultAt_wrong {hs : Bool} (h : s.rbWrong ((s.rgroup g).sw hs) = true) :
    switchFaultAt g hs s = singleFault (.switch g hs) s := if_pos h

theorem switchFaultAt_idle {hs : Bool} (h : s.rbWrong ((s.rgroup g).sw hs) = false) : switchFaultAt g hs s = s := by
  simp [switchFaultAt, h]

/-- The group after a readback is seen at a level. -/
def RGroup.readAt (v : RGroup) (hs level : Bool) (t : Nat) : RGroup :=
  v.put hs { v.sw hs with rb := level, rbAt := if (v.sw hs).rb = level then (v.sw hs).rbAt else t }

/-- Both readbacks are high. -/
def RGroup.closed (v : RGroup) : Bool := v.hs.rb && v.ls.rb

variable (hs level : Bool)

theorem readbackAt_same (h : (s.swLine g).on = ((s.rgroup g).readAt hs level s.rookNow).closed) :
    readbackAt g hs level s = setGroup g ((s.rgroup g).readAt hs level s.rookNow) s := if_pos h

theorem readbackAt_changes (h : (s.swLine g).on ≠ ((s.rgroup g).readAt hs level s.rookNow).closed) : readbackAt g hs level s =
    let on := ((s.rgroup g).readAt hs level s.rookNow).closed
    let u := setGroup g ((s.rgroup g).readAt hs level s.rookNow) s
    intr 623 (setFld F.rookStatCLOSED (setBit (u.fld F.rookStatCLOSED) g on) { u with swc := SMap.put s.swc g ⟨on, s.now⟩ }) := if_neg h

end

end Sys2Proof.Machine
end

section
/-! SUPPORT. The tests of Rook's switches (R320, R322). -/

namespace Sys2Proof.Machine

section
variable {g : Nat} {s : State}

/-- No switch of the group is under test. -/
def RGroup.quiet (v : RGroup) : Prop := v.hs.testing = false ∧ v.ls.testing = false

theorem switchTestAt_busy (h : ¬ (s.rgroup g).quiet) : switchTestAt g s = s := by
  have htest : (s.rgroup g).hs.testing = true ∨ (s.rgroup g).ls.testing = true := by
    simpa [RGroup.quiet, or_iff_not_imp_left] using h
  exact if_pos htest

section
variable (hq : (s.rgroup g).quiet)
include hq

theorem switchTestAt_window {hs : Bool} {a : Nat} (hf : s.inForced g = false) (hd : s.testDue g = some hs)
    (hw : s.inWindow g (s.testDueAt g hs) = some a) : switchTestAt g s = testBegin g hs (some a) s := by
  simp only [switchTestAt, hq.1, hq.2, hf, hd, hw, Bool.false_eq_true, or_self, if_false]

theorem switchTestAt_noWindow {hs : Bool} (hf : s.inForced g = false) (hd : s.testDue g = some hs)
    (hw : s.inWindow g (s.testDueAt g hs) = none) : switchTestAt g s = s := by
  simp only [switchTestAt, hq.1, hq.2, hf, hd, hw, Bool.false_eq_true, or_self, if_false]

theorem switchTestAt_notDue (hf : s.inForced g = false) (hd : s.testDue g = none) : switchTestAt g s = s := by
  simp only [switchTestAt, hq.1, hq.2, hf, hd, Bool.false_eq_true, or_self, if_false]

theorem switchTestAt_forced {hs : Bool} (hf : s.inForced g = true) (hlast : (s.rgroup g).lastHs = !hs) (ho : s.testOverdue g hs = true) :
    switchTestAt g s = testBegin g hs (s.rgroup g).window s := by
  simp only [switchTestAt, hq.1, hq.2, hf, hlast, ho, Bool.not_not, Bool.false_eq_true, or_self, if_false, if_true]

theorem switchTestEndAt_idle (rb : Bool) : switchTestEndAt g rb s = s := by
  simp [switchTestEndAt, RGroup.sw, hq.1, hq.2]

end

/-- SWITCH_TEST with a test running, or with none due. -/
theorem switchTestAt_idle (hf : s.inForced g = false) (hd : s.testDue g = none) : switchTestAt g s = s := by
  by_cases hq : (s.rgroup g).quiet
  · exact switchTestAt_notDue hq hf hd
  · exact switchTestAt_busy hq

/-- A switch whose test has ended: its gate is on again, and the readback passes it or counts a failure. -/
def RSwitch.tested (w : RSwitch) (rb : Bool) (t : Nat) : RSwitch :=
  { w with gate := true, testing := false, since := t, passed := if rb then w.passed else t, fails := if rb then w.fails + 1 else 0 }

theorem switchTestEndAt_hs (rb : Bool) (ht : (s.rgroup g).hs.testing = true)
    (hn : s.rookSince (s.rgroup g).hs.since (s.rp 0x90 2) = true) : switchTestEndAt g rb s =
      let w := (s.rgroup g).hs.tested rb s.rookNow
      if w.fails = 2 then singleFault (.switch g true) (setGroup g { s.rgroup g with hs := w } s)
      else setGroup g { s.rgroup g with hs := w } s := by
  simp only [switchTestEndAt, ht, hn, RGroup.sw, if_true, Bool.not_true, Bool.false_eq_true, or_self, if_false]
  rfl

/-! A forced refresh (R322). -/

theorem testOverdue_open (hs : Bool) (h : (s.rgroup g).hs.gate = false ∨ (s.rgroup g).ls.gate = false) : s.testOverdue g hs = false := by
  rcases h with h | h <;> simp [State.testOverdue, h]

theorem testForcedAt_idle (h : (s.rgroup g).hs.gate = false ∨ (s.rgroup g).ls.gate = false) : testForcedAt g s = s := by
  simp [testForcedAt, testOverdue_open _ h]

theorem testForcedAt_asks (ho : s.testOverdue g true = true ∨ s.testOverdue g false = true) (hf : SMap.get s.rook.forced g 0 = 0) :
    testForcedAt g s = modRook (fun r => { r with forced := SMap.put r.forced g 1 }) (raise .rook 8 { addr := g } s) := if_pos ⟨ho, hf⟩

end

end Sys2Proof.Machine
end

section
/-! SUPPORT. Rook's switch pairs and their tests: the statement, clause by clause. -/

namespace Sys2Proof.Machine

/-- A readback that changes SW_CLOSED (R275): the group as read, the line from now, the bit of ROOK_STATUS and identifier 623. -/
theorem readbackAt_shows {g : Nat} (hg : g < 8) {s : State} {hs level : Bool}
    (h : (s.swLine g).on ≠ ((s.rgroup g).readAt hs level s.rookNow).closed) :
    (readbackAt g hs level s).rgroup g = (s.rgroup g).readAt hs level s.rookNow ∧
      (readbackAt g hs level s).swLine g = ⟨((s.rgroup g).readAt hs level s.rookNow).closed, s.now⟩ ∧
      bit ((readbackAt g hs level s).fld F.rookStatCLOSED) g = ((s.rgroup g).readAt hs level s.rookNow).closed ∧
      623 ∈ (readbackAt g hs level s).evt ∧ (readbackAt g hs level s).flt = s.flt := by
  rw [readbackAt_changes _ _ h]
  refine ⟨rgroup_setGroup_same .., ?_, ?_, mem_intr_evt .., rfl⟩
  · exact SMap.get_put_same ..
  · refine (bit_setFld_setBit (f := F.rookStatCLOSED) hg _ _ _).trans (if_pos rfl)

/-- Settles O47: each command of a switch pair, from the function it runs. -/
theorem switchPairs : Obligations.SwitchPairs := by
  unfold Obligations.SwitchPairs
  intro g hs s v quiet put
  have next : ∀ {c : Instr} {u t : State}, exec c s = .next u → u = t → exec c s = .next t := fun h e => h.trans (congrArg _ e)
  refine ⟨fun hp => ⟨next rfl (groupCloseAt_denied hp), next rfl (groupHsOn_denied hp)⟩,
    fun hp hh hl hq => next rfl (groupCloseAt_closes hp hh hl hq),
    fun hp hl hh hq ho => ⟨fun ht => next rfl (groupHsOn_closes hp hl hh hq ho ht), fun ht => next rfl (groupHsOn_early ht)⟩,
    fun hm => next rfl (groupSafety_idle hm), fun hm => ?_, fun hp hm ho hh => ?_, fun h => next rfl (groupOrderly_idle h),
    fun ho ht => ?_, fun h => next rfl (groupLsOff_idle h),
    ⟨fun hw => next rfl (switchFaultAt_wrong hw), fun hw => next rfl (switchFaultAt_idle hw), rbWrong_iff _,
      fun hq hf hd a hw => next rfl (switchTestAt_window hq hf hd hw), fun hq hf hd hw => next rfl (switchTestAt_noWindow hq hf hd hw),
      fun hq hf hl ho => next rfl ?_⟩,
    fun hf hd => next rfl (switchTestAt_idle hf hd), fun hq => next rfl (switchTestAt_busy hq),
    fun rb hq => next rfl (switchTestEndAt_idle hq rb), fun ht hn => ?_, ⟨fun hh hl ho hf => ?_, fun h => next rfl (testForcedAt_idle h)⟩,
    fun level => ⟨fun h => next rfl (readbackAt_same hs level h), fun h => ⟨_, rfl, readbackAt_shows g.isLt h⟩⟩⟩
  · refine ⟨groupOff g s, next rfl (groupSafety_opens hm), ?_⟩
    rw [groupOff_rgroup_same]
    exact ⟨gate_off .., gate_off .., rfl, rfl, fun k hk => groupOff_rgroup_other hk, rfl, rfl, rfl⟩
  · refine ⟨_, next rfl (groupOrderly_opens hp hm ho hh), ?_⟩
    rw [rgroup_setGroup_same]
    exact ⟨gate_off .., rfl, rfl, rfl, rfl, rfl⟩
  · refine ⟨_, next rfl (groupLsOff_opens ho ht), ?_⟩
    rw [rgroup_setGroup_same]
    exact ⟨gate_off .., rfl, rfl, rfl, rfl⟩
  · rw [switchTestAt_forced hq hf hl ho, testBegin]
    cases hs <;> rfl
  · refine ⟨next rfl ?_, fun h0 => next rfl ?_, fun h1 => next rfl ?_⟩
    · exact (switchTestEndAt_hs false ht hn).trans (if_neg (by simp [RSwitch.tested]))
    · refine (switchTestEndAt_hs true ht hn).trans ?_
      have hfails : (s.rgroup g).hs.fails = 0 := h0
      simp [RSwitch.tested, hfails, put, v]
    · refine (switchTestEndAt_hs true ht hn).trans ?_
      have hfails : (s.rgroup g).hs.fails = 1 := h1
      simp [RSwitch.tested, hfails, put, v]
  · refine ⟨_, rfl, next rfl (testForcedAt_asks ?_ hf)⟩
    have hover : ∀ hs, s.testOverdue g hs = s.rookSince (max ((s.rgroup g).sw hs).passed (s.rgroup g).closedAt) (s.rp 0x94 2 * 1000000) := by
      intro hs
      have hh' : (s.rgroup g).hs.gate = true := hh
      have hl' : (s.rgroup g).ls.gate = true := hl
      simp [State.testOverdue, hh', hl']
    rw [hover, hover]
    exact ho

end Sys2Proof.Machine
end
section
/-! SUPPORT. What an evaluation of Rook leaves alone (R307, R419): all but causes, ROOK_IN, STUCK's lines and the fault set. -/

namespace Sys2Proof.Machine

/-- What is found in a table is found there after another key is removed, whatever the table's order. -/
theorem SMap.find_erase_of_find {α : Type} {m : SMap α} {a c : Nat} {v : α} (hc : c ≠ a) (h : SMap.find m c = some v) :
    SMap.find (SMap.erase m a) c = some v := by
  induction m with
  | nil => exact h
  | cons e t ih =>
    obtain ⟨k, w⟩ := e
    by_cases hck : c = k
    · subst hck
      simp only [SMap.find, if_true] at h
      simp only [SMap.erase, if_neg (Ne.symm hc)]
      split <;> simpa [SMap.find] using h
    · by_cases hlt : c < k
      · simp [SMap.find, hck, hlt] at h
      · simp only [SMap.find, hck, hlt, if_false] at h
        simp only [SMap.erase]
        split
        · exact h
        · split
          · simpa only [SMap.find, hck, hlt, if_false] using h
          · simpa only [SMap.find, hck, hlt, if_false] using ih h

/-- `t` is `s` but for causes, ROOK_IN, the lines that hold STUCK, pending identifiers and Rook's fault set, whose bits of
FLT_STAT stay. -/
structure RookSteady (s t : State) : Prop where
  rook : ∃ m, t.rook = { s.rook with stuckBy := m }
  regs : ∀ f : Fld, f.key < 0x24000020 * 64 → t.fld f = s.fld f
  mem : t.mem = s.mem
  pwr : t.pwr = s.pwr
  diag : t.diag = s.diag
  reacts : (t.fltSet .rook).react = (s.fltSet .rook).react
  stat : ∀ n, (s.fltSet .rook).stat.getLsbD n = true → (t.fltSet .rook).stat.getLsbD n = true

/-- An event of Rook that no reset shadow can hide (R423). -/
theorem not_shadowed_rook (s : State) (src : Nat) {e : Ev} (he : e.into = none) : s.shadowed .rook src e = false := by
  unfold State.shadowed
  rw [he]
  exact (Bool.or_false _).trans (Bool.and_false _)

/-- The reaction of an event of Rook that does not reset the chip is at most NMI (R420, R422). -/
theorem takeReactions_rook {s : State} {src : Nat} (h : (s.react .rook src).getLsbD 3 = false) :
    takeReactions .rook src s = if (s.react .rook src).getLsbD 1 then { s with nmi := insertN Blk.rook.id s.nmi } else s := by
  have hblock : (s.react .rook src).getLsbD 2 = false := by simp [State.react, noBlockReset]
  simp only [takeReactions, h, hblock, Bool.false_eq_true, if_false]

/-- An event of Rook that does not reset the chip: its bit and its capture, and NMI where the bit was clear. -/
theorem raise_rook {s : State} {src : Nat} {e : Ev} (h : (s.react .rook src).getLsbD 3 = false) (he : e.into = none) :
    ∃ nmi, raise .rook src e s = { setFlt .rook ((s.fltSet .rook).event src e s.gt) s with nmi := nmi } := by
  have hreact : ((setFlt .rook ((s.fltSet .rook).event src e s.gt) s).react .rook src).getLsbD 3 = false := by
    simpa [State.react, FltSet.event] using h
  simp only [raise, not_shadowed_rook s src he, Bool.false_eq_true, if_false, takeReactions_rook hreact]
  split
  · exact ⟨_, rfl⟩
  · split <;> exact ⟨_, rfl⟩

namespace RookSteady

variable {s t u : State}

theorem refl (s : State) : RookSteady s s := ⟨⟨_, rfl⟩, fun _ _ => rfl, rfl, rfl, rfl, rfl, fun _ h => h⟩

theorem trans (h : RookSteady s t) (k : RookSteady t u) : RookSteady s u := by
  obtain ⟨m, hm⟩ := h.rook
  obtain ⟨n, hn⟩ := k.rook
  exact ⟨⟨n, by rw [hn, hm]⟩, fun f hf => (k.regs f hf).trans (h.regs f hf), k.mem.trans h.mem, k.pwr.trans h.pwr, k.diag.trans h.diag,
    k.reacts.trans h.reacts, fun i hi => k.stat i (h.stat i hi)⟩

theorem forN {n : Nat} {f : Nat → State → State} (hf : ∀ i {t}, RookSteady s t → RookSteady s (f i t)) (h : RookSteady s t) :
    RookSteady s (forN n f t) := by
  unfold Machine.forN
  induction List.range n generalizing t with
  | nil => exact h
  | cons i l ih => exact ih (hf i h)

variable (h : RookSteady s t)
include h

theorem react (n : Nat) : t.react .rook n = s.react .rook n := by
  simp only [State.react, h.reacts]

theorem setFld {f : Fld} (hf : 0x24000020 * 64 ≤ f.key) (v : Nat) : RookSteady s (setFld f v t) :=
  ⟨h.rook, fun g hg => (fld_setFld_other _ _ (by omega)).trans (h.regs g hg), h.mem, h.pwr, h.diag, h.reacts, h.stat⟩

theorem intr (id : Nat) : RookSteady s (intr id t) := ⟨h.rook, h.regs, h.mem, h.pwr, h.diag, h.reacts, h.stat⟩

theorem setFlt {f : FltSet} (hr : f.react = (t.fltSet .rook).react)
    (hs : ∀ n, (t.fltSet .rook).stat.getLsbD n = true → f.stat.getLsbD n = true) : RookSteady s (setFlt .rook f t) :=
  ⟨h.rook, h.regs, h.mem, h.pwr, h.diag, by rw [fltSet_setFlt_same, hr, h.reacts],
    fun n hn => by rw [fltSet_setFlt_same]; exact hs n (h.stat n hn)⟩

theorem raise {src : Nat} {e : Ev} (hr : (s.react .rook src).getLsbD 3 = false) (he : e.into = none) : RookSteady s (raise .rook src e t) := by
  obtain ⟨nmi, hn⟩ := raise_rook (s := t) (e := e) (by rw [h.react]; exact hr) he
  have hset : RookSteady s (Machine.setFlt .rook ((t.fltSet .rook).event src e t.gt) t) :=
    h.setFlt rfl (fun n hn => by simp [FltSet.event, hn])
  rw [hn]
  exact ⟨hset.rook, hset.regs, hset.mem, hset.pwr, hset.diag, hset.reacts, hset.stat⟩

theorem putCause (g : Nat) (c : BitVec 12) : RookSteady s (putCause g c t) := by
  unfold Machine.putCause
  split
  · exact h
  · refine (h.setFld ?_ _).intr _
    rw [key_at]
    exact (show 0x24000020 * 64 ≤ F.rookCauseCAUSE.key by decide).trans (Nat.le_add_right ..)

theorem stuckBy (m : SMap (BitVec 9)) : RookSteady s (modRook (fun r => { r with stuckBy := m }) t) := by
  obtain ⟨n, hn⟩ := h.rook
  exact ⟨⟨m, by rw [rook_modRook, hn]⟩, h.regs, h.mem, h.pwr, h.diag, h.reacts, h.stat⟩

theorem latchCause (gs : BitVec 8) (b : Nat) : RookSteady s (latchCause gs b t) := by
  refine forN (fun g u hu => ?_) h
  split
  · exact hu.putCause ..
  · exact hu

theorem restart (gs : BitVec 8) (ms : List Nat) : RookSteady s (restart gs ms t) := by
  refine forN (fun g u hu => ?_) h
  split
  · refine forN (fun j u hu => ?_) hu
    simp only
    split
    · split
      · exact (hu.putCause ..).stuckBy _
      · exact hu.putCause ..
    · exact hu
  · exact hu

theorem stuckSet (hr : (s.react .rook 6).getLsbD 3 = false) (gs : BitVec 8) (line : Nat) : RookSteady s (stuckSet gs line t) := by
  unfold Machine.stuckSet
  have hset : RookSteady s (Machine.forN 8 (fun g s => if gs.getLsbD g then
      modRook (fun r => { r with stuckBy := SMap.put r.stuckBy g (SMap.get r.stuckBy g 0 ||| BitVec.ofNat 9 (1 <<< line)) }) s else s)
      (Machine.latchCause gs 7 t)) := by
    refine forN (fun g u hu => ?_) (h.latchCause gs 7)
    split
    · exact hu.stuckBy _
    · exact hu
  simp only
  split
  · exact hset.raise hr rfl
  · exact hset

theorem stuckHear (hr : (s.react .rook 6).getLsbD 3 = false) : RookSteady s (stuckHear t) := by
  refine forN (fun l u hu => ?_) h
  split
  · exact hu.stuckSet hr ..
  · exact hu

theorem showRook : RookSteady s (showRook t) := by
  unfold Machine.showRook
  extract_lets dem flt chg s1 s2 any raw
  have h1 : RookSteady s s1 := ((h.setFld (by decide) _).setFld (by decide) _).setFld (by decide) _
  have h2 : RookSteady s s2 := by
    simp only [s2]
    split
    · exact h1.intr _
    · exact h1
  exact h2.setFlt rfl (fun _ hn => hn)

end RookSteady

end Sys2Proof.Machine
end

section
/-! SUPPORT. The causes of Rook (R307, R308): what each write of ROOK_CAUSE gives, and what a restart clears. -/

namespace Sys2Proof.Machine

theorem forN_induct {α : Type} {n : Nat} {f : Nat → α → α} {s : α} (P : Nat → α → Prop) (h0 : P 0 s)
    (hs : ∀ i < n, ∀ t, P i t → P (i + 1) (f i t)) : P n (forN n f s) := by
  induction n with
  | zero => exact h0
  | succ n ih =>
    rw [forN_succ]
    exact hs n n.lt_succ_self _ (ih fun i hi => hs i (Nat.lt_succ_of_lt hi))

/-! ROOK_CAUSE. -/

theorem causes_putCause (g k : Nat) (c : BitVec 12) (s : State) : (putCause g c s).causes k = if k = g then c else s.causes k := by
  unfold putCause
  split
  · rename_i hc
    split
    · rename_i hk
      rw [hk, hc]
    · rfl
  · split
    · rename_i hk
      rw [hk]
      refine (congrArg (BitVec.ofNat 12) (fld_setFld_same ..)).trans (BitVec.eq_of_toNat_eq ?_)
      rw [BitVec.toNat_ofNat]
      exact (Nat.mod_mod _ _).trans (Nat.mod_eq_of_lt c.isLt)
    · rename_i hk
      refine congrArg (BitVec.ofNat 12) (fld_setFld_other _ _ ?_)
      rw [key_at, key_at]
      omega

theorem causes_modRook (f : RookState → RookState) (g : Nat) (s : State) : (modRook f s).causes g = s.causes g := rfl

theorem causes_intr (id g : Nat) (s : State) : (intr id s).causes g = s.causes g := rfl

/-- A field of the registers before ROOK_CAUSE leaves the causes alone. -/
theorem causes_setFld {f : Fld} (hf : f.key < F.rookCauseCAUSE.key) (v g : Nat) (s : State) : (setFld f v s).causes g = s.causes g := by
  refine congrArg (BitVec.ofNat 12) (fld_setFld_other _ _ ?_)
  rw [key_at]
  omega

theorem causes_setFlag {f : Fld} (hf : f.key < F.rookCauseCAUSE.key) (v : Bool) (g : Nat) (s : State) :
    (setFlag f v s).causes g = s.causes g := causes_setFld hf ..

theorem causes_raise {src : Nat} {e : Ev} {s : State} (hr : (s.react .rook src).getLsbD 3 = false) (he : e.into = none) (g : Nat) :
    (raise .rook src e s).causes g = s.causes g := by
  obtain ⟨nmi, hn⟩ := raise_rook hr he
  rw [hn]
  rfl

theorem causes_showRook (g : Nat) (s : State) : (showRook s).causes g = s.causes g := by
  unfold showRook
  extract_lets dem flt chg s1 s2 any raw
  have h1 : s1.causes g = s.causes g := by
    simp only [s1]
    rw [causes_setFlag (by decide), causes_setFld (by decide), causes_setFld (by decide)]
  have h2 : s2.causes g = s1.causes g := by
    simp only [s2]
    split <;> rfl
  exact h2.trans h1

/-- A bit of a latched cause. -/
theorem getLsbD_causeBit {b i : Nat} (hb : b < 12) : (BitVec.ofNat 12 (1 <<< b)).getLsbD i = decide (i = b) := by
  rw [BitVec.getLsbD_ofNat, Nat.one_shiftLeft, Nat.testBit_two_pow]
  by_cases h : i = b
  · simp [h, hb]
  · simp [h, Ne.symm h]

/-- A latched cause is set in the groups named, and nothing else changes. -/
theorem causes_latchCause {gs : BitVec 8} {b g : Nat} (hb : b < 12) (hg : g < 8) (s : State) (i : Nat) :
    ((latchCause gs b s).causes g).getLsbD i = ((s.causes g).getLsbD i || (gs.getLsbD g && decide (i = b))) := by
  have hstep : ∀ n, n ≤ 8 → ((forN n (fun g s => if gs.getLsbD g then putCause g (s.causes g ||| BitVec.ofNat 12 (1 <<< b)) s else s)
      s).causes g).getLsbD i = ((s.causes g).getLsbD i || (decide (g < n) && gs.getLsbD g && decide (i = b))) := by
    intro n hn
    refine forN_induct (fun k (t : State) => (t.causes g).getLsbD i = ((s.causes g).getLsbD i || (decide (g < k) && gs.getLsbD g && decide (i = b))))
      (by simp) fun k _ t ht => ?_
    by_cases hkg : g = k
    · subst hkg
      split
      · rename_i hgs
        rw [causes_putCause, if_pos rfl, BitVec.getLsbD_or, getLsbD_causeBit hb, ht]
        simp [hgs]
      · rename_i hgs
        rw [ht]
        simp [Bool.eq_false_iff.mpr hgs]
    · have hlt : decide (g < k + 1) = decide (g < k) := by
        congr 1
        apply propext
        omega
      rw [hlt, ← ht]
      split
      · rw [causes_putCause, if_neg hkg]
      · rfl
  have h8 := hstep 8 (Nat.le_refl _)
  simp only [hg, decide_true, Bool.true_and] at h8
  exact h8

/-! What Rook's causes are judged by. -/

namespace RookSteady

variable {s t : State} (h : RookSteady s t)
include h

theorem rblock : t.rblock = s.rblock := by
  obtain ⟨m, hm⟩ := h.rook
  simp only [State.rblock, hm]

theorem rp (a n : Nat) : t.rp a n = s.rp a n := by
  simp only [State.rp, h.rblock]

theorem rookSt : t.rookSt = s.rookSt := h.regs _ (by decide)

theorem rookNow : t.rookNow = s.rookNow := by
  obtain ⟨m, hm⟩ := h.rook
  simp only [State.rookNow, hm]

theorem rinGroups (i : Nat) : t.rinGroups i = s.rinGroups i := by
  simp only [State.rinGroups, h.rp]

theorem demand (i : Nat) : t.demand i = s.demand i := by
  obtain ⟨m, hm⟩ := h.rook
  simp only [State.demand, State.rinEn, State.chanHigh, h.rp, hm]

theorem liveCauses (g : Nat) : t.liveCauses g = s.liveCauses g := by
  obtain ⟨m, hm⟩ := h.rook
  simp only [State.liveCauses, State.rinEn, State.rinGroups, h.rp, hm]

theorem causeMode (b : Nat) : t.causeMode b = s.causeMode b := by
  simp only [State.causeMode, State.rinMode, h.rp]

theorem stuckLines : t.stuckLines = s.stuckLines := by
  simp only [State.stuckLines, h.pwr, h.diag, h.regs F.diagStatOVF (by decide)]

/-- The condition of a cause other than STUCK ends or stands as it did. -/
theorem causeEnded {g b : Nat} (hb : b ≠ 7) : t.causeEnded g b = s.causeEnded g b := by
  obtain ⟨m, hm⟩ := h.rook
  unfold State.causeEnded
  simp only [h.demand, hm]
  split
  case h_5 => exact absurd rfl hb
  all_goals rfl

theorem causeEnded_of_stuckBy (hr : t.rook.stuckBy = s.rook.stuckBy) (g b : Nat) : t.causeEnded g b = s.causeEnded g b := by
  by_cases hb : b = 7
  · subst hb
    simp only [State.causeEnded, hr, h.stuckLines]
  · exact h.causeEnded hb

end RookSteady

/-! A restart (R308). -/

/-- One cause of one group in a restart: it clears where its condition has ended and its mode is named. -/
def restartOne (ms : List Nat) (g b : Nat) (s : State) : State :=
  if (s.causes g).getLsbD b && ms.contains (s.causeMode b) && s.causeEnded g b then
    let s := putCause g (s.causes g &&& ~~~(BitVec.ofNat 12 (1 <<< b))) s
    if b = 7 then modRook (fun r => { r with stuckBy := SMap.erase r.stuckBy g }) s else s
  else s

theorem restart_eq (gs : BitVec 8) (ms : List Nat) (s : State) : restart gs ms s =
    forN 8 (fun g s => if gs.getLsbD g then forN 8 (fun j s => restartOne ms g (j + 3) s) s else s) s := rfl

/-- From `s` to `t` latched causes have at most cleared, and only those whose condition had ended. -/
structure CausesEased (s t : State) : Prop where
  steady : RookSteady s t
  old : ∀ g b, (t.causes g).getLsbD b = true → (s.causes g).getLsbD b = true
  stands : ∀ g b, s.causeEnded g b = false → t.causeEnded g b = false
  kept : ∀ g b, (s.causes g).getLsbD b = true → s.causeEnded g b = false → (t.causes g).getLsbD b = true
  other : ∀ g b, b < 3 ∨ 10 < b → (t.causes g).getLsbD b = (s.causes g).getLsbD b

namespace CausesEased

variable {s t u : State}

theorem refl (s : State) : CausesEased s s := ⟨.refl s, fun _ _ h => h, fun _ _ h => h, fun _ _ h _ => h, fun _ _ _ => rfl⟩

theorem trans (h : CausesEased s t) (k : CausesEased t u) : CausesEased s u :=
  ⟨h.steady.trans k.steady, fun g b hb => h.old g b (k.old g b hb), fun g b hb => k.stands g b (h.stands g b hb),
    fun g b hb he => k.kept g b (h.kept g b hb he) (h.stands g b he), fun g b hb => (k.other g b hb).trans (h.other g b hb)⟩

theorem forN {n : Nat} {f : Nat → State → State} (hf : ∀ i < n, ∀ t, CausesEased t (f i t)) (s : State) : CausesEased s (forN n f s) :=
  forN_induct (fun _ t => CausesEased s t) (refl s) fun i hi t ht => ht.trans (hf i hi t)

end CausesEased

/-- A restart clears one cause whose condition has ended. -/
theorem causesEased_clear {s t : State} {g b : Nat} (hb : 3 ≤ b ∧ b ≤ 10) (hended : s.causeEnded g b = true) (hsteady : RookSteady s t)
    (hbits : ∀ k i, (t.causes k).getLsbD i = ((s.causes k).getLsbD i && !(decide (k = g) && decide (i = b))))
    (hstands : ∀ k i, s.causeEnded k i = false → t.causeEnded k i = false) : CausesEased s t := by
  refine ⟨hsteady, fun k i hi => ?_, hstands, fun k i hi he => ?_, fun k i hi => ?_⟩
  · rw [hbits, Bool.and_eq_true] at hi
    exact hi.1
  · have hne : ¬ (k = g ∧ i = b) := by
      rintro ⟨rfl, rfl⟩
      exact absurd hended (by simp [he])
    rw [hbits, hi, ← Bool.decide_and, decide_eq_false hne]
    rfl
  · have hne : i ≠ b := by omega
    simp [hbits, hne]

/-- ROOK_CAUSE with one cause cleared. -/
theorem causes_clearOne {g b : Nat} (hb : b < 12) (s : State) (k i : Nat) :
    ((putCause g (s.causes g &&& ~~~(BitVec.ofNat 12 (1 <<< b))) s).causes k).getLsbD i =
      ((s.causes k).getLsbD i && !(decide (k = g) && decide (i = b))) := by
  rw [causes_putCause]
  split
  case isTrue hk =>
    subst hk
    by_cases hi : i < 12
    · rw [BitVec.getLsbD_and, BitVec.getLsbD_not, getLsbD_causeBit hb]
      simp [hi]
    · simp [BitVec.getLsbD_of_ge _ _ (Nat.le_of_not_lt hi)]
  case isFalse hk => simp [hk]

/-- STUCK's line leaves the lines of group `g` forgotten; the condition of another group's STUCK stands. -/
theorem causeEnded_erase {g k : Nat} {s : State} (hk : k ≠ g) (he : s.causeEnded k 7 = false) :
    (modRook (fun r => { r with stuckBy := SMap.erase r.stuckBy g }) s).causeEnded k 7 = false := by
  have hlines : (modRook (fun r => { r with stuckBy := SMap.erase r.stuckBy g }) s).stuckLines = s.stuckLines := rfl
  simp only [State.causeEnded, hlines, rook_modRook] at he ⊢
  cases hf : SMap.find s.rook.stuckBy k with
  | none => simp [SMap.get, hf] at he
  | some v => simpa only [SMap.get, SMap.find_erase_of_find hk hf, hf] using he

theorem causesEased_restartOne {ms : List Nat} {g b : Nat} (hb : 3 ≤ b ∧ b ≤ 10) (s : State) : CausesEased s (restartOne ms g b s) := by
  unfold restartOne
  split
  case isFalse => exact .refl s
  case isTrue hc =>
    simp only [Bool.and_eq_true] at hc
    obtain ⟨-, hended⟩ := hc
    have hput := (RookSteady.refl s).putCause g (s.causes g &&& ~~~(BitVec.ofNat 12 (1 <<< b)))
    have hstands : ∀ k i, s.causeEnded k i = false →
        (putCause g (s.causes g &&& ~~~(BitVec.ofNat 12 (1 <<< b))) s).causeEnded k i = false := fun k i he =>
      (hput.causeEnded_of_stuckBy (by rw [rook_putCause]) k i).trans he
    simp only
    split
    case isFalse => exact causesEased_clear hb hended hput (causes_clearOne (by omega) s) hstands
    case isTrue h7 =>
      subst h7
      refine causesEased_clear hb hended (hput.stuckBy _) (causes_clearOne (by omega) s) fun k i he => ?_
      by_cases hi : i = 7
      · subst hi
        have hk : k ≠ g := by
          rintro rfl
          exact absurd hended (by simp [he])
        exact causeEnded_erase hk (hstands k 7 he)
      · exact ((hput.stuckBy _).causeEnded hi).trans he

/-- What a restart leaves of a cause in a mode named has a condition that stands. -/
theorem restartOne_left {ms : List Nat} {g b : Nat} {s : State} (hb : b < 12) (hm : ms.contains (s.causeMode b) = true)
    (hbit : ((restartOne ms g b s).causes g).getLsbD b = true) : s.causeEnded g b = false := by
  cases he : s.causeEnded g b with
  | false => rfl
  | true =>
    have hclear : ((putCause g (s.causes g &&& ~~~(BitVec.ofNat 12 (1 <<< b))) s).causes g).getLsbD b = false := by
      simp [causes_clearOne hb]
    cases hs : (s.causes g).getLsbD b with
    | false => simp only [restartOne, hs, Bool.false_and, Bool.false_eq_true, if_false] at hbit
    | true =>
      simp only [restartOne, hs, hm, he, Bool.and_self, if_true] at hbit
      split at hbit
      · exact absurd hbit (by rw [causes_modRook, hclear]; decide)
      · exact absurd hbit (by rw [hclear]; decide)

section
variable (gs : BitVec 8) (ms : List Nat) (s : State)

theorem causesEased_group (g : Nat) (n : Nat) (hn : n ≤ 8) : CausesEased s (forN n (fun j s => restartOne ms g (j + 3) s) s) :=
  .forN (fun j hj t => causesEased_restartOne (by omega) t) s

theorem causesEased_restart : CausesEased s (restart gs ms s) := by
  rw [restart_eq]
  refine .forN (fun g _ t => ?_) s
  split
  · exact causesEased_group ms t g 8 (Nat.le_refl _)
  · exact .refl t

/-- The causes of group `g` from POWERUP down to bit `n` + 3 that a restart has left stand, where their mode is named. -/
def Restarted (ms : List Nat) (g n : Nat) (t : State) : Prop :=
  ∀ j < n, ms.contains (t.causeMode (j + 3)) = true → (t.causes g).getLsbD (j + 3) = true → t.causeEnded g (j + 3) = false

variable {ms s}

theorem Restarted.eased {g n : Nat} {t : State} (h : Restarted ms g n s) (he : CausesEased s t) : Restarted ms g n t := fun j hj hm hb => by
  rw [he.steady.causeMode] at hm
  exact he.stands _ _ (h j hj hm (he.old _ _ hb))

theorem restarted_group (g : Nat) : Restarted ms g 8 (forN 8 (fun j s => restartOne ms g (j + 3) s) s) := by
  refine forN_induct (fun n t => Restarted ms g n t) (fun j hj => absurd hj (Nat.not_lt_zero j)) fun n hn t ht => ?_
  have hstep : CausesEased t (restartOne ms g (n + 3) t) := causesEased_restartOne (by omega) t
  intro j hj hm hb
  rcases Nat.lt_succ_iff_lt_or_eq.mp hj with hlt | rfl
  · exact ht.eased hstep j hlt hm hb
  · rw [hstep.steady.causeMode] at hm
    exact hstep.stands _ _ (restartOne_left (by omega) hm hb)

/-- After a restart (R308) the causes left in its groups and modes are those whose condition stands. -/
theorem restarted_restart {g : Nat} (hg : g < 8) (hgs : gs.getLsbD g = true) : Restarted ms g 8 (restart gs ms s) := by
  rw [restart_eq]
  refine forN_induct (fun n t => g < n → Restarted ms g 8 t) (fun h => absurd h (Nat.not_lt_zero g)) (fun n _ t ht hlt => ?_) hg
  rcases Nat.lt_succ_iff_lt_or_eq.mp hlt with hlt | rfl
  · refine (ht hlt).eased ?_
    split
    · exact causesEased_group ms t n 8 (Nat.le_refl _)
    · exact .refl t
  · rw [if_pos hgs]
    exact restarted_group g

end

end Sys2Proof.Machine
end

section
/-! SUPPORT. An evaluation of Rook (R307, R308): the causes it leaves. -/

namespace Sys2Proof.Machine

/-- The demands latch their causes in their groups. -/
def latchDemands (s : State) : State :=
  [(0, 3), (1, 4), (3, 5)].foldl (fun s e => if s.demand e.1 then latchCause (s.rinGroups e.1) e.2 s else s) s

/-- The live causes of every group. -/
def showLive (s : State) : State := forN 8 (fun g s => putCause g ((s.causes g &&& 0xFF8) ||| s.liveCauses g) s) s

theorem rookEval_eq (s : State) : rookEval s = showRook (restart 0xFF [0] (showLive (stuckHear (latchDemands s)))) := rfl

/-! Causes that are only added to. -/

/-- No latched cause of a group is lost from `s` to `t`. -/
def CausesGrow (s t : State) : Prop := ∀ g < 8, ∀ i, (s.causes g).getLsbD i = true → (t.causes g).getLsbD i = true

theorem CausesGrow.refl (s : State) : CausesGrow s s := fun _ _ _ h => h

theorem CausesGrow.trans {s t u : State} (h : CausesGrow s t) (k : CausesGrow t u) : CausesGrow s u :=
  fun g hg i hi => k g hg i (h g hg i hi)

theorem causesGrow_latchCause (gs : BitVec 8) {b : Nat} (hb : b < 12) (s : State) : CausesGrow s (latchCause gs b s) := fun g hg i hi => by
  rw [causes_latchCause hb hg, hi, Bool.true_or]

section
variable {s : State}

theorem latchDemand_steady {i b : Nat} {t : State} (h : RookSteady s t) :
    RookSteady s (if t.demand i then latchCause (t.rinGroups i) b t else t) := by
  split
  · exact h.latchCause ..
  · exact h

theorem latchDemand_grows {i b : Nat} (hb : b < 12) (t : State) :
    CausesGrow t (if t.demand i then latchCause (t.rinGroups i) b t else t) := by
  split
  · exact causesGrow_latchCause _ hb t
  · exact .refl t

/-- A demand's cause is latched in its groups (R307, R310). -/
theorem latchDemand_latches {i b g : Nat} (hb : b < 12) (hg : g < 8) {t : State} (hd : t.demand i = true)
    (hgs : (t.rinGroups i).getLsbD g = true) :
    ((if t.demand i then latchCause (t.rinGroups i) b t else t).causes g).getLsbD b = true := by
  rw [if_pos hd, causes_latchCause hb hg, hgs]
  simp

theorem latchDemand_other {i b k g : Nat} (hb : b < 12) (hg : g < 8) (hk : k ≠ b) (t : State) :
    ((if t.demand i then latchCause (t.rinGroups i) b t else t).causes g).getLsbD k = (t.causes g).getLsbD k := by
  split
  · rw [causes_latchCause hb hg]
    simp [hk]
  · rfl

theorem latchDemands_steady (s : State) : RookSteady s (latchDemands s) :=
  latchDemand_steady (latchDemand_steady (latchDemand_steady (.refl s)))

theorem latchDemands_latches {i b g : Nat} (hib : (i = 0 ∧ b = 3) ∨ (i = 1 ∧ b = 4) ∨ (i = 3 ∧ b = 5)) (hg : g < 8) (hd : s.demand i = true)
    (hgs : (s.rinGroups i).getLsbD g = true) : ((latchDemands s).causes g).getLsbD b = true := by
  have h1 := latchDemand_steady (i := 0) (b := 3) (.refl s)
  have h2 := latchDemand_steady (i := 1) (b := 4) h1
  simp only [latchDemands, List.foldl_cons, List.foldl_nil]
  rcases hib with ⟨rfl, rfl⟩ | ⟨rfl, rfl⟩ | ⟨rfl, rfl⟩
  · exact latchDemand_grows (by decide) _ g hg _ (latchDemand_grows (by decide) _ g hg _ (latchDemand_latches (by decide) hg hd hgs))
  · exact latchDemand_grows (by decide) _ g hg _ (latchDemand_latches (by decide) hg (by rw [h1.demand, hd]) (by rw [h1.rinGroups, hgs]))
  · exact latchDemand_latches (by decide) hg (by rw [h2.demand, hd]) (by rw [h2.rinGroups, hgs])

theorem latchDemands_other {g k : Nat} (hg : g < 8) (hk : 5 < k) : ((latchDemands s).causes g).getLsbD k = (s.causes g).getLsbD k := by
  simp only [latchDemands, List.foldl_cons, List.foldl_nil]
  rw [latchDemand_other (by decide) hg (by omega), latchDemand_other (by decide) hg (by omega), latchDemand_other (by decide) hg (by omega)]

/-! DIAG's lines (R328). -/

theorem causes_stuckSet (hr : (s.react .rook 6).getLsbD 3 = false) (gs : BitVec 8) (line g : Nat) :
    (stuckSet gs line s).causes g = (latchCause gs 7 s).causes g := by
  unfold stuckSet
  have hlatch := (RookSteady.refl s).latchCause gs 7
  have hset := RookSteady.forN (s := s) (n := 8) (f := fun g s => if gs.getLsbD g then
      modRook (fun r => { r with stuckBy := SMap.put r.stuckBy g (SMap.get r.stuckBy g 0 ||| BitVec.ofNat 9 (1 <<< line)) }) s else s)
    (fun g u hu => by
      split
      · exact hu.stuckBy _
      · exact hu) hlatch
  have hcauses : (forN 8 (fun g s => if gs.getLsbD g then
      modRook (fun r => { r with stuckBy := SMap.put r.stuckBy g (SMap.get r.stuckBy g 0 ||| BitVec.ofNat 9 (1 <<< line)) }) s else s)
      (latchCause gs 7 s)).causes g = (latchCause gs 7 s).causes g :=
    forN_keeps (fun s => s.causes g) _ _ (fun i t => by split <;> rfl) _
  simp only
  split
  · exact (causes_raise (by rw [hset.react]; exact hr) rfl g).trans hcauses
  · exact hcauses

/-- What Rook hears of DIAG's lines: causes are added, and none but STUCK. -/
theorem stuckHear_causes (hr : (s.react .rook 6).getLsbD 3 = false) : CausesGrow s (stuckHear s) ∧
    ∀ g < 8, ∀ i, i ≠ 7 → ((stuckHear s).causes g).getLsbD i = (s.causes g).getLsbD i := by
  have hall : RookSteady s (stuckHear s) ∧ CausesGrow s (stuckHear s) ∧
      ∀ g < 8, ∀ i, i ≠ 7 → ((stuckHear s).causes g).getLsbD i = (s.causes g).getLsbD i := by
    unfold stuckHear
    refine forN_induct (fun _ t => RookSteady s t ∧ CausesGrow s t ∧
      ∀ g < 8, ∀ i, i ≠ 7 → (t.causes g).getLsbD i = (s.causes g).getLsbD i) ⟨.refl s, .refl s, fun _ _ _ _ => rfl⟩ ?_
    rintro l - t ⟨hsteady, hgrow, hother⟩
    split
    · have hrt : (t.react .rook 6).getLsbD 3 = false := by rw [hsteady.react, hr]
      refine ⟨hsteady.stuckSet hr .., hgrow.trans fun g hg i hi => ?_, fun g hg i hi => ?_⟩
      · rw [causes_stuckSet hrt]
        exact causesGrow_latchCause _ (by decide) t g hg i hi
      · rw [causes_stuckSet hrt, causes_latchCause (by decide) hg, ← hother g hg i hi]
        simp [hi]
    · exact ⟨hsteady, hgrow, hother⟩
  exact hall.2

/-! The live causes. -/

theorem showLive_steady (s : State) : RookSteady s (showLive s) := .forN (fun _ _ hu => hu.putCause ..) (.refl s)

theorem causes_showLive {g : Nat} (hg : g < 8) (s : State) : (showLive s).causes g = (s.causes g &&& 0xFF8) ||| s.liveCauses g := by
  have hall := forN_induct (n := 8) (f := fun g s => putCause g ((s.causes g &&& 0xFF8) ||| s.liveCauses g) s) (s := s)
    (fun n t => RookSteady s t ∧ t.causes g = if g < n then (s.causes g &&& 0xFF8) ||| s.liveCauses g else s.causes g)
    ⟨.refl s, rfl⟩ fun n _ t ht => by
      obtain ⟨hsteady, hcauses⟩ := ht
      refine ⟨hsteady.putCause .., ?_⟩
      rw [causes_putCause]
      by_cases hgn : g = n
      · subst hgn
        rw [if_pos rfl, if_pos (Nat.lt_succ_self g), hcauses, if_neg (Nat.lt_irrefl g), hsteady.liveCauses]
      · rw [if_neg hgn, hcauses]
        exact if_congr (by omega) rfl rfl
  exact hall.2.trans (if_pos hg)

theorem liveCauses_bits (s : State) (g : Nat) : (s.liveCauses g).getLsbD 0 = !(s.rook.req.getLsbD g) ∧
    (s.liveCauses g).getLsbD 1 = s.rook.railBad.getLsbD g ∧
    (s.liveCauses g).getLsbD 2 = (s.rinEn 2 && (s.rinGroups 2).getLsbD g && !s.rook.thSat) ∧
    ∀ i, 3 ≤ i → (s.liveCauses g).getLsbD i = false := by
  simp only [State.liveCauses]
  generalize (!(s.rook.req.getLsbD g)) = a
  generalize s.rook.railBad.getLsbD g = b
  generalize (s.rinEn 2 && (s.rinGroups 2).getLsbD g && !s.rook.thSat) = c
  refine ⟨?_, ?_, ?_, fun i hi => ?_⟩
  · revert a b c; decide
  · revert a b c; decide
  · revert a b c; decide
  · by_cases h12 : i < 12
    · interval_cases i <;> (revert a b c; decide)
    · exact BitVec.getLsbD_of_ge _ _ (Nat.le_of_not_lt h12)

/-- A live cause shows as it is; a latched one stays. -/
theorem showLive_bits {g : Nat} (hg : g < 8) (s : State) (i : Nat) : ((showLive s).causes g).getLsbD i =
    if i < 3 then (s.liveCauses g).getLsbD i else (s.causes g).getLsbD i := by
  rw [causes_showLive hg, BitVec.getLsbD_or, BitVec.getLsbD_and]
  have hmask : (0xFF8 : BitVec 12).getLsbD i = (decide (3 ≤ i) && decide (i < 12)) := by
    by_cases h12 : i < 12
    · revert i; decide
    · simp [BitVec.getLsbD_of_ge _ _ (Nat.le_of_not_lt h12), h12]
  rw [hmask]
  split
  · rename_i h3
    simp [Nat.not_le.mpr h3]
  · rename_i h3
    by_cases h12 : i < 12
    · rw [(liveCauses_bits s g).2.2.2 i (by omega), decide_eq_true (Nat.le_of_not_lt h3), decide_eq_true h12]
      simp
    · simp [BitVec.getLsbD_of_ge _ _ (Nat.le_of_not_lt h12)]

end

/-! The evaluation. -/

section
variable {s : State} (hr : (s.react .rook 6).getLsbD 3 = false)
include hr

theorem beforeRestart_steady : RookSteady s (showLive (stuckHear (latchDemands s))) :=
  ((latchDemands_steady s).stuckHear hr).trans (showLive_steady _)

theorem rookEval_steady : RookSteady s (rookEval s) := by
  rw [rookEval_eq]
  exact ((beforeRestart_steady hr).restart ..).showRook

theorem react_latchDemands : ((latchDemands s).react .rook 6).getLsbD 3 = false := by
  rw [(latchDemands_steady s).react, hr]

/-- After an evaluation the live causes are FW where REQ is 0, RAIL and TH (R307). -/
theorem rookEval_live {g : Nat} (hg : g < 8) {i : Nat} (hi : i < 3) : ((rookEval s).causes g).getLsbD i = (s.liveCauses g).getLsbD i := by
  have hsteady := (latchDemands_steady s).stuckHear hr
  rw [rookEval_eq, causes_showRook, (causesEased_restart ..).other _ _ (.inl hi), showLive_bits hg, if_pos hi, hsteady.liveCauses]

/-- EXPIRED stands as it did. -/
theorem rookEval_expired {g : Nat} (hg : g < 8) : ((rookEval s).causes g).getLsbD 11 = (s.causes g).getLsbD 11 := by
  rw [rookEval_eq, causes_showRook, (causesEased_restart ..).other _ _ (.inr (by decide)), showLive_bits hg, if_neg (by decide),
    (stuckHear_causes (react_latchDemands hr)).2 g hg _ (by decide), latchDemands_other hg (by decide)]

/-- After an evaluation a demand's cause is latched in its groups. -/
theorem rookEval_demand {i b g : Nat} (hib : (i = 0 ∧ b = 3) ∨ (i = 1 ∧ b = 4) ∨ (i = 3 ∧ b = 5)) (hg : g < 8) (hd : s.demand i = true)
    (hgs : (s.rinGroups i).getLsbD g = true) : ((rookEval s).causes g).getLsbD b = true := by
  have hlatched := (stuckHear_causes (react_latchDemands hr)).1 g hg b (latchDemands_latches hib hg hd hgs)
  have hstands : (showLive (stuckHear (latchDemands s))).causeEnded g b = false := by
    rw [(beforeRestart_steady hr).causeEnded (by omega)]
    rcases hib with ⟨rfl, rfl⟩ | ⟨rfl, rfl⟩ | ⟨rfl, rfl⟩ <;> simp [State.causeEnded, hd]
  rw [rookEval_eq, causes_showRook]
  refine (causesEased_restart ..).kept g b ?_ hstands
  rw [showLive_bits hg, if_neg (by omega)]
  exact hlatched

end

/-- After an evaluation no AUTO cause is left whose condition has ended (R308). -/
theorem rookEval_auto {s : State} {b g : Nat} (hb : 3 ≤ b ∧ b ≤ 10) (hg : g < 8) (hm : (rookEval s).causeMode b = 0)
    (he : (rookEval s).causeEnded g b = true) : ((rookEval s).causes g).getLsbD b = false := by
  have hshow := (RookSteady.refl (restart 0xFF [0] (showLive (stuckHear (latchDemands s))))).showRook
  have hended := hshow.causeEnded_of_stuckBy (by rw [rook_showRook]) g b
  rw [rookEval_eq] at hm he ⊢
  rw [causes_showRook]
  have hgs : (0xFF : BitVec 8).getLsbD g = true := by
    clear hended he
    revert g
    decide
  have hdone := restarted_restart 0xFF (ms := [0]) (s := showLive (stuckHear (latchDemands s))) hg hgs (b - 3) (by omega)
  rw [Nat.sub_add_cancel hb.1, ← hshow.causeMode, hm, ← hended, he] at hdone
  exact Bool.eq_false_iff.mpr fun hbit => absurd (hdone rfl hbit) (by decide)

end Sys2Proof.Machine
end

section
/-! SUPPORT. A single fault and Endgame (R332 to R335). -/

namespace Sys2Proof.Machine

/-- No source of Rook resets the chip. -/
def State.rookCalm (s : State) : Prop := ∀ src < 16, (s.react .rook src).getLsbD 3 = false

/-- What a single fault does to Rook's state before it evaluates: the first in RUN starts Endgame, another source in ENDGAME
leads to LOCKOUT. -/
def faultState (same : Bool) (gs : BitVec 8) (s : State) : State :=
  if s.rookSt = 1 then
    modRook (fun r => { r with egStart := s.rookNow }) s |> setFld F.rookStatCAPPED gs.toNat |> rookTo 2 |> raise .rook 9 {}
  else if s.rookSt = 2 ∧ !same then
    setFld F.rookStatHELD 0xFF s |> rookTo 3 |> raise .rook 10 {}
  else s

/-- A fault's source. -/
def RFault.src (f : RFault) : Nat := match f with | .switch _ _ => 4 | _ => 3

/-- A fault recorded, logged and raised (R332). -/
def recordFault (f : RFault) (s : State) : State :=
  raise .rook f.src { addr := (s.faultGroups f).toNat } (rlog f.src (s.faultGroups f).toNat 255
    (modRook (fun r => { r with faults := if r.faults.contains f then r.faults else r.faults ++ [f] }) s))

theorem singleFault_eq (f : RFault) (s : State) :
    singleFault f s = rookEval (faultState (sameSource s.rook.faults f) (s.faultGroups f) (recordFault f s)) := rfl

/-- What a single fault leaves alone of Rook: its inputs, hands and pulses, and the record of faults but for one added. -/
structure RookFollows (s t : State) : Prop where
  block : t.rook.block = s.rook.block
  chan : t.rook.chan = s.rook.chan
  hands : t.rook.hands = s.rook.hands
  pulseHigh : t.rook.pulseHigh = s.rook.pulseHigh
  faults : ∀ f ∈ s.rook.faults, f ∈ t.rook.faults
  reacts : (t.fltSet .rook).react = (s.fltSet .rook).react

namespace RookFollows

variable {s t u : State}

theorem refl (s : State) : RookFollows s s := ⟨rfl, rfl, rfl, rfl, fun _ h => h, rfl⟩

theorem trans (h : RookFollows s t) (k : RookFollows t u) : RookFollows s u :=
  ⟨k.block.trans h.block, k.chan.trans h.chan, k.hands.trans h.hands, k.pulseHigh.trans h.pulseHigh,
    fun f hf => k.faults f (h.faults f hf), k.reacts.trans h.reacts⟩

theorem calm (h : RookFollows s t) (hc : s.rookCalm) : t.rookCalm := fun src hs => by
  have hsrc := hc src hs
  simpa only [State.react, h.reacts] using hsrc

end RookFollows

theorem RookSteady.follows {s t : State} (h : RookSteady s t) : RookFollows s t := by
  obtain ⟨m, hm⟩ := h.rook
  exact ⟨by rw [hm], by rw [hm], by rw [hm], by rw [hm], fun f hf => by rw [hm]; exact hf, h.reacts⟩

theorem RFault.src_lt (f : RFault) : f.src < 16 := by
  cases f <;> simp [RFault.src]

/-! The steps of a fault. -/

section
variable (s : State)

theorem rookFollows_modRook {f : RookState → RookState} (hblock : (f s.rook).block = s.rook.block) (hchan : (f s.rook).chan = s.rook.chan)
    (hhands : (f s.rook).hands = s.rook.hands) (hpulse : (f s.rook).pulseHigh = s.rook.pulseHigh)
    (hfaults : ∀ x ∈ s.rook.faults, x ∈ (f s.rook).faults) : RookFollows s (modRook f s) :=
  ⟨hblock, hchan, hhands, hpulse, hfaults, rfl⟩

theorem rookFollows_setFld (f : Fld) (v : Nat) : RookFollows s (setFld f v s) := ⟨rfl, rfl, rfl, rfl, fun _ h => h, rfl⟩

theorem rookFollows_intr (id : Nat) : RookFollows s (intr id s) := ⟨rfl, rfl, rfl, rfl, fun _ h => h, rfl⟩

theorem rookFollows_rlog (kind gs input : Nat) : RookFollows s (rlog kind gs input s) := by
  unfold rlog
  extract_lets l
  clear_value l
  exact rookFollows_modRook s rfl rfl rfl rfl fun _ hx => hx

theorem rookFollows_rookTo (st : Nat) : RookFollows s (rookTo st s) := by
  unfold rookTo
  exact (rookFollows_setFld s _ st).trans ((rookFollows_rlog _ _ _ _).trans (rookFollows_intr _ 622))

variable {s}

theorem rookFollows_raise {src : Nat} {e : Ev} (hr : (s.react .rook src).getLsbD 3 = false) (he : e.into = none) :
    RookFollows s (raise .rook src e s) := ((RookSteady.refl s).raise hr he).follows

/-- An event's bit of FLT_STAT is set (R419). -/
theorem stat_raise_rook {src : Nat} {e : Ev} (hsrc : src < 32) (hr : (s.react .rook src).getLsbD 3 = false) (he : e.into = none) :
    ((raise .rook src e s).fltSet .rook).stat.getLsbD src = true := by
  obtain ⟨nmi, hn⟩ := raise_rook hr he
  rw [hn]
  refine (congrArg (fun f : FltSet => f.stat.getLsbD src) (fltSet_setFlt_same .rook _ s)).trans ?_
  show ((s.fltSet .rook).stat ||| BitVec.ofNat 32 (1 <<< src)).getLsbD src = true
  rw [BitVec.getLsbD_or, BitVec.getLsbD_ofNat, Nat.one_shiftLeft, Nat.testBit_two_pow_self, decide_eq_true hsrc]
  exact Bool.or_true _

end

/-- A fault recorded: Rook's state and time stay, and the fault is on record. -/
theorem recordFault_spec (f : RFault) {s : State} (hc : s.rookCalm) : RookFollows s (recordFault f s) ∧ f ∈ (recordFault f s).rook.faults ∧
    (recordFault f s).rookSt = s.rookSt ∧ (recordFault f s).rookNow = s.rookNow := by
  unfold recordFault
  have hadd : RookFollows s (modRook (fun r => { r with faults := if r.faults.contains f then r.faults else r.faults ++ [f] }) s) := by
    refine rookFollows_modRook s rfl rfl rfl rfl fun x hx => ?_
    simp only
    split
    · exact hx
    · exact List.mem_append_left _ hx
  have hlog := hadd.trans (rookFollows_rlog _ f.src (s.faultGroups f).toNat 255)
  have hr := hlog.calm hc f.src f.src_lt
  have hsteady := (RookSteady.refl _).raise (e := { addr := (s.faultGroups f).toNat }) hr rfl
  refine ⟨hlog.trans (rookFollows_raise hr rfl), hsteady.follows.faults f ?_, hsteady.rookSt, hsteady.rookNow⟩
  show f ∈ if s.rook.faults.contains f then s.rook.faults else s.rook.faults ++ [f]
  split
  · exact List.contains_iff_mem.mp ‹_›
  · exact List.mem_append_right _ (List.mem_singleton_self f)

section
variable {s : State} (same : Bool) (gs : BitVec 8)

theorem fld_rookTo_state {st : Nat} (hst : st < 8) (s : State) : (rookTo st s).rookSt = st :=
  (fld_setFld_same F.rookStatSTATE st s).trans (Nat.mod_eq_of_lt hst)

theorem fld_rookTo {f : Fld} (hf : f.key ≠ F.rookStatSTATE.key) (st : Nat) (s : State) : (rookTo st s).fld f = s.fld f :=
  fld_setFld_other st s hf

/-- The first fault in RUN enters ENDGAME and caps its groups (R333). -/
theorem faultState_run (hc : s.rookCalm) (h : s.rookSt = 1) : RookFollows s (faultState same gs s) ∧ (faultState same gs s).rookSt = 2 ∧
    (faultState same gs s).fld F.rookStatCAPPED = gs.toNat ∧ (faultState same gs s).rook.egStart = s.rookNow ∧
    ((faultState same gs s).fltSet .rook).stat.getLsbD 9 = true := by
  unfold faultState
  rw [if_pos h]
  have h1 : RookFollows s (modRook (fun r => { r with egStart := s.rookNow }) s) := rookFollows_modRook s rfl rfl rfl rfl fun _ hx => hx
  have h2 := h1.trans ((rookFollows_setFld _ F.rookStatCAPPED gs.toNat).trans (rookFollows_rookTo _ 2))
  have hr := h2.calm hc 9 (by decide)
  have hsteady := (RookSteady.refl _).raise (e := {}) hr rfl
  refine ⟨h2.trans (rookFollows_raise hr rfl), hsteady.rookSt.trans (fld_rookTo_state (by decide) _),
    (hsteady.regs _ (by decide)).trans ?_, ?_, stat_raise_rook (by decide) hr rfl⟩
  · rw [fld_rookTo (by decide), fld_setFld_same]
    exact Nat.mod_eq_of_lt gs.isLt
  · rw [rook_raise]
    rfl

/-- A fault of another source in ENDGAME leads to LOCKOUT of every group (R333). -/
theorem faultState_endgame (hc : s.rookCalm) (h : s.rookSt = 2) (hsame : same = false) : RookFollows s (faultState same gs s) ∧
    (faultState same gs s).rookSt = 3 ∧ (faultState same gs s).fld F.rookStatHELD = 0xFF ∧
    ((faultState same gs s).fltSet .rook).stat.getLsbD 10 = true := by
  unfold faultState
  rw [if_neg (by rw [h]; decide), if_pos ⟨h, by rw [hsame]; rfl⟩]
  have h2 := (rookFollows_setFld s F.rookStatHELD 0xFF).trans (rookFollows_rookTo _ 3)
  have hr := h2.calm hc 10 (by decide)
  have hsteady := (RookSteady.refl _).raise (e := {}) hr rfl
  refine ⟨h2.trans (rookFollows_raise hr rfl), hsteady.rookSt.trans (fld_rookTo_state (by decide) _),
    (hsteady.regs _ (by decide)).trans ?_, stat_raise_rook (by decide) hr rfl⟩
  rw [fld_rookTo (by decide), fld_setFld_same]
  rfl

/-- In other states, and for a source already on record in ENDGAME, a fault is only recorded (R333). -/
theorem faultState_stays (h1 : s.rookSt ≠ 1) (h2 : s.rookSt = 2 → same = true) : faultState same gs s = s := by
  unfold faultState
  rw [if_neg h1, if_neg]
  rintro ⟨hst, hsame⟩
  rw [h2 hst] at hsame
  exact absurd hsame (by decide)

theorem faultState_follows (hc : s.rookCalm) : RookFollows s (faultState same gs s) := by
  by_cases h1 : s.rookSt = 1
  · exact (faultState_run same gs hc h1).1
  · by_cases h2 : s.rookSt = 2 ∧ same = false
    · exact (faultState_endgame same gs hc h2.1 h2.2).1
    · rw [faultState_stays same gs h1 fun hst => by simpa [hst] using h2]
      exact .refl s

end

/-! The fault whole. -/

section
variable (f : RFault) {s : State} (hc : s.rookCalm)
include hc

theorem singleFault_before : RookFollows s (faultState (sameSource s.rook.faults f) (s.faultGroups f) (recordFault f s)) :=
  have hrec := (recordFault_spec f hc).1
  hrec.trans (faultState_follows _ _ (hrec.calm hc))

/-- The evaluation at the end of a fault. -/
theorem singleFault_evaluates :
    RookSteady (faultState (sameSource s.rook.faults f) (s.faultGroups f) (recordFault f s)) (singleFault f s) := by
  rw [singleFault_eq]
  exact rookEval_steady ((singleFault_before f hc).calm hc 6 (by decide))

theorem singleFault_follows : RookFollows s (singleFault f s) := (singleFault_before f hc).trans (singleFault_evaluates f hc).follows

theorem mem_singleFault : f ∈ (singleFault f s).rook.faults := by
  obtain ⟨hrec, hmem, -, -⟩ := recordFault_spec f hc
  exact (singleFault_evaluates f hc).follows.faults f ((faultState_follows _ _ (hrec.calm hc)).faults f hmem)

theorem singleFault_run (h : s.rookSt = 1) : (singleFault f s).rookSt = 2 ∧
    (singleFault f s).fld F.rookStatCAPPED = (s.faultGroups f).toNat ∧ (singleFault f s).rook.egStart = s.rookNow ∧
    ((singleFault f s).fltSet .rook).stat.getLsbD 9 = true := by
  obtain ⟨hrec, -, hst, hnow⟩ := recordFault_spec f hc
  obtain ⟨-, hto, hcap, heg, hstat⟩ := faultState_run (sameSource s.rook.faults f) (s.faultGroups f) (hrec.calm hc) (hst.trans h)
  have heval := singleFault_evaluates f hc
  obtain ⟨m, hm⟩ := heval.rook
  refine ⟨heval.rookSt.trans hto, (heval.regs _ (by decide)).trans hcap, ?_, heval.stat 9 hstat⟩
  rw [hm]
  exact heg.trans hnow

theorem singleFault_endgame (h : s.rookSt = 2) (hsame : sameSource s.rook.faults f = false) : (singleFault f s).rookSt = 3 ∧
    (singleFault f s).fld F.rookStatHELD = 0xFF ∧ ((singleFault f s).fltSet .rook).stat.getLsbD 10 = true := by
  obtain ⟨hrec, -, hst, -⟩ := recordFault_spec f hc
  obtain ⟨-, hto, hheld, hstat⟩ := faultState_endgame _ (s.faultGroups f) (hrec.calm hc) (hst.trans h) hsame
  have heval := singleFault_evaluates f hc
  exact ⟨heval.rookSt.trans hto, (heval.regs _ (by decide)).trans hheld, heval.stat 10 hstat⟩

theorem singleFault_stays (h1 : s.rookSt ≠ 1) (h2 : s.rookSt = 2 → sameSource s.rook.faults f = true) :
    (singleFault f s).rookSt = s.rookSt := by
  obtain ⟨-, -, hst, -⟩ := recordFault_spec f hc
  have heval := (singleFault_evaluates f hc).rookSt
  rw [faultState_stays _ _ (by rw [hst]; exact h1) (by rw [hst]; exact h2)] at heval
  exact heval.trans hst

end

end Sys2Proof.Machine
end

section
/-! SUPPORT. Rook's inputs (R310 to R313): filters, test pulses, discrepancies and the hands. -/

namespace Sys2Proof.Machine

theorem getLsbD_ofNat_setBit {w i : Nat} (x : BitVec w) (hi : i < w) (v : Bool) (j : Nat) :
    (BitVec.ofNat w (setBit x.toNat i v)).getLsbD j = if j = i then v else x.getLsbD j := by
  rw [BitVec.getLsbD_ofNat, testBit_setBit]
  split
  · rename_i hj
    rw [hj, decide_eq_true hi, Bool.true_and]
  · by_cases hj : j < w
    · rw [decide_eq_true hj, Bool.true_and]
      rfl
    · rw [decide_eq_false hj, Bool.false_and, BitVec.getLsbD_of_ge _ _ (Nat.le_of_not_lt hj)]

/-! A channel (R310). -/

/-- The run that a change of a channel needs, without the samples that a test pulse excludes. -/
def State.chanRan (s : State) (ch : Nat) (high : Bool) (samples : List Bool) : Bool :=
  s.sampleRun (fun t => chanInput ch != 3 && excluded t (ch % 2)) (s.rinFilt (chanInput ch)) samples (fun b => b == high)

section
variable {ch : Nat} {high : Bool} {samples : List Bool} {s : State}

theorem filterChange_stays (h : s.rook.chan.getLsbD ch = high ∨ s.chanRan ch high samples = false) : filterChange ch high samples s = s := by
  refine if_pos (h.imp id fun hran => ?_)
  exact (Bool.not_eq_true' _).mpr hran

theorem filterChange_changes (hch : s.rook.chan.getLsbD ch ≠ high) (hran : s.chanRan ch high samples = true) :
    filterChange ch high samples s = chanSet ch high s := by
  refine if_neg ?_
  rintro (h | h)
  · exact hch h
  · exact absurd ((Bool.not_eq_true' _).mp h) (by rw [show s.sampleRun _ _ _ _ = true from hran]; decide)

/-- A channel that changes is evaluated with that channel alone changed. -/
theorem chanSet_evaluates (hch : ch < 6) (high : Bool) (s : State) : ∃ u, chanSet ch high s = rookEval u ∧ u.rook.chan.getLsbD ch = high ∧
    (∀ k, k ≠ ch → u.rook.chan.getLsbD k = s.rook.chan.getLsbD k) ∧ u.rook.req = s.rook.req ∧ u.regs = s.regs := by
  have hbit := getLsbD_ofNat_setBit s.rook.chan hch high
  exact ⟨_, rfl, (hbit ch).trans (if_pos rfl), fun k hk => (hbit k).trans (if_neg hk), rfl, rfl⟩

end

/-! Test pulses (R311). -/

/-- What a test pulse reads of channel `j` is kept for the next. -/
def noteHigh (j : Nat) (v : Bool) (s : State) : State :=
  modRook (fun r => { r with pulseHigh := BitVec.ofNat 10 (setBit r.pulseHigh.toNat j v) }) s

/-- A channel fault begins the full cycle of its input anew (R334). -/
def forgetCycle (f : RFault) (s : State) : State :=
  match f with
  | .chan i _ => modRook (fun r => { r with inputs := SMap.put r.inputs i { SMap.get r.inputs i {} with cycle := 0 } }) s
  | _ => s

/-- A fed channel that is high, as in the pulse before. -/
def State.highTwice (s : State) (high : BitVec 10) (j : Nat) : Bool :=
  high.getLsbD j && (s.tpoChan j).1 && s.rook.pulseHigh.getLsbD j

/-- One channel of a test pulse: a channel high in two pulses running has a fault. -/
def pulseStep (high : BitVec 10) (s : State) (j : Nat) : State :=
  let u := noteHigh j (high.getLsbD j && (s.tpoChan j).1) s
  if s.highTwice high j then singleFault (s.tpoChan j).2 (forgetCycle (s.tpoChan j).2 u) else u

theorem pulseJudge_eq (src : Nat) (high : BitVec 10) (s : State) : pulseJudge src high s = (tpoFed src).foldl (pulseStep high) s := rfl

/-- What the step of channel `k` leaves alone. -/
structure PulseKeeps (k : Nat) (s t : State) : Prop where
  tpoChan : ∀ j, t.tpoChan j = s.tpoChan j
  other : ∀ j, j ≠ k → t.rook.pulseHigh.getLsbD j = s.rook.pulseHigh.getLsbD j
  faults : ∀ f ∈ s.rook.faults, f ∈ t.rook.faults
  calm : s.rookCalm → t.rookCalm

theorem tpoChan_congr {s t : State} (hblock : t.rook.block = s.rook.block) (hchan : t.rook.chan = s.rook.chan)
    (hhands : t.rook.hands = s.rook.hands) (j : Nat) : t.tpoChan j = s.tpoChan j := by
  have hrp : ∀ a n, t.rp a n = s.rp a n := fun a n => by simp only [State.rp, State.rblock, hblock]
  unfold State.tpoChan
  simp only [State.rinEn, State.chanHigh, hrp, hchan, hhands]

theorem RookFollows.pulseKeeps {s t : State} (h : RookFollows s t) (k : Nat) : PulseKeeps k s t :=
  ⟨tpoChan_congr h.block h.chan h.hands, fun _ _ => by rw [h.pulseHigh], h.faults, h.calm⟩

theorem PulseKeeps.trans {k : Nat} {s t u : State} (h : PulseKeeps k s t) (h' : PulseKeeps k t u) : PulseKeeps k s u :=
  ⟨fun j => (h'.tpoChan j).trans (h.tpoChan j), fun j hj => (h'.other j hj).trans (h.other j hj), fun f hf => h'.faults f (h.faults f hf),
    fun hc => h'.calm (h.calm hc)⟩

section
variable {high : BitVec 10} {s : State} {j k : Nat}

theorem pulseKeeps_noteHigh (hk : k < 10) (v : Bool) (s : State) : PulseKeeps k s (noteHigh k v s) :=
  ⟨tpoChan_congr rfl rfl rfl, fun j hj => (getLsbD_ofNat_setBit s.rook.pulseHigh hk v j).trans (if_neg hj), fun _ h => h, fun h => h⟩

theorem rookFollows_forgetCycle (f : RFault) (s : State) : RookFollows s (forgetCycle f s) := by
  cases f with
  | chan i c => exact ⟨rfl, rfl, rfl, rfl, fun _ hx => hx, rfl⟩
  | disc i => exact .refl s
  | pair h => exact .refl s
  | switch g hs => exact .refl s

theorem pulseStep_quiet (h : s.highTwice high k = false) : pulseStep high s k = noteHigh k (high.getLsbD k && (s.tpoChan k).1) s :=
  if_neg (by rw [h]; decide)

/-- A channel high in two pulses running has a fault. -/
theorem pulseStep_twice (hk : k < 10) (h : s.highTwice high k = true) :
    ∃ t, pulseStep high s k = singleFault (s.tpoChan k).2 t ∧ PulseKeeps k s t :=
  ⟨_, if_pos h, (pulseKeeps_noteHigh hk _ s).trans ((rookFollows_forgetCycle ..).pulseKeeps k)⟩

theorem pulseStep_keeps (hk : k < 10) (hc : s.rookCalm) : PulseKeeps k s (pulseStep high s k) := by
  cases h : s.highTwice high k with
  | false => rw [pulseStep_quiet h]; exact pulseKeeps_noteHigh hk _ s
  | true =>
    obtain ⟨t, ht, hkeeps⟩ := pulseStep_twice hk h
    rw [ht]
    exact hkeeps.trans ((singleFault_follows _ (hkeeps.calm hc)).pulseKeeps k)

theorem pulses_faults {l : List Nat} (hl : ∀ k ∈ l, k < 10) (hc : s.rookCalm) {f : RFault} (hf : f ∈ s.rook.faults) :
    f ∈ (l.foldl (pulseStep high) s).rook.faults := by
  induction l generalizing s with
  | nil => exact hf
  | cons k l ih =>
    have hkeeps := pulseStep_keeps (high := high) (hl k List.mem_cons_self) hc
    exact ih (fun i hi => hl i (List.mem_cons_of_mem _ hi)) (hkeeps.calm hc) (hkeeps.faults f hf)

/-- A channel of the list that reads high in two pulses running has its fault recorded. -/
theorem pulses_twice {l : List Nat} (hl : ∀ k ∈ l, k < 10) (hc : s.rookCalm) (hj : j ∈ l) (h : s.highTwice high j = true) :
    (s.tpoChan j).2 ∈ (l.foldl (pulseStep high) s).rook.faults := by
  induction l generalizing s with
  | nil => exact absurd hj List.not_mem_nil
  | cons k l ih =>
    have hk := hl k List.mem_cons_self
    have hkeeps := pulseStep_keeps (high := high) hk hc
    have hl' := fun i hi => hl i (List.mem_cons_of_mem k hi)
    by_cases hjk : j = k
    · subst hjk
      obtain ⟨t, ht, hto⟩ := pulseStep_twice hk h
      refine pulses_faults hl' (hkeeps.calm hc) ?_
      rw [ht]
      exact mem_singleFault _ (hto.calm hc)
    · have hthen := ih hl' (hkeeps.calm hc) ((List.mem_cons.mp hj).resolve_left hjk)
        (by simpa only [State.highTwice, hkeeps.tpoChan, hkeeps.other j hjk] using h)
      rwa [hkeeps.tpoChan] at hthen

/-- Where no channel is high twice, the readings are kept and nothing else changes. -/
theorem pulses_quiet {l : List Nat} (hl : ∀ k ∈ l, k < 10) (hnodup : l.Nodup) (h : ∀ j ∈ l, s.highTwice high j = false) :
    ∃ p, l.foldl (pulseStep high) s = { s with rook := { s.rook with pulseHigh := p } } ∧
      ∀ j, p.getLsbD j = if j ∈ l then high.getLsbD j && (s.tpoChan j).1 else s.rook.pulseHigh.getLsbD j := by
  induction l generalizing s with
  | nil => exact ⟨s.rook.pulseHigh, rfl, fun j => by simp⟩
  | cons k l ih =>
    have hk := hl k List.mem_cons_self
    obtain ⟨hkl, hnd⟩ := List.nodup_cons.mp hnodup
    have hstep := pulseStep_quiet (h k List.mem_cons_self)
    have hkeeps := pulseKeeps_noteHigh hk (high.getLsbD k && (s.tpoChan k).1) s
    rw [List.foldl_cons, hstep]
    have hafter : ∀ j ∈ l, (noteHigh k (high.getLsbD k && (s.tpoChan k).1) s).highTwice high j = false := fun j hj => by
      have hjk : j ≠ k := fun he => hkl (he ▸ hj)
      have hbefore := h j (List.mem_cons_of_mem k hj)
      simpa only [State.highTwice, hkeeps.tpoChan, hkeeps.other j hjk] using hbefore
    obtain ⟨p, hp, hbits⟩ := ih (fun i hi => hl i (List.mem_cons_of_mem k hi)) hnd hafter
    refine ⟨p, hp, fun j => ?_⟩
    rw [hbits, hkeeps.tpoChan]
    by_cases hjk : j = k
    · subst hjk
      rw [if_neg hkl, if_pos List.mem_cons_self]
      exact (getLsbD_ofNat_setBit s.rook.pulseHigh hk _ j).trans (if_pos rfl)
    · rw [hkeeps.other j hjk]
      exact if_congr (by simp [hjk]) rfl rfl

end

end Sys2Proof.Machine
end

section
/-! SUPPORT. Rook's inputs (R309 to R318, R334): the test pulse of a source, the hands, the acknowledge button and the cartridge. -/

namespace Sys2Proof.Machine

/-! The end of a test pulse (R311). -/

section
variable {src : Nat} {high : BitVec 10} {s : State}

theorem tpoFed_lt : ∀ j ∈ tpoFed src, j < 10 := by
  unfold tpoFed
  split <;> decide

theorem tpoFed_nodup : (tpoFed src).Nodup := by
  unfold tpoFed
  split <;> decide

/-- A pulse judged before is not judged again. -/
theorem tpoPulseAt_judged (h : s.pulsesEnded src ≤ SMap.get s.rook.pulses src 0) : tpoPulseAt src high s = s := if_pos h

/-- Where the pulse before went unjudged, no reading of it counts. -/
def pulseForget (src : Nat) (next : Prop) [Decidable next] (s : State) : State :=
  if next then s
  else modRook (fun r => { r with pulseHigh := r.pulseHigh &&& ~~~(BitVec.ofNat 10 ((tpoFed src).foldl (fun m j => m + 2 ^ j) 0)) }) s

/-- A pulse to be judged: its number is kept. -/
def pulseBegin (src : Nat) (s : State) : State :=
  modRook (fun r => { r with pulses := SMap.put r.pulses src (s.pulsesEnded src) })
    (pulseForget src (s.pulsesEnded src = SMap.get s.rook.pulses src 0 + 1) s)

theorem tpoPulseAt_judges (h : SMap.get s.rook.pulses src 0 < s.pulsesEnded src) :
    tpoPulseAt src high s = (tpoFed src).foldl (pulseStep high) (pulseBegin src s) := if_neg (Nat.not_le.mpr h)

/-- The bits of the channels a source feeds. -/
theorem tpoFed_mask : ∀ j ∈ tpoFed src, (BitVec.ofNat 10 ((tpoFed src).foldl (fun m j => m + 2 ^ j) 0)).getLsbD j = true := by
  unfold tpoFed
  split <;> decide

/-- Forgetting readings leaves all but the readings of the source's channels. -/
theorem pulseForget_spec (src : Nat) (next : Prop) [Decidable next] (s : State) : ∃ p,
    pulseForget src next s = { s with rook := { s.rook with pulseHigh := p } } ∧
      ∀ j ∈ tpoFed src, p.getLsbD j = (s.rook.pulseHigh.getLsbD j && decide next) := by
  unfold pulseForget
  split
  · rename_i hn
    exact ⟨s.rook.pulseHigh, rfl, fun j _ => by rw [decide_eq_true hn, Bool.and_true]⟩
  · rename_i hn
    refine ⟨_, rfl, fun j hj => ?_⟩
    rw [BitVec.getLsbD_and, BitVec.getLsbD_not, tpoFed_mask j hj, decide_eq_false hn]
    simp

/-- What the start of the judgement leaves, and the readings of the pulse before where it is the next one. -/
theorem pulseBegin_spec (src : Nat) (s : State) : (pulseBegin src s).rook.faults = s.rook.faults ∧ (pulseBegin src s).regs = s.regs ∧
    (pulseBegin src s).flt = s.flt ∧ SMap.get (pulseBegin src s).rook.pulses src 0 = s.pulsesEnded src ∧
    (∀ j, (pulseBegin src s).tpoChan j = s.tpoChan j) ∧ (s.rookCalm → (pulseBegin src s).rookCalm) ∧
    ∀ j ∈ tpoFed src, (pulseBegin src s).rook.pulseHigh.getLsbD j =
      (s.rook.pulseHigh.getLsbD j && decide (s.pulsesEnded src = SMap.get s.rook.pulses src 0 + 1)) := by
  unfold pulseBegin
  generalize s.pulsesEnded src = n
  obtain ⟨p, hp, hbits⟩ := pulseForget_spec src (n = SMap.get s.rook.pulses src 0 + 1) s
  rw [hp]
  exact ⟨rfl, rfl, rfl, SMap.get_put_same .., tpoChan_congr rfl rfl rfl, fun hc => hc, hbits⟩

theorem pulseBegin_highTwice {j : Nat} (hj : j ∈ tpoFed src) : (pulseBegin src s).highTwice high j =
    (high.getLsbD j && (s.tpoChan j).1 && (s.rook.pulseHigh.getLsbD j && decide (s.pulsesEnded src = SMap.get s.rook.pulses src 0 + 1))) := by
  obtain ⟨-, -, -, -, hchan, -, hbits⟩ := pulseBegin_spec src s
  rw [State.highTwice, hchan, hbits j hj]

end

/-! Discrepancies (R312). -/

section
variable {i : Nat} {s : State}

theorem discrepancyAt_idle (h : (SMap.get s.rook.inputs i {}).differ = none ∨ s.rinEn i = false ∨ i = 2) : discrepancyAt i s = s := by
  unfold discrepancyAt
  split
  · rename_i d hd
    refine if_neg ?_
    rintro ⟨hen, hi, -⟩
    rcases h with h | h | h
    · rw [h] at hd
      exact absurd hd (by simp)
    · rw [h] at hen
      exact absurd hen (by decide)
    · exact hi h
  · rfl

theorem discrepancyAt_faults {d : Nat} (hd : (SMap.get s.rook.inputs i {}).differ = some d) (hen : s.rinEn i = true) (hi : i ≠ 2)
    (hs : s.rookSince d (s.rinDisc i) = true) : discrepancyAt i s =
      singleFault (.disc i) { s with rook := { s.rook with inputs := SMap.put s.rook.inputs i { differ := some d, cycle := 0 } } } := by
  simp only [discrepancyAt, hd, hen, hi, hs, ne_eq, not_false_eq_true, and_self, if_true]
  rfl

end

/-! The hands (R313). -/

section
variable {h : Nat} {s : State}

theorem hand_setHand (h k : Nat) (v : RHand) (s : State) : (setHand h v s).hand k = if k = h then v else s.hand k := by
  simp only [State.hand, setHand, rook_modRook, SMap.get_put]

theorem handActed_idle (hv : (s.hand h).act = true) : handActed h s = s := if_pos hv

/-- The hand as it is actuated, and what it does for synchronism. -/
def handBegin (h : Nat) (s : State) : State :=
  setHand h { s.hand h with act := true, since := s.rookNow, bad := false, acted := true, released := false } s

def handSync (h : Nat) (s : State) : State :=
  if s.rook.thBlocked then s
  else if !(s.hand (1 - h)).act then modRook (fun r => { r with thFirst := some s.rookNow }) s
  else match s.rook.thFirst with
    | some t =>
      if s.rookNow - t ≤ 500000000 then modRook (fun r => { r with thSat := true }) s
      else modRook (fun r => { r with thBlocked := true }) s
    | none => modRook (fun r => { r with thBlocked := true }) s

theorem handActed_eq (hv : (s.hand h).act = false) : handActed h s = rookEval (handSync h (handBegin h s)) := by
  refine (if_neg (by rw [hv]; decide)).trans ?_
  rfl

theorem hands_handSync (h : Nat) (s : State) : (handSync h s).rook.hands = s.rook.hands := by
  unfold handSync
  (repeat' split) <;> rfl

/-- The second hand within 500 ms of the first satisfies the input (Table: Two-hand evaluation). -/
theorem thSat_handSync {f : Nat} (hb : s.rook.thBlocked = false) (ho : (s.hand (1 - h)).act = true) (hf : s.rook.thFirst = some f) :
    (handSync h s).rook.thSat = (s.rook.thSat || decide (s.rookNow - f ≤ 500000000)) := by
  unfold handSync
  simp only [hb, ho, hf, Bool.not_true, Bool.false_eq_true, if_false]
  split
  · rename_i ht
    rw [decide_eq_true ht, Bool.or_true]
    rfl
  · rename_i ht
    rw [decide_eq_false ht, Bool.or_false]
    rfl

theorem handActed_spec (hh : h < 2) (hv : (s.hand h).act = false) : ∃ u, handActed h s = rookEval u ∧ (u.hand h).act = true ∧
    u.hand (1 - h) = s.hand (1 - h) ∧ ∀ f, s.rook.thBlocked = false → (s.hand (1 - h)).act = true → s.rook.thFirst = some f →
      u.rook.thSat = (s.rook.thSat || decide (s.rookNow - f ≤ 500000000)) := by
  have hhand : ∀ k, (handSync h (handBegin h s)).hand k = (handBegin h s).hand k := fun k =>
    congrArg (fun m : SMap RHand => SMap.get m k {}) (hands_handSync h _)
  have hother : (handBegin h s).hand (1 - h) = s.hand (1 - h) := (hand_setHand ..).trans (if_neg (by omega))
  refine ⟨_, handActed_eq hv, ?_, (hhand _).trans hother, fun f hb ho hf => ?_⟩
  · rw [hhand, handBegin, hand_setHand, if_pos rfl]
  · exact thSat_handSync hb (by rw [hother]; exact ho) hf

/-- A hand released, or counted as released, ends satisfaction. -/
theorem handGone_spec (h : Nat) (bad : Bool) (s : State) : ((handGone h bad s).hand h).act = false ∧ ((handGone h bad s).hand h).bad = bad ∧
    (handGone h bad s).rook.thSat = false ∧ (handGone h bad s).regs = s.regs := by
  have hhand : (handGone h bad s).hand h = { s.hand h with act := false, bad := bad, released := (s.hand h).acted || (s.hand h).released } :=
    (hand_setHand h h _ s).trans (if_pos rfl)
  rw [hhand]
  exact ⟨rfl, rfl, rfl, rfl⟩

/-- A pair fault's hands count as neither actuated nor released since. -/
def handsForget (s : State) : State := forN 2 (fun k s => setHand k { s.hand k with acted := false, released := false } s) s

theorem handsForget_hand (k : Nat) (s : State) : ((handsForget s).hand k).act = (s.hand k).act ∧
    ((handsForget s).hand k).bad = (s.hand k).bad ∧ (handsForget s).rook.thSat = s.rook.thSat := by
  refine forN_induct (fun _ (t : State) => (t.hand k).act = (s.hand k).act ∧ (t.hand k).bad = (s.hand k).bad ∧ t.rook.thSat = s.rook.thSat)
    ⟨rfl, rfl, rfl⟩ fun j _ t ht => ?_
  obtain ⟨hact, hbad, hsat⟩ := ht
  rw [hand_setHand]
  split
  · rename_i hk
    rw [← hk]
    exact ⟨hact, hbad, hsat⟩
  · exact ⟨hact, hbad, hsat⟩

theorem pairFaultAt_idle {l : List (Bool × Bool)} (hi : s.rinEn 2 = false ∨ s.pairRan 25000000 l (fun no nc => no == nc) = false) :
    pairFaultAt h l s = s := by
  refine if_neg ?_
  rintro ⟨hen, hran⟩
  rcases hi with hi | hi
  · exact absurd hen (by rw [hi]; decide)
  · exact absurd hran (by rw [hi]; decide)

theorem pairFaultAt_faults {l : List (Bool × Bool)} (hen : s.rinEn 2 = true) (hran : s.pairRan 25000000 l (fun no nc => no == nc) = true) :
    pairFaultAt h l s = singleFault (.pair h) (handsForget (handGone h true s)) := if_pos ⟨hen, hran⟩

end

/-! The acknowledge button (R309, R334). -/

section
variable {s : State}

/-- EXPIRED clears in every group. -/
def clearExpired (s : State) : State := forN 8 (fun g s => putCause g (s.causes g &&& 0x7FF) s) s

theorem clearExpired_spec (s : State) : RookSteady s (clearExpired s) ∧ ∀ g < 8, ((clearExpired s).causes g).getLsbD 11 = false := by
  refine forN_induct (fun n t => RookSteady s t ∧ ∀ g < n, (t.causes g).getLsbD 11 = false)
    ⟨.refl s, fun g hg => absurd hg (Nat.not_lt_zero g)⟩ fun n _ t ht => ?_
  obtain ⟨hsteady, hclear⟩ := ht
  refine ⟨hsteady.putCause .., fun g hg => ?_⟩
  rw [causes_putCause]
  split
  · rw [BitVec.getLsbD_and]
    simp
  · exact hclear g (by omega)

/-- Rook back in RUN with no fault, no cap and nothing held (R334). -/
def backToRun (s : State) : State :=
  rookTo 1 (setFld F.rookStatHELD 0 (setFld F.rookStatCAPPED 0 (modRook (fun r => { r with faults := [] }) s)))

theorem serviceAck_accepted (hst : s.rookSt = 2 ∨ s.rookSt = 3) (hf : ∀ f ∈ s.rook.faults, s.faultAbsent f = true) :
    serviceAck s = rookEval (backToRun (clearExpired s)) := by
  unfold serviceAck
  rw [if_pos hst, if_pos (List.all_eq_true.mpr hf)]
  rfl

theorem causes_rookTo (st g : Nat) (s : State) : (rookTo st s).causes g = s.causes g :=
  causes_setFld (f := F.rookStatSTATE) (by decide) st g s

theorem faults_rlog (kind gs input : Nat) (s : State) : (rlog kind gs input s).rook.faults = s.rook.faults := by
  rw [rlog, rook_modRook]

theorem faults_rookTo (st : Nat) (s : State) : (rookTo st s).rook.faults = s.rook.faults := by
  rw [rookTo, intr_rook, faults_rlog, setFld_rook]

theorem react_backToRun (s : State) (n : Nat) : (backToRun s).react .rook n = s.react .rook n := by
  have hreacts : ((backToRun s).fltSet .rook).react = (s.fltSet .rook).react := (rookFollows_rookTo _ 1).reacts
  simp only [State.react, hreacts]

theorem serviceAck_spec (hr : (s.react .rook 6).getLsbD 3 = false) (hst : s.rookSt = 2 ∨ s.rookSt = 3)
    (hf : ∀ f ∈ s.rook.faults, s.faultAbsent f = true) : (serviceAck s).rookSt = 1 ∧ (serviceAck s).rook.faults = [] ∧
      (serviceAck s).fld F.rookStatCAPPED = 0 ∧ (serviceAck s).fld F.rookStatHELD = 0 ∧
      ∀ g < 8, ((serviceAck s).causes g).getLsbD 11 = false := by
  obtain ⟨hclear, hexpired⟩ := clearExpired_spec s
  rw [serviceAck_accepted hst hf]
  generalize clearExpired s = c at hclear hexpired ⊢
  have hreact : ((backToRun c).react .rook 6).getLsbD 3 = false := by rw [react_backToRun, hclear.react, hr]
  have heval := rookEval_steady hreact
  obtain ⟨m, hm⟩ := heval.rook
  refine ⟨heval.rookSt.trans (fld_rookTo_state (by decide) _), ?_, (heval.regs _ (by decide)).trans ?_, (heval.regs _ (by decide)).trans ?_,
    fun g hg => ?_⟩
  · rw [hm]
    exact faults_rookTo 1 _
  · rw [backToRun, fld_rookTo (by decide), fld_setFld_other _ _ (by decide), fld_setFld_same]
    rfl
  · rw [backToRun, fld_rookTo (by decide), fld_setFld_same]
    rfl
  · rw [rookEval_expired hreact hg, backToRun, causes_rookTo, causes_setFld (by decide), causes_setFld (by decide), causes_modRook]
    exact hexpired g hg

end

end Sys2Proof.Machine
end

section
/-! SUPPORT. Rook's inputs, causes and Endgame: the statement, clause by clause. -/

namespace Sys2Proof.Machine

theorem exec_to {c : Instr} {s u t : State} (h : exec c s = .next u) (e : u = t) : exec c s = .next t := h.trans (congrArg _ e)

/-! The acknowledge button by the time held (R309). -/

section
variable {n : Nat} {s : State}

/-- SACK_N is released. -/
def sackReleased (s : State) : State := { s with rook := { s.rook with sackUp := s.rookNow } }

theorem sackAt_eq (n : Nat) (s : State) : sackAt n s =
    if s.rook.sackStuck then sackReleased s
    else if n < 100000 then sackReleased s
    else if n ≤ 2000000 then rookEval (restart 0xFF [1, 2] (sackReleased s))
    else if n < 5000000 then sackReleased s
    else if n ≤ 10000000 then serviceAck (sackReleased s)
    else showRook (raise .rook 14 {} { sackReleased s with rook := { (sackReleased s).rook with sackStuck := true } }) := rfl

theorem sackAt_unheard (h : s.rook.sackStuck = true ∨ n < 100000 ∨ (2000000 < n ∧ n < 5000000)) : sackAt n s = sackReleased s := by
  rw [sackAt_eq]
  rcases h with h | h | ⟨h1, h2⟩
  · rw [if_pos h]
  · rw [if_pos h, ite_self]
  · rw [if_neg (show ¬ n < 100000 by omega), if_neg (show ¬ n ≤ 2000000 by omega), if_pos h2, ite_self]

section
variable (h : s.rook.sackStuck = false)
include h

theorem sackAt_restarts (h1 : 100000 ≤ n) (h2 : n ≤ 2000000) : sackAt n s = rookEval (restart 0xFF [1, 2] (sackReleased s)) := by
  rw [sackAt_eq, if_neg (by rw [h]; decide), if_neg (Nat.not_lt.mpr h1), if_pos h2]

theorem sackAt_acknowledges (h1 : 5000000 ≤ n) (h2 : n ≤ 10000000) : sackAt n s = serviceAck (sackReleased s) := by
  rw [sackAt_eq, if_neg (by rw [h]; decide), if_neg (by omega), if_neg (by omega), if_neg (Nat.not_lt.mpr h1), if_pos h2]

theorem sackAt_stuck (h1 : 10000000 < n) : sackAt n s =
    showRook (raise .rook 14 {} { sackReleased s with rook := { (sackReleased s).rook with sackStuck := true } }) := by
  rw [sackAt_eq, if_neg (by rw [h]; decide), if_neg (by omega), if_neg (by omega), if_neg (by omega), if_neg (Nat.not_le.mpr h1)]

end

theorem sackRearmAt_rearms (h : s.rook.sackStuck = true) (ht : s.rookSince s.rook.sackUp 1000000000 = true) :
    sackRearmAt s = showRook { s with rook := { s.rook with sackStuck := false } } := if_pos ⟨h, ht⟩

theorem sackRearmAt_idle (h : s.rook.sackStuck = false ∨ s.rookSince s.rook.sackUp 1000000000 = false) : sackRearmAt s = s := by
  refine if_neg ?_
  rintro ⟨hs, ht⟩
  rcases h with h | h
  · exact absurd hs (by rw [h]; decide)
  · exact absurd ht (by rw [h]; decide)

end

/-! RAIL_OK (R317) and the cartridge (R318). -/

section
variable {s : State}

section
variable {g : Nat}

theorem railOkAt_low (h : s.railOk g = false) : railOkAt g s = rookEval { s with rook := { s.rook with
    railBad := s.rook.railBad ||| BitVec.ofNat 8 (1 <<< g), railSince := SMap.erase s.rook.railSince g } } :=
  if_neg (by rw [h]; decide)

theorem railOkAt_rises (h : s.railOk g = true) (hs : SMap.find s.rook.railSince g = none) :
    railOkAt g s = { s with rook := { s.rook with railSince := SMap.put s.rook.railSince g s.rookNow } } := by
  refine (if_pos h).trans (if_neg ?_)
  rw [hs]
  decide

theorem railClear_clears {f : Nat} (hs : SMap.find s.rook.railSince g = some f) (h : s.railOk g = true)
    (ht : s.rookSince f 1000000 = true) : railClear g s =
      rookEval { s with rook := { s.rook with railBad := s.rook.railBad &&& ~~~(BitVec.ofNat 8 (1 <<< g)) } } := by
  simp only [railClear, hs, h, ht, and_self, if_true]
  rfl

theorem railClear_idle (h : SMap.find s.rook.railSince g = none ∨ s.railOk g = false) : railClear g s = s := by
  rcases h with h | h
  · simp only [railClear, h]
  · unfold railClear
    split
    · exact if_neg fun hc => absurd hc.1 (by rw [h]; decide)
    · rfl

end

variable {n : Nat}

theorem rookCart_short {present : Bool} (h : n < (if present then 5000 else 50)) : rookCart present n s = s := if_pos h

theorem rookCart_present (h : 5000 ≤ n) : rookCart true n s = rookEval { s with rook := { s.rook with cartAbsent := false } } :=
  if_neg (Nat.not_lt.mpr h)

theorem rookCart_absent (h : 50 ≤ n) :
    rookCart false n s = rookEval (latchCause 0xFF 9 { s with rook := { s.rook with cartAbsent := true } }) := if_neg (Nat.not_lt.mpr h)

end

/-! Test pulses judged (R311). -/

section
variable {src : Nat} {high : BitVec 10} {s : State}

/-- A channel a test pulse finds high, as the pulse before did. -/
def State.pulseTwice (s : State) (src : Nat) (high : BitVec 10) (j : Nat) : Prop :=
  high.getLsbD j = true ∧ (s.tpoChan j).1 = true ∧ s.rook.pulseHigh.getLsbD j = true ∧
    s.pulsesEnded src = SMap.get s.rook.pulses src 0 + 1

theorem pulseBegin_highTwice_iff {j : Nat} (hj : j ∈ tpoFed src) :
    (pulseBegin src s).highTwice high j = true ↔ s.pulseTwice src high j := by
  rw [pulseBegin_highTwice hj, State.pulseTwice]
  generalize s.pulsesEnded src = n
  simp only [Bool.and_eq_true, decide_eq_true_eq, and_assoc]

theorem pulses_quiet_spec {u : State} (h : ∀ j ∈ tpoFed src, u.highTwice high j = false) :
    ((tpoFed src).foldl (pulseStep high) u).rook.faults = u.rook.faults ∧ ((tpoFed src).foldl (pulseStep high) u).regs = u.regs ∧
    ((tpoFed src).foldl (pulseStep high) u).flt = u.flt ∧ ((tpoFed src).foldl (pulseStep high) u).rook.pulses = u.rook.pulses ∧
    ∀ j ∈ tpoFed src, ((tpoFed src).foldl (pulseStep high) u).rook.pulseHigh.getLsbD j = (high.getLsbD j && (u.tpoChan j).1) := by
  obtain ⟨p, hp, hbits⟩ := pulses_quiet tpoFed_lt tpoFed_nodup h
  rw [hp]
  exact ⟨rfl, rfl, rfl, rfl, fun j hj => (hbits j).trans (if_pos hj)⟩

theorem tpoPulseAt_quiet (hn : SMap.get s.rook.pulses src 0 < s.pulsesEnded src) (h : ∀ j ∈ tpoFed src, ¬ s.pulseTwice src high j) :
    (tpoPulseAt src high s).rook.faults = s.rook.faults ∧ (tpoPulseAt src high s).regs = s.regs ∧ (tpoPulseAt src high s).flt = s.flt ∧
    SMap.get (tpoPulseAt src high s).rook.pulses src 0 = s.pulsesEnded src ∧
    ∀ j ∈ tpoFed src, (tpoPulseAt src high s).rook.pulseHigh.getLsbD j = (high.getLsbD j && (s.tpoChan j).1) := by
  obtain ⟨hfaults, hregs, hflt, hnum, hchan, -, -⟩ := pulseBegin_spec src s
  obtain ⟨kfaults, kregs, kflt, kpulses, kbits⟩ := pulses_quiet_spec (u := pulseBegin src s) (high := high) fun j hj =>
    Bool.eq_false_iff.mpr fun ht => h j hj ((pulseBegin_highTwice_iff hj).mp ht)
  rw [tpoPulseAt_judges hn]
  exact ⟨kfaults.trans hfaults, kregs.trans hregs, kflt.trans hflt, by rw [kpulses, hnum], fun j hj => by rw [kbits j hj, hchan]⟩

theorem tpoPulseAt_twice (hc : s.rookCalm) {j : Nat} (hj : j ∈ tpoFed src) (h : s.pulseTwice src high j) :
    (s.tpoChan j).2 ∈ (tpoPulseAt src high s).rook.faults := by
  obtain ⟨-, -, -, -, hchan, hcalm, -⟩ := pulseBegin_spec src s
  have htwice := (pulseBegin_highTwice_iff hj).mpr h
  obtain ⟨-, -, -, hnext⟩ := h
  rw [tpoPulseAt_judges (by rw [hnext]; exact Nat.lt_succ_self _), ← hchan]
  exact pulses_twice tpoFed_lt (hcalm hc) hj htwice

end

/-! The clauses. -/

theorem rookEval_clause {s : State} (hr : (s.react .rook 6).getLsbD 3 = false) :
    (rookEval s).rookSt = s.rookSt ∧ (rookEval s).mem = s.mem ∧ (rookEval s).rook.groups = s.rook.groups ∧
    (rookEval s).rook.faults = s.rook.faults ∧
    (∀ g < 8, ((rookEval s).causes g).getLsbD 0 = !(s.rook.req.getLsbD g) ∧ ((rookEval s).causes g).getLsbD 1 = s.rook.railBad.getLsbD g ∧
      ((rookEval s).causes g).getLsbD 2 = (s.rinEn 2 && (s.rinGroups 2).getLsbD g && !s.rook.thSat) ∧
      (∀ i b, (i = 0 ∧ b = 3) ∨ (i = 1 ∧ b = 4) ∨ (i = 3 ∧ b = 5) → s.demand i = true → (s.rinGroups i).getLsbD g = true →
        ((rookEval s).causes g).getLsbD b = true) ∧
      (∀ b, 3 ≤ b → b ≤ 10 → (rookEval s).causeMode b = 0 → (rookEval s).causeEnded g b = true →
        ((rookEval s).causes g).getLsbD b = false)) := by
  have heval := rookEval_steady hr
  obtain ⟨m, hm⟩ := heval.rook
  refine ⟨heval.rookSt, heval.mem, by rw [hm], by rw [hm], fun g hg => ?_⟩
  obtain ⟨hfw, hrail, hth, -⟩ := liveCauses_bits s g
  exact ⟨(rookEval_live hr hg (by decide)).trans hfw, (rookEval_live hr hg (by decide)).trans hrail,
    (rookEval_live hr hg (by decide)).trans hth, fun i b hib hd hgs => rookEval_demand hr hib hg hd hgs,
    fun b h3 h10 hmode hended => rookEval_auto ⟨h3, h10⟩ hg hmode hended⟩

/-- Settles O48: evaluation, faults and inputs, from what each of them does. -/
theorem rookInputsAndEndgame : Obligations.RookInputsAndEndgame := by
  unfold Obligations.RookInputsAndEndgame
  refine ⟨fun s hr => rookEval_clause hr, fun f s hc => ?_, fun ch high samples s => ?_, fun src high s => ?_, fun i s => ?_,
    fun h l s => ?_, fun us s => ?_, fun s => ?_, fun s hr hst hf => serviceAck_spec hr hst hf, fun g s => ?_, fun n s => ?_⟩
  · refine ⟨mem_singleFault f hc, fun h3 => ?_, singleFault_run f hc, singleFault_endgame f hc, fun h2 hsame => ?_⟩
    · exact (singleFault_stays f hc (by rw [h3]; decide) (fun h2 => absurd (h3.symm.trans h2) (by decide))).trans h3
    · exact (singleFault_stays f hc (by rw [h2]; decide) fun _ => hsame).trans h2
  · refine ⟨fun h => exec_to rfl (filterChange_stays h), fun hch hran => ?_⟩
    obtain ⟨u, hu, hhigh, hother, hreq, hregs⟩ := chanSet_evaluates ch.isLt high s
    exact ⟨u, exec_to rfl ((filterChange_changes hch hran).trans hu), hhigh, fun k hk => hother k (Fin.val_ne_of_ne hk), hreq, hregs⟩
  · exact ⟨fun hn => exec_to rfl (tpoPulseAt_judged hn), fun hn hquiet => ⟨_, rfl, tpoPulseAt_quiet hn hquiet⟩,
      fun hc j hj htwice => ⟨_, rfl, tpoPulseAt_twice hc hj htwice⟩⟩
  · exact ⟨fun hidle => exec_to rfl (discrepancyAt_idle (hidle.imp id (Or.imp id (congrArg Fin.val)))),
      fun d hd hen hi hs => exec_to rfl (discrepancyAt_faults hd hen (fun h => hi (Fin.ext h)) hs)⟩
  · have hother : ((1 - h : Fin 2) : Nat) = 1 - h.val := by
      revert h
      decide
    refine ⟨fun hi => exec_to rfl ?_, fun hv hran => ?_, fun hi => exec_to rfl (if_neg (by rw [hi]; decide)), fun hran => ?_,
      fun hi => exec_to rfl (pairFaultAt_idle hi), fun hen hran => ?_⟩
    · rcases hi with hi | hi
      · exact (congrArg (ite _ · s) (handActed_idle hi)).trans (ite_self s)
      · exact if_neg (by rw [hi]; decide)
    · obtain ⟨u, hu, hact, hkept, hsync⟩ := handActed_spec h.isLt hv
      exact ⟨u, exec_to rfl ((if_pos hran).trans hu), hact, hkept, hsync⟩
    · obtain ⟨hact, -, hsat, hregs⟩ := handGone_spec h false s
      exact ⟨_, exec_to rfl (if_pos hran), hact, hsat, hregs⟩
    · obtain ⟨hact, hbad, hsat, -⟩ := handGone_spec h true s
      obtain ⟨hact', hbad', hsat'⟩ := handsForget_hand h (handGone h true s)
      exact ⟨_, exec_to rfl (pairFaultAt_faults hen hran), hact'.trans hact, hbad'.trans hbad, hsat'.trans hsat⟩
  · exact ⟨fun h => exec_to rfl (sackAt_unheard h), fun h => ⟨fun h1 h2 => exec_to rfl (sackAt_restarts h h1 h2),
      fun h1 h2 => exec_to rfl (sackAt_acknowledges h h1 h2), fun h1 => exec_to rfl (sackAt_stuck h h1)⟩⟩
  · exact ⟨fun h ht => exec_to rfl (sackRearmAt_rearms h ht), fun h => exec_to rfl (sackRearmAt_idle h)⟩
  · exact ⟨fun h => exec_to rfl (railOkAt_low h), fun h hs => exec_to rfl (railOkAt_rises h hs),
      fun f hs h ht => exec_to rfl (railClear_clears hs h ht), fun h => exec_to rfl (railClear_idle h)⟩
  · refine ⟨fun h => exec_to rfl (rookCart_short h), fun h => exec_to rfl (rookCart_short h), fun h => exec_to rfl (rookCart_present h),
      fun h => ⟨_, exec_to rfl (rookCart_absent h), ?_, fun g hg => ?_⟩⟩
    · obtain ⟨m, hm⟩ := ((RookSteady.refl _).latchCause 0xFF 9 : RookSteady { s with rook := { s.rook with cartAbsent := true } } _).rook
      rw [hm]
    · rw [causes_latchCause (by decide) hg, show (0xFF : BitVec 8).getLsbD g = true by revert g; decide]
      simp

end Sys2Proof.Machine
end
